-- ==== Sys2Proof/Word.lean ====
section
/-! DEFINITION. The octet, and nothing else: every other width of the engine is a field of a named object, and the
bit-field and byte-order helpers stand in Machine/Operands.lean. -/

namespace Sys2Proof

/-- One octet of a DOMAIN, a STRING or a frame (Table 15-1). -/
abbrev Octet := BitVec 8

end Sys2Proof
end

