-- ==== Sys2Proof/Syntax.lean ====
section
/-! DEFINITION. The commands of the block: one constructor per row of the operation and event table, with the operands
that the row's event carries. The table gives no row any bits, so operands are typed values (log entry 3). -/

namespace Sys2Proof

/-- The three management links (R364); GOP reaches the dictionary over each. -/
inductive Link
  | fp0 | fp1 | pcie
  deriving DecidableEq, Repr

/-- The roles of R13, with the codes of Table 15-4. -/
inductive Role
  | anonymous | observer | operator | engineer | custodian
  deriving DecidableEq, Repr

/-- A local oscillator: LO-A or LO-B. -/
inductive Lo
  | a | b
  deriving DecidableEq, Repr

/-- APLL-A or APLL-B. -/
inductive Apll
  | a | b
  deriving DecidableEq, Repr

/-- The two watched rails that inhibit non-volatile writes (Table 2-8). -/
inductive SagRail
  | vddaux | vbat
  deriving DecidableEq, Repr

/-- The boot configuration block of a firmware image (R399): size in MiB, rate in MT/s, ranks and timing parameters of the DRAM,
and the PCIe subsystem IDs. -/
structure BootConfig where
  dramMib : Nat
  dramRate : Nat
  ranks : Nat
  timing : List Octet
  subsystem : BitVec 32
  deriving DecidableEq, Repr, Inhabited

/-- What the control cores found in one firmware image at BOOT step 3 (R321), with its security version and the
boot configuration block it carries (R399). -/
structure FwImage where
  signatureOk : Bool
  lengthOk : Bool
  svn : Nat
  config : BootConfig
  deriving DecidableEq, Repr, Inhabited

/-- One descriptor as the host posted it (Table 16-4). -/
structure Posted where
  addr : Nat
  cookie : Nat
  aux : Nat
  length : Nat
  own : Bool
  interrupt : Bool
  fence : Bool
  ordered : Bool
  deriving DecidableEq, Repr

/-- The causes for which the host link counts as lost (R379). -/
inductive LinkLossCause
  | dlDown | d3hot | flr | perst
  deriving DecidableEq, Repr

/-- The instructions of the test access port (R440); any other acts as BYPASS outside FACTORY. -/
inductive Jtag
  | bypass | samplePreload | extest | idcode | other
  deriving DecidableEq, Repr

/-- Where in the SRAM of Table 16-10 an ECC error falls: a clean line of the Fold cache with its record number, a dirty
one, the calendar store, a port's ingress or egress buffer with the number of the frame there, a control core's memory, a
journal entry by its JSEQ, the oldest record of the Trestle store, or the rest of the shared region. -/
inductive SramRegion
  | foldClean (record : Nat)
  | foldDirty | calendar
  | ingress (passage : Nat)
  | egress (port : Fin 8) (count : Nat)
  | core
  | journal (jseq : Nat)
  | recordStore | shared
  deriving DecidableEq, Repr

/-- The four states of the LEASE_IN line, with the codes of `C200.03 CW_LEASE_IN` (R331). -/
inductive LeaseLine
  | open | off | low | high
  deriving DecidableEq, Repr

/-- A message of the Gelnar Object Protocol as it arrives (Table 15-4): the link and source address it came on; on PCIe, the
place of its buffer among those of the taken commands that may start; the fields of its header but OP, which the command names;
every octet behind octet 27; and, for a write of RING_DB, the descriptors that the engine finds in host memory. A message too short
for a header is one with nothing behind it. -/
structure GopRequest where
  link : Link
  mac : BitVec 48
  nth : Fin 16
  version : Octet
  roleOctet : Octet
  status : Octet
  seq : BitVec 32
  index : BitVec 16
  sub : BitVec 8
  aux : Octet
  length : BitVec 16
  offset : BitVec 32
  stamp : BitVec 80
  rest : List Octet
  descs : List Posted
  deriving DecidableEq, Repr

/-- How a write reaches an object: through BAR0, in the role that BAR0_ROLE gives it (R373), or as a request of a role
that has passed the checks of Table 15-7 on framing, tag and sequence. -/
inductive Path
  | bar0
  | request (role : Role)
  deriving DecidableEq, Repr

/-- What one tracking channel measured in the interval that ends at an epoch's latch (R213, Table 9-5). -/
structure TrkMeas where
  delivered : Bool
  codePhase : Nat
  codeCnt : Nat
  carrier : Int
  doppler : Int
  cn0 : Nat
  mpDisc : Int
  halfCycle : Bool
  slip : Bool
  deriving DecidableEq, Repr

/-- What a search found (R208): the power of its strongest cell in hundredths of the noise floor, that cell's Doppler in mHz and
its place in the primary code in 2^-32 chip, and whether the second dwell confirms it. -/
structure SearchEnd where
  power : Nat
  doppler : Int
  code : Nat
  confirmed : Bool
  deriving DecidableEq, Repr

/-- One entry that firmware would use in a solution (R215, R223): its channel, the satellite's elevation in 0.01°, its health, and
the age in seconds of an ephemeris decoded from its prompt symbols since the last solution, if there is one. -/
structure SatUse where
  chan : Nat
  elevation : Int
  healthy : Bool
  decoded : Option Nat
  deriving DecidableEq, Repr

/-- The lead of the timescale over what the satellites realise, in 2^-16 ns: GPS, Galileo and BeiDou system time, and the UTC of the
GPS and of the Galileo navigation message, with an inter-system offset estimated for each further system (R215). -/
structure Leads where
  gps : Int
  galileo : Int
  beidou : Int
  utcGps : Int
  utcGalileo : Int
  deriving DecidableEq, Repr

/-- What the control cores found in one second's solution (R215 to R219): the leads before the receiver delays and the
quantisation error of the scheduled pulse in 2^-16 ns, σ_t in 2^-16 ns, the entries that remain after T-RAIM's exclusions, the
greatest of the residuals in 2^-16 ns, the averaged position with its deviation in mm, and the offset and leap indication of the
navigation message. -/
structure TimeSol where
  leads : Leads
  qerr16 : Int
  sigma16 : Nat
  sats : List SatUse
  maxResid16 : Nat
  position : Int × Int × Int
  positionSigma : Nat
  utc : Option (Int × Fin 3)
  deriving DecidableEq, Repr

/-- The key of a PTP client (R253): the engine port, the transport (0 UDP over IPv4, 1 UDP over IPv6, 2 IEEE 802.3), the
source address with the source UDP port, or the source MAC, the domain and the source port identity. -/
structure ClientKey where
  eport : Nat
  transport : Nat
  addr : Nat
  udpPort : Nat
  mac : Nat
  domain : Nat
  clockId : Nat
  portNum : Nat
  deriving DecidableEq, Repr

/-- One grant of a record: its end in TAI seconds (0 none), the granted logInterMessagePeriod, the next sequenceId and
the highest reserved block (Table 11-2). -/
structure Grant where
  exp : Nat
  log : Int
  seq : Nat
  res : Nat
  deriving DecidableEq, Repr

/-- A Fold record (Table 11-2). `exempt` is whether the next Delay_Req is the first after a grant (R261); `ended` is
when its last grant ended, in TAI seconds (R254). -/
structure FoldRecord where
  key : ClientKey
  mac : Nat
  ordered : Bool
  auth : Bool
  profile : Nat
  spp : Nat
  cls : Nat
  sync : Grant
  ann : Grant
  dresp : Grant
  dreqLastSeq : Nat
  dreqLastNs : Option Nat
  exempt : Bool
  sigSeq : Nat
  lastDep : Nat
  grantAt : Nat
  syncSent : Nat
  dreqRcvd : Nat
  authFail : Nat
  dreqExcess : Nat
  ended : Option Nat
  deriving DecidableEq, Repr

/-- A journal entry (Table 14-5). Message types are those of PTP: 0 Sync, 9 Delay_Resp, 11 Announce. -/
inductive JEntry
  | grant (key : ClientKey) (mac : Nat) (type : Nat) (log : Int) (exp : Nat) (cls : Nat) (auth ordered : Bool)
      (profile spp sigSeq : Nat)
  | cancel (key : ClientKey) (type : Nat)
  | seqRes (key : ClientKey) (type block : Nat)
  | mcRes (port profile type block : Nat)
  /-- a whole record, with the due times of its Sync and Announce entries -/
  | record (record : FoldRecord) (syncDue annDue : Nat)
  /-- entry 16 is the NTS master; position 0 CUR, 1 NEXT, 2 PREV -/
  | keygen (spp position gen : Nat)
  | keyInvalid (gen : Nat)
  deriving DecidableEq, Repr

/-- A frame as it arrives on an Ethernet port: its octets from the destination address to the last before the FCS,
whether it was received whole and with a good FCS, the fraction of its ingress stamp in 2^-16 ns, and whether its start
character lay in octet position 4 of its block (R231, R235). -/
structure RxFrame where
  octets : List Octet
  complete : Bool
  fcsOk : Bool
  fraction : Fin 65536
  start4 : Bool
  deriving DecidableEq, Repr

/-- What a HELLO frame says (Table 14-1): the sender's unit and role, READY, the highest epoch it has seen, its
TPE_CLOCK_ID, BW_LEASE and BW_GUARD, and the generation of its CW_KEY_SLOT key. -/
structure Hello where
  unit : Nat
  role : Nat
  ready : Bool
  epochSeen : BitVec 32
  clockId : Nat
  lease : Nat
  guard : Nat
  keyGen : Nat
  deriving DecidableEq, Repr

/-- What a STATE frame says (Table 14-1): mode, class of the time set, bound, UTC offset with the pending leap and
UTC_VALID, timeSource and refid. -/
structure TwinState where
  mode : Nat
  cls : Fin 16
  bound : BitVec 32
  utcOffset : Int
  leap : Fin 3
  utcValid : Bool
  timeSource : Nat
  refid : Nat
  deriving DecidableEq, Repr


/-- The commands, in the order of the operation and event table. -/
inductive Instr
  /-- `POWER_ON_RESET_RELEASE`: Power-on reset is released 1 ms after VDD rises above 0.72 V with the other rails in range, and the engine takes transition 1 from COLD to BOOT. (R44) -/
  | powerOnResetRelease (factoryEn : Bool) (cwrole : Fin 4) (vbatPresent : Bool)
  /-- `VDD_BELOW_THRESHOLD`: VDD stays below 0.69 V for 200 ns, power-on reset asserts and the engine takes transition 2 to COLD. (R48) -/
  | vddBelowThreshold
  /-- `HRST_N_LOW`: HRST_N is held low for at least 1 µs, which is a hard reset and transition 2 to COLD. (R44) -/
  | hrstNLow
  /-- `HRST_N_RELEASE`: HRST_N returns high with the rails up, the straps are resampled and transition 1 to BOOT is taken. (R44) -/
  | hrstNRelease (factoryEn : Bool) (cwrole : Fin 4)
  /-- `SOFT_RESET`: A write of 0x0000_5A17 to SOFT_RESET: a lease holder mutes within 5 µs, then the engine enters BOOT by transition 3. (R46) -/
  | softReset (value : BitVec 32)
  /-- `BLOCK_RESET`: A write to BLOCK_RESET resets each selected block, after the reply to the request has been sent. (R45) -/
  | blockReset (mask : BitVec 32)
  /-- `FIRMWARE_VERIFY_COMPLETE`: At BOOT step 3 the firmware images have been read and verified; the engine takes the first image accepted, or stays in BOOT if none verifies. (R321) -/
  | firmwareVerifyComplete (image0 : FwImage) (image1 : FwImage)
  /-- `PUF_REGENERATION`: At BOOT step 4 the PUF key is rebuilt and the root unwrapped, with up to 8 attempts and a re-enrolment if the bit-error rate exceeds 8 %. (R303) -/
  | pufRegeneration (failures : Fin 9) (ber : Fin 10001)
  /-- `ROOT_GENERATION`: On first start the root is drawn from the DRBG, wrapped and written in two copies, with retries under BROWNOUT or NO_ENTROPY. (R302) -/
  | rootGeneration
  /-- `LO_ELIGIBLE`: At BOOT step 6, after waiting without limit, an LO becomes eligible and BOOT continues on it, taking LO-A if it is eligible. (R40) -/
  | loEligible
  /-- `DRAM_TRAINING_COMPLETE`: DRAM training at BOOT step 11 ends; a failure makes DRAM the first fault and BOOT leaves by transition 19. (R41) -/
  | dramTrainingComplete (ok : Bool)
  /-- `BOOT_COMPLETE`: BOOT step 13 ends and the engine leaves BOOT by transition 4, 5, 6 or 19. (R38) -/
  | bootComplete
  /-- `LOCK_BIT_SET`: The Custodian writes 1 to a lock bit of 1E00, which freezes the objects and commands that bit guards. (R47) -/
  | lockBitSet (bit : Fin 7)
  /-- `SUPPLY_INHIBIT_ASSERT`: VDDAUX or VBAT stays below its threshold for 1 µs, the non-volatile write inhibit asserts and the sag source is raised. (R48) -/
  | supplyInhibitAssert (rail : SagRail)
  /-- `SUPPLY_INHIBIT_RELEASE`: The rail stays above its release level for 10 ms and the inhibit is released. (R48) -/
  | supplyInhibitRelease (rail : SagRail)
  /-- `JOURNAL_PERSIST_RETRY`: Journal persistence that was refused with BROWNOUT is retried 10 ms after the inhibit is released. (R49) -/
  | journalPersistRetry
  /-- `KEY_CELL_WRITE_COMPLETE`: A started 64-byte key-cell record write completes within 2 µs, and a multi-record operation commits or stops with BROWNOUT. (R50) -/
  | keyCellWriteComplete
  /-- `ZEROISATION_COMPLETE`: The bulk erase of slots, root, helper data and KS_GEN_HIGH completes within 10 µs and the event is logged in the always-on log. (R324) -/
  | zeroisationComplete
  /-- `TRESTLE_EDGE`: An edge on a Trestle channel in RUN is stamped in timescale time and its record is formed. (R61) -/
  | trestleEdge (ch : Fin 48) (tap : Fin 32) (vernier : Fin 32) (falling : Bool) (highPs : Nat)
  /-- `PAIR_TIMEOUT`: No stop stamp has matched by S + PAIR_TIMEOUT + 40 ns, so the pair writes a TIMEOUT record and is disarmed. (R71) -/
  | pairTimeout (pair : Fin 32)
  /-- `TR_RING_FLUSH`: TR_RING_FLUSH elapses after the first record of a partly filled ring 20 buffer, and the descriptor is written back. (R74) -/
  | trRingFlush
  /-- `DLL_LOCK`: The span error of a channel's DLL stays within ±2 ps for 4,096 cycles, lock is declared and the channel passes to CAL. (R57) -/
  | dllLock (ch : Fin 48)
  /-- `DLL_LOSS`: The span error exceeds ±10 ps for 16 cycles, loss is declared and the channel goes to FAULT. (R57) -/
  | dllLoss (ch : Fin 48)
  /-- `CODE_DENSITY_COMPLETE`: A channel's histogram reaches 2^22 hits and is accepted, which installs a new table and puts the channel in RUN, or rejected, which puts it in FAULT. (R59) -/
  | codeDensityComplete (ch : Fin 48) (counts : List Nat)
  /-- `CODE_DENSITY_TIMEOUT`: A channel has not reached 2^22 hits within 120 ms and fails calibration. (R58) -/
  | codeDensityTimeout (ch : Fin 48)
  /-- `CAL_FAIL_RETRY`: At a 1 s interval after CAL_FAIL, calibration is retried, at most 3 times. (R59) -/
  | calFailRetry (ch : Fin 48)
  /-- `TABLE_MONITOR_UPDATE`: A histogram of channel 47 completes and replaces its table; CH_DRIFT is updated and TABLE_STALE is set where it applies. (R62) -/
  | tableMonitorUpdate (counts : List Nat)
  /-- `CH_RECAL`: A write of 1 to CH_RECAL starts a code-density calibration of the channel. (R63) -/
  | chRecal (ch : Fin 48)
  /-- `CH_EN_WRITE`: A write to CH_EN moves the channel to OFF, or from OFF to DLL_ACQ. (R64) -/
  | chEnWrite (ch : Fin 48) (v : Bool)
  /-- `TR_ENABLE_WRITE`: A write to TR_ENABLE puts every channel in OFF, or starts every enabled channel through DLL_ACQ and CAL. (R63) -/
  | trEnableWrite (v : Bool)
  /-- `SLOT_EN_WRITE`: A write to SLOT_EN is checked at 0→1 and programs the channel prescaler, or disables the slot. (R80) -/
  | slotEnWrite (slot : Fin 24) (v : Bool)
  /-- `SL_ENABLE_WRITE`: A write to SL_ENABLE disables every slot, or returns every enabled slot through transition 2 after the checks have been repeated. (R80) -/
  | slEnableWrite (v : Bool)
  /-- `SLOT_SUSPEND`: SLOT_CMD SUSPEND moves a QUALIFIED slot to SUSPENDED with reason HOST. (R90) -/
  | slotSuspend (slot : Fin 24)
  /-- `SLOT_RESUME`: SLOT_CMD RESUME moves a slot suspended by HOST to QUALIFYING. (R90) -/
  | slotResume (slot : Fin 24)
  /-- `SLOT_REQUALIFY`: SLOT_CMD REQUALIFY moves a DISQUALIFIED slot to QUALIFYING. (R90) -/
  | slotRequalify (slot : Fin 24)
  /-- `SLOT_MISSING_EDGE`: The expected instant of a pulse edge plus SLOT_GLITCH_WIN passes with no edge, and the third consecutive miss puts the slot in LOS. (R85) -/
  | slotMissingEdge (slot : Fin 24)
  /-- `PIN_ACTIVITY_LOSS`: The pin activity detector of a clock source sees no edge for 2 µs and the slot goes to LOS. (R85) -/
  | pinActivityLoss (slot : Fin 24)
  /-- `SLOT_QUALIFIED`: SLOT_QUAL_TIME elapses in QUALIFYING with class below 15 and the slot becomes QUALIFIED. (R91) -/
  | slotQualified (slot : Fin 24)
  /-- `SLOT_SUSP_HOLD_EXPIRY`: SLOT_SUSP_HOLD passes with no glitch and a GLITCH suspension returns to QUALIFIED. (R90) -/
  | slotSuspHoldExpiry (slot : Fin 24)
  /-- `SLOT_DISQ_HOLD_EXPIRY`: SLOT_DISQ_HOLD elapses and a DISQUALIFIED slot returns to QUALIFYING. (R90) -/
  | slotDisqHoldExpiry (slot : Fin 24)
  /-- `TOD_MESSAGE`: A time-of-day message completes on the selected UART; it is validated and associated with a pulse, or discarded and counted. (R84) -/
  | todMessage (port : Fin 2) (octets : List Octet) (gapOk : Bool)
  /-- `TOD_MESSAGE_MISSING`: A pulse's message window closes with no valid message, and three consecutive misses put slot 23 in LOS. (R84) -/
  | todMessageMissing
  /-- `ESMC_PDU`: An ESMC information or event PDU arrives and its QL sets the SyncE slot's class. (R87) -/
  | esmcPdu (port : Fin 8) (event : Bool) (ssm : Fin 16)
  /-- `ESMC_TIMEOUT`: No ESMC information PDU arrives for ESMC_TIMEOUT and the SyncE slot's class becomes 15. (R86) -/
  | esmcTimeout (port : Fin 8)
  /-- `HERD_UPDATE`: At each update instant (64 per second) Herd updates its filters, weights, sets, residual tests, servo and bounds. (R98) -/
  | herdUpdate (synce : List (Fin 8 × Int))
  /-- `HERD_EFFECT`: 1 ms after an update, its weights, rate word, tuning word, slew term and REFSEL take effect. (R98) -/
  | herdEffect
  /-- `TEB_PIN_HOLD_EXPIRY`: The pin source stays within TEB_THR_PIN for TEB_PIN_HOLD and TEB_OK goes high. (R168) -/
  | tebPinHoldExpiry
  /-- `HERD_UPDATE_MISS`: Two consecutive Herd updates are missing; the rate and tuning words are held and HD_UPDATE_MISS is raised. (R125) -/
  | herdUpdateMiss
  /-- `HD_ENABLE_WRITE`: A write to HD_ENABLE stops Herd and holds its words, or resumes Herd. (R125) -/
  | hdEnableWrite (v : Bool)
  /-- `LO_WARM_CHANGE`: A filtered LOA_WARM or LOB_WARM level changes and affects the service of that LO. (R111) -/
  | loWarmChange (lo : Lo) (level : Bool)
  /-- `LO_LOSS`: The APLL-A input monitor declares an LO lost (2 missing cycles or out of window), and the engine switches LO, or freezes the timescale if no LO remains. (R112) -/
  | loLoss (lo : Lo)
  /-- `LO_RETURN`: An LO has had its flag high and been seen continuously for 1 s and returns to service. (R112) -/
  | loReturn (lo : Lo)
  /-- `LO_FREQ_MEASUREMENT`: A 1 ms measurement of an LO input against the boot oscillator completes and sets its LO_FREQ bit. (R178) -/
  | loFreqMeasurement (lo : Lo) (hz : Nat)
  /-- `LOA_TUNE_EN_WRITE`: The first write of 1 to LOA_TUNE_EN sends LOA_TUNE_INIT on the tuning port. (R116) -/
  | loaTuneEnWrite (v : Bool)
  /-- `LOA_TUNE_STEP`: LOA_TUNE_INTERVAL elapses, and Herd computes a tuning step, books it and sends the new word. (R116) -/
  | loaTuneStep
  /-- `LOA_TUNE_FRAME_END`: A tuning-port frame ends, and the latest word that fell due meanwhile is sent in the next frame. (R438) -/
  | loaTuneFrameEnd
  /-- `SWL_TAG`: A write of SWL_TAG commits the host's rate correction, which is accepted if the tag is recent and otherwise refused with TAG_STALE. (R126) -/
  | swlTag (tag : BitVec 32)
  /-- `SWL_TIMEOUT`: No correction is accepted for SWL_TIMEOUT, or the PCIe link is lost, and the hardware loop closes. (R127) -/
  | swlTimeout
  /-- `TS_SET_STEP`: TS_SET_CMD STEP commits a host time set, which is judged by rules 1 to 7 and held for TS_SET_AT. (R140) -/
  | tsSetStep
  /-- `TS_SET_SLEW`: TS_SET_CMD SLEW commits a host slew, which is judged by rules 1 to 7 and held for TS_SET_AT. (R140) -/
  | tsSetSlew
  /-- `TS_SET_CANCEL`: TS_SET_CMD CANCEL removes any held set request and clears SET_PENDING. (R140) -/
  | tsSetCancel
  /-- `TS_SET_APPLY`: TS_SET_AT is reached, and the held request steps or places the timescale, or loads TS_SLEW_PEND. (R140) -/
  | tsSetApply
  /-- `SECOND_BOUNDARY`: Second-boundary housekeeping runs: seconds rollover, epoch words, UTC offset changes, TEB log record and port grid phase. (R21) -/
  | secondBoundary
  /-- `UTC_AUTO_HOLD_EXPIRY`: The dominant slot has reported a new offset without a break for UTC_AUTO_HOLD, and that offset takes effect. (R145) -/
  | utcAutoHoldExpiry
  /-- `SNAP_NOW`: A write of 1 to SNAP_NOW takes a snapshot in the next cycle. (R151) -/
  | snapNow
  /-- `SNAP_AT_WRITE`: A write to SNAP_AT schedules a snapshot, or is refused with SNAP_LATE if less than 10 µs ahead. (R151) -/
  | snapAtWrite (sec : BitVec 48) (ns : Fin 1000000000)
  /-- `SNAPSHOT`: At a snapshot instant, counters, sticky sets and bounds start being copied into their holding objects. (R152) -/
  | snapshot
  /-- `SNAPSHOT_COMPLETE`: The snapshot copy completes within 2 µs, SNAP_TAKEN and SNAP_SEQ are updated, and waiting reads proceed. (R152) -/
  | snapshotComplete
  /-- `APLL_CONFIG_WRITE`: A write to the bandwidth, lock window or lock count of an APLL restarts its acquisition as a loss of lock. (R181) -/
  | apllConfigWrite (which : Apll) (field : Fin 3) (value : Nat)
  /-- `APLL_LOCK`: An APLL's phase error stays within its window for its lock count and lock is declared. (R179) -/
  | apllLock (which : Apll)
  /-- `APLL_LOSS_OF_LOCK`: An APLL's error exceeds four times its window for 2 cycles, so loss of lock is declared and the reactions of Table 1-6 follow. (R179) -/
  | apllLossOfLock (which : Apll)
  /-- `FOS_EN_WRITE`: A write to FOS_EN starts or stops a fractional output synthesiser and loads its dither seed. (R184) -/
  | fosEnWrite (f : Fin 8) (v : Bool)
  /-- `FOS_FREQ_WRITE`: A write of FOS_FREQ changes the FOS word, which is tracked within ±100 ppm or otherwise squelched and relocked. (R184) -/
  | fosFreqWrite (f : Fin 8) (microHz : Nat)
  /-- `FOS_LOCK`: An FOS declares lock, and its outputs may resume or begin alignment. (R179) -/
  | fosLock (f : Fin 8)
  /-- `FOS_LOSS_OF_LOCK`: An FOS loses lock uncommanded and its outputs are squelched. (R202) -/
  | fosLossOfLock (f : Fin 8)
  /-- `FOS_ALIGN_COMPLETE`: The residual phase slew of an FOS completes and the FOS is ALIGNED. (R188) -/
  | fosAlignComplete (f : Fin 8)
  /-- `OUT_EN_WRITE`: A write to OUT_EN is checked at 0→1 and enables or disables a clock output. (R186) -/
  | outEnWrite (o : Fin 16) (v : Bool)
  /-- `EVT_EN_WRITE`: A write to EVT_EN starts a 16 ms CAL, or flushes the queue and stops the generator. (R191) -/
  | evtEnWrite (e : Fin 16) (v : Bool)
  /-- `EVT_CAL_COMPLETE`: The 16 ms calibration of a generator ends in RUN, or in FAULT with EVT_CAL_FAIL. (R191) -/
  | evtCalComplete (e : Fin 16) (tableGood : Bool)
  /-- `EVT_ENT_PUSH`: A write of 1 to EVT_ENT_PUSH commits the staged entry to the queue, or refuses it with a result code. (R192) -/
  | evtEntPush (link : Link) (e : Fin 16)
  /-- `EVT_Q_FLUSH`: A write to EVT_Q_FLUSH empties the generator's queue. (R192) -/
  | evtQFlush (e : Fin 16)
  /-- `EVT_QUEUE_EDGE`: The instant of a queue entry's edge is reached and the edge is executed, or the entry is consumed under squelch. (R193) -/
  | evtQueueEdge (e : Fin 16)
  /-- `EVT_PROGRAMME_EDGE`: A programme's active or returning edge instant is reached and the edge is executed. (R194) -/
  | evtProgrammeEdge (e : Fin 16)
  /-- `GRP_EN_WRITE`: A write to GRP_EN enables a group after checking its members and start, or disables it. (R195) -/
  | grpEnWrite (g : Fin 4) (v : Bool)
  /-- `GROUP_BOUNDARY`: At a group boundary instant, empty QUEUE members enter UNDERRUN and refilled members rejoin. (R196) -/
  | groupBoundary (g : Fin 4)
  /-- `EV_ENABLE_WRITE`: A write of 0 to EV_ENABLE clears every EVT_EN and GRP_EN. (R200) -/
  | evEnableWrite (v : Bool)
  /-- `LOOPBACK_CHECK`: Every 1 ms a loop-back gate opens for one output and the check error of its first rising edge is judged. (R197) -/
  | loopbackCheck (after : Option Int)
  /-- `LOOPBACK_STALE`: Checks stay suspended for LB_STALE and every suspended check counts as failed. (R198) -/
  | loopbackStale
  /-- `FE_STREAM_LOSS`: A GNSS band's stream is declared lost, and its channels enter COAST. (R207) -/
  | feStreamLoss (band : Fin 4)
  /-- `FE_STREAM_RETURN`: No loss condition has held for 10 ms and the band's stream runs again. (R207) -/
  | feStreamReturn (band : Fin 4)
  /-- `ACQ_SEARCH_COMPLETE`: An acquisition search completes; a confirmed detection is handed to a free channel. (R208) -/
  | acqSearchComplete (rx : Fin 2) (signal : Fin 9) (sv : BitVec 8) (found : SearchEnd)
  /-- `ACQ_DETECTION_EXPIRE`: A confirmed detection finds no free channel within 1 s and is discarded. (R208) -/
  | acqDetectionExpire
  /-- `TRK_PULL_IN_SUCCESS`: A channel's lock, code settling and C/N0 hold for 500 ms and it enters TRACK. (R211) -/
  | trkPullInSuccess (ch : Fin 192)
  /-- `TRK_PULL_IN_TIMEOUT`: A channel spends 2 s in PULL_IN without success and returns to IDLE. (R211) -/
  | trkPullInTimeout (ch : Fin 192)
  /-- `TRK_SIGNAL_LOSS`: A tracking channel's C/N0 stays low for 1 s or it loses phase lock, and it enters COAST. (R211) -/
  | trkSignalLoss (ch : Fin 192)
  /-- `TRK_COAST_RECOVER`: The cause of COAST clears within 2 s and the channel returns to PULL_IN. (R211) -/
  | trkCoastRecover (ch : Fin 192)
  /-- `TRK_COAST_EXPIRY`: A channel spends 2 s in COAST and goes to IDLE. (R211) -/
  | trkCoastExpiry (ch : Fin 192)
  /-- `MEASUREMENT_EPOCH`: At an epoch instant every non-IDLE channel is latched on one FE_CLK edge and a block goes to ring 19. (R212) -/
  | measurementEpoch (resid : Fin 533333) (entries : List (Nat × TrkMeas))
  /-- `TIME_SOLUTION`: Firmware completes receiver r's solution for second n, with T-RAIM, and schedules the pulse of second n+1. (R215) -/
  | timeSolution (rx : Fin 2) (solutions : List TimeSol)
  /-- `RECEIVER_PPS`: A receiver pulse is generated on the FE_CLK edge nearest its instant and stamped on channel 10 or 11. (R219) -/
  | receiverPps (rx : Fin 2) (tap : Fin 32) (vernier : Fin 32)
  /-- `GNSS_SECOND_NOTICE`: By n + 500 ms a GNSS-second notice carries the qErr of the next pulse, or INVALID. (R220) -/
  | gnssSecondNotice (rx : Fin 2)
  /-- `RX_EN_WRITE`: A write to RX_EN enables a receiver after the quota and position checks, or stops it. (R210) -/
  | rxEnWrite (rx : Fin 2) (v : Bool)
  /-- `RX_POS_WRITE`: A write to RX_POS sets the held position and RX_POS_VALID. (R216) -/
  | rxPosWrite (rx : Fin 2) (x : Int) (y : Int) (z : Int)
  /-- `GN_ENABLE_WRITE`: A write of 0 to GN_ENABLE idles every channel and stops the epochs and receivers. (R224) -/
  | gnEnableWrite (v : Bool)
  /-- `PORT_EN_WRITE`: A write to PORT_EN checks the configuration and starts training, or puts the port in OFF. (R227) -/
  | portEnWrite (port : Fin 8) (v : Bool)
  /-- `ETH_ENABLE_WRITE`: A write of 0 to ETH_ENABLE puts every port in OFF. (R229) -/
  | ethEnableWrite (v : Bool)
  /-- `PORT_TRAINING_COMPLETE`: Auto-negotiation and link training complete and the port enters ALIGNING. (R228) -/
  | portTrainingComplete (port : Fin 8)
  /-- `PORT_ALIGNED`: Lock and deskew complete within 180 ns of spread and the port is UP. (R230) -/
  | portAligned (port : Fin 8) (spread : BitVec 32) (deskew : BitVec 32)
  /-- `PORT_DESKEW_RETRY`: After a deskew failure the lane skew is measured again every 10 ms. (R230) -/
  | portDeskewRetry (port : Fin 8) (spread : BitVec 32) (deskew : BitVec 32)
  /-- `PORT_LINK_LOSS`: A condition of UP is lost and the port goes to DOWN, abandoning any frames in progress. (R229) -/
  | portLinkLoss (port : Fin 8) (rxCut : Bool)
  /-- `PORT_DOWN_EXPIRY`: 10 ms in DOWN elapse and the port returns to TRAINING or ALIGNING. (R229) -/
  | portDownExpiry (port : Fin 8)
  /-- `PORT_FRAME_RX`: A frame is received whole on a port; it is stamped, checked, classified and policed, and goes to the pipelines, a ring or a drop. (R235) -/
  | portFrameRx (port : Fin 8) (frame : RxFrame)
  /-- `PAUSE_FRAME_SEND`: A PAUSE frame is launched in the first free gap after ingress occupancy crosses a watermark. (R238) -/
  | pauseFrameSend (port : Fin 8)
  /-- `PAUSE_REPEAT`: PORT_PAUSE_TIME / 2 quanta pass with occupancy still at or above PORT_BUF_LO, and the PAUSE is repeated. (R238) -/
  | pauseRepeat (port : Fin 8)
  /-- `SLOW_PATH_TX_POST`: A frame descriptor taken from ring 11 + p is checked and placed in its egress queue. (R242) -/
  | slowPathTxPost (port : Fin 8) (octets : Option (List Octet))
  /-- `QUEUED_FRAME_START`: DRR service starts a queued slow-path frame at a block boundary in a free, open gap. (R294) -/
  | queuedFrameStart (port : Fin 8)
  /-- `FP_FRAME_RX`: A frame received on a field port is filtered and, if it is a GOP frame, passed on. (R245) -/
  | fpFrameRx (fp : Fin 2) (frame : RxFrame)
  /-- `FP_COLLISION`: A field-port transmission collides; the frame backs off, or is discarded at the 16th collision or on a late collision. (R244) -/
  | fpCollision (fp : Fin 2) (late : Bool)
  /-- `FP_BACKOFF_EXPIRY`: The back-off delay ends and the field-port frame is tried again. (R244) -/
  | fpBackoffExpiry (fp : Fin 2)
  /-- `FP_LINK_POLL`: Every 100 ms the PHY link is polled by MDIO, and a down link discards transmissions and raises FP_LINK_DOWN. (R246) -/
  | fpLinkPoll (fp : Fin 2) (up : Bool)
  /-- `FP_EN_WRITE`: A write to FP_EN starts or stops a field port, after acknowledging over that port. (R246) -/
  | fpEnWrite (fp : Fin 2) (v : Bool)
  /-- `TPE_ENABLE_WRITE`: A write to TPE_ENABLE checks the Fold region at 0→1, or turns packet service off and discards passages in flight. (R251) -/
  | tpeEnableWrite (value : Bool)
  /-- `SIGNALING_REQUEST`: A Signaling message with REQUEST_UNICAST_TRANSMISSION TLVs is judged TLV by TLV and answered with GRANTs. (R259) -/
  | signalingRequest (pl : Fin 4)
  /-- `SIGNALING_CANCEL`: CANCEL_UNICAST_TRANSMISSION ends the grant of that type at once and is acknowledged. (R259) -/
  | signalingCancel (pl : Fin 4)
  /-- `DELAY_REQ_RX`: A Delay_Req is checked for grant, replay and excess and answered with a stamped Delay_Resp. (R261) -/
  | delayReqRx (pl : Fin 4)
  /-- `PDELAY_REQ_RX`: A Pdelay_Req in a P2P profile is answered with a one-step Pdelay_Resp. (R262) -/
  | pdelayReqRx (pl : Fin 4)
  /-- `PDELAY_RESP_RX`: A Pdelay_Resp and its Follow_Up are used to update TPE_PEER_DELAY. (R262) -/
  | pdelayRespRx (pl : Fin 4)
  /-- `SESSION_SYNC_RX`: A session receives a Sync (and any Follow_Up) and delivers an offset to Herd when a recent path delay exists. (R274) -/
  | sessionSyncRx (pl : Fin 4)
  /-- `SESSION_DELAY_RESP_RX`: A session receives a Delay_Resp and computes meanPathDelay. (R274) -/
  | sessionDelayRespRx (pl : Fin 4)
  /-- `SESSION_ANNOUNCE_RX`: A session receives an Announce whose fields and any Bound TLV reach the slot. (R274) -/
  | sessionAnnounceRx (pl : Fin 4)
  /-- `SESSION_GRANT_RX`: A session receives a GRANT for its own request. (R274) -/
  | sessionGrantRx (pl : Fin 4)
  /-- `NTP_REQUEST`: A plain NTP request is answered with a stamped response, or dropped. (R267) -/
  | ntpRequest (pl : Fin 4)
  /-- `NTS_REQUEST`: An NTS request has its cookie unsealed and its Authenticator verified, and is answered with new cookies or a NAK. (R268) -/
  | ntsRequest (pl : Fin 4)
  /-- `UNSUPPORTED_MESSAGE_RX`: A timing message that is malformed, of the wrong version or domain, or unsupported is dropped and counted. (R276) -/
  | unsupportedMessageRx (pl : Fin 4)
  /-- `CALENDAR_ENTRY_DUE`: The wheel reaches a client or multicast entry's slot, and the pacer makes it eligible, moves it or skips it. (R287) -/
  | calendarEntryDue
  /-- `CALENDAR_HANDOVER`: An eligible entry is handed to its pipeline when there is room and a Sync or Announce is built. (R288) -/
  | calendarHandover (pl : Fin 4)
  /-- `CRYPTO_JOB_COMPLETE`: A crypto lane completes a job with a status of Table 13-7. (R316) -/
  | cryptoJobComplete (lane : Fin 9)
  /-- `FRAME_LAUNCH`: A timed frame's departure instant D is reached, and it launches, or it is discarded as LATE. (R25) -/
  | frameLaunch (port : Fin 8)
  /-- `GRANT_EXPIRY`: A grant reaches its expiry second and ends. (R254) -/
  | grantExpiry
  /-- `FOLD_RECORD_FREE`: 60 s after its last grant ended, a Fold record is freed. (R254) -/
  | foldRecordFree
  /-- `FOLD_QUERY`: A write to FOLD_QUERY looks up a record by its key fields and places it in FOLD_RESULT. (R255) -/
  | foldQuery (image : List Octet)
  /-- `TPE_FENCE`: A write of 1 to TPE_FENCE withholds its reply until all earlier admitted passages have completed. (R272) -/
  | tpeFence
  /-- `TPE_FENCE_COMPLETE`: The last passage admitted before the fence completes and the fence reply is sent. (R272) -/
  | tpeFenceComplete
  /-- `PROF_EN_WRITE`: A write to PROF_EN enables a profile after the transport, domain, delay and interval checks, or disables it. (R258) -/
  | profEnWrite (profile : Fin 16) (value : Bool)
  /-- `KEY_ROTATION`: At SPP_ROTATE_AT or NTS_ROTATE_AT, PREV takes CUR and CUR takes NEXT. (R265) -/
  | keyRotation (entry : Fin 17)
  /-- `SES_EN_WRITE`: A write to SES_EN starts or stops a packet-reference session. (R274) -/
  | sesEnWrite (session : Fin 4) (value : Bool)
  /-- `SES_GRANT_RENEW`: 3/4 of a session grant has elapsed and the session requests renewal. (R274) -/
  | sesGrantRenew (session : Fin 4)
  /-- `SES_RETRY`: 10 s after a refusal or an unanswered request, the session requests its grants again. (R274) -/
  | sesRetry (session : Fin 4)
  /-- `SES_REPLY_TIMEOUT`: No reply to a session request arrives within 1 s. (R274) -/
  | sesReplyTimeout (session : Fin 4)
  /-- `SES_FOLLOW_UP_TIMEOUT`: A two-step Sync without its Follow_Up is discarded after 1 s. (R274) -/
  | sesFollowUpTimeout (session : Fin 4)
  /-- `SES_DELAY_REQ_SEND`: At its granted period the session sends a pre-stamped Delay_Req. (R274) -/
  | sesDelayReqSend (session : Fin 4)
  /-- `PDELAY_REQ_SEND`: A P2P profile sends its own Pdelay_Req at logMinPdelayReqInterval. (R262) -/
  | pdelayReqSend (port : Fin 8) (profile : Fin 16)
  /-- `SES_TIMEOUT`: No measurement for SES_TIMEOUT, or no Announce for announceReceiptTimeout intervals, puts the session in TIMEOUT and its slot in LOS. (R275) -/
  | sesTimeout (session : Fin 4)
  /-- `RULE_EN_WRITE`: A write to RULE_EN enables a classifier rule after checks, or disables it. (R282) -/
  | ruleEnWrite (rule : Fin 64) (v : Bool)
  /-- `GATE_EN_WRITE`: A write to GATE_EN checks the operational list and starts it, or opens every gate. (R297) -/
  | gateEnWrite (port : Fin 8) (v : Bool)
  /-- `GATE_SWITCH_AT_WRITE`: A write to GATE_SWITCH_AT commits the administrative list for a switch, or is refused as late or invalid. (R298) -/
  | gateSwitchAtWrite (port : Fin 8) (sec : BitVec 48) (ns : Fin 1000000000)
  /-- `GATE_SWITCH`: At GATE_SWITCH_AT the administrative bank is copied into the operational list. (R298) -/
  | gateSwitch (port : Fin 8)
  /-- `GATE_CHANGE`: A gate-list entry's instant is reached and the gate state changes at the next block boundary. (R295) -/
  | gateChange (port : Fin 8)
  /-- `KEY_IMPORT`: KEY_CMD IMPORT writes the staged clear key into a slot. (R312) -/
  | keyImport (link : Link) (slot : Fin 1024)
  /-- `KEY_DERIVE`: KEY_CMD DERIVE places KDF(parent, label) into an EMPTY slot. (R308) -/
  | keyDerive (link : Link) (slot : Fin 1024)
  /-- `KEY_RETIRE`: KEY_CMD RETIRE moves an ACTIVE slot to RETIRING. (R312) -/
  | keyRetire (link : Link) (slot : Fin 1024)
  /-- `KEY_REACTIVATE`: KEY_CMD REACTIVATE moves a RETIRING slot to ACTIVE. (R312) -/
  | keyReactivate (link : Link) (slot : Fin 1024)
  /-- `KEY_INVALIDATE`: KEY_CMD INVALIDATE writes the slot INVALID, which orphans its descendants from the cycle of the write. (R314) -/
  | keyInvalidate (link : Link) (slot : Fin 1024)
  /-- `KEY_DELETE`: KEY_CMD DELETE empties an INVALID or ORPHANED slot. (R312) -/
  | keyDelete (link : Link) (slot : Fin 1024)
  /-- `LANE_SELF_TEST`: Every 100 ms each lane runs known-answer tests, and a failing lane leaves service. (R317) -/
  | laneSelfTest (failing : BitVec 8)
  /-- `TRNG_HEALTH_FAIL`: An entropy health test fails, reseeding stops and KS_TRNG_FAIL is raised. (R318) -/
  | trngHealthFail
  /-- `TRNG_RETEST`: Every 1 s the failed source is retested, and reseeding resumes after 64 passes. (R318) -/
  | trngRetest (passed : Bool)
  /-- `DRBG_RESEED`: The DRBG reseeds every 2^20 requests or every 1 s. (R318) -/
  | drbgReseed
  /-- `ID_CSR_SUBJECT_WRITE`: A write to ID_CSR_SUBJECT starts CSR generation in the public-key unit. (R319) -/
  | idCsrSubjectWrite (subject : List Octet)
  /-- `ID_CHALLENGE_WRITE`: A write to ID_CHALLENGE starts attestation signing. (R319) -/
  | idChallengeWrite (challenge : List Octet)
  /-- `PKU_OP_COMPLETE`: A signing, CSR or ECDH operation completes and waiting reads proceed. (R319) -/
  | pkuOpComplete
  /-- `PROV_INSTALL`: PROV_CMD INSTALL runs ECDH, derivation, unwrap and the two-copy write of slot 7. (R320) -/
  | provInstall
  /-- `PROV_INSTALL_COMPLETE`: INSTALL completes, its reply is sent, and on OK transition 8 follows. (R320) -/
  | provInstallComplete
  /-- `FW_UPD_BEGIN`: FW_UPD_CMD BEGIN starts writing an image into the bank that is not running. (R322) -/
  | fwUpdBegin
  /-- `FW_UPD_DATA`: A 4 KiB block of the image is written through FW_UPD_DATA. (R322) -/
  | fwUpdData (block : List Octet)
  /-- `FW_UPD_COMMIT`: FW_UPD_CMD COMMIT verifies the image and, if it verifies, sets FW_BOOT_BANK. (R322) -/
  | fwUpdCommit
  /-- `FW_UPD_ABORT`: FW_UPD_CMD ABORT discards the partial image. (R322) -/
  | fwUpdAbort
  /-- `FW_SVN_COMMIT`: A write of 1 to FW_SVN_COMMIT raises FW_MIN_SVN to the running SVN. (R322) -/
  | fwSvnCommit
  /-- `KS_ZEROISE_CMD`: A Custodian write of 0x5A17_0000 to KS_ZEROISE_CMD asserts ZEROISE. (R324) -/
  | ksZeroiseCmd (value : BitVec 32)
  /-- `TAMPER_EVENT`: A tamper source fires and is logged, or asserts ZEROISE, according to its policy. (R323) -/
  | tamperEvent (source : Fin 9)
  /-- `HELLO_SEND`: Each unit sends HELLO on Causeway every 1 ms. (R334) -/
  | helloSend
  /-- `HELLO_RX`: A valid HELLO from the twin updates its role, readiness and identity checks. (R342) -/
  | helloRx (epoch : BitVec 32) (hello : Hello)
  /-- `LEASE_RENEWAL`: At a renewal instant a healthy holder re-arms its lease and sends RENEW. (R336) -/
  | leaseRenewal (readback : Bool)
  /-- `LEASE_EXPIRY`: An un-renewed lease reaches its end and the holder mutes itself. (R336) -/
  | leaseExpiry
  /-- `LEASE_RELEASE`: Within 5 µs of a fault, disable or supersession cause, the holder ends its lease, drives LEASE_OUT LOW and sends RELEASE. (R337) -/
  | leaseRelease
  /-- `RENEW_RX`: The standby receives a valid RENEW and updates E, or a holder with a lower epoch is superseded. (R339) -/
  | renewRx (epoch : BitVec 32) (sec : BitVec 48) (ns : Fin 1000000000)
  /-- `RELEASE_RX`: A valid RELEASE from the twin is received. (R334) -/
  | releaseRx (epoch : BitVec 32)
  /-- `TAKE_RX`: A valid TAKE with a higher epoch is received and any lease held here ends. (R335) -/
  | takeRx (epoch : BitVec 32)
  /-- `STATE_RX`: A STATE frame updates slot 22's class, the twin's bound and the twin's UTC and timeSource values. (R334) -/
  | stateRx (epoch : BitVec 32) (state : TwinState)
  /-- `CAUSEWAY_AUTH_FAIL`: A Causeway frame whose tag fails is discarded and BW_AUTH_FAIL is raised. (R334) -/
  | causewayAuthFail
  /-- `LEASE_ACQUIRE`: The standby reaches E + BW_GUARD with the conditions met and acquires the lease. (R339) -/
  | leaseAcquire
  /-- `CONTEND_HOLD_EXPIRY`: A CONTENDING unit's initial hold ends with no holder seen and it acquires the lease. (R340) -/
  | contendHoldExpiry
  /-- `LEASE_IN_CHANGE`: LEASE_IN holds a new state (HIGH, LOW, OFF or OPEN) for 2 µs and it is declared. (R331) -/
  | leaseInChange (line : LeaseLine)
  /-- `SPLIT_DETECT`: A holder sees LEASE_IN HIGH for BW_GUARD, and unit B ends its lease. (R341) -/
  | splitDetect
  /-- `CW_LANE_CHANGE`: A Causeway lane gains block lock, or is declared down after 1 µs without it. (R330) -/
  | cwLaneChange (lane : Fin 2) (up : Bool)
  /-- `JOURNAL_RX`: The standby applies journal entries in JSEQ order, acknowledges them, and NACKs or requests a resync on a gap. (R345) -/
  | journalRx (epoch : BitVec 32) (jseq : BitVec 64) (entries : List JEntry)
  /-- `JOURNAL_ACK_RX`: The holder receives an ACK, commits the waiting entries, or retransmits on a NACK. (R345) -/
  | journalAckRx (epoch : BitVec 32) (jseq : BitVec 64) (nack : Bool)
  /-- `RESYNC_REQ_RX`: The holder receives RESYNC_REQ and starts streaming every valid Fold record. (R345) -/
  | resyncReqRx (epoch : BitVec 32)
  /-- `RESYNC_COMPLETE`: A full resync completes, and the standby may become READY while the holder leaves HOLDER_SOLO. (R345) -/
  | resyncComplete
  /-- `JOURNAL_ACK_TIMEOUT`: No ACK arrives for BW_ACK_TIMEOUT with entries waiting, and the holder becomes HOLDER_SOLO. (R346) -/
  | journalAckTimeout
  /-- `PAIR_RECORD_PERSIST`: Every 60 s, and at every acquisition, the pair record is sealed and written to flash. (R348) -/
  | pairRecordPersist
  /-- `BW_FORCE_RELEASE`: BW_FORCE RELEASE ends the holder's lease if the twin is READY, and is otherwise refused. (R351) -/
  | bwForceRelease
  /-- `BW_FORCE_HOLD_OFF`: BW_FORCE HOLD_OFF prevents the unit from ever acquiring the lease. (R351) -/
  | bwForceHoldOff
  /-- `BW_ENABLE_WRITE`: A write of 0 to BW_ENABLE at a holder ends the lease whatever the twin's readiness. (R351) -/
  | bwEnableWrite (value : Bool)
  /-- `GOP_READ`: A GOP READ request passes the checks and returns the object's value. (R362) -/
  | gopRead (q : GopRequest)
  /-- `GOP_WRITE`: A GOP WRITE request passes the checks and writes the object's value. (R362) -/
  | gopWrite (q : GopRequest)
  /-- `GOP_READ_BLOCK`: A GOP READ_BLOCK returns octets of a STRING or DOMAIN from OFFSET, truncated to the object. (R361) -/
  | gopReadBlock (q : GopRequest)
  /-- `GOP_WRITE_BLOCK`: A GOP WRITE_BLOCK writes octets at OFFSET, taking effect together when the request completes. (R361) -/
  | gopWriteBlock (q : GopRequest)
  /-- `GOP_SUBSCRIBE`: A GOP SUBSCRIBE creates or replaces a notice subscription for its link and role. (R370) -/
  | gopSubscribe (q : GopRequest)
  /-- `GOP_UNSUBSCRIBE`: A GOP UNSUBSCRIBE removes the subscription entry. (R370) -/
  | gopUnsubscribe (q : GopRequest)
  /-- `GOP_INVALID_REQUEST`: A GOP message that fails framing, tag or sequence, or carries OP NOTICE or ACK, is discarded, or the cached ACK is sent again. (R362) -/
  | gopInvalidRequest (op : BitVec 8) (q : GopRequest)
  /-- `REGISTER_WRITE`: A write to an object with no behaviour of its own is judged by access code, rights, size, range and RWD and takes effect. (R11) -/
  | registerWrite (path : Path) (index : BitVec 16) (sub : BitVec 8) (value : BitVec 64) (descs : List Posted)
  /-- `STATUS_CLEAR`: A write to an SQ status object clears the masked sticky bits if its SEQ is current, and otherwise returns STALE. (R367) -/
  | statusClear (path : Path) (index : BitVec 16) (sub : BitVec 8) (value : BitVec 32)
  /-- `BAR0_BAD_ACCESS`: A BAR0 write or read of a size or alignment that is not served is discarded or reads zero, and sets BAR_SIZE_SEEN. (R374) -/
  | bar0BadAccess
  /-- `PARITY_MISMATCH`: A block's configuration fails parity, the block takes its safe state and firmware starts restoring it from the shadow copy. (R368) -/
  | parityMismatch (block : Fin 20) (element : Option Nat) (index : BitVec 16) (sub : BitVec 8)
  /-- `SHADOW_RESTORE_COMPLETE`: Firmware finishes restoring a block's configuration and its waiting writes execute. (R368) -/
  | shadowRestoreComplete (block : Fin 20) (ok : Bool)
  /-- `RING_DB`: A write of RING_DB posts descriptors, which the engine takes in count order. (R383) -/
  | ringDb (ring : Fin 64) (count : BitVec 32) (descs : List Posted)
  /-- `RING_EN_WRITE`: A write to RING_EN starts a ring after checking RING_BASE, or flushes and stops it. (R387) -/
  | ringEnWrite (ring : Fin 64) (v : Bool)
  /-- `RING_DESCRIPTOR_WRITEBACK`: A taken descriptor is written back once with its status, followed by a trailer update. (R383) -/
  | ringDescriptorWriteback (ring : Fin 64) (dmaError : Bool)
  /-- `RING_DMA_ERROR`: A descriptor fetch fails and the ring enters ERROR. (R387) -/
  | ringDmaError (ring : Fin 64)
  /-- `RING_OWN_GAP`: The engine reads a descriptor with OWN 0, stops at that count and raises HL_OWN_GAP. (R383) -/
  | ringOwnGap (ring : Fin 64)
  /-- `IRQ_HOLDOFF_EXPIRY`: HOLDOFF has elapsed since a ring's last message and a held-back MSI-X message is sent. (R386) -/
  | irqHoldoffExpiry (ring : Fin 64)
  /-- `HOST_LINK_LOSS`: DL_Down, D3hot, FLR or PERST# makes the host link lost and every ring is disabled. (R379) -/
  | hostLinkLoss (cause : LinkLossCause)
  /-- `HOST_LINK_UP`: The PCIe link returns, with rings still disabled until the host enables them. (R379) -/
  | hostLinkUp (gen : Fin 4) (lanes : Fin 3)
  /-- `VD_DATA_EN_WRITE`: A write to VD_DATA_EN stops or resumes admission of data-class requests. (R397) -/
  | vdDataEnWrite (v : Bool)
  /-- `TEMP_BYPASS_REVOKE`: The junction exceeds 110 °C and every bypassed pier is reinserted. (R397) -/
  | tempBypassRevoke
  /-- `TEMP_BYPASS_RESTORE`: The junction falls below 100 °C and the pier bypasses apply again. (R397) -/
  | tempBypassRestore
  /-- `SRAM_ECC_ERROR`: An SRAM read finds an ECC error, which is corrected and counted, or raised for its region. (R398) -/
  | sramEccError (region : SramRegion) (correctable : Bool)
  /-- `DRAM_ECC_ERROR`: A DRAM access or patrol scrub finds an ECC error, which is corrected, or raises DRAM_UE. (R399) -/
  | dramEccError (correctable : Bool)
  /-- `CORE_WDOG`: A control core's watchdog expires and CORE_WDOG is raised. (R402) -/
  | coreWdog (core : Fin 4)
  /-- `FAULTSAFE_EXIT`: Every causing source is inactive and FS_QUIET has elapsed, so the engine leaves FAULTSAFE by transition 20. (R413) -/
  | faultsafeExit
  /-- `FS_ANN_HOLD_EXPIRY`: FS_ANN_HOLD elapses in FAULTSAFE and Announce service stops. (R412) -/
  | fsAnnHoldExpiry
  /-- `FS_RELEASE`: A write of 1 to FS_RELEASE clears a FAULTSAFE latch and its exit history. (R414) -/
  | fsRelease
  /-- `SD_INJECT`: In FACTORY a write to SD_INJECT raises an implemented source once. (R415) -/
  | sdInject (source : BitVec 16)
  /-- `CTR_FREEZE_WRITE`: A write to CTR_FREEZE stops or resumes every counter in one cycle. (R419) -/
  | ctrFreezeWrite (v : Bool)
  /-- `CTR_VALUE_WRITE`: A write to CTR_VALUE presets a counter and overrides that cycle's increment, suppressing any carry. (R420) -/
  | ctrValueWrite (counter : Fin 128) (value : BitVec 32) (coincident : Fin 9221)
  /-- `RECEIVED_PAUSE_END`: The pause time requested by a received PAUSE (with RX_PAUSE set) runs out and the MAC may start frames again, so waiting slow-path frames resume. (R239) -/
  | receivedPauseEnd (port : Fin 8)
  /-- `BUS_MASTER_ENABLE_CHANGE`: The host sets or clears Bus Master Enable in configuration space, pausing or resuming ring DMA without a loss of the host link. (R379) -/
  | busMasterEnableChange (on : Bool)
  /-- `JTAG_INSTRUCTION_LOAD`: An instruction is shifted into the test access port, and EXTEST takes the balls from the boundary register or another instruction acts as BYPASS or IDCODE. (R440) -/
  | jtagInstructionLoad (instruction : Jtag)
  /-- `FP_DEFERRAL_END`: CRS falls on a field port and, after the interframe gap, a deferred transmission starts. (R243) -/
  | fpDeferralEnd (fp : Fin 2)
  /-- `ALMANAC_STALE`: A receiver's RX_ALM_AGE passes RX_ALM_MAXAGE, so searches are no longer aided and GN_ALM_STALE is raised. (R226) -/
  | almanacStale (rx : Fin 2)
  deriving DecidableEq, Repr

end Sys2Proof
end

