-- ==== Sys2Proof/Decode.lean ====
section
/-! DEFINITION. The decoder of the operation and event table. The table gives none of its rows any bits, so no word
spells a command (log entry 3). -/

namespace Sys2Proof

/-- The command that a word of the table spells: the table gives bits to no row. -/
def decodeTableWord (_nbits _w : Nat) : Option Instr := none

end Sys2Proof
end

