-- ==== Sys2Proof/Machine/Operands.lean ====
section
/-! DEFINITION. Bit fields, byte order, the sparse map, integer square root, and the time formats of Table 0-2. -/

namespace Sys2Proof.Machine

/-! Bit fields of a word held as a natural number; bit 0 is the least significant (R9). -/

/-- The field of `width` bits at bit `lo` of `w`. -/
def bitsAt (w lo width : Nat) : Nat := w / 2 ^ lo % 2 ^ width

/-- `w` with the field of `width` bits at bit `lo` replaced by `v`. -/
def setBitsAt (w lo width v : Nat) : Nat :=
  w / 2 ^ (lo + width) * 2 ^ (lo + width) + v % 2 ^ width * 2 ^ lo + w % 2 ^ lo

/-- Bit `k` of `w`. -/
def bitOn (w k : Nat) : Bool := w / 2 ^ k % 2 == 1

/-- `w` with bit `k` set. -/
def setBit (w k : Nat) : Nat := if bitOn w k then w else w + 2 ^ k

/-- `w` with bit `k` clear. -/
def clearBit (w k : Nat) : Nat := if bitOn w k then w - 2 ^ k else w

/-- `w` with bit `k` equal to `b`. -/
def putBit (w k : Nat) (b : Bool) : Nat := if b then setBit w k else clearBit w k

/-- The number whose bit k is set exactly when `p k`, for k below `n`. -/
def maskOf (p : Nat → Bool) : Nat → Nat
  | 0 => 0
  | n + 1 => maskOf p n + if p n then 2 ^ n else 0

/-- A Boolean as the value of a BOOL object. -/
def flag (b : Bool) : Int := if b then 1 else 0

/-- The octet of a BOOL. -/
def flag8 (b : Bool) : Octet := if b then 1 else 0

/-- The value of `v` modulo 2^n, as a signed number of n bits (two's complement, R4, R356). -/
def wrapSigned (n : Nat) (v : Int) : Int :=
  let m := v % (2 ^ n : Int)
  if m < 2 ^ (n - 1) then m else m - 2 ^ n

/-! Byte order (R9). -/

/-- The `n` low octets of `v`, least significant first. -/
def leBytes : Nat → Nat → List Octet
  | 0, _ => []
  | n + 1, v => BitVec.ofNat 8 v :: leBytes n (v / 256)

/-- The `n` low octets of `v`, most significant first (network order). -/
def beBytes (n v : Nat) : List Octet := (leBytes n v).reverse

/-- The number that octets spell, least significant first. -/
def ofLe : List Octet → Nat
  | [] => 0
  | b :: bs => b.toNat + 256 * ofLe bs

/-- The number that octets spell, most significant first. -/
def ofBe (bs : List Octet) : Nat := ofLe bs.reverse

/-- `v` as a signed value in n octets, little-endian. -/
def leBytesInt (n : Nat) (v : Int) : List Octet := leBytes n (v % (2 ^ (8 * n) : Int)).toNat

/-- `old` with `new` written from position `off`, keeping the length of `old`. -/
def overlay (old : List Octet) (off : Nat) (new : List Octet) : List Octet :=
  old.take off ++ (new.take (old.length - off) ++ old.drop (off + new.length))

/-- `bs` cut or padded with zero octets to `n`. -/
def padTo (n : Nat) (bs : List Octet) : List Octet := (bs ++ List.replicate (n - bs.length) 0).take n

/-! The sparse map: sorted by key, and no entry equal to what an unlisted key reads as. -/

/-- The entry at a key; `d` where none is listed. -/
def SMap.get {α : Type} (d : α) : List (Nat × α) → Nat → α
  | [], _ => d
  | (k', v) :: m, k => if k = k' then v else SMap.get d m k

/-- The map with the entry at a key written, in key order. -/
def SMap.ins {α : Type} (k : Nat) (v : α) : List (Nat × α) → List (Nat × α)
  | [] => [(k, v)]
  | (k', v') :: m =>
    if k < k' then (k, v) :: (k', v') :: m
    else if k = k' then (k, v) :: m
    else (k', v') :: SMap.ins k v m

/-- The map without the key. -/
def SMap.del {α : Type} (k : Nat) (m : List (Nat × α)) : List (Nat × α) := m.filter fun e => e.1 != k

/-- The map in which the key reads `v`: a value equal to the default removes the entry. -/
def SMap.put {α : Type} [DecidableEq α] (d : α) (m : List (Nat × α)) (k : Nat) (v : α) : List (Nat × α) :=
  if v = d then SMap.del k m else SMap.ins k v m

/-- Keys strictly rising. -/
def SMap.sorted {α : Type} : List (Nat × α) → Bool
  | [] => true
  | [_] => true
  | (k, _) :: (k', v') :: m => k < k' && SMap.sorted ((k', v') :: m)

/-! Arithmetic. -/

/-- The least integer not below a / b. -/
def ceilDiv (a b : Nat) : Nat := (a + b - 1) / b

/-- Division truncated toward zero. -/
def truncDiv (a b : Int) : Int := a.tdiv b

/-- Bit-by-bit square root: the largest r < 2^n with r² ≤ v, over the bits already found. -/
def isqrtBits (v : Nat) : Nat → Nat → Nat
  | 0, r => r
  | n + 1, r => let t := r + 2 ^ n; if t * t ≤ v then isqrtBits v n t else isqrtBits v n r

/-- The integer part of the square root of `v`, for v below 2^256. -/
def isqrt (v : Nat) : Nat := isqrtBits v 128 0

/-- The least integer whose square is not below `v`: a bound is rounded up (R6). -/
def isqrtUp (v : Nat) : Nat := let r := isqrt v; if r * r < v then r + 1 else r

/-- `x` clamped to ±`m`. -/
def clampAbs (m x : Int) : Int := if x > m then m else if x < -m then -m else x

/-! Time (Table 0-2). One nanosecond and one second in the counter's fraction, 2^-48 ns. -/

/-- 2^48: one nanosecond in units of 2^-48 ns, and a rate of 1. -/
def ns48 : Nat := 2 ^ 48

/-- Nanoseconds in a second. -/
def giga : Nat := 1000000000

/-- One second in units of 2^-48 ns. -/
def sec48 : Nat := giga * ns48

/-- The milliseconds `m` in units of 2^-48 ns. -/
def ms48 (m : Nat) : Nat := m * 1000000 * ns48

/-- The microseconds `u` in units of 2^-48 ns. -/
def us48 (u : Nat) : Nat := u * 1000 * ns48

/-- A TIME80 value, held as its count of nanoseconds, is always a valid one; its seconds field. -/
def secOf (t80 : Nat) : Nat := t80 / giga

/-- The nanoseconds field of a TIME80 count. -/
def nsOf (t80 : Nat) : Nat := t80 % giga

/-- TIME80 in network order: seconds, then nanoseconds (R9, Table 0-2). -/
def time80Net (t80 : Nat) : List Octet := beBytes 6 (secOf t80) ++ beBytes 4 (nsOf t80)

/-- The ten octets of a TIME80 value: nanoseconds in octets 0–3, seconds in 4–9 (Table 15-1). -/
def time80Bytes (t80 : Nat) : List Octet := leBytes 4 (nsOf t80) ++ leBytes 6 (secOf t80)

/-- The fourteen octets of a TIME112 value held as its count of 2^-32 ns (Table 15-1). -/
def time112Bytes (t112 : Nat) : List Octet :=
  leBytes 4 (t112 % 2 ^ 32) ++ time80Bytes (t112 / 2 ^ 32)

/-- The count that ten octets spell; none where the nanoseconds field is invalid (R5). -/
def time80Of? (bs : List Octet) : Option Nat :=
  let ns := ofLe (bs.take 4)
  if ns < giga then some (ofLe (bs.drop 4) * giga + ns) else none

/-- The count that fourteen octets spell; none where the nanoseconds field is invalid (R5). -/
def time112Of? (bs : List Octet) : Option Nat :=
  (time80Of? (bs.drop 4)).map fun t => t * 2 ^ 32 + ofLe (bs.take 4)

/-- Truncation toward zero, as the worked example of the servo has it (−602.4 becomes −602). -/
def ratTrunc (r : Rat) : Int := if r < 0 then -(-r).floor else r.floor

/-! Exact arithmetic (R6, R100). -/

/-- |r|. -/
def ratAbs (r : Rat) : Rat := if r < 0 then -r else r

/-- The larger of two numbers. -/
def ratMax (a b : Rat) : Rat := if a < b then b else a

/-- The smaller of two numbers. -/
def ratMin (a b : Rat) : Rat := if a < b then a else b

/-- Phase units gained in a second by one rate unit: 10^9 · 2^16 / 2^48 (R100). -/
def phasePerRate : Rat := 1000000000 / 2 ^ 32

/-- Rate units gained in a second by one drift unit (R100). -/
def ratePerDrift : Rat := 1 / 65536

/-- Seconds between two instants in 2^-48 ns. -/
def secondsOf (d48 : Int) : Rat := (d48 : Rat) / ((sec48 : Nat) : Rat)

/-- Bound units of a nanosecond. -/
def unitsPerNs : Rat := 256

/-- A phase in bound units of 2^-8 ns. -/
def boundOfPhase (r : Rat) : Rat := r / 256

/-- A bound in bound units, rounded up once and saturating (R6, R156). -/
def boundUnits (r : Rat) : Nat := let n := r.ceil.toNat; if 0xFFFFFFFE < n then 0xFFFFFFFF else n

end Sys2Proof.Machine
end

