-- ==== Sys2Proof/Machine/Flags.lean ====
section
/-! DEFINITION. Status words: sticky bits below a sequence number in bits 31:16 (R14, R367), and saturating counts. -/

namespace Sys2Proof.Machine

/-- The sequence number of a status word (R14). -/
def seqOf (w : Nat) : Nat := bitsAt w 16 16

/-- A hardware set of sticky bit `bit`: the bit is 1 and SEQ advances, whether or not the bit was set (R14, R367). -/
def sqSet (w bit : Nat) : Nat := setBitsAt (setBit w bit) 16 16 (seqOf w + 1)

/-- A write of `v` to an SQ object whose sticky bits are `mask`: where the written SEQ is current, the masked sticky
bits are cleared and nothing else; where it is not, nothing (R367). -/
def sqClear (mask w v : Nat) : Option Nat :=
  if seqOf v = seqOf w then some (w - (w &&& (v % 65536 &&& mask))) else none

/-- The next value of a saturating count. -/
def satSucc (max v : Nat) : Nat := if v < max then v + 1 else max

/-- The next value of a wrapping 32-bit count. -/
def wrapSucc (v : Nat) : Nat := (v + 1) % 2 ^ 32

/-- The raise counters of `SRC_STATE` (Table 17-3): SEQ advances, RAISES saturates at 255, LATCHED is set (R405). -/
def srcRaised (w : Nat) : Nat :=
  setBit (setBitsAt (setBitsAt w 16 16 (seqOf w + 1)) 8 8 (satSucc 255 (bitsAt w 8 8))) 0

end Sys2Proof.Machine
end

