-- ==== Sys2Proof/Config.lean ====
section
/-! DEFINITION. What a unit is made with, and every value the spec leaves open: each is a constant without a body, so
no proof can see what it is (log entry 1). -/

namespace Sys2Proof.Config

/-- The octets that a unit's identity is made from; the manual calls them "per unit" (R375). -/
opaque eui64 : BitVec 64

/-- The 48 bits behind ID_MAC_BASE before R375 is applied to them. -/
opaque macBits : BitVec 48

/-- The sixteen digits or capital letters of the serial number: 0–9, then A–Z (R375). -/
opaque serialDigit : Fin 16 → Fin 36

/-- `1010.05 ID_EUI64` (R375). -/
def idEui64 : Int := eui64.toNat

/-- `1010.06 ID_MAC_BASE`: locally administered, individual, last octet even (R375). -/
def idMacBase : Int := (((macBits ||| 0x020000000000) &&& 0xFEFFFFFFFFFE).toNat : Nat)

/-- `1010.04 ID_SERIAL` (R375). -/
def idSerial : List Octet :=
  (List.finRange 16).map fun i => let d := (serialDigit i).val; BitVec.ofNat 8 (if d < 10 then 48 + d else 55 + d)

/-! The functions of Keystone, which the manual names by their standards and does not restate. -/

/-- HMAC-SHA-256 under a key, over octets; the most significant bits are the first octets. -/
opaque hmac : BitVec 256 → List Octet → BitVec 256

/-- Its first 16 octets (R263, R363). -/
def hmac16 (key : BitVec 256) (m : List Octet) : BitVec 128 := (hmac key m).extractLsb' 128 128

/-- AES-256-CMAC under a key, over octets (NIST SP 800-38B). -/
opaque cmac : BitVec 256 → List Octet → BitVec 128

/-- SipHash-2-4 under a key (R253). -/
opaque sipHash : BitVec 128 → List Octet → BitVec 64

/-- AES-SIV sealing under a key (two halves of 128 bits), with associated data and a plaintext: the SIV and the
ciphertext (RFC 5297). -/
opaque sivSeal : BitVec 256 → List (List Octet) → List Octet → List Octet

/-- AES-SIV opening: the plaintext, or none where the SIV does not match. -/
opaque sivOpen : BitVec 256 → List (List Octet) → List Octet → Option (List Octet)

/-- AES-256 key wrap of a value under a key: 40 octets (RFC 3394). -/
opaque wrap : BitVec 256 → BitVec 256 → List Octet

/-- The PUF key of an enrolment: the hash of the array's response as the helper data of that enrolment corrects it (R303). -/
opaque pufKey : Nat → BitVec 256

/-- AES key unwrap under a key: the 32 octets wrapped, or none where its integrity check fails (RFC 3394). -/
opaque unwrap : BitVec 256 → List Octet → Option (BitVec 256)

/-- The ECDH shared secret of a P-256 scalar and a public key x ‖ y; none where that is not a point of the curve. -/
opaque ecdh : BitVec 256 → List Octet → Option (List Octet)

/-- The public key x ‖ y of a P-256 scalar, 64 octets. -/
opaque publicKey : BitVec 256 → List Octet

/-- The ECDSA signature r ‖ s of a scalar over SHA-256 of octets, with the nonce of RFC 6979, 64 octets. -/
opaque sign : BitVec 256 → List Octet → List Octet

/-- The PKCS#10 request in DER for a commonName, signed with a scalar (R319). -/
opaque csr : BitVec 256 → List Octet → List Octet

/-- What the verification of an image finds in its header and signature (R321). -/
opaque image : List Octet → FwImage

/-- The phase in 2^-16 ns and the frequency in rate units that the filter of a slot gives before the measurements that R102
takes them from: the manual states none. -/
opaque unmeasured : Nat → Int × Int

/-- What the always-on counter reads at its n-th reading: the manual gives it no rate (R427). -/
opaque alwaysOn : Nat → BitVec 32

/-- What the DRBG delivers at its n-th draw since power-on (R318). -/
opaque random : Nat → BitVec 512

/-- The address of a port itself, by port and transport: no object of the manual holds one (R256). -/
opaque portAddress : Nat → Nat → Nat

/-- The MAC address behind an upstream master's IP address, by port and address: the manual describes no neighbour
discovery (R274). -/
opaque neighbourMac : Nat → Nat → Nat

/-- The scope X of FF0X::181 (R256). -/
opaque ipv6Scope : Nat

/-- The sequenceId of a Signaling reply to a client without a record, by passage: SIG_SEQ is a field of the record
(R260). -/
opaque signalingSeq : Nat → Nat

/-- The originTimestamp of a Pdelay_Req, in nanoseconds, by frame: R270 gives none. -/
opaque pdelayOrigin : Nat → Nat

/-- Where a port's block boundaries lie on the undisciplined clock after its PCS has started (R233). -/
opaque gridPhase : Nat → Nat

/-- What the back-off generator of the field ports delivers at its n-th draw (R244). -/
opaque backoff : Nat → Nat

/-- The octets of a journal entry: Table 14-5 gives their number and what they carry, and no layout. -/
opaque journalOctets : JEntry → List Octet

/-- The code that a RELEASE frame carries for its cause; Table 14-1 names the field and no codes. -/
opaque releaseCause : Nat → Octet

/-- Bits 255:64 of an epoch entry whose values are propagated and "must not be used" (R213), by draw. -/
opaque propagatedEntry : Nat → BitVec 192

/-- The Doppler in mHz and the place in the primary code in 2^-32 chip that firmware predicts for a signal of a satellite from an
almanac image, a position and a TAI instant in ns: the manual gives no orbit model (R209). -/
opaque predictedCell : List Octet → List Octet → Nat → Nat → Nat → Int × Nat

/-- The age in seconds of a GNSS almanac image when it is loaded: the manual gives the image no layout (R209, R223). -/
opaque almanacAge : List Octet → Nat

/-- FREE VALUE: the sign that the dither register of a synthesiser, seeded with the first number, gives in reference cycle
`n` since it was loaded (R185; log entry 64). -/
opaque dither : Nat → Nat → Bool

/-- FREE VALUE: what stands where the departure instant would, in the write-back of a slow-path frame that is never sent, by ring
and count: nanoseconds in bits 31:0, their fraction in bits 47:32 (Tables 16-3 and 16-4). -/
opaque unsentStamp : Nat → Nat → BitVec 48

/-- The busy share of a control core over the last second, by core and second: the manual gives no load (Table 16-11). -/
opaque coreLoad : Nat → Nat → Fin 101

/-- The density of a band's magnitude bit, in 0.01 %, by band and second: a property of the samples received (Table 9-8). -/
opaque magDensity : Nat → Nat → BitVec 16

end Sys2Proof.Config
end

