-- ==== Sys2Proof/Machine/Sources.lean ====
section
/-! DEFINITION. The fault sources that the chapters assign (Tables 2-11, 3-10, 4-12, 5-10, 6-6, 7-9, 8-8, 9-10, 10-10,
11-12, 12-8, 13-14, 14-9, 15-13, 16-13, 17-11), with their default severities and reactions. -/

namespace Sys2Proof.Machine

/-- A default reaction as a source table prints it; the tamper sources take theirs from TAMP_POLICY (R323, R404). -/
inductive Reaction
  | none | notice | blockSafe | faultsafe | relinquish | zeroise | tamper
  deriving DecidableEq, Repr

/-- The code of Table 17-2. -/
def Reaction.code : Reaction → Nat
  | .none => 0 | .notice => 1 | .blockSafe => 2 | .faultsafe => 3 | .relinquish => 4 | .zeroise => 5 | .tamper => 0

/-- One row of a source table: a run of source numbers, its severity and default reaction, and whether the table
raises it only at the "first … after the previous clear of the source" (R405). -/
structure SourceRow where
  lo : Nat
  hi : Nat
  severity : Nat
  reaction : Reaction
  firstOnly : Bool
  deriving DecidableEq, Repr

/-- The assigned sources up to 0x1FF. -/
def sourceRowsLow : List SourceRow := [
  ⟨0x040, 0x040, 2, .blockSafe, false⟩,  -- OD_PARITY (R376)
  ⟨0x041, 0x041, 2, .blockSafe, false⟩,  -- CTL_PARITY (R376)
  ⟨0x042, 0x042, 2, .blockSafe, false⟩,  -- SL_PARITY (R96)
  ⟨0x043, 0x043, 2, .blockSafe, false⟩,  -- TR_PARITY (R77)
  ⟨0x044, 0x044, 2, .blockSafe, false⟩,  -- HD_PARITY (R131)
  ⟨0x045, 0x045, 2, .blockSafe, false⟩,  -- SYN_PARITY (R202)
  ⟨0x046, 0x046, 2, .blockSafe, false⟩,  -- EV_PARITY (R202)
  ⟨0x047, 0x047, 2, .blockSafe, false⟩,  -- GN_PARITY (R226)
  ⟨0x048, 0x048, 2, .blockSafe, false⟩,  -- ETH_PARITY (R248)
  ⟨0x049, 0x049, 2, .blockSafe, false⟩,  -- FPB_PARITY (R248)
  ⟨0x04A, 0x04A, 2, .blockSafe, false⟩,  -- TS_PARITY (R154)
  ⟨0x04B, 0x04B, 2, .blockSafe, false⟩,  -- TEB_PARITY (R176)
  ⟨0x04C, 0x04C, 2, .blockSafe, false⟩,  -- TPE_PARITY (R279)
  ⟨0x04D, 0x04D, 2, .blockSafe, false⟩,  -- DRV_PARITY (R301)
  ⟨0x04E, 0x04E, 2, .blockSafe, false⟩,  -- KS_PARITY (R328)
  ⟨0x04F, 0x04F, 2, .blockSafe, false⟩,  -- BW_PARITY (R355)
  ⟨0x050, 0x050, 2, .blockSafe, false⟩,  -- SD_PARITY (R423)
  ⟨0x051, 0x051, 2, .blockSafe, false⟩,  -- CTR_PARITY (R423)
  ⟨0x052, 0x052, 2, .blockSafe, false⟩,  -- VD_PARITY (R402)
  ⟨0x053, 0x053, 2, .blockSafe, false⟩,  -- HL_PARITY (R402)
  ⟨0x100, 0x12F, 2, .blockSafe, false⟩,  -- TR_DLL_LOSS (R77)
  ⟨0x130, 0x130, 2, .blockSafe, false⟩,  -- TR_CAL_FAIL (R77)
  ⟨0x131, 0x131, 1, .notice, false⟩,  -- TR_TABLE_STALE (R77)
  ⟨0x132, 0x132, 1, .notice, true⟩,  -- TR_RING_LOST (R77)
  ⟨0x140, 0x157, 1, .notice, false⟩,  -- SLOT_LOS (R96)
  ⟨0x158, 0x16F, 1, .notice, false⟩,  -- SLOT_DISQ (R96)
  ⟨0x170, 0x170, 1, .notice, false⟩,  -- SLOT_AMBIGUOUS (R96)
  ⟨0x180, 0x180, 2, .notice, false⟩,  -- LOA_OUT (R131)
  ⟨0x181, 0x181, 1, .notice, false⟩,  -- LOB_OUT (R131)
  ⟨0x182, 0x182, 3, .relinquish, false⟩,  -- LO_BOTH_OUT (R131)
  ⟨0x183, 0x183, 2, .notice, false⟩,  -- HD_UPDATE_MISS (R131)
  ⟨0x184, 0x184, 2, .notice, false⟩,  -- HD_RATE_LIMIT (R131)
  ⟨0x185, 0x185, 1, .notice, false⟩,  -- HD_TUNE_LIMIT (R131)
  ⟨0x186, 0x186, 1, .notice, false⟩,  -- HD_SWL_TIMEOUT (R131)
  ⟨0x187, 0x187, 0, .notice, false⟩,  -- HD_LO_REVERT (R131)
  ⟨0x188, 0x188, 0, .notice, false⟩,  -- HD_FPATH_SWITCH (R131)
  ⟨0x189, 0x189, 1, .notice, true⟩,  -- HD_RING21_LOST (R131)
  ⟨0x190, 0x190, 1, .notice, false⟩,  -- TS_STEP (R154)
  ⟨0x191, 0x191, 2, .notice, false⟩,  -- TS_FROZEN (R154)
  ⟨0x192, 0x192, 0, .notice, false⟩,  -- TS_LEAP (R154)
  ⟨0x193, 0x193, 1, .notice, false⟩,  -- TS_UTC_CONFLICT (R154)
  ⟨0x194, 0x194, 1, .notice, false⟩,  -- TL_SKIPPED (R154)
  ⟨0x195, 0x195, 1, .notice, false⟩,  -- SNAP_MISSED (R154)
  ⟨0x1A0, 0x1A0, 2, .notice, false⟩,  -- TEB_UNBOUNDED (R176)
  ⟨0x1A1, 0x1A1, 1, .notice, false⟩,  -- TEB_OVER_HOLD (R176)
  ⟨0x1A2, 0x1A2, 1, .notice, true⟩,  -- TEB_LOG_LOST (R176)
  ⟨0x1B0, 0x1B0, 3, .relinquish, false⟩,  -- APLLA_LOL (R202)
  ⟨0x1B1, 0x1B1, 3, .relinquish, false⟩,  -- APLLB_LOL (R202)
  ⟨0x1B2, 0x1B9, 2, .notice, false⟩,  -- FOS_LOL (R202)
  ⟨0x1BA, 0x1BA, 0, .notice, false⟩,  -- FOS_RELOCK (R202)
  ⟨0x1C0, 0x1CF, 2, .notice, false⟩,  -- OUT_LB_FAIL (R202)
  ⟨0x1D0, 0x1DF, 2, .notice, false⟩,  -- EVT_LB_FAIL (R202)
  ⟨0x1E0, 0x1E0, 1, .notice, false⟩,  -- EVT_UNDERRUN (R202)
  ⟨0x1E1, 0x1E1, 1, .notice, true⟩,  -- EVT_LATE_DROP (R202)
  ⟨0x1E2, 0x1E2, 2, .blockSafe, false⟩,  -- EVT_CAL_FAIL (R202)
  ⟨0x200, 0x203, 1, .notice, false⟩,  -- GN_STREAM_LOSS (R226)
  ⟨0x204, 0x205, 1, .notice, false⟩,  -- GN_RX_LOSS (R226)
  ⟨0x206, 0x207, 2, .notice, false⟩,  -- GN_TRAIM_FAIL (R226)
  ⟨0x208, 0x208, 1, .notice, true⟩   -- GN_RING19_LOST (R226)
]

/-- The assigned sources after those. -/
def sourceRowsHigh : List SourceRow := [
  ⟨0x209, 0x209, 0, .notice, false⟩,  -- GN_ALM_STALE (R226)
  ⟨0x210, 0x217, 2, .notice, false⟩,  -- PORT_DOWN (R248)
  ⟨0x218, 0x21F, 1, .notice, false⟩,  -- PORT_DESKEW_FAIL (R248)
  ⟨0x220, 0x220, 1, .notice, true⟩,  -- PORT_RX_OVERFLOW (R248)
  ⟨0x221, 0x221, 1, .notice, true⟩,  -- PORT_LATE_DISCARD (R248)
  ⟨0x222, 0x223, 1, .notice, false⟩,  -- FP_EXCESS_COLL (R248)
  ⟨0x224, 0x225, 2, .notice, false⟩,  -- FP_LINK_DOWN (R248)
  ⟨0x230, 0x230, 1, .notice, true⟩,  -- TPE_FOLD_FULL (R279)
  ⟨0x231, 0x231, 1, .notice, true⟩,  -- TPE_LATE (R279)
  ⟨0x232, 0x232, 1, .notice, true⟩,  -- TPE_AUTH_FAIL (R279)
  ⟨0x233, 0x233, 0, .notice, true⟩,  -- TPE_MALFORMED (R279)
  ⟨0x234, 0x234, 2, .notice, false⟩,  -- TPE_KEY_FAIL (R279)
  ⟨0x235, 0x235, 2, .notice, false⟩,  -- TPE_SEQ_HOLD (R279)
  ⟨0x236, 0x239, 1, .notice, false⟩,  -- SES_TIMEOUT (R279)
  ⟨0x240, 0x240, 0, .notice, true⟩,  -- DRV_POLICED (R301)
  ⟨0x241, 0x241, 1, .notice, true⟩,  -- DRV_PACE_SKIP (R301)
  ⟨0x242, 0x242, 1, .notice, true⟩,  -- DRV_QUOTA (R301)
  ⟨0x243, 0x243, 1, .notice, false⟩,  -- DRV_GATE_OVERRUN (R301)
  ⟨0x250, 0x258, 3, .tamper, false⟩,  -- TAMPER (R328)
  ⟨0x259, 0x259, 2, .notice, false⟩,  -- KS_LANE_FAIL (R328)
  ⟨0x25A, 0x25A, 2, .notice, false⟩,  -- KS_TRNG_FAIL (R328)
  ⟨0x25B, 0x25B, 1, .notice, false⟩,  -- KS_PUF_MARGIN (R328)
  ⟨0x25C, 0x25C, 3, .notice, false⟩,  -- KS_PUF_FAIL (R328)
  ⟨0x25D, 0x25D, 0, .notice, false⟩,  -- KS_ORPHAN (R328)
  ⟨0x25E, 0x25E, 2, .notice, false⟩,  -- KS_FW_REJECT (R328)
  ⟨0x260, 0x260, 2, .notice, false⟩,  -- BW_SPLIT (R355)
  ⟨0x261, 0x261, 2, .notice, false⟩,  -- BW_CW_DARK (R355)
  ⟨0x262, 0x263, 1, .notice, false⟩,  -- BW_LANE_DOWN (R355)
  ⟨0x264, 0x264, 1, .notice, false⟩,  -- BW_LEASE_LINE (R355)
  ⟨0x265, 0x265, 1, .notice, false⟩,  -- BW_NOT_READY (R355)
  ⟨0x266, 0x266, 2, .notice, false⟩,  -- BW_SOLO (R355)
  ⟨0x267, 0x267, 1, .notice, false⟩,  -- BW_TAKEOVER (R355)
  ⟨0x268, 0x268, 2, .notice, false⟩,  -- BW_SUPERSEDED (R355)
  ⟨0x269, 0x269, 2, .notice, false⟩,  -- BW_ID_MISMATCH (R355)
  ⟨0x26A, 0x26A, 2, .notice, false⟩,  -- BW_KEYGEN_MISMATCH (R355)
  ⟨0x26B, 0x26B, 1, .notice, true⟩,  -- BW_AUTH_FAIL (R355)
  ⟨0x26C, 0x26C, 1, .notice, false⟩,  -- BW_JOURNAL_GAP (R355)
  ⟨0x270, 0x270, 1, .notice, true⟩,  -- OD_TAG_FAIL (R376)
  ⟨0x271, 0x271, 1, .notice, true⟩,  -- OD_REPLAY (R376)
  ⟨0x272, 0x272, 3, .blockSafe, false⟩,  -- OD_SHADOW_FAIL (R376)
  ⟨0x280, 0x280, 2, .notice, false⟩,  -- HL_LINK_LOST (R402)
  ⟨0x281, 0x281, 1, .notice, true⟩,  -- HL_DMA_ERROR (R402)
  ⟨0x282, 0x282, 0, .notice, true⟩,  -- HL_OWN_GAP (R402)
  ⟨0x283, 0x283, 3, .relinquish, false⟩,  -- DRAM_UE (R402)
  ⟨0x284, 0x284, 0, .notice, true⟩,  -- DRAM_CE (R402)
  ⟨0x285, 0x285, 3, .relinquish, false⟩,  -- DRAM_TRAIN_FAIL (R402)
  ⟨0x286, 0x286, 3, .relinquish, false⟩,  -- SRAM_UE_FOLD (R402)
  ⟨0x287, 0x287, 3, .relinquish, false⟩,  -- SRAM_UE_CAL (R402)
  ⟨0x288, 0x288, 1, .notice, false⟩,  -- SRAM_UE_PKT (R402)
  ⟨0x289, 0x289, 3, .relinquish, false⟩,  -- SRAM_UE_CORE (R402)
  ⟨0x28A, 0x28A, 2, .notice, false⟩,  -- SRAM_UE_SHARED (R402)
  ⟨0x28B, 0x28B, 0, .notice, true⟩,  -- SRAM_CE (R402)
  ⟨0x28C, 0x28C, 1, .notice, false⟩,  -- VD_BYPASS_REVOKED (R402)
  ⟨0x28D, 0x290, 3, .relinquish, false⟩,  -- CORE_WDOG (R402)
  ⟨0x2A0, 0x2A0, 1, .notice, true⟩,  -- SD_LOG_LOST (R423)
  ⟨0x2A1, 0x2A1, 2, .notice, false⟩,  -- FS_LATCHED (R423)
  ⟨0x2A2, 0x2A2, 1, .notice, false⟩,  -- CTR_CARRY_DROPPED (R423)
  ⟨0x2B0, 0x2B0, 1, .notice, false⟩,  -- SAG_VDDAUX (R53)
  ⟨0x2B1, 0x2B1, 1, .notice, false⟩   -- SAG_VBAT (R53)
]

/-- The row of a source, if some chapter assigns its number (R403). -/
def sourceRow? (n : Nat) : Option SourceRow :=
  (sourceRowsLow ++ sourceRowsHigh).find? fun r => r.lo ≤ n && n ≤ r.hi

/-- The 512 sources that are implemented (R403). -/
def implementedSource (n : Nat) : Bool := decide (0x040 ≤ n ∧ n ≤ 0x07F) || decide (0x100 ≤ n ∧ n ≤ 0x2BF)

/-- The reset value of SRC_CFG: ERRPIN 1, the table's reaction and severity (Table 17-1); zero for a number that no
chapter assigns (R403). -/
def srcCfgReset (n : Nat) : Int :=
  match sourceRow? n with
  | some r => ((0x100 + 16 * r.reaction.code + r.severity : Nat) : Int)
  | Option.none => 0

namespace Src

/-- Source 0x040 OD_PARITY (R376). -/
abbrev OD_PARITY : Nat := 0x040

/-- Source 0x041 CTL_PARITY (R376). -/
abbrev CTL_PARITY : Nat := 0x041

/-- Source 0x042 SL_PARITY (R96). -/
abbrev SL_PARITY : Nat := 0x042

/-- Source 0x043 TR_PARITY (R77). -/
abbrev TR_PARITY : Nat := 0x043

/-- Source 0x044 HD_PARITY (R131). -/
abbrev HD_PARITY : Nat := 0x044

/-- Source 0x045 SYN_PARITY (R202). -/
abbrev SYN_PARITY : Nat := 0x045

/-- Source 0x046 EV_PARITY (R202). -/
abbrev EV_PARITY : Nat := 0x046

/-- Source 0x047 GN_PARITY (R226). -/
abbrev GN_PARITY : Nat := 0x047

/-- Source 0x048 ETH_PARITY (R248). -/
abbrev ETH_PARITY : Nat := 0x048

/-- Source 0x049 FPB_PARITY (R248). -/
abbrev FPB_PARITY : Nat := 0x049

/-- Source 0x04A TS_PARITY (R154). -/
abbrev TS_PARITY : Nat := 0x04A

/-- Source 0x04B TEB_PARITY (R176). -/
abbrev TEB_PARITY : Nat := 0x04B

/-- Source 0x04C TPE_PARITY (R279). -/
abbrev TPE_PARITY : Nat := 0x04C

/-- Source 0x04D DRV_PARITY (R301). -/
abbrev DRV_PARITY : Nat := 0x04D

/-- Source 0x04E KS_PARITY (R328). -/
abbrev KS_PARITY : Nat := 0x04E

/-- Source 0x04F BW_PARITY (R355). -/
abbrev BW_PARITY : Nat := 0x04F

/-- Source 0x050 SD_PARITY (R423). -/
abbrev SD_PARITY : Nat := 0x050

/-- Source 0x051 CTR_PARITY (R423). -/
abbrev CTR_PARITY : Nat := 0x051

/-- Source 0x052 VD_PARITY (R402). -/
abbrev VD_PARITY : Nat := 0x052

/-- Source 0x053 HL_PARITY (R402). -/
abbrev HL_PARITY : Nat := 0x053

/-- Sources 0x100 to 0x12F TR_DLL_LOSS (R77). -/
abbrev TR_DLL_LOSS (i : Nat) : Nat := 0x100 + i

/-- Source 0x130 TR_CAL_FAIL (R77). -/
abbrev TR_CAL_FAIL : Nat := 0x130

/-- Source 0x131 TR_TABLE_STALE (R77). -/
abbrev TR_TABLE_STALE : Nat := 0x131

/-- Source 0x132 TR_RING_LOST (R77). -/
abbrev TR_RING_LOST : Nat := 0x132

/-- Sources 0x140 to 0x157 SLOT_LOS (R96). -/
abbrev SLOT_LOS (i : Nat) : Nat := 0x140 + i

/-- Sources 0x158 to 0x16F SLOT_DISQ (R96). -/
abbrev SLOT_DISQ (i : Nat) : Nat := 0x158 + i

/-- Source 0x170 SLOT_AMBIGUOUS (R96). -/
abbrev SLOT_AMBIGUOUS : Nat := 0x170

/-- Source 0x180 LOA_OUT (R131). -/
abbrev LOA_OUT : Nat := 0x180

/-- Source 0x181 LOB_OUT (R131). -/
abbrev LOB_OUT : Nat := 0x181

/-- Source 0x182 LO_BOTH_OUT (R131). -/
abbrev LO_BOTH_OUT : Nat := 0x182

/-- Source 0x183 HD_UPDATE_MISS (R131). -/
abbrev HD_UPDATE_MISS : Nat := 0x183

/-- Source 0x184 HD_RATE_LIMIT (R131). -/
abbrev HD_RATE_LIMIT : Nat := 0x184

/-- Source 0x185 HD_TUNE_LIMIT (R131). -/
abbrev HD_TUNE_LIMIT : Nat := 0x185

/-- Source 0x186 HD_SWL_TIMEOUT (R131). -/
abbrev HD_SWL_TIMEOUT : Nat := 0x186

/-- Source 0x187 HD_LO_REVERT (R131). -/
abbrev HD_LO_REVERT : Nat := 0x187

/-- Source 0x188 HD_FPATH_SWITCH (R131). -/
abbrev HD_FPATH_SWITCH : Nat := 0x188

/-- Source 0x189 HD_RING21_LOST (R131). -/
abbrev HD_RING21_LOST : Nat := 0x189

/-- Source 0x190 TS_STEP (R154). -/
abbrev TS_STEP : Nat := 0x190

/-- Source 0x191 TS_FROZEN (R154). -/
abbrev TS_FROZEN : Nat := 0x191

/-- Source 0x192 TS_LEAP (R154). -/
abbrev TS_LEAP : Nat := 0x192

/-- Source 0x193 TS_UTC_CONFLICT (R154). -/
abbrev TS_UTC_CONFLICT : Nat := 0x193

/-- Source 0x194 TL_SKIPPED (R154). -/
abbrev TL_SKIPPED : Nat := 0x194

/-- Source 0x195 SNAP_MISSED (R154). -/
abbrev SNAP_MISSED : Nat := 0x195

/-- Source 0x1A0 TEB_UNBOUNDED (R176). -/
abbrev TEB_UNBOUNDED : Nat := 0x1A0

/-- Source 0x1A1 TEB_OVER_HOLD (R176). -/
abbrev TEB_OVER_HOLD : Nat := 0x1A1

/-- Source 0x1A2 TEB_LOG_LOST (R176). -/
abbrev TEB_LOG_LOST : Nat := 0x1A2

/-- Source 0x1B0 APLLA_LOL (R202). -/
abbrev APLLA_LOL : Nat := 0x1B0

/-- Source 0x1B1 APLLB_LOL (R202). -/
abbrev APLLB_LOL : Nat := 0x1B1

/-- Sources 0x1B2 to 0x1B9 FOS_LOL (R202). -/
abbrev FOS_LOL (i : Nat) : Nat := 0x1B2 + i

/-- Source 0x1BA FOS_RELOCK (R202). -/
abbrev FOS_RELOCK : Nat := 0x1BA

/-- Sources 0x1C0 to 0x1CF OUT_LB_FAIL (R202). -/
abbrev OUT_LB_FAIL (i : Nat) : Nat := 0x1C0 + i

/-- Sources 0x1D0 to 0x1DF EVT_LB_FAIL (R202). -/
abbrev EVT_LB_FAIL (i : Nat) : Nat := 0x1D0 + i

/-- Source 0x1E0 EVT_UNDERRUN (R202). -/
abbrev EVT_UNDERRUN : Nat := 0x1E0

/-- Source 0x1E1 EVT_LATE_DROP (R202). -/
abbrev EVT_LATE_DROP : Nat := 0x1E1

/-- Source 0x1E2 EVT_CAL_FAIL (R202). -/
abbrev EVT_CAL_FAIL : Nat := 0x1E2

/-- Sources 0x200 to 0x203 GN_STREAM_LOSS (R226). -/
abbrev GN_STREAM_LOSS (i : Nat) : Nat := 0x200 + i

/-- Sources 0x204 to 0x205 GN_RX_LOSS (R226). -/
abbrev GN_RX_LOSS (i : Nat) : Nat := 0x204 + i

/-- Sources 0x206 to 0x207 GN_TRAIM_FAIL (R226). -/
abbrev GN_TRAIM_FAIL (i : Nat) : Nat := 0x206 + i

/-- Source 0x208 GN_RING19_LOST (R226). -/
abbrev GN_RING19_LOST : Nat := 0x208

/-- Source 0x209 GN_ALM_STALE (R226). -/
abbrev GN_ALM_STALE : Nat := 0x209

/-- Sources 0x210 to 0x217 PORT_DOWN (R248). -/
abbrev PORT_DOWN (i : Nat) : Nat := 0x210 + i

/-- Sources 0x218 to 0x21F PORT_DESKEW_FAIL (R248). -/
abbrev PORT_DESKEW_FAIL (i : Nat) : Nat := 0x218 + i

/-- Source 0x220 PORT_RX_OVERFLOW (R248). -/
abbrev PORT_RX_OVERFLOW : Nat := 0x220

/-- Source 0x221 PORT_LATE_DISCARD (R248). -/
abbrev PORT_LATE_DISCARD : Nat := 0x221

/-- Sources 0x222 to 0x223 FP_EXCESS_COLL (R248). -/
abbrev FP_EXCESS_COLL (i : Nat) : Nat := 0x222 + i

/-- Sources 0x224 to 0x225 FP_LINK_DOWN (R248). -/
abbrev FP_LINK_DOWN (i : Nat) : Nat := 0x224 + i

/-- Source 0x230 TPE_FOLD_FULL (R279). -/
abbrev TPE_FOLD_FULL : Nat := 0x230

/-- Source 0x231 TPE_LATE (R279). -/
abbrev TPE_LATE : Nat := 0x231

/-- Source 0x232 TPE_AUTH_FAIL (R279). -/
abbrev TPE_AUTH_FAIL : Nat := 0x232

/-- Source 0x233 TPE_MALFORMED (R279). -/
abbrev TPE_MALFORMED : Nat := 0x233

/-- Source 0x234 TPE_KEY_FAIL (R279). -/
abbrev TPE_KEY_FAIL : Nat := 0x234

/-- Source 0x235 TPE_SEQ_HOLD (R279). -/
abbrev TPE_SEQ_HOLD : Nat := 0x235

/-- Sources 0x236 to 0x239 SES_TIMEOUT (R279). -/
abbrev SES_TIMEOUT (i : Nat) : Nat := 0x236 + i

/-- Source 0x240 DRV_POLICED (R301). -/
abbrev DRV_POLICED : Nat := 0x240

/-- Source 0x241 DRV_PACE_SKIP (R301). -/
abbrev DRV_PACE_SKIP : Nat := 0x241

/-- Source 0x242 DRV_QUOTA (R301). -/
abbrev DRV_QUOTA : Nat := 0x242

/-- Source 0x243 DRV_GATE_OVERRUN (R301). -/
abbrev DRV_GATE_OVERRUN : Nat := 0x243

/-- Sources 0x250 to 0x258 TAMPER (R328). -/
abbrev TAMPER (i : Nat) : Nat := 0x250 + i

/-- Source 0x259 KS_LANE_FAIL (R328). -/
abbrev KS_LANE_FAIL : Nat := 0x259

/-- Source 0x25A KS_TRNG_FAIL (R328). -/
abbrev KS_TRNG_FAIL : Nat := 0x25A

/-- Source 0x25B KS_PUF_MARGIN (R328). -/
abbrev KS_PUF_MARGIN : Nat := 0x25B

/-- Source 0x25C KS_PUF_FAIL (R328). -/
abbrev KS_PUF_FAIL : Nat := 0x25C

/-- Source 0x25D KS_ORPHAN (R328). -/
abbrev KS_ORPHAN : Nat := 0x25D

/-- Source 0x25E KS_FW_REJECT (R328). -/
abbrev KS_FW_REJECT : Nat := 0x25E

/-- Source 0x260 BW_SPLIT (R355). -/
abbrev BW_SPLIT : Nat := 0x260

/-- Source 0x261 BW_CW_DARK (R355). -/
abbrev BW_CW_DARK : Nat := 0x261

/-- Sources 0x262 to 0x263 BW_LANE_DOWN (R355). -/
abbrev BW_LANE_DOWN (i : Nat) : Nat := 0x262 + i

/-- Source 0x264 BW_LEASE_LINE (R355). -/
abbrev BW_LEASE_LINE : Nat := 0x264

/-- Source 0x265 BW_NOT_READY (R355). -/
abbrev BW_NOT_READY : Nat := 0x265

/-- Source 0x266 BW_SOLO (R355). -/
abbrev BW_SOLO : Nat := 0x266

/-- Source 0x267 BW_TAKEOVER (R355). -/
abbrev BW_TAKEOVER : Nat := 0x267

/-- Source 0x268 BW_SUPERSEDED (R355). -/
abbrev BW_SUPERSEDED : Nat := 0x268

/-- Source 0x269 BW_ID_MISMATCH (R355). -/
abbrev BW_ID_MISMATCH : Nat := 0x269

/-- Source 0x26A BW_KEYGEN_MISMATCH (R355). -/
abbrev BW_KEYGEN_MISMATCH : Nat := 0x26A

/-- Source 0x26B BW_AUTH_FAIL (R355). -/
abbrev BW_AUTH_FAIL : Nat := 0x26B

/-- Source 0x26C BW_JOURNAL_GAP (R355). -/
abbrev BW_JOURNAL_GAP : Nat := 0x26C

/-- Source 0x270 OD_TAG_FAIL (R376). -/
abbrev OD_TAG_FAIL : Nat := 0x270

/-- Source 0x271 OD_REPLAY (R376). -/
abbrev OD_REPLAY : Nat := 0x271

/-- Source 0x272 OD_SHADOW_FAIL (R376). -/
abbrev OD_SHADOW_FAIL : Nat := 0x272

/-- Source 0x280 HL_LINK_LOST (R402). -/
abbrev HL_LINK_LOST : Nat := 0x280

/-- Source 0x281 HL_DMA_ERROR (R402). -/
abbrev HL_DMA_ERROR : Nat := 0x281

/-- Source 0x282 HL_OWN_GAP (R402). -/
abbrev HL_OWN_GAP : Nat := 0x282

/-- Source 0x283 DRAM_UE (R402). -/
abbrev DRAM_UE : Nat := 0x283

/-- Source 0x284 DRAM_CE (R402). -/
abbrev DRAM_CE : Nat := 0x284

/-- Source 0x285 DRAM_TRAIN_FAIL (R402). -/
abbrev DRAM_TRAIN_FAIL : Nat := 0x285

/-- Source 0x286 SRAM_UE_FOLD (R402). -/
abbrev SRAM_UE_FOLD : Nat := 0x286

/-- Source 0x287 SRAM_UE_CAL (R402). -/
abbrev SRAM_UE_CAL : Nat := 0x287

/-- Source 0x288 SRAM_UE_PKT (R402). -/
abbrev SRAM_UE_PKT : Nat := 0x288

/-- Source 0x289 SRAM_UE_CORE (R402). -/
abbrev SRAM_UE_CORE : Nat := 0x289

/-- Source 0x28A SRAM_UE_SHARED (R402). -/
abbrev SRAM_UE_SHARED : Nat := 0x28A

/-- Source 0x28B SRAM_CE (R402). -/
abbrev SRAM_CE : Nat := 0x28B

/-- Source 0x28C VD_BYPASS_REVOKED (R402). -/
abbrev VD_BYPASS_REVOKED : Nat := 0x28C

/-- Sources 0x28D to 0x290 CORE_WDOG (R402). -/
abbrev CORE_WDOG (i : Nat) : Nat := 0x28D + i

/-- Source 0x2A0 SD_LOG_LOST (R423). -/
abbrev SD_LOG_LOST : Nat := 0x2A0

/-- Source 0x2A1 FS_LATCHED (R423). -/
abbrev FS_LATCHED : Nat := 0x2A1

/-- Source 0x2A2 CTR_CARRY_DROPPED (R423). -/
abbrev CTR_CARRY_DROPPED : Nat := 0x2A2

/-- Source 0x2B0 SAG_VDDAUX (R53). -/
abbrev SAG_VDDAUX : Nat := 0x2B0

/-- Source 0x2B1 SAG_VBAT (R53). -/
abbrev SAG_VBAT : Nat := 0x2B1

end Src

end Sys2Proof.Machine
end

