-- ==== Sys2Proof/Machine/Objects.lean ====
section
/-! DEFINITION. The object dictionary's scalar registers: one name per object of the chapters' tables, with its place
in the dictionary and its reset value. A TIME80 is held as its count of nanoseconds and a TIME112 as its count of
2^-32 ns, so that every value held is a valid one (R5). -/

namespace Sys2Proof.Machine

/-- A scalar register: where the dictionary keeps it, and what it reads at reset. -/
structure Reg where
  key : Nat
  reset : Int
  deriving DecidableEq, Repr

/-- The key of object `index.sub`. -/
def regKey (index sub : Nat) : Nat := index * 256 + sub

/-- The key of an object that is kept separately for each link (FP0 0, FP1 1, PCIe 2; R192, R312). -/
def linkKey (link key : Nat) : Nat := link * 2 ^ 24 + key

namespace Obj

/-- `1000.01 OD_ENABLE` (R375). -/
def OD_ENABLE : Reg := ⟨regKey 0x1000 1, 1⟩

/-- `1000.02 OD_STATUS` (R375). -/
def OD_STATUS : Reg := ⟨regKey 0x1000 2, 0⟩

/-- `1000.03 OD_LAST_IGNORED` (R375). -/
def OD_LAST_IGNORED : Reg := ⟨regKey 0x1000 3, 0⟩

/-- `1010.01 ID_VENDOR` (R375). -/
def ID_VENDOR : Reg := ⟨regKey 0x1010 1, 0⟩

/-- `1010.02 ID_PRODUCT` (R375). -/
def ID_PRODUCT : Reg := ⟨regKey 0x1010 2, 0⟩

/-- `1010.03 ID_STEPPING` (R375). -/
def ID_STEPPING : Reg := ⟨regKey 0x1010 3, 176⟩

/-- `1010.04 ID_SERIAL` (R375). -/
def ID_SERIAL : Reg := ⟨regKey 0x1010 4, 0⟩

/-- `1010.05 ID_EUI64` (R375). -/
def ID_EUI64 : Reg := ⟨regKey 0x1010 5, Config.idEui64⟩

/-- `1010.06 ID_MAC_BASE` (R375). -/
def ID_MAC_BASE : Reg := ⟨regKey 0x1010 6, Config.idMacBase⟩

/-- `1010.07 ID_DICT_VER` (R375). -/
def ID_DICT_VER : Reg := ⟨regKey 0x1010 7, 65536⟩

/-- `1030.01 BAR0_ROLE` (R375). -/
def BAR0_ROLE : Reg := ⟨regKey 0x1030 1, 1⟩

/-- `1040.01 ID_PUBKEY` (dictionary). -/
def ID_PUBKEY : Reg := ⟨regKey 0x1040 1, 0⟩

/-- `1040.02 ID_CSR_SUBJECT` (dictionary). -/
def ID_CSR_SUBJECT : Reg := ⟨regKey 0x1040 2, 0⟩

/-- `1040.03 ID_CSR` (dictionary). -/
def ID_CSR : Reg := ⟨regKey 0x1040 3, 0⟩

/-- `1040.04 ID_CERT` (dictionary). -/
def ID_CERT : Reg := ⟨regKey 0x1040 4, 0⟩

/-- `1040.05 ID_CHALLENGE` (dictionary). -/
def ID_CHALLENGE : Reg := ⟨regKey 0x1040 5, 0⟩

/-- `1040.06 ID_ATTEST` (dictionary). -/
def ID_ATTEST : Reg := ⟨regKey 0x1040 6, 0⟩

/-- `1040.07 KS_BOOT_NONCE` (dictionary). -/
def KS_BOOT_NONCE : Reg := ⟨regKey 0x1040 7, 0⟩

/-- `1050.01 PROV_EPHEM` (dictionary). -/
def PROV_EPHEM : Reg := ⟨regKey 0x1050 1, 0⟩

/-- `1050.02 PROV_WRAPPED` (dictionary). -/
def PROV_WRAPPED : Reg := ⟨regKey 0x1050 2, 0⟩

/-- `1050.03 PROV_CMD` (dictionary). -/
def PROV_CMD : Reg := ⟨regKey 0x1050 3, 0⟩

/-- `1050.04 PROV_RESULT` (dictionary). -/
def PROV_RESULT : Reg := ⟨regKey 0x1050 4, 255⟩

/-- `1100.01 MODE_CURRENT` (R30). -/
def MODE_CURRENT : Reg := ⟨regKey 0x1100 1, 1⟩

/-- `1100.02 MODE_PREVIOUS` (R30). -/
def MODE_PREVIOUS : Reg := ⟨regKey 0x1100 2, 0⟩

/-- `1100.03 MODE_REASON` (R30). -/
def MODE_REASON : Reg := ⟨regKey 0x1100 3, 1⟩

/-- `1100.04 MODE_SINCE` (R30). -/
def MODE_SINCE : Reg := ⟨regKey 0x1100 4, 0⟩

/-- `1100.06 MODE_LOCK_DWELL` (R30). -/
def MODE_LOCK_DWELL : Reg := ⟨regKey 0x1100 6, 16⟩

/-- `1100.07 MODE_CLASS_MIN` (R30). -/
def MODE_CLASS_MIN : Reg := ⟨regKey 0x1100 7, 2⟩

/-- `1120.01 SVC_OUT_MODES` (R30). -/
def SVC_OUT_MODES : Reg := ⟨regKey 0x1120 1, 224⟩

/-- `1120.02 SVC_PKT_MODES` (R30). -/
def SVC_PKT_MODES : Reg := ⟨regKey 0x1120 2, 224⟩

/-- `1210.nn SUB_LIST` (R375). -/
def SUB_LIST (i : Nat) : Reg := ⟨regKey 0x1210 (i + 1), 0⟩

/-- `1300.01 SAG_STATUS` (dictionary). -/
def SAG_STATUS : Reg := ⟨regKey 0x1300 1, 0⟩

/-- `1E00.nn LOCK` (dictionary). -/
def LOCK (i : Nat) : Reg := ⟨regKey 0x1E00 (i + 1), 0⟩

/-- `1F00.01 SNAP_NOW` (dictionary). -/
def SNAP_NOW : Reg := ⟨regKey 0x1F00 1, 0⟩

/-- `1F00.02 SNAP_AT` (dictionary). -/
def SNAP_AT : Reg := ⟨regKey 0x1F00 2, 0⟩

/-- `1F00.03 SNAP_EVERY` (dictionary). -/
def SNAP_EVERY : Reg := ⟨regKey 0x1F00 3, 0⟩

/-- `1F00.04 SNAP_TAKEN` (dictionary). -/
def SNAP_TAKEN : Reg := ⟨regKey 0x1F00 4, 0⟩

/-- `1F00.05 SNAP_SEQ` (dictionary). -/
def SNAP_SEQ : Reg := ⟨regKey 0x1F00 5, 0⟩

/-- `1F00.06 SNAP_STATUS` (R153). -/
def SNAP_STATUS : Reg := ⟨regKey 0x1F00 6, 0⟩

/-- `1F10.01 SOFT_RESET` (dictionary). -/
def SOFT_RESET : Reg := ⟨regKey 0x1F10 1, 0⟩

/-- `1F10.02 BLOCK_RESET` (dictionary). -/
def BLOCK_RESET : Reg := ⟨regKey 0x1F10 2, 0⟩

/-- `2000.01 SL_ENABLE` (R95). -/
def SL_ENABLE : Reg := ⟨regKey 0x2000 1, 1⟩

/-- `2000.02 SL_STATUS` (R95). -/
def SL_STATUS : Reg := ⟨regKey 0x2000 2, 0⟩

/-- `2000.03 SL_LAST_IGNORED` (R95). -/
def SL_LAST_IGNORED : Reg := ⟨regKey 0x2000 3, 0⟩

/-- `2010.nn SLOT_EN` (R95). -/
def SLOT_EN (i : Nat) : Reg := ⟨regKey 0x2010 (i + 1), 0⟩

/-- `2020.nn SLOT_CFG` (R95). -/
def SLOT_CFG (i : Nat) : Reg := ⟨regKey 0x2020 (i + 1), if i = 23 then 0x410000 else 0x10000⟩

/-- `2022.nn SLOT_NOMFREQ` (R95). -/
def SLOT_NOMFREQ (i : Nat) : Reg := ⟨regKey 0x2022 (i + 1), 10000000000000⟩

/-- `2030.nn SLOT_RANK` (R95). -/
def SLOT_RANK (i : Nat) : Reg := ⟨regKey 0x2030 (i + 1), 8⟩

/-- `2032.nn SLOT_QL_HOST` (R95). -/
def SLOT_QL_HOST (i : Nat) : Reg := ⟨regKey 0x2032 (i + 1), 15⟩

/-- `2034.nn SLOT_UNC` (R95). -/
def SLOT_UNC (i : Nat) : Reg := ⟨regKey 0x2034 (i + 1), 25600⟩

/-- `2040.nn SLOT_QUAL_TIME` (R95). -/
def SLOT_QUAL_TIME (i : Nat) : Reg := ⟨regKey 0x2040 (i + 1), 60⟩

/-- `2042.nn SLOT_GLITCH_WIN` (R95). -/
def SLOT_GLITCH_WIN (i : Nat) : Reg := ⟨regKey 0x2042 (i + 1), 100⟩

/-- `2044.nn SLOT_FREQ_TOL` (R95). -/
def SLOT_FREQ_TOL (i : Nat) : Reg := ⟨regKey 0x2044 (i + 1), 1000000⟩

/-- `2046.nn SLOT_PHASE_TOL` (R95). -/
def SLOT_PHASE_TOL (i : Nat) : Reg := ⟨regKey 0x2046 (i + 1), 1000⟩

/-- `2048.nn SLOT_SUSP_HOLD` (R95). -/
def SLOT_SUSP_HOLD (i : Nat) : Reg := ⟨regKey 0x2048 (i + 1), 1000⟩

/-- `204A.nn SLOT_DISQ_HOLD` (R95). -/
def SLOT_DISQ_HOLD (i : Nat) : Reg := ⟨regKey 0x204A (i + 1), 60⟩

/-- `204C.nn SLOT_GLITCH_MAX` (R95). -/
def SLOT_GLITCH_MAX (i : Nat) : Reg := ⟨regKey 0x204C (i + 1), 4⟩

/-- `2050.nn SLOT_STATE` (R95). -/
def SLOT_STATE (i : Nat) : Reg := ⟨regKey 0x2050 (i + 1), 0⟩

/-- `2052.nn SLOT_CLASS` (R95). -/
def SLOT_CLASS (i : Nat) : Reg := ⟨regKey 0x2052 (i + 1), 15⟩

/-- `2054.nn SLOT_QL_RAW` (R95). -/
def SLOT_QL_RAW (i : Nat) : Reg := ⟨regKey 0x2054 (i + 1), 0⟩

/-- `2056.nn SLOT_UNC_RX` (R95). -/
def SLOT_UNC_RX (i : Nat) : Reg := ⟨regKey 0x2056 (i + 1), 4294967295⟩

/-- `2058.nn SLOT_QUAL_LEFT` (R95). -/
def SLOT_QUAL_LEFT (i : Nat) : Reg := ⟨regKey 0x2058 (i + 1), 0⟩

/-- `2060.nn SLOT_CMD` (R95). -/
def SLOT_CMD (i : Nat) : Reg := ⟨regKey 0x2060 (i + 1), 0⟩

/-- `2070.nn SLOT_TOD_DISCARD` (R95). -/
def SLOT_TOD_DISCARD (i : Nat) : Reg := ⟨regKey 0x2070 (i + 1), 0⟩

/-- `2100.01 QMAP_PTP` (R95). -/
def QMAP_PTP : Reg := ⟨regKey 0x2100 1, 0⟩

/-- `2100.02 QMAP_TOD` (R95). -/
def QMAP_TOD : Reg := ⟨regKey 0x2100 2, 0⟩

/-- `2100.03 QMAP_SSM1` (R95). -/
def QMAP_SSM1 : Reg := ⟨regKey 0x2100 3, 0⟩

/-- `2100.04 QMAP_SSM2` (R95). -/
def QMAP_SSM2 : Reg := ⟨regKey 0x2100 4, 0⟩

/-- `2110.01 ESMC_TIMEOUT` (R95). -/
def ESMC_TIMEOUT : Reg := ⟨regKey 0x2110 1, 5⟩

/-- `3000.01 TR_ENABLE` (R65). -/
def TR_ENABLE : Reg := ⟨regKey 0x3000 1, 1⟩

/-- `3000.02 TR_STATUS` (R65). -/
def TR_STATUS : Reg := ⟨regKey 0x3000 2, 0⟩

/-- `3000.03 TR_LAST_IGNORED` (R65). -/
def TR_LAST_IGNORED : Reg := ⟨regKey 0x3000 3, 0⟩

/-- `3000.04 TR_RING_FLUSH` (R65). -/
def TR_RING_FLUSH : Reg := ⟨regKey 0x3000 4, 100⟩

/-- `3000.05 TR_DRIFT_MAX` (R65). -/
def TR_DRIFT_MAX : Reg := ⟨regKey 0x3000 5, 1000⟩

/-- `3000.06 TR_RING_LOST` (R65). -/
def TR_RING_LOST : Reg := ⟨regKey 0x3000 6, 0⟩

/-- `3010.nn CH_EN` (R65). -/
def CH_EN (i : Nat) : Reg := ⟨regKey 0x3010 (i + 1), if i < 12 ∨ 44 ≤ i then 1 else 0⟩

/-- `3020.nn CH_CFG` (R65). -/
def CH_CFG (i : Nat) : Reg := ⟨regKey 0x3020 (i + 1), 65536⟩

/-- `3030.nn CH_OFFSET` (R65). -/
def CH_OFFSET (i : Nat) : Reg := ⟨regKey 0x3030 (i + 1), 0⟩

/-- `3040.nn CH_DROP` (R65). -/
def CH_DROP (i : Nat) : Reg := ⟨regKey 0x3040 (i + 1), 0⟩

/-- `3050.nn CH_STATE` (R65). -/
def CH_STATE (i : Nat) : Reg := ⟨regKey 0x3050 (i + 1), 0⟩

/-- `3060.nn CH_RECAL` (R65). -/
def CH_RECAL (i : Nat) : Reg := ⟨regKey 0x3060 (i + 1), 0⟩

/-- `3070.nn CH_DRIFT` (R65). -/
def CH_DRIFT (i : Nat) : Reg := ⟨regKey 0x3070 (i + 1), 0⟩

/-- `3080.nn CH_CAL_AT` (R65). -/
def CH_CAL_AT (i : Nat) : Reg := ⟨regKey 0x3080 (i + 1), 0⟩

/-- `3090.nn CH_TABGEN` (R65). -/
def CH_TABGEN (i : Nat) : Reg := ⟨regKey 0x3090 (i + 1), 0⟩

/-- `3100.nn PAIR_EN` (R65). -/
def PAIR_EN (i : Nat) : Reg := ⟨regKey 0x3100 (i + 1), 0⟩

/-- `3110.nn PAIR_CFG` (R65). -/
def PAIR_CFG (i : Nat) : Reg := ⟨regKey 0x3110 (i + 1), 3084⟩

/-- `3120.nn PAIR_TIMEOUT` (R65). -/
def PAIR_TIMEOUT (i : Nat) : Reg := ⟨regKey 0x3120 (i + 1), 1000000⟩

/-- `3130.nn PAIR_LAST` (R65). -/
def PAIR_LAST (i : Nat) : Reg := ⟨regKey 0x3130 (i + 1), 0⟩

/-- `3300.nn CH_BWT` (R65). -/
def CH_BWT (i : Nat) : Reg := ⟨regKey 0x3300 (i + 1), 0⟩

/-- `3310.nn CH_HIST` (R65). -/
def CH_HIST (i : Nat) : Reg := ⟨regKey 0x3310 (i + 1), 0⟩

/-- `4000.01 HD_ENABLE` (R129). -/
def HD_ENABLE : Reg := ⟨regKey 0x4000 1, 1⟩

/-- `4000.02 HD_STATUS` (R129). -/
def HD_STATUS : Reg := ⟨regKey 0x4000 2, 0⟩

/-- `4000.03 HD_LAST_IGNORED` (R129). -/
def HD_LAST_IGNORED : Reg := ⟨regKey 0x4000 3, 0⟩

/-- `4000.04 HD_UPDATE` (R129). -/
def HD_UPDATE : Reg := ⟨regKey 0x4000 4, 0⟩

/-- `4000.05 HD_WEIGHT_TAU` (R129). -/
def HD_WEIGHT_TAU : Reg := ⟨regKey 0x4000 5, 256⟩

/-- `4000.06 HD_WMAX` (R129). -/
def HD_WMAX : Reg := ⟨regKey 0x4000 6, 8388608⟩

/-- `4000.07 HD_RES_TAU` (R129). -/
def HD_RES_TAU : Reg := ⟨regKey 0x4000 7, 16⟩

/-- `4000.08 HD_DET_WIN` (R129). -/
def HD_DET_WIN : Reg := ⟨regKey 0x4000 8, 16⟩

/-- `4000.09 HD_AGREE_FREQ` (R129). -/
def HD_AGREE_FREQ : Reg := ⟨regKey 0x4000 9, 100000⟩

/-- `4000.0A HD_FASSIST_EN` (R129). -/
def HD_FASSIST_EN : Reg := ⟨regKey 0x4000 10, 1⟩

/-- `4000.0B HD_LOOP_MODE` (R129). -/
def HD_LOOP_MODE : Reg := ⟨regKey 0x4000 11, 0⟩

/-- `4000.0C HD_RING21_EN` (R129). -/
def HD_RING21_EN : Reg := ⟨regKey 0x4000 12, 0⟩

/-- `4010.nn HD_PROFILE` (R129). -/
def HD_PROFILE (i : Nat) : Reg := ⟨regKey 0x4010 (i + 1), 0⟩

/-- `4012.nn HD_CUSTOM` (R129). -/
def HD_CUSTOM (i : Nat) : Reg := ⟨regKey 0x4012 (i + 1), 0⟩

/-- `4014.nn HD_RES_PTOL` (R129). -/
def HD_RES_PTOL (i : Nat) : Reg := ⟨regKey 0x4014 (i + 1), 100⟩

/-- `4016.nn HD_RES_FTOL` (R129). -/
def HD_RES_FTOL (i : Nat) : Reg := ⟨regKey 0x4016 (i + 1), 10000⟩

/-- `4020.nn HD_W_TIME` (R129). -/
def HD_W_TIME (i : Nat) : Reg := ⟨regKey 0x4020 (i + 1), 0⟩

/-- `4022.nn HD_W_FREQ` (R129). -/
def HD_W_FREQ (i : Nat) : Reg := ⟨regKey 0x4022 (i + 1), 0⟩

/-- `4024.nn HD_PHASE` (R129). -/
def HD_PHASE (i : Nat) : Reg := ⟨regKey 0x4024 (i + 1), 0⟩

/-- `4026.nn HD_FREQ` (R129). -/
def HD_FREQ (i : Nat) : Reg := ⟨regKey 0x4026 (i + 1), 0⟩

/-- `4028.nn HD_SIGMA` (R129). -/
def HD_SIGMA (i : Nat) : Reg := ⟨regKey 0x4028 (i + 1), 4294967295⟩

/-- `402A.nn HD_RESID` (R129). -/
def HD_RESID (i : Nat) : Reg := ⟨regKey 0x402A (i + 1), 0⟩

/-- `402C.nn HD_DRIFT_EFFECT` (R129). -/
def HD_DRIFT_EFFECT (i : Nat) : Reg := ⟨regKey 0x402C (i + 1), 0⟩

/-- `4030.01 HD_ENS_PHASE` (R129). -/
def HD_ENS_PHASE : Reg := ⟨regKey 0x4030 1, 0⟩

/-- `4030.02 HD_ENS_FREQ` (R129). -/
def HD_ENS_FREQ : Reg := ⟨regKey 0x4030 2, 0⟩

/-- `4030.03 HD_ENS_DRIFT` (R129). -/
def HD_ENS_DRIFT : Reg := ⟨regKey 0x4030 3, 0⟩

/-- `4030.04 HD_ENS_SIGMA` (R129). -/
def HD_ENS_SIGMA : Reg := ⟨regKey 0x4030 4, 4294967295⟩

/-- `4100.01 LO_SEL` (R129). -/
def LO_SEL : Reg := ⟨regKey 0x4100 1, 0⟩

/-- `4100.02 LOA_KIND` (R129). -/
def LOA_KIND : Reg := ⟨regKey 0x4100 2, 0⟩

/-- `4100.03 LO_STATE` (R129). -/
def LO_STATE : Reg := ⟨regKey 0x4100 3, 0⟩

/-- `4100.04 LO_REVERT` (R129). -/
def LO_REVERT : Reg := ⟨regKey 0x4100 4, 1⟩

/-- `4100.05 LO_REVERT_HOLD` (R129). -/
def LO_REVERT_HOLD : Reg := ⟨regKey 0x4100 5, 3600⟩

/-- `4110.01 LOA_TUNE_EN` (R129). -/
def LOA_TUNE_EN : Reg := ⟨regKey 0x4110 1, 0⟩

/-- `4110.02 LOA_TUNE_GAIN` (R129). -/
def LOA_TUNE_GAIN : Reg := ⟨regKey 0x4110 2, 1000⟩

/-- `4110.03 LOA_TUNE_WORD` (R129). -/
def LOA_TUNE_WORD : Reg := ⟨regKey 0x4110 3, 0⟩

/-- `4110.04 LOA_TUNE_INIT` (R129). -/
def LOA_TUNE_INIT : Reg := ⟨regKey 0x4110 4, 0⟩

/-- `4110.05 LOA_TUNE_MIN` (R129). -/
def LOA_TUNE_MIN : Reg := ⟨regKey 0x4110 5, -8388608⟩

/-- `4110.06 LOA_TUNE_MAX` (R129). -/
def LOA_TUNE_MAX : Reg := ⟨regKey 0x4110 6, 8388607⟩

/-- `4110.07 LOA_TUNE_INTERVAL` (R129). -/
def LOA_TUNE_INTERVAL : Reg := ⟨regKey 0x4110 7, 1000⟩

/-- `4110.08 LOA_TUNE_STEP_MAX` (R129). -/
def LOA_TUNE_STEP_MAX : Reg := ⟨regKey 0x4110 8, 64⟩

/-- `4110.09 LOA_TUNE_FRAC` (R129). -/
def LOA_TUNE_FRAC : Reg := ⟨regKey 0x4110 9, 128⟩

/-- `4110.0A LOA_TUNE_SETTLE` (R129). -/
def LOA_TUNE_SETTLE : Reg := ⟨regKey 0x4110 10, 1000⟩

/-- `4110.0B LOA_GAIN_TOL` (R129). -/
def LOA_GAIN_TOL : Reg := ⟨regKey 0x4110 11, 100⟩

/-- `4200.01 SV_KP` (R129). -/
def SV_KP : Reg := ⟨regKey 0x4200 1, 2108287⟩

/-- `4200.02 SV_KI` (R129). -/
def SV_KI : Reg := ⟨regKey 0x4200 2, 16558⟩

/-- `4200.03 SV_KP_STBY` (R129). -/
def SV_KP_STBY : Reg := ⟨regKey 0x4200 3, 21082871⟩

/-- `4200.04 SV_KI_STBY` (R129). -/
def SV_KI_STBY : Reg := ⟨regKey 0x4200 4, 1655845⟩

/-- `4200.05 SV_FF_EN` (R129). -/
def SV_FF_EN : Reg := ⟨regKey 0x4200 5, 1⟩

/-- `4200.06 SV_FSTEP_MAX` (R129). -/
def SV_FSTEP_MAX : Reg := ⟨regKey 0x4200 6, 10000⟩

/-- `4200.07 SV_RATE_MAX` (R129). -/
def SV_RATE_MAX : Reg := ⟨regKey 0x4200 7, 10000⟩

/-- `4200.08 SV_RATE` (R129). -/
def SV_RATE : Reg := ⟨regKey 0x4200 8, 0⟩

/-- `4200.09 SV_INTEG` (R129). -/
def SV_INTEG : Reg := ⟨regKey 0x4200 9, 0⟩

/-- `4300.01 SWL_RATE` (R129). -/
def SWL_RATE : Reg := ⟨regKey 0x4300 1, 0⟩

/-- `4300.02 SWL_TAG` (R129). -/
def SWL_TAG : Reg := ⟨regKey 0x4300 2, 0⟩

/-- `4300.03 SWL_TIMEOUT` (R129). -/
def SWL_TIMEOUT : Reg := ⟨regKey 0x4300 3, 1000⟩

/-- `4300.04 HD_RING21_LOST` (R129). -/
def HD_RING21_LOST : Reg := ⟨regKey 0x4300 4, 0⟩

/-- `4400.01 FP_MODE` (R129). -/
def FP_MODE : Reg := ⟨regKey 0x4400 1, 0⟩

/-- `4400.02 FP_SOURCE` (R129). -/
def FP_SOURCE : Reg := ⟨regKey 0x4400 2, 24⟩

/-- `4400.03 FP_TAU` (R129). -/
def FP_TAU : Reg := ⟨regKey 0x4400 3, 10⟩

/-- `4400.04 FP_SLOPE` (R129). -/
def FP_SLOPE : Reg := ⟨regKey 0x4400 4, 1000⟩

/-- `4400.05 FP_HOLD` (R129). -/
def FP_HOLD : Reg := ⟨regKey 0x4400 5, 10⟩

/-- `4400.06 FP_WORD` (R129). -/
def FP_WORD : Reg := ⟨regKey 0x4400 6, 0⟩

/-- `4400.07 FP_BUILDOUT` (R129). -/
def FP_BUILDOUT : Reg := ⟨regKey 0x4400 7, 0⟩

/-- `4A00.01 TS_ENABLE` (R153). -/
def TS_ENABLE : Reg := ⟨regKey 0x4A00 1, 1⟩

/-- `4A00.02 TS_STATUS` (R153). -/
def TS_STATUS : Reg := ⟨regKey 0x4A00 2, 0⟩

/-- `4A00.03 TS_LAST_IGNORED` (R153). -/
def TS_LAST_IGNORED : Reg := ⟨regKey 0x4A00 3, 0⟩

/-- `4A10.01 TS_NOW` (R153). -/
def TS_NOW : Reg := ⟨regKey 0x4A10 1, 0⟩

/-- `4A10.02 TS_RATE_TOTAL` (R153). -/
def TS_RATE_TOTAL : Reg := ⟨regKey 0x4A10 2, 0⟩

/-- `4A10.03 TS_SLEW_MAX` (R153). -/
def TS_SLEW_MAX : Reg := ⟨regKey 0x4A10 3, 1000⟩

/-- `4A10.04 TS_SLEW_PEND` (R153). -/
def TS_SLEW_PEND : Reg := ⟨regKey 0x4A10 4, 0⟩

/-- `4A10.05 TS_VALID` (R153). -/
def TS_VALID : Reg := ⟨regKey 0x4A10 5, 0⟩

/-- `4A12.01 TS_SET_VAL` (R153). -/
def TS_SET_VAL : Reg := ⟨regKey 0x4A12 1, 0⟩

/-- `4A12.02 TS_SET_AT` (R153). -/
def TS_SET_AT : Reg := ⟨regKey 0x4A12 2, 0⟩

/-- `4A12.03 TS_SET_UNC` (R153). -/
def TS_SET_UNC : Reg := ⟨regKey 0x4A12 3, 4294967295⟩

/-- `4A12.04 TS_SET_CMD` (R153). -/
def TS_SET_CMD : Reg := ⟨regKey 0x4A12 4, 0⟩

/-- `4A14.01 TS_STEP_ALLOWED` (R153). -/
def TS_STEP_ALLOWED : Reg := ⟨regKey 0x4A14 1, 0⟩

/-- `4A14.02 TS_STEP_MIN` (R153). -/
def TS_STEP_MIN : Reg := ⟨regKey 0x4A14 2, 1000⟩

/-- `4A14.03 TS_STEP_GEN` (R153). -/
def TS_STEP_GEN : Reg := ⟨regKey 0x4A14 3, 0⟩

/-- `4A14.04 TS_STEP_FROM` (R153). -/
def TS_STEP_FROM : Reg := ⟨regKey 0x4A14 4, 0⟩

/-- `4A14.05 TS_STEP_TO` (R153). -/
def TS_STEP_TO : Reg := ⟨regKey 0x4A14 5, 0⟩

/-- `4A20.01 UTC_OFFSET` (dictionary). -/
def UTC_OFFSET : Reg := ⟨regKey 0x4A20 1, 37⟩

/-- `4A20.02 UTC_SRC` (dictionary). -/
def UTC_SRC : Reg := ⟨regKey 0x4A20 2, 0⟩

/-- `4A20.03 UTC_HOST_OFFSET` (dictionary). -/
def UTC_HOST_OFFSET : Reg := ⟨regKey 0x4A20 3, 37⟩

/-- `4A20.04 UTC_HOST_LEAP` (dictionary). -/
def UTC_HOST_LEAP : Reg := ⟨regKey 0x4A20 4, 0⟩

/-- `4A20.05 UTC_LEAP_PEND` (dictionary). -/
def UTC_LEAP_PEND : Reg := ⟨regKey 0x4A20 5, 0⟩

/-- `4A20.06 UTC_LEAP_AT` (dictionary). -/
def UTC_LEAP_AT : Reg := ⟨regKey 0x4A20 6, 0⟩

/-- `4A20.07 UTC_VALID` (dictionary). -/
def UTC_VALID : Reg := ⟨regKey 0x4A20 7, 0⟩

/-- `4A20.08 UTC_AUTO_HOLD` (dictionary). -/
def UTC_AUTO_HOLD : Reg := ⟨regKey 0x4A20 8, 60⟩

/-- `4C00.01 TEB_ENABLE` (R175). -/
def TEB_ENABLE : Reg := ⟨regKey 0x4C00 1, 1⟩

/-- `4C00.02 TEB_STATUS` (R175). -/
def TEB_STATUS : Reg := ⟨regKey 0x4C00 2, 0⟩

/-- `4C00.03 TEB_LAST_IGNORED` (R175). -/
def TEB_LAST_IGNORED : Reg := ⟨regKey 0x4C00 3, 0⟩

/-- `4C10.01 TEB_THR_LOCKED` (R30). -/
def TEB_THR_LOCKED : Reg := ⟨regKey 0x4C10 1, 25600⟩

/-- `4C10.02 TEB_THR_HOLDOVER` (R30). -/
def TEB_THR_HOLDOVER : Reg := ⟨regKey 0x4C10 2, 256000⟩

/-- `4C10.03 TEB_THR_PIN` (R175). -/
def TEB_THR_PIN : Reg := ⟨regKey 0x4C10 3, 256000⟩

/-- `4C10.04 TEB_PIN_SRC` (R175). -/
def TEB_PIN_SRC : Reg := ⟨regKey 0x4C10 4, 1⟩

/-- `4C10.05 TEB_PIN_HOLD` (R175). -/
def TEB_PIN_HOLD : Reg := ⟨regKey 0x4C10 5, 1000⟩

/-- `4C20.01 TEB_K` (R175). -/
def TEB_K : Reg := ⟨regKey 0x4C20 1, 3⟩

/-- `4C20.02 TEB_PKT_ASYM` (R175). -/
def TEB_PKT_ASYM : Reg := ⟨regKey 0x4C20 2, 6400⟩

/-- `4C20.03 TEB_FA_FREQ` (R175). -/
def TEB_FA_FREQ : Reg := ⟨regKey 0x4C20 3, 10000⟩

/-- `4C21.nn TEB_PORT_CAL` (R175). -/
def TEB_PORT_CAL (i : Nat) : Reg := ⟨regKey 0x4C21 (i + 1), 128⟩

/-- `4C22.nn TEB_OUT_CAL` (R175). -/
def TEB_OUT_CAL (i : Nat) : Reg := ⟨regKey 0x4C22 (i + 1), 0⟩

/-- `4C23.nn TEB_EVT_CAL` (R175). -/
def TEB_EVT_CAL (i : Nat) : Reg := ⟨regKey 0x4C23 (i + 1), 0⟩

/-- `4C28.01 TEB_T_REF` (dictionary). -/
def TEB_T_REF : Reg := ⟨regKey 0x4C28 1, 0⟩

/-- `4C28.02 TEB_T_RES` (dictionary). -/
def TEB_T_RES : Reg := ⟨regKey 0x4C28 2, 0⟩

/-- `4C28.03 TEB_T_MEAS` (dictionary). -/
def TEB_T_MEAS : Reg := ⟨regKey 0x4C28 3, 0⟩

/-- `4C28.04 TEB_T_SERVO` (dictionary). -/
def TEB_T_SERVO : Reg := ⟨regKey 0x4C28 4, 0⟩

/-- `4C28.05 TEB_T_SWITCH` (dictionary). -/
def TEB_T_SWITCH : Reg := ⟨regKey 0x4C28 5, 0⟩

/-- `4C28.06 TEB_T_AMB` (dictionary). -/
def TEB_T_AMB : Reg := ⟨regKey 0x4C28 6, 0⟩

/-- `4C28.07 TEB_T_DRIFT` (dictionary). -/
def TEB_T_DRIFT : Reg := ⟨regKey 0x4C28 7, 0⟩

/-- `4C28.08 TEB_T_TUNE` (dictionary). -/
def TEB_T_TUNE : Reg := ⟨regKey 0x4C28 8, 0⟩

/-- `4C28.09 TEB_T_HAND` (dictionary). -/
def TEB_T_HAND : Reg := ⟨regKey 0x4C28 9, 0⟩

/-- `4C28.0A TEB_T_BASE` (dictionary). -/
def TEB_T_BASE : Reg := ⟨regKey 0x4C28 10, 0⟩

/-- `4C28.0B TEB_T_HOLD` (dictionary). -/
def TEB_T_HOLD : Reg := ⟨regKey 0x4C28 11, 0⟩

/-- `4C28.0C TEB_T_SET` (dictionary). -/
def TEB_T_SET : Reg := ⟨regKey 0x4C28 12, 0⟩

/-- `4C30.01 TEB_TS` (R175). -/
def TEB_TS : Reg := ⟨regKey 0x4C30 1, 4294967295⟩

/-- `4C31.nn TEB_PORT` (R175). -/
def TEB_PORT (i : Nat) : Reg := ⟨regKey 0x4C31 (i + 1), 4294967295⟩

/-- `4C32.nn TEB_OUT` (R175). -/
def TEB_OUT (i : Nat) : Reg := ⟨regKey 0x4C32 (i + 1), 4294967295⟩

/-- `4C33.nn TEB_EVT` (R175). -/
def TEB_EVT (i : Nat) : Reg := ⟨regKey 0x4C33 (i + 1), 4294967295⟩

/-- `4C34.01 SNAP_TEB_TS` (dictionary). -/
def SNAP_TEB_TS : Reg := ⟨regKey 0x4C34 1, 0⟩

/-- `4C35.nn SNAP_TEB_PORT` (dictionary). -/
def SNAP_TEB_PORT (i : Nat) : Reg := ⟨regKey 0x4C35 (i + 1), 0⟩

/-- `4C36.nn SNAP_TEB_OUT` (dictionary). -/
def SNAP_TEB_OUT (i : Nat) : Reg := ⟨regKey 0x4C36 (i + 1), 0⟩

/-- `4C37.nn SNAP_TEB_EVT` (dictionary). -/
def SNAP_TEB_EVT (i : Nat) : Reg := ⟨regKey 0x4C37 (i + 1), 0⟩

/-- `4C40/4C41.01 TEB_LO_FREQ0` of LO i (R164). -/
def TEB_LO_FREQ0 (i : Nat) : Reg := ⟨regKey (0x4C40 + i) 1, 10000000⟩

/-- `4C40/4C41.02 TEB_LO_AGE` of LO i (R164). -/
def TEB_LO_AGE (i : Nat) : Reg := ⟨regKey (0x4C40 + i) 2, 1000000⟩

/-- `4C40/4C41.03 TEB_LO_WFM` of LO i (R164). -/
def TEB_LO_WFM (i : Nat) : Reg := ⟨regKey (0x4C40 + i) 3, 1000⟩

/-- `4C40/4C41.04 TEB_LO_RW` of LO i (R164). -/
def TEB_LO_RW (i : Nat) : Reg := ⟨regKey (0x4C40 + i) 4, 3000⟩

/-- `4C40/4C41.05 TEB_LO_TEMP` of LO i (R164). -/
def TEB_LO_TEMP (i : Nat) : Reg := ⟨regKey (0x4C40 + i) 5, 1000⟩

/-- `4C60.01 TEB_CC_LOCKED` (dictionary). -/
def TEB_CC_LOCKED : Reg := ⟨regKey 0x4C60 1, 6⟩

/-- `4C60.02 TEB_CC_ACQUIRE` (dictionary). -/
def TEB_CC_ACQUIRE : Reg := ⟨regKey 0x4C60 2, 248⟩

/-- `4C60.03 TEB_CC_HOLD` (dictionary). -/
def TEB_CC_HOLD : Reg := ⟨regKey 0x4C60 3, 7⟩

/-- `4C60.04 TEB_CC_DEGR` (dictionary). -/
def TEB_CC_DEGR : Reg := ⟨regKey 0x4C60 4, 52⟩

/-- `4C60.05 TEB_CC_FREE` (dictionary). -/
def TEB_CC_FREE : Reg := ⟨regKey 0x4C60 5, 248⟩

/-- `4C60.06 TEB_CC_STBY` (dictionary). -/
def TEB_CC_STBY : Reg := ⟨regKey 0x4C60 6, 248⟩

/-- `4C60.07 TEB_CC_FAULT` (dictionary). -/
def TEB_CC_FAULT : Reg := ⟨regKey 0x4C60 7, 248⟩

/-- `4C70.01 TEB_LOG_EN` (R175). -/
def TEB_LOG_EN : Reg := ⟨regKey 0x4C70 1, 0⟩

/-- `4C70.02 TEB_LOG_EVMAX` (R175). -/
def TEB_LOG_EVMAX : Reg := ⟨regKey 0x4C70 2, 16⟩

/-- `4C70.03 TEB_LOG_LOST` (R175). -/
def TEB_LOG_LOST : Reg := ⟨regKey 0x4C70 3, 0⟩

/-- `4C70.04 TEB_LOG_SUPPR` (R175). -/
def TEB_LOG_SUPPR : Reg := ⟨regKey 0x4C70 4, 0⟩

/-- `5000.01 SYN_ENABLE` (R200). -/
def SYN_ENABLE : Reg := ⟨regKey 0x5000 1, 1⟩

/-- `5000.02 SYN_STATUS` (R200). -/
def SYN_STATUS : Reg := ⟨regKey 0x5000 2, 0⟩

/-- `5000.03 SYN_LAST_IGNORED` (R200). -/
def SYN_LAST_IGNORED : Reg := ⟨regKey 0x5000 3, 0⟩

/-- `5010.01 APLLA_STATE` (R200). -/
def APLLA_STATE : Reg := ⟨regKey 0x5010 1, 0⟩

/-- `5010.02 APLLA_BW` (R200). -/
def APLLA_BW : Reg := ⟨regKey 0x5010 2, 1⟩

/-- `5010.03 APLLA_LOCK_WIN` (R200). -/
def APLLA_LOCK_WIN : Reg := ⟨regKey 0x5010 3, 1000⟩

/-- `5010.04 APLLA_LOCK_CNT` (R200). -/
def APLLA_LOCK_CNT : Reg := ⟨regKey 0x5010 4, 1024⟩

/-- `5010.05 LO_FREQ` (R200). -/
def LO_FREQ : Reg := ⟨regKey 0x5010 5, 0⟩

/-- `5011.01 APLLB_STATE` (dictionary). -/
def APLLB_STATE : Reg := ⟨regKey 0x5011 1, 0⟩

/-- `5011.02 APLLB_BW` (dictionary). -/
def APLLB_BW : Reg := ⟨regKey 0x5011 2, 1⟩

/-- `5011.03 APLLB_LOCK_WIN` (dictionary). -/
def APLLB_LOCK_WIN : Reg := ⟨regKey 0x5011 3, 1000⟩

/-- `5011.04 APLLB_LOCK_CNT` (dictionary). -/
def APLLB_LOCK_CNT : Reg := ⟨regKey 0x5011 4, 1024⟩

/-- `5100.nn FOS_EN` (R200). -/
def FOS_EN (i : Nat) : Reg := ⟨regKey 0x5100 (i + 1), 0⟩

/-- `5110.nn FOS_FREQ` (R200). -/
def FOS_FREQ (i : Nat) : Reg := ⟨regKey 0x5110 (i + 1), 5000000000000000⟩

/-- `5120.nn FOS_FOLLOW` (R200). -/
def FOS_FOLLOW (i : Nat) : Reg := ⟨regKey 0x5120 (i + 1), 1⟩

/-- `5130.nn FOS_DITHER` (R200). -/
def FOS_DITHER (i : Nat) : Reg := ⟨regKey 0x5130 (i + 1), 0⟩

/-- `5140.nn FOS_SEED` (R200). -/
def FOS_SEED (i : Nat) : Reg := ⟨regKey 0x5140 (i + 1), (2 + i : Nat)⟩

/-- `5150.nn FOS_LOCK_WIN` (R200). -/
def FOS_LOCK_WIN (i : Nat) : Reg := ⟨regKey 0x5150 (i + 1), 100⟩

/-- `5160.nn FOS_LOCK_CNT` (R200). -/
def FOS_LOCK_CNT (i : Nat) : Reg := ⟨regKey 0x5160 (i + 1), 4096⟩

/-- `5170.nn FOS_WORD` (R200). -/
def FOS_WORD (i : Nat) : Reg := ⟨regKey 0x5170 (i + 1), 0⟩

/-- `5180.nn FOS_STATE` (R200). -/
def FOS_STATE (i : Nat) : Reg := ⟨regKey 0x5180 (i + 1), 0⟩

/-- `5200.nn OUT_EN` (R200). -/
def OUT_EN (i : Nat) : Reg := ⟨regKey 0x5200 (i + 1), 0⟩

/-- `5210.nn OUT_CFG` (R200). -/
def OUT_CFG (i : Nat) : Reg := ⟨regKey 0x5210 (i + 1), 262144⟩

/-- `5220.nn OUT_DIV` (R200). -/
def OUT_DIV (i : Nat) : Reg := ⟨regKey 0x5220 (i + 1), 32⟩

/-- `5230.nn OUT_OFFSET` (R200). -/
def OUT_OFFSET (i : Nat) : Reg := ⟨regKey 0x5230 (i + 1), 0⟩

/-- `5240.nn OUT_SQ_CAUSE` (R200). -/
def OUT_SQ_CAUSE (i : Nat) : Reg := ⟨regKey 0x5240 (i + 1), 0⟩

/-- `5241.nn OUT_STATE` (R200). -/
def OUT_STATE (i : Nat) : Reg := ⟨regKey 0x5241 (i + 1), 0⟩

/-- `5250.nn OUT_LB` (R200). -/
def OUT_LB (i : Nat) : Reg := ⟨regKey 0x5250 (i + 1), 0⟩

/-- `5260.nn OUT_HISWING` (R200). -/
def OUT_HISWING (i : Nat) : Reg := ⟨regKey 0x5260 (i + 1), 0⟩

/-- `5300.01 LB_TOL` (R200). -/
def LB_TOL : Reg := ⟨regKey 0x5300 1, 100⟩

/-- `5300.02 LB_FAILS` (R200). -/
def LB_FAILS : Reg := ⟨regKey 0x5300 2, 3⟩

/-- `5300.03 LB_STALE` (R200). -/
def LB_STALE : Reg := ⟨regKey 0x5300 3, 10⟩

/-- `5400.nn EVT_EN` (R200). -/
def EVT_EN (i : Nat) : Reg := ⟨regKey 0x5400 (i + 1), 0⟩

/-- `5410.nn EVT_CFG` (R200). -/
def EVT_CFG (i : Nat) : Reg := ⟨regKey 0x5410 (i + 1), 4096⟩

/-- `5420.nn EVT_OFFSET` (R200). -/
def EVT_OFFSET (i : Nat) : Reg := ⟨regKey 0x5420 (i + 1), 0⟩

/-- `5430.nn EVT_PRG_START` (R200). -/
def EVT_PRG_START (i : Nat) : Reg := ⟨regKey 0x5430 (i + 1), 0⟩

/-- `5431.nn EVT_PRG_PHASE` (R200). -/
def EVT_PRG_PHASE (i : Nat) : Reg := ⟨regKey 0x5431 (i + 1), 0⟩

/-- `5432.nn EVT_PRG_N` (R200). -/
def EVT_PRG_N (i : Nat) : Reg := ⟨regKey 0x5432 (i + 1), 1⟩

/-- `5433.nn EVT_PRG_S` (R200). -/
def EVT_PRG_S (i : Nat) : Reg := ⟨regKey 0x5433 (i + 1), 1⟩

/-- `5434.nn EVT_PRG_WIDTH` (R200). -/
def EVT_PRG_WIDTH (i : Nat) : Reg := ⟨regKey 0x5434 (i + 1), 51200000⟩

/-- `5440.nn EVT_ENT_AT` (dictionary), kept for each link (R192). -/
def EVT_ENT_AT (link i : Nat) : Reg := ⟨linkKey link (regKey 0x5440 (i + 1)), 0⟩

/-- `5441.nn EVT_ENT_KIND` (dictionary), kept for each link (R192). -/
def EVT_ENT_KIND (link i : Nat) : Reg := ⟨linkKey link (regKey 0x5441 (i + 1)), 0⟩

/-- `5442.nn EVT_ENT_WIDTH` (dictionary), kept for each link (R192). -/
def EVT_ENT_WIDTH (link i : Nat) : Reg := ⟨linkKey link (regKey 0x5442 (i + 1)), 0⟩

/-- `5443.nn EVT_ENT_PUSH` (dictionary). -/
def EVT_ENT_PUSH (i : Nat) : Reg := ⟨regKey 0x5443 (i + 1), 0⟩

/-- `5444.nn EVT_Q_FLUSH` (dictionary). -/
def EVT_Q_FLUSH (i : Nat) : Reg := ⟨regKey 0x5444 (i + 1), 0⟩

/-- `5450.nn EVT_Q_FILL` (R200). -/
def EVT_Q_FILL (i : Nat) : Reg := ⟨regKey 0x5450 (i + 1), 0⟩

/-- `5451.nn EVT_STATE` (R200). -/
def EVT_STATE (i : Nat) : Reg := ⟨regKey 0x5451 (i + 1), 0⟩

/-- `5452.nn EVT_SUPPR` (R200). -/
def EVT_SUPPR (i : Nat) : Reg := ⟨regKey 0x5452 (i + 1), 0⟩

/-- `5453.nn EVT_LATE_DROP` (R200). -/
def EVT_LATE_DROP (i : Nat) : Reg := ⟨regKey 0x5453 (i + 1), 0⟩

/-- `5454.nn EVT_LB` (R200). -/
def EVT_LB (i : Nat) : Reg := ⟨regKey 0x5454 (i + 1), 0⟩

/-- `5455.nn EVT_PUSH_RESULT` (R200), kept for each link (R192). -/
def EVT_PUSH_RESULT (link i : Nat) : Reg := ⟨linkKey link (regKey 0x5455 (i + 1)), 0⟩

/-- `5500.nn GRP_EN` (R200). -/
def GRP_EN (i : Nat) : Reg := ⟨regKey 0x5500 (i + 1), 0⟩

/-- `5510.nn GRP_MEMBERS` (R200). -/
def GRP_MEMBERS (i : Nat) : Reg := ⟨regKey 0x5510 (i + 1), 0⟩

/-- `5520.nn GRP_START` (R200). -/
def GRP_START (i : Nat) : Reg := ⟨regKey 0x5520 (i + 1), 0⟩

/-- `5530.nn GRP_N` (R200). -/
def GRP_N (i : Nat) : Reg := ⟨regKey 0x5530 (i + 1), 1⟩

/-- `5540.nn GRP_S` (R200). -/
def GRP_S (i : Nat) : Reg := ⟨regKey 0x5540 (i + 1), 1⟩

/-- `5550.nn GRP_UNDERRUN` (R200). -/
def GRP_UNDERRUN (i : Nat) : Reg := ⟨regKey 0x5550 (i + 1), 0⟩

/-- `5600.01 EV_ENABLE` (R200). -/
def EV_ENABLE : Reg := ⟨regKey 0x5600 1, 1⟩

/-- `5600.02 EV_STATUS` (R200). -/
def EV_STATUS : Reg := ⟨regKey 0x5600 2, 0⟩

/-- `5600.03 EV_LAST_IGNORED` (R200). -/
def EV_LAST_IGNORED : Reg := ⟨regKey 0x5600 3, 0⟩

/-- `6100.01 CAP_RUN` (dictionary). -/
def CAP_RUN : Reg := ⟨regKey 0x6100 1, 0⟩

/-- `7000.01 GN_ENABLE` (R224). -/
def GN_ENABLE : Reg := ⟨regKey 0x7000 1, 1⟩

/-- `7000.02 GN_STATUS` (R224). -/
def GN_STATUS : Reg := ⟨regKey 0x7000 2, 0⟩

/-- `7000.03 GN_LAST_IGNORED` (R224). -/
def GN_LAST_IGNORED : Reg := ⟨regKey 0x7000 3, 0⟩

/-- `7000.04 GN_RING19_LOST` (R224). -/
def GN_RING19_LOST : Reg := ⟨regKey 0x7000 4, 0⟩

/-- `7100.nn FE_EN` (R224). -/
def FE_EN (i : Nat) : Reg := ⟨regKey 0x7100 (i + 1), 0⟩

/-- `7110.nn FE_CFG` (R224). -/
def FE_CFG (i : Nat) : Reg := ⟨regKey 0x7110 (i + 1), 0⟩

/-- `7120.nn FE_LO_NUM` (R224). -/
def FE_LO_NUM (i : Nat) : Reg := ⟨regKey 0x7120 (i + 1), if i % 2 = 0 then 129 else 96⟩

/-- `7121.nn FE_LO_DEN` (R224). -/
def FE_LO_DEN (i : Nat) : Reg := ⟨regKey 0x7121 (i + 1), 10⟩

/-- `7130.nn FE_STATE` (R224). -/
def FE_STATE (i : Nat) : Reg := ⟨regKey 0x7130 (i + 1), 0⟩

/-- `7131.nn FE_MAGDENS` (R224). -/
def FE_MAGDENS (i : Nat) : Reg := ⟨regKey 0x7131 (i + 1), 0⟩

/-- `7200.01 ACQ_COH_MS` (R224). -/
def ACQ_COH_MS : Reg := ⟨regKey 0x7200 1, 1⟩

/-- `7200.02 ACQ_NONCOH` (R224). -/
def ACQ_NONCOH : Reg := ⟨regKey 0x7200 2, 10⟩

/-- `7200.03 ACQ_THRESH` (R224). -/
def ACQ_THRESH : Reg := ⟨regKey 0x7200 3, 250⟩

/-- `7200.04 ACQ_COLD_WIN` (R224). -/
def ACQ_COLD_WIN : Reg := ⟨regKey 0x7200 4, 5000⟩

/-- `7200.05 ACQ_AID_FMARGIN` (R224). -/
def ACQ_AID_FMARGIN : Reg := ⟨regKey 0x7200 5, 50⟩

/-- `7200.06 ACQ_AID_RMARGIN` (R224). -/
def ACQ_AID_RMARGIN : Reg := ⟨regKey 0x7200 6, 3000⟩

/-- `7210.01 TRK_PLL_BW` (R224). -/
def TRK_PLL_BW : Reg := ⟨regKey 0x7210 1, 1500⟩

/-- `7210.02 TRK_DLL_BW` (R224). -/
def TRK_DLL_BW : Reg := ⟨regKey 0x7210 2, 50⟩

/-- `7210.03 TRK_EL_SPACING` (R224). -/
def TRK_EL_SPACING : Reg := ⟨regKey 0x7210 3, 100⟩

/-- `7210.04 TRK_MP_SPACING` (R224). -/
def TRK_MP_SPACING : Reg := ⟨regKey 0x7210 4, 500⟩

/-- `7210.05 TRK_CN0_MIN` (R224). -/
def TRK_CN0_MIN : Reg := ⟨regKey 0x7210 5, 2500⟩

/-- `7300.nn TRK_ASSIGN` (R224). -/
def TRK_ASSIGN (i : Nat) : Reg := ⟨regKey 0x7300 (i + 1), 0⟩

/-- `7310.nn TRK_STATE` (R224). -/
def TRK_STATE (i : Nat) : Reg := ⟨regKey 0x7310 (i + 1), 0⟩

/-- `7320.nn TRK_CN0` (R224). -/
def TRK_CN0 (i : Nat) : Reg := ⟨regKey 0x7320 (i + 1), 0⟩

/-- `7400.01 EP_RATE` (R224). -/
def EP_RATE : Reg := ⟨regKey 0x7400 1, 10⟩

/-- `7400.02 EP_RING_EN` (R224). -/
def EP_RING_EN : Reg := ⟨regKey 0x7400 2, 0⟩

/-- `7500.nn RX_EN` (R224). -/
def RX_EN (i : Nat) : Reg := ⟨regKey 0x7500 (i + 1), 0⟩

/-- `7510.nn RX_MODE` (R224). -/
def RX_MODE (i : Nat) : Reg := ⟨regKey 0x7510 (i + 1), 0⟩

/-- `7511.nn RX_SURVEY_TIME` (R224). -/
def RX_SURVEY_TIME (i : Nat) : Reg := ⟨regKey 0x7511 (i + 1), 86400⟩

/-- `7512.nn RX_SURVEY_SIGMA` (R224). -/
def RX_SURVEY_SIGMA (i : Nat) : Reg := ⟨regKey 0x7512 (i + 1), 100⟩

/-- `7520.nn RX_POS` (R224). -/
def RX_POS (i : Nat) : Reg := ⟨regKey 0x7520 (i + 1), 0⟩

/-- `7523.nn RX_POS_VALID` (R224). -/
def RX_POS_VALID (i : Nat) : Reg := ⟨regKey 0x7523 (i + 1), 0⟩

/-- `7530.nn RX_CONST_EN` (R224). -/
def RX_CONST_EN (i : Nat) : Reg := ⟨regKey 0x7530 (i + 1), 31⟩

/-- `7531.nn RX_BANDS` (R224). -/
def RX_BANDS (i : Nat) : Reg := ⟨regKey 0x7531 (i + 1), 3⟩

/-- `7532.nn RX_ELEV_MASK` (R224). -/
def RX_ELEV_MASK (i : Nat) : Reg := ⟨regKey 0x7532 (i + 1), 10⟩

/-- `7533.nn RX_CN0_MASK` (R224). -/
def RX_CN0_MASK (i : Nat) : Reg := ⟨regKey 0x7533 (i + 1), 30⟩

/-- `7534.nn RX_CH_QUOTA` (R224). -/
def RX_CH_QUOTA (i : Nat) : Reg := ⟨regKey 0x7534 (i + 1), 96⟩

/-- `7540.nn RX_TRAIM_LIMIT` (R224). -/
def RX_TRAIM_LIMIT (i : Nat) : Reg := ⟨regKey 0x7540 (i + 1), 50⟩

/-- `7541.nn RX_TRAIM_MIN` (R224). -/
def RX_TRAIM_MIN (i : Nat) : Reg := ⟨regKey 0x7541 (i + 1), 4⟩

/-- `7550.nn RX_DELAY_U` (R224). -/
def RX_DELAY_U (i : Nat) : Reg := ⟨regKey 0x7550 (i + 1), 0⟩

/-- `7551.nn RX_DELAY_L` (R224). -/
def RX_DELAY_L (i : Nat) : Reg := ⟨regKey 0x7551 (i + 1), 0⟩

/-- `7552.nn RX_DELAY_UNC` (R224). -/
def RX_DELAY_UNC (i : Nat) : Reg := ⟨regKey 0x7552 (i + 1), 2560⟩

/-- `7553.nn RX_TIMEREF` (R224). -/
def RX_TIMEREF (i : Nat) : Reg := ⟨regKey 0x7553 (i + 1), 3⟩

/-- `7560.nn RX_STATE` (R224). -/
def RX_STATE (i : Nat) : Reg := ⟨regKey 0x7560 (i + 1), 0⟩

/-- `7561.nn RX_TRAIM_STATE` (R224). -/
def RX_TRAIM_STATE (i : Nat) : Reg := ⟨regKey 0x7561 (i + 1), 0⟩

/-- `7562.nn RX_TUNC` (R224). -/
def RX_TUNC (i : Nat) : Reg := ⟨regKey 0x7562 (i + 1), 4294967295⟩

/-- `7563.nn RX_QERR` (R224). -/
def RX_QERR (i : Nat) : Reg := ⟨regKey 0x7563 (i + 1), 0⟩

/-- `7564.nn RX_NSV` (R224). -/
def RX_NSV (i : Nat) : Reg := ⟨regKey 0x7564 (i + 1), 0⟩

/-- `7570.nn RX_ALMANAC` (R224). -/
def RX_ALMANAC (i : Nat) : Reg := ⟨regKey 0x7570 (i + 1), 0⟩

/-- `7572.nn RX_ALM_AGE` (R224). -/
def RX_ALM_AGE (i : Nat) : Reg := ⟨regKey 0x7572 (i + 1), 4294967295⟩

/-- `7573.nn RX_ALM_MAXAGE` (R224). -/
def RX_ALM_MAXAGE (i : Nat) : Reg := ⟨regKey 0x7573 (i + 1), 14⟩

/-- `8000.01 ETH_ENABLE` (R247). -/
def ETH_ENABLE : Reg := ⟨regKey 0x8000 1, 1⟩

/-- `8000.02 ETH_STATUS` (R247). -/
def ETH_STATUS : Reg := ⟨regKey 0x8000 2, 0⟩

/-- `8000.03 ETH_LAST_IGNORED` (R247). -/
def ETH_LAST_IGNORED : Reg := ⟨regKey 0x8000 3, 0⟩

/-- `8010.nn PORT_EN` (R247). -/
def PORT_EN (i : Nat) : Reg := ⟨regKey 0x8010 (i + 1), 0⟩

/-- `8020.nn PORT_CFG` (R247). -/
def PORT_CFG (i : Nat) : Reg := ⟨regKey 0x8020 (i + 1), 3267⟩

/-- `8022.nn PORT_MAC` (R247). -/
def PORT_MAC (i : Nat) : Reg := ⟨regKey 0x8022 (i + 1), 0⟩

/-- `8024.nn PORT_MTU` (R247). -/
def PORT_MTU (i : Nat) : Reg := ⟨regKey 0x8024 (i + 1), 1522⟩

/-- `8030.nn PORT_RX_LAT` (R247). -/
def PORT_RX_LAT (i : Nat) : Reg := ⟨regKey 0x8030 (i + 1), 0⟩

/-- `8032.nn PORT_TX_LAT` (R247). -/
def PORT_TX_LAT (i : Nat) : Reg := ⟨regKey 0x8032 (i + 1), 0⟩

/-- `8034.nn PORT_DESKEW` (R247). -/
def PORT_DESKEW (i : Nat) : Reg := ⟨regKey 0x8034 (i + 1), 0⟩

/-- `8036.nn PORT_GRID_PHASE` (R247). -/
def PORT_GRID_PHASE (i : Nat) : Reg := ⟨regKey 0x8036 (i + 1), 0⟩

/-- `8040.nn PORT_BUF_HI` (R247). -/
def PORT_BUF_HI (i : Nat) : Reg := ⟨regKey 0x8040 (i + 1), 458752⟩

/-- `8042.nn PORT_BUF_LO` (R247). -/
def PORT_BUF_LO (i : Nat) : Reg := ⟨regKey 0x8042 (i + 1), 393216⟩

/-- `8044.nn PORT_PAUSE_TIME` (R247). -/
def PORT_PAUSE_TIME (i : Nat) : Reg := ⟨regKey 0x8044 (i + 1), 8192⟩

/-- `8050.nn PORT_STATE` (R247). -/
def PORT_STATE (i : Nat) : Reg := ⟨regKey 0x8050 (i + 1), 0⟩

/-- `8052.nn PORT_STICKY` (R247). -/
def PORT_STICKY (i : Nat) : Reg := ⟨regKey 0x8052 (i + 1), 0⟩

/-- `8054.nn SNAP_PORT_STICKY` (R247). -/
def SNAP_PORT_STICKY (i : Nat) : Reg := ⟨regKey 0x8054 (i + 1), 0⟩

/-- `8100.01 FPB_ENABLE` (R247). -/
def FPB_ENABLE : Reg := ⟨regKey 0x8100 1, 1⟩

/-- `8100.02 FPB_STATUS` (R247). -/
def FPB_STATUS : Reg := ⟨regKey 0x8100 2, 0⟩

/-- `8100.03 FPB_LAST_IGNORED` (R247). -/
def FPB_LAST_IGNORED : Reg := ⟨regKey 0x8100 3, 0⟩

/-- `8200.nn FP_EN` (R247). -/
def FP_EN (i : Nat) : Reg := ⟨regKey 0x8200 (i + 1), 1⟩

/-- `8210.nn FP_MAC` (R247). -/
def FP_MAC (i : Nat) : Reg := ⟨regKey 0x8210 (i + 1), Config.idMacBase + i⟩

/-- `8220.nn FP_PHYADDR` (R247). -/
def FP_PHYADDR (i : Nat) : Reg := ⟨regKey 0x8220 (i + 1), (i : Nat)⟩

/-- `8230.nn FP_STICKY` (R247). -/
def FP_STICKY (i : Nat) : Reg := ⟨regKey 0x8230 (i + 1), 0⟩

/-- `8234.nn SNAP_FP_STICKY` (R247). -/
def SNAP_FP_STICKY (i : Nat) : Reg := ⟨regKey 0x8234 (i + 1), 0⟩

/-- `8240.nn FP_STATE` (R247). -/
def FP_STATE (i : Nat) : Reg := ⟨regKey 0x8240 (i + 1), 0⟩

/-- `9000.01 TPE_ENABLE` (R277). -/
def TPE_ENABLE : Reg := ⟨regKey 0x9000 1, 1⟩

/-- `9000.02 TPE_STATUS` (R277). -/
def TPE_STATUS : Reg := ⟨regKey 0x9000 2, 0⟩

/-- `9000.03 TPE_LAST_IGNORED` (R277). -/
def TPE_LAST_IGNORED : Reg := ⟨regKey 0x9000 3, 0⟩

/-- `9010.01 TPE_CLOCK_ID` (R277). -/
def TPE_CLOCK_ID : Reg := ⟨regKey 0x9010 1, Config.idEui64⟩

/-- `9010.02 TPE_GM_ID` (R277). -/
def TPE_GM_ID : Reg := ⟨regKey 0x9010 2, 3⟩

/-- `9010.04 TPE_COMMIT_LEAD` (R277). -/
def TPE_COMMIT_LEAD : Reg := ⟨regKey 0x9010 4, 3000⟩

/-- `9010.05 TPE_INFLIGHT` (R277). -/
def TPE_INFLIGHT : Reg := ⟨regKey 0x9010 5, 0⟩

/-- `9010.06 TPE_FENCE` (R277). -/
def TPE_FENCE : Reg := ⟨regKey 0x9010 6, 0⟩

/-- `9100.01 FOLD_BASE` (R277). -/
def FOLD_BASE : Reg := ⟨regKey 0x9100 1, 0⟩

/-- `9100.02 FOLD_COUNT` (R277). -/
def FOLD_COUNT : Reg := ⟨regKey 0x9100 2, 0⟩

/-- `9110.01 FOLD_QUERY` (R277). -/
def FOLD_QUERY : Reg := ⟨regKey 0x9110 1, 0⟩

/-- `9110.02 FOLD_RESULT` (R277). -/
def FOLD_RESULT : Reg := ⟨regKey 0x9110 2, 0⟩

/-- `9200.nn PROF_EN` (R277). -/
def PROF_EN (i : Nat) : Reg := ⟨regKey 0x9200 (i + 1), 0⟩

/-- `9201.nn PROF_CFG` (R277). -/
def PROF_CFG (i : Nat) : Reg := ⟨regKey 0x9201 (i + 1), if i = 0 then 0x300300 else if i = 1 then 0xD12080 else 0⟩

/-- `9202.nn PROF_DOMAIN` (R277). -/
def PROF_DOMAIN (i : Nat) : Reg := ⟨regKey 0x9202 (i + 1), if i = 1 then 254 else 0⟩

/-- `9203.nn PROF_INTERVALS` (R277). -/
def PROF_INTERVALS (i : Nat) : Reg := ⟨regKey 0x9203 (i + 1), if i = 1 then 0x3 else 0xF9F903⟩

/-- `9204.nn PROF_PRIO` (R277). -/
def PROF_PRIO (i : Nat) : Reg := ⟨regKey 0x9204 (i + 1), 32896⟩

/-- `9205.nn PROF_OSLV` (R277). -/
def PROF_OSLV (i : Nat) : Reg := ⟨regKey 0x9205 (i + 1), 20061⟩

/-- `9206.nn PROF_VLAN` (R277). -/
def PROF_VLAN (i : Nat) : Reg := ⟨regKey 0x9206 (i + 1), if i = 1 then 0x18000 else 0⟩

/-- `9207.nn PROF_SPP` (R277). -/
def PROF_SPP (i : Nat) : Reg := ⟨regKey 0x9207 (i + 1), 255⟩

/-- `9208.nn PROF_GRANT_MAXDUR` (R277). -/
def PROF_GRANT_MAXDUR (i : Nat) : Reg := ⟨regKey 0x9208 (i + 1), 300⟩

/-- `9210.nn PORT_PROFILES` (R277). -/
def PORT_PROFILES (i : Nat) : Reg := ⟨regKey 0x9210 (i + 1), 0⟩

/-- `9220.01 TPE_ATOI` (R277). -/
def TPE_ATOI : Reg := ⟨regKey 0x9220 1, 0⟩

/-- `9230.nn TPE_PEER_DELAY` (R277). -/
def TPE_PEER_DELAY (i : Nat) : Reg := ⟨regKey 0x9230 (i + 1), 0⟩

/-- `9300.nn SPP_EN` (R277). -/
def SPP_EN (i : Nat) : Reg := ⟨regKey 0x9300 (i + 1), 0⟩

/-- `9301.nn SPP_CFG` (R277). -/
def SPP_CFG (i : Nat) : Reg := ⟨regKey 0x9301 (i + 1), 0⟩

/-- `9302.nn SPP_CUR_SLOT` (R277). -/
def SPP_CUR_SLOT (i : Nat) : Reg := ⟨regKey 0x9302 (i + 1), 65535⟩

/-- `9303.nn SPP_NEXT_SLOT` (R277). -/
def SPP_NEXT_SLOT (i : Nat) : Reg := ⟨regKey 0x9303 (i + 1), 65535⟩

/-- `9304.nn SPP_PREV_SLOT` (R277). -/
def SPP_PREV_SLOT (i : Nat) : Reg := ⟨regKey 0x9304 (i + 1), 65535⟩

/-- `9305.nn SPP_ROTATE_AT` (R277). -/
def SPP_ROTATE_AT (i : Nat) : Reg := ⟨regKey 0x9305 (i + 1), 0⟩

/-- `9400.01 NTS_EN` (R277). -/
def NTS_EN : Reg := ⟨regKey 0x9400 1, 0⟩

/-- `9400.02 NTP_PLAIN_EN` (R277). -/
def NTP_PLAIN_EN : Reg := ⟨regKey 0x9400 2, 0⟩

/-- `9400.03 NTS_MASTER_CUR` (R277). -/
def NTS_MASTER_CUR : Reg := ⟨regKey 0x9400 3, 65535⟩

/-- `9400.04 NTS_MASTER_NEXT` (R277). -/
def NTS_MASTER_NEXT : Reg := ⟨regKey 0x9400 4, 65535⟩

/-- `9400.05 NTS_MASTER_PREV` (R277). -/
def NTS_MASTER_PREV : Reg := ⟨regKey 0x9400 5, 65535⟩

/-- `9400.06 NTS_ROTATE_AT` (R277). -/
def NTS_ROTATE_AT : Reg := ⟨regKey 0x9400 6, 0⟩

/-- `9400.07 NTS_MAX_COOKIES` (R277). -/
def NTS_MAX_COOKIES : Reg := ⟨regKey 0x9400 7, 8⟩

/-- `9400.08 NTP_PRECISION` (R277). -/
def NTP_PRECISION : Reg := ⟨regKey 0x9400 8, -30⟩

/-- `9500.nn SES_EN` (R277). -/
def SES_EN (i : Nat) : Reg := ⟨regKey 0x9500 (i + 1), 0⟩

/-- `9510.nn SES_CFG` (R277). -/
def SES_CFG (i : Nat) : Reg := ⟨regKey 0x9510 (i + 1), 16384⟩

/-- `9511.nn SES_MASTER_ADDR` (R277). -/
def SES_MASTER_ADDR (i : Nat) : Reg := ⟨regKey 0x9511 (i + 1), 0⟩

/-- `9512.nn SES_MASTER_ID` (R277). -/
def SES_MASTER_ID (i : Nat) : Reg := ⟨regKey 0x9512 (i + 1), 0⟩

/-- `9513.nn SES_ASYM` (R277). -/
def SES_ASYM (i : Nat) : Reg := ⟨regKey 0x9513 (i + 1), 0⟩

/-- `9514.nn SES_DURATION` (R277). -/
def SES_DURATION (i : Nat) : Reg := ⟨regKey 0x9514 (i + 1), 300⟩

/-- `9515.nn SES_TIMEOUT` (R277). -/
def SES_TIMEOUT (i : Nat) : Reg := ⟨regKey 0x9515 (i + 1), 3000⟩

/-- `9516.nn SES_DELAY_MAXAGE` (R277). -/
def SES_DELAY_MAXAGE (i : Nat) : Reg := ⟨regKey 0x9516 (i + 1), 2000⟩

/-- `9517.nn SES_STATE` (R277). -/
def SES_STATE (i : Nat) : Reg := ⟨regKey 0x9517 (i + 1), 0⟩

/-- `9518.nn SES_OFFSET` (R277). -/
def SES_OFFSET (i : Nat) : Reg := ⟨regKey 0x9518 (i + 1), 0⟩

/-- `9519.nn SES_PATH_DELAY` (R277). -/
def SES_PATH_DELAY (i : Nat) : Reg := ⟨regKey 0x9519 (i + 1), 0⟩

/-- `9600.nn TPE_CNT` (R277). -/
def TPE_CNT (i : Nat) : Reg := ⟨regKey 0x9600 (i + 1), 0⟩

/-- `9601.nn SNAP_TPE_CNT` (R277). -/
def SNAP_TPE_CNT (i : Nat) : Reg := ⟨regKey 0x9601 (i + 1), 0⟩

/-- `A000.01 DRV_ENABLE` (R300). -/
def DRV_ENABLE : Reg := ⟨regKey 0xA000 1, 1⟩

/-- `A000.02 DRV_STATUS` (R300). -/
def DRV_STATUS : Reg := ⟨regKey 0xA000 2, 0⟩

/-- `A000.03 DRV_LAST_IGNORED` (R300). -/
def DRV_LAST_IGNORED : Reg := ⟨regKey 0xA000 3, 0⟩

/-- `A000.04 DRV_DEFAULT` (R300). -/
def DRV_DEFAULT : Reg := ⟨regKey 0xA000 4, 2⟩

/-- `A100.nn RULE_EN` (R300). -/
def RULE_EN (i : Nat) : Reg := ⟨regKey 0xA100 (i + 1), if i < 4 then 1 else 0⟩

/-- `A110.nn RULE_MATCH` (dictionary). -/
def RULE_MATCH (i : Nat) : Reg := ⟨regKey 0xA110 (i + 1), if i = 0 then 0xFF013F40000000 else if i = 1 then 0xFF014040000000 else if i = 2 then 0xFF88F710000000 else if i = 3 then 0xFF007B40000000 else 0⟩

/-- `A120.nn RULE_ACTION` (dictionary). -/
def RULE_ACTION (i : Nat) : Reg := ⟨regKey 0xA120 (i + 1), if i < 3 then 0x000001 else if i = 3 then 0x010001 else 0xFF0000⟩

/-- `A130.nn RULE_SRC` (R300). -/
def RULE_SRC (i : Nat) : Reg := ⟨regKey 0xA130 (i + 1), 0⟩

/-- `A200.nn POL_RATE` (R300). -/
def POL_RATE (i : Nat) : Reg := ⟨regKey 0xA200 (i + 1), if i = 0 then 24000000 else if i = 1 then 20000000 else 1000000⟩

/-- `A201.nn POL_BURST` (R300). -/
def POL_BURST (i : Nat) : Reg := ⟨regKey 0xA201 (i + 1), if i < 2 then 65535 else 1024⟩

/-- `A202.nn POL_EN` (R300). -/
def POL_EN (i : Nat) : Reg := ⟨regKey 0xA202 (i + 1), if i < 2 then 1 else 0⟩

/-- `A203.nn POL_DROPS` (R300). -/
def POL_DROPS (i : Nat) : Reg := ⟨regKey 0xA203 (i + 1), 0⟩

/-- `A30q.pp DRV_QUANTUM` of queue q and port i (R293). -/
def DRV_QUANTUM (q i : Nat) : Reg := ⟨regKey (0xA300 + q) (i + 1), 1600⟩

/-- `A310.nn DRV_LEN_OVH` (R300). -/
def DRV_LEN_OVH (i : Nat) : Reg := ⟨regKey 0xA310 (i + 1), 20⟩

/-- `A400.nn CLASS_EN` (R300). -/
def CLASS_EN (i : Nat) : Reg := ⟨regKey 0xA400 (i + 1), if i = 0 then 1 else 0⟩

/-- `A410.nn CLASS_RATE` (R300). -/
def CLASS_RATE (i : Nat) : Reg := ⟨regKey 0xA410 (i + 1), 48000000⟩

/-- `A412.nn CLASS_CLIENTS_MAX` (R300). -/
def CLASS_CLIENTS_MAX (i : Nat) : Reg := ⟨regKey 0xA412 (i + 1), 1048576⟩

/-- `A414.nn CLASS_ATTR` (R300). -/
def CLASS_ATTR (i : Nat) : Reg := ⟨regKey 0xA414 (i + 1), 0⟩

/-- `A420.nn CLASS_COMMITTED` (R300). -/
def CLASS_COMMITTED (i : Nat) : Reg := ⟨regKey 0xA420 (i + 1), 0⟩

/-- `A422.nn CLASS_CLIENTS` (R300). -/
def CLASS_CLIENTS (i : Nat) : Reg := ⟨regKey 0xA422 (i + 1), 0⟩

/-- `A424.nn CLASS_PACE_SKIP` (R300). -/
def CLASS_PACE_SKIP (i : Nat) : Reg := ⟨regKey 0xA424 (i + 1), 0⟩

/-- `A500.nn GATE_EN` (R300). -/
def GATE_EN (i : Nat) : Reg := ⟨regKey 0xA500 (i + 1), 0⟩

/-- `A510.nn GATE_BASE` (dictionary). -/
def GATE_BASE (i : Nat) : Reg := ⟨regKey 0xA510 (i + 1), 0⟩

/-- `A511.nn GATE_CYCLE` (dictionary). -/
def GATE_CYCLE (i : Nat) : Reg := ⟨regKey 0xA511 (i + 1), 0⟩

/-- `A512.nn GATE_LIST` (dictionary). -/
def GATE_LIST (i : Nat) : Reg := ⟨regKey 0xA512 (i + 1), 0⟩

/-- `A513.nn GATE_LEN` (dictionary). -/
def GATE_LEN (i : Nat) : Reg := ⟨regKey 0xA513 (i + 1), 0⟩

/-- `A520.nn ADM_BASE` (dictionary). -/
def ADM_BASE (i : Nat) : Reg := ⟨regKey 0xA520 (i + 1), 0⟩

/-- `A521.nn ADM_CYCLE` (dictionary). -/
def ADM_CYCLE (i : Nat) : Reg := ⟨regKey 0xA521 (i + 1), 0⟩

/-- `A522.nn ADM_LIST` (dictionary). -/
def ADM_LIST (i : Nat) : Reg := ⟨regKey 0xA522 (i + 1), 0⟩

/-- `A523.nn ADM_LEN` (dictionary). -/
def ADM_LEN (i : Nat) : Reg := ⟨regKey 0xA523 (i + 1), 0⟩

/-- `A524.nn GATE_SWITCH_AT` (R300). -/
def GATE_SWITCH_AT (i : Nat) : Reg := ⟨regKey 0xA524 (i + 1), 0⟩

/-- `B000.01 KS_ENABLE` (R327). -/
def KS_ENABLE : Reg := ⟨regKey 0xB000 1, 1⟩

/-- `B000.02 KS_STATUS` (R327). -/
def KS_STATUS : Reg := ⟨regKey 0xB000 2, 0⟩

/-- `B000.03 KS_LAST_IGNORED` (R327). -/
def KS_LAST_IGNORED : Reg := ⟨regKey 0xB000 3, 0⟩

/-- `B000.04 KS_JOBS` (R327). -/
def KS_JOBS : Reg := ⟨regKey 0xB000 4, 0⟩

/-- `B000.05 KS_ZEROISE_CMD` (R327). -/
def KS_ZEROISE_CMD : Reg := ⟨regKey 0xB000 5, 0⟩

/-- `B000.06 KS_GEN_HIGH` (R327). -/
def KS_GEN_HIGH : Reg := ⟨regKey 0xB000 6, 0⟩

/-- `B100.01 KEY_VALUE` (dictionary), kept for each link (R312). -/
def KEY_VALUE (link i : Nat) : Reg := ⟨linkKey link (regKey (0xB100 + i) 1), 0⟩

/-- `B100.02 KEY_USAGE` (dictionary), kept for each link (R312). -/
def KEY_USAGE (link i : Nat) : Reg := ⟨linkKey link (regKey (0xB100 + i) 2), 0⟩

/-- `B100.03 KEY_PARENT` (dictionary), kept for each link (R312). -/
def KEY_PARENT (link i : Nat) : Reg := ⟨linkKey link (regKey (0xB100 + i) 3), 0xFFFF⟩

/-- `B100.04 KEY_KDF` (dictionary), kept for each link (R312). -/
def KEY_KDF (link i : Nat) : Reg := ⟨linkKey link (regKey (0xB100 + i) 4), 0⟩

/-- `B100.05 KEY_LABEL` (dictionary), kept for each link (R312). -/
def KEY_LABEL (link i : Nat) : Reg := ⟨linkKey link (regKey (0xB100 + i) 5), 0⟩

/-- `B100.06 KEY_CMD` (dictionary). -/
def KEY_CMD (i : Nat) : Reg := ⟨regKey (0xB100 + i) 6, 0⟩

/-- `B100.07 KEY_META` (dictionary). -/
def KEY_META (i : Nat) : Reg := ⟨regKey (0xB100 + i) 7, 0⟩

/-- `B100.08 KEY_GEN` (dictionary). -/
def KEY_GEN (i : Nat) : Reg := ⟨regKey (0xB100 + i) 8, 0⟩

/-- `B100.09 KEY_RESULT` (dictionary), kept for each link (R312). -/
def KEY_RESULT (link i : Nat) : Reg := ⟨linkKey link (regKey (0xB100 + i) 9), 0⟩

/-- `B100.0A KEY_CHECK` (dictionary). -/
def KEY_CHECK (i : Nat) : Reg := ⟨regKey (0xB100 + i) 10, 0⟩

/-- `B100.0B KEY_GEN_REQ` (dictionary), kept for each link (R312). -/
def KEY_GEN_REQ (link i : Nat) : Reg := ⟨linkKey link (regKey (0xB100 + i) 11), 0⟩

/-- `B600.nn TAMP_POLICY` (R327). -/
def TAMP_POLICY (i : Nat) : Reg := ⟨regKey 0xB600 (i + 1), if i < 4 then 0 else 2⟩

/-- `B610.01 TAMP_FILTER` (R327). -/
def TAMP_FILTER : Reg := ⟨regKey 0xB610 1, 10⟩

/-- `B700.01 KS_LANES` (R327). -/
def KS_LANES : Reg := ⟨regKey 0xB700 1, 255⟩

/-- `B800.01 FW_RUN` (R327). -/
def FW_RUN : Reg := ⟨regKey 0xB800 1, 0⟩

/-- `B800.02 FW_MIN_SVN` (R327). -/
def FW_MIN_SVN : Reg := ⟨regKey 0xB800 2, 0⟩

/-- `B800.03 FW_BOOT_BANK` (R327). -/
def FW_BOOT_BANK : Reg := ⟨regKey 0xB800 3, 0⟩

/-- `B800.04 FW_SVN_COMMIT` (R327). -/
def FW_SVN_COMMIT : Reg := ⟨regKey 0xB800 4, 0⟩

/-- `B810.01 FW_UPD_DATA` (R327). -/
def FW_UPD_DATA : Reg := ⟨regKey 0xB810 1, 0⟩

/-- `B810.02 FW_UPD_CMD` (R327). -/
def FW_UPD_CMD : Reg := ⟨regKey 0xB810 2, 0⟩

/-- `B810.03 FW_UPD_RESULT` (R327). -/
def FW_UPD_RESULT : Reg := ⟨regKey 0xB810 3, 0⟩

/-- `B900.01 TRNG_STATE` (R327). -/
def TRNG_STATE : Reg := ⟨regKey 0xB900 1, 0⟩

/-- `B900.04 PUF_BER` (R327). -/
def PUF_BER : Reg := ⟨regKey 0xB900 4, 0⟩

/-- `C000.01 BW_PAIRED` (R353). -/
def BW_PAIRED : Reg := ⟨regKey 0xC000 1, 0⟩

/-- `C000.02 BW_STATUS` (R353). -/
def BW_STATUS : Reg := ⟨regKey 0xC000 2, 0⟩

/-- `C000.03 BW_LAST_IGNORED` (R353). -/
def BW_LAST_IGNORED : Reg := ⟨regKey 0xC000 3, 0⟩

/-- `C000.04 BW_UNIT` (R353). -/
def BW_UNIT : Reg := ⟨regKey 0xC000 4, 0⟩

/-- `C000.05 BW_ROLE` (R353). -/
def BW_ROLE : Reg := ⟨regKey 0xC000 5, 0⟩

/-- `C000.06 BW_EPOCH` (R353). -/
def BW_EPOCH : Reg := ⟨regKey 0xC000 6, 0⟩

/-- `C000.07 BW_NOTREADY` (R353). -/
def BW_NOTREADY : Reg := ⟨regKey 0xC000 7, 1⟩

/-- `C100.01 BW_ENABLE` (R353). -/
def BW_ENABLE : Reg := ⟨regKey 0xC100 1, 1⟩

/-- `C100.02 BW_LEASE` (R353). -/
def BW_LEASE : Reg := ⟨regKey 0xC100 2, 100⟩

/-- `C100.03 BW_GUARD` (R353). -/
def BW_GUARD : Reg := ⟨regKey 0xC100 3, 20⟩

/-- `C100.04 BW_FORCE` (R353). -/
def BW_FORCE : Reg := ⟨regKey 0xC100 4, 0⟩

/-- `C100.05 BW_ACK_TIMEOUT` (R353). -/
def BW_ACK_TIMEOUT : Reg := ⟨regKey 0xC100 5, 200⟩

/-- `C200.01 CW_LANE_STATE` (R353). -/
def CW_LANE_STATE : Reg := ⟨regKey 0xC200 1, 0⟩

/-- `C200.02 CW_KEY_SLOT` (R353). -/
def CW_KEY_SLOT : Reg := ⟨regKey 0xC200 2, 65535⟩

/-- `C200.03 CW_LEASE_IN` (R353). -/
def CW_LEASE_IN : Reg := ⟨regKey 0xC200 3, 0⟩

/-- `C300.01 JR_TX` (R353). -/
def JR_TX : Reg := ⟨regKey 0xC300 1, 0⟩

/-- `C300.02 JR_ACKED` (R353). -/
def JR_ACKED : Reg := ⟨regKey 0xC300 2, 0⟩

/-- `C300.03 JR_RESYNC` (R353). -/
def JR_RESYNC : Reg := ⟨regKey 0xC300 3, 0⟩

/-- `D000.01 SD_ENABLE` (R422). -/
def SD_ENABLE : Reg := ⟨regKey 0xD000 1, 1⟩

/-- `D000.02 ERRPIN_MIN` (R422). -/
def ERRPIN_MIN : Reg := ⟨regKey 0xD000 2, 2⟩

/-- `D000.03 SD_STATUS` (R422). -/
def SD_STATUS : Reg := ⟨regKey 0xD000 3, 0⟩

/-- `D000.04 SD_LAST_IGNORED` (R422). -/
def SD_LAST_IGNORED : Reg := ⟨regKey 0xD000 4, 0⟩

/-- `D030.01 FF_STATUS` (R422). -/
def FF_STATUS : Reg := ⟨regKey 0xD030 1, 0⟩

/-- `D030.02 FF_SOURCE` (R422). -/
def FF_SOURCE : Reg := ⟨regKey 0xD030 2, 0⟩

/-- `D030.03 FF_SEVERITY` (R422). -/
def FF_SEVERITY : Reg := ⟨regKey 0xD030 3, 0⟩

/-- `D030.04 FF_TIME` (R422). -/
def FF_TIME : Reg := ⟨regKey 0xD030 4, 0⟩

/-- `D030.05 FF_MODE` (R422). -/
def FF_MODE : Reg := ⟨regKey 0xD030 5, 0⟩

/-- `D040.01 FLOG` (R422). -/
def FLOG : Reg := ⟨regKey 0xD040 1, 0⟩

/-- `D040.02 FLOG_NEXT` (R422). -/
def FLOG_NEXT : Reg := ⟨regKey 0xD040 2, 0⟩

/-- `D040.03 FLOG_RING_LOST` (R422). -/
def FLOG_RING_LOST : Reg := ⟨regKey 0xD040 3, 0⟩

/-- `D050.01 FS_OUT_POLICY` (R422). -/
def FS_OUT_POLICY : Reg := ⟨regKey 0xD050 1, 1⟩

/-- `D050.02 FS_PKT_POLICY` (R422). -/
def FS_PKT_POLICY : Reg := ⟨regKey 0xD050 2, 1⟩

/-- `D050.03 FS_ANN_HOLD` (R422). -/
def FS_ANN_HOLD : Reg := ⟨regKey 0xD050 3, 10⟩

/-- `D060.01 FS_QUIET` (R422). -/
def FS_QUIET : Reg := ⟨regKey 0xD060 1, 10000⟩

/-- `D060.02 FS_RECOV_MAX` (R422). -/
def FS_RECOV_MAX : Reg := ⟨regKey 0xD060 2, 8⟩

/-- `D060.03 FS_RECOV_WINDOW` (R422). -/
def FS_RECOV_WINDOW : Reg := ⟨regKey 0xD060 3, 3600⟩

/-- `D060.04 FS_RECOV_CNT` (R422). -/
def FS_RECOV_CNT : Reg := ⟨regKey 0xD060 4, 0⟩

/-- `D060.05 FS_LATCHED` (R422). -/
def FS_LATCHED : Reg := ⟨regKey 0xD060 5, 0⟩

/-- `D060.06 FS_RELEASE` (R422). -/
def FS_RELEASE : Reg := ⟨regKey 0xD060 6, 0⟩

/-- `D060.07 FS_QUIET_LEFT` (R422). -/
def FS_QUIET_LEFT : Reg := ⟨regKey 0xD060 7, 0⟩

/-- `SRC_CFG` of source i (R403). -/
def SRC_CFG (i : Nat) : Reg := ⟨regKey (0xD100 + i / 128) (i % 128 + 1), srcCfgReset i⟩

/-- `SRC_STATE` of source i (R405). -/
def SRC_STATE (i : Nat) : Reg := ⟨regKey (0xD110 + i / 128) (i % 128 + 1), 0⟩

/-- `D800.01 CTR_USER_READ` (R422). -/
def CTR_USER_READ : Reg := ⟨regKey 0xD800 1, 0⟩

/-- `D800.02 CTR_STATUS` (R422). -/
def CTR_STATUS : Reg := ⟨regKey 0xD800 2, 0⟩

/-- `D800.03 CTR_LAST_IGNORED` (R422). -/
def CTR_LAST_IGNORED : Reg := ⟨regKey 0xD800 3, 0⟩

/-- `D800.04 CTR_FREEZE` (R422). -/
def CTR_FREEZE : Reg := ⟨regKey 0xD800 4, 0⟩

/-- `D810.nn CTR_EN` (R422). -/
def CTR_EN (i : Nat) : Reg := ⟨regKey 0xD810 (i + 1), 0⟩

/-- `D820.nn CTR_CFG` (R422). -/
def CTR_CFG (i : Nat) : Reg := ⟨regKey 0xD820 (i + 1), 0⟩

/-- `D830.nn CTR_VALUE` (R422). -/
def CTR_VALUE (i : Nat) : Reg := ⟨regKey 0xD830 (i + 1), 0⟩

/-- `D840.nn SNAP_CTR` (R422). -/
def SNAP_CTR (i : Nat) : Reg := ⟨regKey 0xD840 (i + 1), 0⟩

/-- `D850.nn CTR_FLAGS` (R422). -/
def CTR_FLAGS (i : Nat) : Reg := ⟨regKey 0xD850 (i + 1), 0⟩

/-- `E000.01 VD_ENABLE` (R400). -/
def VD_ENABLE : Reg := ⟨regKey 0xE000 1, 1⟩

/-- `E000.02 VD_STATUS` (R400). -/
def VD_STATUS : Reg := ⟨regKey 0xE000 2, 0⟩

/-- `E000.03 VD_LAST_IGNORED` (R400). -/
def VD_LAST_IGNORED : Reg := ⟨regKey 0xE000 3, 0⟩

/-- `E000.04 VD_DATA_EN` (R400). -/
def VD_DATA_EN : Reg := ⟨regKey 0xE000 4, 1⟩

/-- `E010.01 VD_PIER_BYPASS` (R400). -/
def VD_PIER_BYPASS : Reg := ⟨regKey 0xE010 1, 0⟩

/-- `E020.01 VD_OUTSTANDING` (R400). -/
def VD_OUTSTANDING : Reg := ⟨regKey 0xE020 1, 0⟩

/-- `E100.nn RING_EN` (R400). -/
def RING_EN (i : Nat) : Reg := ⟨regKey 0xE100 (i + 1), 0⟩

/-- `E101.nn RING_BASE` (R400). -/
def RING_BASE (i : Nat) : Reg := ⟨regKey 0xE101 (i + 1), 0⟩

/-- `E102.nn RING_LOG2` (R400). -/
def RING_LOG2 (i : Nat) : Reg := ⟨regKey 0xE102 (i + 1), 8⟩

/-- `E103.nn RING_IRQ` (R400). -/
def RING_IRQ (i : Nat) : Reg := ⟨regKey 0xE103 (i + 1), if i = 1 ∨ i = 2 ∨ i = 23 then 0x100 + i else i⟩

/-- `E104.nn RING_STATE` (R400). -/
def RING_STATE (i : Nat) : Reg := ⟨regKey 0xE104 (i + 1), 0⟩

/-- `E110.nn RING_DB` (R400). -/
def RING_DB (i : Nat) : Reg := ⟨regKey 0xE110 (i + 1), 0⟩

/-- `E111.nn RING_HEAD` (R400). -/
def RING_HEAD (i : Nat) : Reg := ⟨regKey 0xE111 (i + 1), 0⟩

/-- `E112.nn RING_DONE` (R400). -/
def RING_DONE (i : Nat) : Reg := ⟨regKey 0xE112 (i + 1), 0⟩

/-- `E113.nn RING_EPOCH` (R400). -/
def RING_EPOCH (i : Nat) : Reg := ⟨regKey 0xE113 (i + 1), 0⟩

/-- `E200.01 DRAM_SIZE` (R400). -/
def DRAM_SIZE : Reg := ⟨regKey 0xE200 1, 0⟩

/-- `E200.02 DRAM_RATE` (R400). -/
def DRAM_RATE : Reg := ⟨regKey 0xE200 2, 0⟩

/-- `E200.03 DRAM_STATE` (R400). -/
def DRAM_STATE : Reg := ⟨regKey 0xE200 3, 0⟩

/-- `E200.04 DRAM_FW_BASE` (R400). -/
def DRAM_FW_BASE : Reg := ⟨regKey 0xE200 4, 0⟩

/-- `E210.01 DRAM_SCRUB_H` (R400). -/
def DRAM_SCRUB_H : Reg := ⟨regKey 0xE210 1, 24⟩

/-- `E300.01 SRAM_CE_CNT` (R400). -/
def SRAM_CE_CNT : Reg := ⟨regKey 0xE300 1, 0⟩

/-- `E400.nn CORE_STATE` (R400). -/
def CORE_STATE (i : Nat) : Reg := ⟨regKey 0xE400 (i + 1), 0⟩

/-- `E401.nn CORE_LOAD` (R400). -/
def CORE_LOAD (i : Nat) : Reg := ⟨regKey 0xE401 (i + 1), 0⟩

/-- `E800.01 HL_ENABLE` (R400). -/
def HL_ENABLE : Reg := ⟨regKey 0xE800 1, 1⟩

/-- `E800.02 HL_STATUS` (R400). -/
def HL_STATUS : Reg := ⟨regKey 0xE800 2, 0⟩

/-- `E800.03 HL_LAST_IGNORED` (R400). -/
def HL_LAST_IGNORED : Reg := ⟨regKey 0xE800 3, 0⟩

/-- `E800.04 HL_LINK` (R400). -/
def HL_LINK : Reg := ⟨regKey 0xE800 4, 0⟩

/-- `F010.01 SD_INJECT` (dictionary). -/
def SD_INJECT : Reg := ⟨regKey 0xF010 1, 0⟩

end Obj

end Sys2Proof.Machine
end

