-- ==== Sys2Proof/Machine/Parts.lean ====
section
/-! DEFINITION. The records that the machine's state is made of, block by block, as plain data. -/

namespace Sys2Proof.Machine

/-! The clock of the timescale. -/

/-- The timescale counter (R132): seconds, nanoseconds and a 48-bit fraction of a nanosecond. -/
structure TsCount where
  sec : Nat
  ns : Nat
  frac : Nat
  deriving DecidableEq, Repr

/-- The timescale and what the model measures durations by. `up48` is the progress of the counter, in 2^-48 ns,
less every step, so that a duration of Table 6-1 keeps its length; `cycles` counts the 1 GHz cycles of that progress
and `frozenCycles` those of a freeze. The instants after `before48` and up to the reading are those of the present cycle
(R20); `second80`, `update80` and `epoch80` are the second boundary, Herd update and measurement epoch executed last in this
pass of the timescale, so that none is executed twice (R142). -/
structure Clock where
  ts : TsCount
  running : Bool
  frozen : Bool
  cycles : Nat
  up48 : Nat
  frozenCycles : Nat
  before48 : Nat
  second80 : Option Nat
  update80 : Option Nat
  epoch80 : Option Nat
  /-- the cycle of the last placement or step, counted through freezes too -/
  stepCycle : Option Nat
  deriving DecidableEq, Repr

/-! Sheepdog, notices, the protocol links and the rings. -/

/-- One entry of the fault log (Table 17-5). -/
structure LogEntry where
  entry : Nat
  time80 : Nat
  raises : Nat
  mode : Nat
  kind : Nat
  source : Nat
  severity : Nat
  reaction : Nat
  concurrent : Bool
  first : Bool
  frozen : Bool
  pretime : Bool
  injected : Bool
  lostBefore : Bool
  errnLow : Bool
  detail : Nat
  deriving DecidableEq, Repr

/-- A token bucket of R372: what it holds, one token being a second in 2^-48 ns, and when it was last filled. -/
structure Bucket where
  level : Nat
  at48 : Nat
  deriving DecidableEq, Repr

/-- A notice subscription (R370). -/
structure Subscription where
  link : Link
  mac : Nat
  role : Role
  mask : Nat
  nextSeq : Nat
  buckets : List (Nat × Bucket)
  deriving DecidableEq, Repr

/-- An acknowledgement (Table 15-4). -/
structure Ack where
  status : Nat
  op : Nat
  index : Nat
  sub : Nat
  payload : List Octet
  deriving DecidableEq, Repr

/-- The last accepted sequence number of a link and role, and the ACK sent for it (R364). -/
structure SeqCell where
  last : Nat
  ack : Option (List Octet)
  deriving DecidableEq, Repr

/-- A descriptor the engine has taken: its count, its posting, and whether its work has started (R383, R387). -/
structure Taken where
  count : Nat
  desc : Posted
  started : Bool
  deriving DecidableEq, Repr

/-- A write-back that a pause of ring DMA holds up: the descriptor's count and what is written there (R379, R397). -/
structure Finished where
  count : Nat
  status : Nat
  aux : Nat
  stampNs : Nat
  deriving DecidableEq, Repr

/-- A descriptor ring (R383 to R387): the descriptors posted and not taken, those taken and not written back, the doorbell count,
the instant of the last interrupt and one that is held back; what a pause of ring DMA holds up, write-backs and the trailer; and an
enable that waits until what the ring had started is complete. -/
structure Ring where
  posted : List Posted
  taken : List Taken
  doorbell : Nat
  lastIrq48 : Option Nat
  irqWaiting : Bool
  finished : List Finished
  trailerDue : Bool
  restart : Bool
  deriving DecidableEq, Repr

/-- An entry of the MSI-X table (R378): message address, message data, and the vector's mask bit. -/
structure MsixEntry where
  addr : Nat
  data : Nat
  masked : Bool
  deriving DecidableEq, Repr

/-- An entry as it comes out of reset: masked, as the PCI Express standard has it (log entry 108). -/
def MsixEntry.reset : MsixEntry := { addr := 0, data := 0, masked := true }

/-- What the configuration space holds beyond the constants of Table 16-1 and HL_LINK: the subsystem IDs of the boot configuration
block, the maximum payload size and read request size in octets, and whether the function is in D3hot (R377, R399). -/
structure PciConfig where
  subsystem : BitVec 32
  maxPayload : Nat
  maxRead : Nat
  d3hot : Bool
  deriving DecidableEq, Repr

/-- The configuration space as it comes out of reset: 128 and 512 octets, as the PCI Express standard has it (log entry 108). -/
def PciConfig.reset : PciConfig := { subsystem := 0, maxPayload := 128, maxRead := 512, d3hot := false }

/-- What the engine sends out, in the order in which it sends it. The trace is the model's own record of the
engine's outputs (log entry 8). -/
inductive Emission
  /-- a frame of field port `fp`, at the start of an attempt to transmit it: its octets but the FCS (R243, R245) -/
  | fieldFrame (fp : Nat) (frame : List Octet)
  /-- a record written to the buffer of an engine-to-host descriptor, at its address in host memory (R384) -/
  | buffer (addr : Nat) (record : List Octet)
  /-- the 32 octets of a descriptor written back, at its address: ring and count say which it is (R382, R383) -/
  | descriptor (ring count addr : Nat) (octets : List Octet)
  /-- a ring's trailer, at its address (R382, R385) -/
  | trailer (ring addr : Nat) (octets : List Octet)
  /-- an MSI-X message: the data of the vector's table entry, written to its address (R386) -/
  | msix (vector addr data : Nat)
  /-- a Causeway frame on the lanes of a mask: header, payload and tag (R334, Table 14-1) -/
  | causeway (lanes : Nat) (frame : List Octet)
  /-- a frame launched on an Ethernet port: D at the reference plane, the instant D - PORT_TX_LAT at which its first block
  leaves the lane 2p ball (R25, R232), both in 2^-16 ns, and its octets but the FCS -/
  | launch (port : Nat) (at16 : Nat) (ball16 : Int) (frame : List Octet)
  /-- a frame of the LO-A tuning port: its 32 bits in the order in which LOA_TSDO carries them (R438) -/
  | tuning (bits : List Bool)
  /-- an edge executed on an event output, with its instant at the ball in 2^-9 ns (R190, R193) -/
  | eventEdge (evt : Nat) (active : Bool) (at9 : Nat)
  deriving DecidableEq, Repr

/-- Parity safe states (R368): a bit for each block that firmware is restoring, a bit for each block that stands in its
safe state as a whole, a bit for each block whose shadow copy has failed, the elements (block, index) that stand in theirs, and the
index and sub-index of each block's failing word (Table 17-5, DETAIL). -/
structure Guard where
  restoring : Nat
  safe : Nat
  failed : Nat
  elements : List (Nat × Nat)
  words : List (Nat × Nat)
  deriving DecidableEq, Repr

/-- What holds back a request or its reply: a fence, by the number that the first passage after it got (R272); a snapshot
copy (R152); the restoration of a block (R368); the public-key unit's current operation (R319); an INSTALL (R320); or, of a
write through BAR0, what it waits for or an earlier one that waits (R374). -/
inductive Wait
  | fence (id : Nat)
  | snapshot
  | restoring (block : Nat)
  | signing
  | install
  | order
  deriving DecidableEq, Repr

/-- A request that waits. `op` is its GOP operation, or 0 for a BAR0 write; `desc` is the count of its ring 0
descriptor. -/
structure Held where
  wait : Wait
  op : Nat
  req : GopRequest
  desc : Nat
  deriving DecidableEq, Repr

/-- A raise of a source, or the end of its ACTIVE, that has come about in this cycle and is not yet logged (R405,
R406). -/
structure Due where
  source : Nat
  ends : Bool
  detail : Nat
  injected : Bool
  deriving DecidableEq, Repr

/-- Everything that bookkeeping writes: the dictionary's values, the fault log, subscriptions, rings and outputs. -/
structure Book where
  /-- the scalar objects, by `Reg.key`; an unlisted one reads as its reset value -/
  objs : List (Nat × Int)
  /-- the STRING and DOMAIN objects, by key; an unlisted one reads as its reset content -/
  blobs : List (Nat × List Octet)
  /-- `D040.01 FLOG`, oldest first (R409) -/
  flog : List LogEntry
  /-- an entry has been lost to ring 23 since the last one written there (R409) -/
  logLostBefore : Bool
  subs : List Subscription
  /-- by link and role (R364) -/
  seqs : List (Nat × SeqCell)
  /-- the 64 rings -/
  rings : List (Nat × Ring)
  /-- the MSI-X table, by vector, and its pending-bit array (R378, R386) -/
  msix : List (Nat × MsixEntry)
  msixPending : Nat
  pci : PciConfig
  guard : Guard
  /-- the requests that wait, oldest first -/
  held : List Held
  /-- the objects, by key, that the host has written in the cycle of its last write: key, cycle, place of the link (R366) -/
  written : List (Nat × Nat × Nat)
  /-- what this cycle has raised; empty between commands (log entry 2) -/
  due : List Due
  /-- the cycle of the last raise, by which a later raise of the same cycle is CONCURRENT (R406; log entry 2) -/
  raisedIn : Option Nat
  /-- by source, severity + 4 × reaction of its last raise, which its end is logged with (R404, Table 17-5) -/
  raisedAs : List (Nat × Nat)
  out : List Emission
  deriving DecidableEq, Repr

/-! Mode control. -/

/-- A host set request that is held (R140). -/
structure SetRequest where
  slew : Bool
  at80 : Nat
  val112 : Nat
  unc : Nat
  deriving DecidableEq, Repr

/-- Start-up: the BOOT step in progress (Table 2-4; 0 in COLD, 14 once BOOT has been left), the straps as sampled,
and what the steps have found. -/
structure Boot where
  step : Nat
  firstStart : Bool
  factoryEn : Bool
  cwrole : Nat
  /-- a FAULTSAFE or RELINQUISH raise during BOOT (R411) -/
  fault : Bool
  /-- the ZEROISE line asserted during BOOT (R42) -/
  zeroised : Bool
  /-- no firmware image verified (R39) -/
  noImage : Bool
  /-- the boot configuration block of the verified image (R399) -/
  config : Option BootConfig
  deriving DecidableEq, Repr

/-- The supplies as the engine sees them (R48), when the inhibit was last released (R49), and HRST_N low (R44). -/
structure Supply where
  hrstLow : Bool
  released48 : Nat
  vddauxLow : Bool
  vbatLow : Bool
  vbatAbsent : Bool
  deriving DecidableEq, Repr

/-- What the service evaluation counts (R33, R34) and the automatic step of an ACQUIRE episode (R139). -/
structure EvalState where
  /-- none until the first update within; otherwise the updates since (R33) -/
  withinRun : Option Nat
  overCount : Nat
  holdoverReady : Bool
  autoStepped : Bool
  deriving DecidableEq, Repr

/-- The rate word in force, the slew engine (R136) and the held set request (R140). `sinceCycle` is the cycle of the clock
from which the term counts against the pending offset: the last effect instant, or the load of a new offset. -/
structure Slew where
  rateWord : Int
  term : Int
  pend48 : Int
  lastInterval : Bool
  sinceCycle : Nat
  request : Option SetRequest
  deriving DecidableEq, Repr

/-- The lease at this unit (R335, R336); instants are of the clock that runs on through a freeze. -/
structure Lease where
  current : Bool
  epoch : Nat
  acquired48 : Nat
  end48 : Nat
  renewals : Nat
  deriving DecidableEq, Repr

/-- FAULTSAFE: when it was entered, the later of the last fall of a causing source and the last raise at S2 or S3,
and the exits still inside the window (R413, R414). -/
structure FaultSafe where
  entered48 : Nat
  disturbed48 : Nat
  exits48 : List Nat
  deriving DecidableEq, Repr

/-- Mode control as a whole. `outHeld` is whether the outputs were enabled at the entry to ZEROISED, which holds them
as they were (Table 2-5). -/
structure Ctl where
  outHeld : Bool
  boot : Boot
  supply : Supply
  eval : EvalState
  slew : Slew
  lease : Lease
  fs : FaultSafe
  deriving DecidableEq, Repr

/-- One entry of the always-on log (R53, R324): what happened, in which mode, at which reading of the always-on counter. A
zeroisation has the code of its cause; 16 is VDD below its threshold, 17 and 18 a sag of VDDAUX and VBAT with the main
supplies off. -/
structure AlwaysOnEntry where
  kind : Nat
  mode : Nat
  counter : BitVec 32
  deriving DecidableEq, Repr

/-- The always-on domain: its log, what of it the last BOOT reported, and how often its counter has been read. -/
structure AlwaysOn where
  log : List AlwaysOnEntry
  reported : Nat
  reads : Nat
  deriving DecidableEq, Repr

/-- The test access port (R440). -/
structure TestPort where
  instruction : Jtag
  extest : Bool
  deriving DecidableEq, Repr

/-- The snapshot copy (R151, R152): the instant of the last snapshot, whether its copy is still running, a
SNAP_AT that is pending, the objects and Trestle's counts as they stood when the present cycle began (R21), and the copies of
CH_DROP and TR_RING_LOST, for which no table names a holding object (log entry 46). -/
structure Snapshot where
  base : List (Nat × Int)
  heldDrop : List Nat
  heldLost : Nat
  lastAt48 : Option Nat
  /-- the reading at which a snapshot last fell, taken or missed -/
  tried48 : Option Nat
  copying : Bool
  nowPending : Bool
  atPending : Option Nat
  deriving DecidableEq, Repr

/-! Keystone. -/

/-- The stored states of a slot (Table 13-3); ORPHANED is never written and is computed (R311). -/
inductive KeyState
  | empty | active | retiring | invalid
  deriving DecidableEq, Repr

/-- One key slot (Table 13-5, R309): the key value, its usage mask, KDF, origin and depth, its key generation, the
parent it was derived from with the generation recorded then, and the record generation. -/
structure KeySlot where
  state : KeyState
  value : BitVec 256
  usage : Nat
  kdf : Nat
  origin : Nat
  depth : Nat
  gen : Nat
  parent : Option (Nat × Nat)
  recordGen : Nat
  deriving DecidableEq, Repr

/-- A slot that holds no key. -/
def KeySlot.none : KeySlot :=
  { state := .empty, value := 0, usage := 0, kdf := 0, origin := 0, depth := 0, gen := 0, parent := Option.none,
    recordGen := 0 }

/-- The root as one copy of its record holds it (R302 to R304): the number of the draw it came from, the enrolment of the PUF whose
helper data stands beside it, the enrolment under whose PUF key it is wrapped, the root inside the wrap, and the record
generation. Wrapping is held as the value with the number of its key (log entry 104). -/
structure RootRecord where
  number : Nat
  helper : Nat
  under : Nat
  value : BitVec 256
  recordGen : Nat
  deriving DecidableEq, Repr

/-- What an operation on the key cells does at its commit record (R50). -/
inductive CellCommit
  /-- a key command of a link, or of the twin's journal: the slot, the command code, the record to be in force -/
  | slot (link : Option Link) (slot cmd : Nat) (record : KeySlot)
  /-- a new root with its helper data (R302) -/
  | root (record : RootRecord)
  /-- re-enrolment: new helper data, and the root under the new PUF key (R304) -/
  | helper (record : RootRecord)
  /-- the Custodian key of an INSTALL, for slot 7, with its generation (R320) -/
  | provision (key : BitVec 256) (gen : Nat)
  deriving DecidableEq, Repr

/-- An operation on the key cells: the records still to be written, the last of which is its commit record (R50). -/
structure CellOp where
  recordsLeft : Nat
  commit : CellCommit
  deriving DecidableEq, Repr

/-- The kinds of crypto job (R316). -/
inductive JobKind
  | cmacGenerate | cmacCheck | cmacKdf | hkdf | hmacGenerate | hmacCheck | sivSeal | sivOpen | wrap | unwrap
  deriving DecidableEq, Repr

/-- A crypto job (R316): its number, its kind and the slot it names, the lane it is admitted to, and what its admission
gave it: a status and the key loaded. `parts` is how many jobs in the sense of Table 17-8 the number stands for. -/
structure Job where
  id : Nat
  kind : JobKind
  slot : Nat
  lane : Option Nat
  status : Nat
  key : BitVec 256
  parts : Nat
  deriving DecidableEq, Repr

/-- A key command whose record is written and whose result waits for the admitted jobs listed (R314). -/
structure KeyWait where
  link : Option Link
  slot : Nat
  cmd : Nat
  state : Nat
  gen : Nat
  orphaned : Nat
  jobs : List Nat
  deriving DecidableEq, Repr

/-- An operation of the public-key unit: a CSR over a commonName, a signature over an attestation's message, the ECDH of an
INSTALL (R319, R320). -/
inductive PkuOp
  | csr (subject : List Octet)
  | attest (message : List Octet)
  | install
  deriving DecidableEq, Repr

/-- The firmware update in progress (R322): the octets written to the bank that is not running. -/
structure FwUpdate where
  active : Bool
  image : List Octet
  deriving DecidableEq, Repr

/-- Keystone. -/
structure Keystone where
  /-- the 1,024 slots; an unlisted one is EMPTY -/
  slots : List (Nat × KeySlot)
  /-- the other copy of each slot's record, which the last update left behind (R50) -/
  older : List (Nat × KeySlot)
  /-- KS_GEN_HIGH as the committed records leave it (R49, R309) -/
  genHigh : Nat
  /-- the two copies of the wrapped root, the one in force and the one before it (R50, R302) -/
  root : Option RootRecord
  rootOlder : Option RootRecord
  /-- the enrolment whose PUF key this BOOT has rebuilt, and the root unwrapped with it (R303) -/
  puf : Option Nat
  rootKey : Option (BitVec 256)
  /-- how the re-enrolment of this BOOT completed (R304), and how many enrolments there have been -/
  enrolStatus : Option Nat
  enrolments : Nat
  /-- operations on the key cells, the first one in progress -/
  cells : List CellOp
  jobs : List Job
  nextJob : Nat
  waits : List KeyWait
  /-- the operations of the public-key unit, the first one in progress -/
  pku : List PkuOp
  /-- the statuses of the INSTALLs that have completed and whose replies are still to be sent (R320) -/
  installs : List Nat
  fwUpdate : FwUpdate
  /-- requests of the DRBG since its last reseed, how many values have been drawn in all, and how many seeds of 512 bits of tested
  entropy it has been given (R302, R318) -/
  requests : Nat
  draws : Nat
  seeds : Nat
  trngFailed : Bool
  passes : Nat
  /-- the ZEROISE line is asserted and the erasure has not completed (R324) -/
  zeroising : Bool
  /-- why it asserted last: a tamper source, 9 the command, 10 the PUF, 11 FACTORY; and the mode then -/
  cause : Nat
  causeMode : Nat
  /-- the key store is empty after a zeroisation (Table 13-13) -/
  zeroised : Bool
  bootCount : Nat
  /-- the voltage source is armed (R323) -/
  voltageArmed : Bool
  deriving DecidableEq, Repr

/-! Trestle. -/

/-- The channel states of Table 3-2, in the order of their codes. -/
inductive ChState
  | off | dllAcq | cal | run | fault
  deriving DecidableEq, Repr

/-- What a Trestle channel holds beyond its objects. Instants of edges are in 2^-22 ns (R61). -/
structure Channel where
  state : ChState
  /-- the cycle of its last transition, with the state left in it, or FAULT where that was entered (R64) -/
  left : Option (Nat × ChState)
  /-- the counts N_k of the table in force (R59, R60); none before the first calibration -/
  hist : List Nat
  /-- channel 47's counts as they stood at that calibration (R62) -/
  monitor : List Nat
  /-- qualifying edges still to be skipped before the next one is stamped (R66) -/
  skip : Nat
  /-- the last stamped edge, by the counter's progress, for the dead time (R67) -/
  lastEdge22 : Option Nat
  dropsSince : Nat
  lostBefore : Bool
  /-- the next stamp is the first after a step (R141) -/
  stepMark : Bool
  seq : Nat
  calStart48 : Nat
  retries : Nat
  failed48 : Nat
  deriving DecidableEq, Repr

/-- A channel at reset: OFF, with nothing learnt. -/
def Channel.reset : Channel :=
  { state := .off, left := none, hist := [], monitor := [], skip := 0, lastEdge22 := none, dropsSince := 0, lostBefore := false,
    stepMark := false, seq := 0, calStart48 := 0, retries := 0, failed48 := 0 }

/-- A stamp T (R61), in 2^-22 ns, with the raw fine code of its edge, T by the counter's progress and the progress at which
the stamp is available (R74), both in 2^-48 ns, and the steps of the timescale before it (R71). -/
structure StampRec where
  t22 : Int
  fine : Nat
  up48 : Int
  ready48 : Nat
  steps : Nat
  deriving DecidableEq, Repr

/-- An interval pair (R70, R71): its start stamp while it is armed, and the stop stamps that no arming
has used. -/
structure Pair where
  armed : Option StampRec
  extraStart : Bool
  dropped : Bool
  lostBefore : Bool
  seq : Nat
  stops : List StampRec
  deriving DecidableEq, Repr

/-- A pair at reset: disarmed. -/
def Pair.reset : Pair :=
  { armed := none, extraStart := false, dropped := false, lostBefore := false, seq := 0, stops := [] }

/-- A record on its way to ring 20: whether a pair made it, the pair or channel, its 16 octets, and the progress of the
counter at which it is available (R74). -/
structure TrRecord where
  pair : Bool
  number : Nat
  octets : List Octet
  ready48 : Nat
  deriving DecidableEq, Repr

/-- Trestle: its channels and pairs, the records in the buffer of ring 20's open descriptor with the instant from which its
flush time counts, and the records that wait for a descriptor, at most 4,096 (R74, R75). -/
structure Trestle where
  channels : List (Nat × Channel)
  pairs : List (Nat × Pair)
  buffer : List TrRecord
  bufferSince48 : Nat
  store : List TrRecord
  /-- the steps of the timescale so far (R71) -/
  steps : Nat
  deriving DecidableEq, Repr

/-! Reference slots. -/

/-- Quality information as a slot received it (Table 4-4): the raw word of SLOT_QL_RAW, the uncertainty in bound
units, the class where it does not come from a quality map, and the growth of a Bound TLV in 2^-16 ns per second with
the instant of its Announce (R171). -/
structure QlInfo where
  raw : Nat
  unc : Nat
  cls : Option Nat
  growth : Nat
  at48 : Nat
  deriving DecidableEq, Repr

/-- What a reference slot holds beyond its objects. Durations end at instants of the timeline's progress. -/
structure Slot where
  /-- quality information that has arrived since the slot was enabled (R86) -/
  info : Option QlInfo
  qualEnd48 : Nat
  suspEnd48 : Nat
  disqEnd48 : Nat
  /-- the glitches of the last 60 s (Table 4-7) -/
  glitches48 : List Nat
  /-- a frequency or phase trip fell in the suspension (Table 4-7, transitions 8 and 9) -/
  tripped : Bool
  /-- the last stamped edge, by the base's own time in 2^-48 ns (R85) -/
  lastBase48 : Option Nat
  /-- the same edge by the timeline's progress, and how many of the edges expected after it are missing -/
  lastUp48 : Nat
  misses : Nat
  /-- since when edges have been present (Table 4-7, transition 4) -/
  since48 : Nat
  /-- stamped edges in a row, each at its interval from the one before -/
  good : Nat
  /-- slot 23: pulses stamped, the last pulse that a valid message named and its SECONDS, the messages missing in a
  row, and whether the last pulse's window is still open (R84) -/
  pulses : Nat
  named : Option (Nat × Nat)
  missing : Nat
  windowOpen : Bool
  /-- the last UTC offset reported, with 0, 1 or 2 for no leap, leap61, leap59 (R144) -/
  utc : Option (Int × Nat)
  /-- when the last ESMC information PDU arrived (Table 4-4) -/
  esmc48 : Nat
  deriving DecidableEq, Repr

/-- A slot on which nothing has arrived. -/
def Slot.reset : Slot :=
  { info := none, qualEnd48 := 0, suspEnd48 := 0, disqEnd48 := 0, glitches48 := [], tripped := false,
    lastBase48 := none, lastUp48 := 0, misses := 0, since48 := 0, good := 0, pulses := 0, named := none, missing := 0,
    windowOpen := false, utc := none, esmc48 := 0 }

/-- The causes that end a slot's service or hold it back (Table 4-6, reason codes). -/
inductive SlotReason
  | none | los | glitch | freq | phase | drift | ql | ambiguous | host
  deriving DecidableEq, Repr

/-! Herd. -/

/-- A measurement that waits for an update (R98, R101): the base's time at its instant and from when on it is available (R74),
in 2^-48 ns, and the phase source minus base, in 2^-48 ns. -/
structure Meas where
  base48 : Int
  ready48 : Int
  phase48 : Rat
  deriving DecidableEq, Repr

/-- A stamp that is not yet available to the line fit (R74): the base's time at its instant, its phase before the unwrapping
with the period, and for a mark the whole phase, all in 2^-48 ns. -/
structure FitStamp where
  base48 : Int
  raw48 : Rat
  period48 : Rat
  whole48 : Option Rat
  deriving DecidableEq, Repr

/-- The least-squares line fit over the stamps of one update interval (R101): their number, the first stamp's time and
phase, the sums over time and phase relative to those, and the last phase for the unwrapping. -/
structure Fit where
  n : Nat
  base48 : Int
  phase48 : Rat
  last48 : Rat
  st : Rat
  stt : Rat
  sp : Rat
  stp : Rat
  deriving DecidableEq, Repr

/-- A three-state filter (R100): phase in 2^-16 ns, frequency in 2^-48, drift in 2^-64 per second, their covariance in
those units, and the base's time at which it stands. -/
structure Filter where
  /-- measurements taken since it was initialised; the first two set phase and frequency (R102) -/
  taken : Nat
  at48 : Int
  x : Rat
  y : Rat
  d : Rat
  pxx : Rat
  pxy : Rat
  pxd : Rat
  pyy : Rat
  pyd : Rat
  pdd : Rat
  /-- smoothed squares of the phase and frequency residuals (R103), and the last measurement's time -/
  s2 : Rat
  f2 : Rat
  last48 : Int
  /-- since which measurement every one has exceeded the phase test, the frequency test (R106) -/
  overPhase : Option Int
  overFreq : Option Int
  /-- w × |r| of the measurements of the detection window, in bound units (R107) -/
  effects : List (Int × Nat)
  /-- since which update the frequency has agreed during a FREQ suspension (R109) -/
  agreed : Option Nat
  /-- SyncE: the last phase measured (R85), in 2^-16 ns -/
  lastPhase : Rat
  /-- FREQ suspension: the other slot of the pair that disagreed, and the onset (R108, R109) -/
  rival : Option (Nat × Nat)
  waiting : List Meas
  coming : List FitStamp
  fit : Option Fit
  deriving DecidableEq, Repr

/-- A filter that has measured nothing. -/
def Filter.reset : Filter :=
  { taken := 0, at48 := 0, x := 0, y := 0, d := 0, pxx := 0, pxy := 0, pxd := 0, pyy := 0, pyd := 0, pdd := 0, s2 := 0,
    f2 := 0, last48 := 0, overPhase := none, overFreq := none, effects := [], agreed := none, lastPhase := 0,
    rival := none, waiting := [], coming := [], fit := none }

/-- The LO model of R123: phase, frequency and drift at an instant of the base. -/
structure LoModel where
  t48 : Int
  x : Rat
  y : Rat
  d : Rat
  deriving DecidableEq, Repr

/-- What Time-error bound reads of its own objects at an update (R156, R164): TEB_K, the coefficients of LO-A and LO-B in the
order of Table 7-2, TEB_FA_FREQ, and the calibration terms of ports 0–7, OUT0–OUT15 and EVT0–EVT15 (Table 7-3). -/
structure TebIn where
  k : Nat
  coefA : List Nat
  coefB : List Nat
  fa : Nat
  cals : List Nat
  deriving DecidableEq, Repr

/-- The objects at reset (Tables 7-2 and 7-7). -/
def TebIn.reset : TebIn :=
  { k := 3, coefA := [10000000, 1000000, 1000, 3000, 1000], coefB := [10000000, 1000000, 1000, 3000, 1000], fa := 10000,
    cals := List.replicate 8 0x80 ++ List.replicate 32 0 }

/-- What an update hands to its effect instant and to Time-error bound (R98, R156): when the effect falls due, the
sets and weights, the rate word (none: held), the frequency-path word, and the step that R137 or R139 calls for, in
2^-48 ns. Then the terms of the bound: the lead e where the servo follows a phase, max(P, s²) of each member of the
time set, the ambiguity and drift terms in bound units, whether the LO model or assistance governs, and σ of the base
filter's frequency and drift. Phases in 2^-16 ns, frequencies in rate units, drifts in 2^-64 per second. -/
structure HerdEffect where
  due48 : Nat
  timeSet : List Nat
  freqSet : List Nat
  wTime : List (Nat × Rat)
  wFreq : List (Nat × Rat)
  rate : Option Int
  fpWord : Int
  step48 : Option Int
  e : Option Rat
  /-- the lead over the LO model that governed before the time set returned (R163) -/
  eHeld : Option Rat
  vars : List (Nat × Rat)
  amb : Rat
  drift : Nat
  model : Bool
  assisted : Bool
  sigmaY : Rat
  sigmaD : Rat
  switched : Bool
  /-- U_i and the CH_DRIFT part of m_i of each member of the time set, in bound units; none where unbounded (R156) -/
  refs : List (Nat × Option Rat)
  drifts : List (Nat × Option Rat)
  /-- every condition of R114 held at the update -/
  revert : Bool
  /-- the tuning step issued in the update: its LSBs and its frequency (R116) -/
  tune : Option (Int × Rat)
  /-- Time-error bound's own objects as the update read them -/
  tebIn : TebIn
  deriving DecidableEq, Repr

/-- The frequency path (R117 to R119): the integral of FP_WORD up to a base instant, and the build-out, in 2^-16 ns, and
since when each candidate has been in the set. -/
structure FreqPath where
  phi : Rat
  at48 : Nat
  buildout : Rat
  since48 : List (Nat × Nat)
  hasPhase : Bool
  deriving DecidableEq, Repr

/-- Frequency assistance in force (R124): the phase that the servo follows, in 2^-16 ns. -/
structure Assist where
  x : Rat
  deriving DecidableEq, Repr

/-- The host's correction (R126, R127): the rate accepted, the instant of the last acceptance or of the loop's opening,
whether a correction has come since the last record, the tag in force, and whether the hardware loop closes at the next
update. -/
structure HostServo where
  rate : Option Int
  at48 : Nat
  fresh : Bool
  tag : Nat
  closing : Bool
  deriving DecidableEq, Repr

/-- A tuning step being booked (R116): its frequency in rate units, the start and length of its ramp in base time, the part
booked in the filters, and the part booked in the rate word. -/
structure Ramp where
  dy : Rat
  start48 : Nat
  len48 : Nat
  booked : Rat
  rated : Int
  deriving DecidableEq, Repr

/-- LO-A tuning (R116, R438): whether the port has been driven, when the interval began, the sum and number of rate
words over it, a step computed and not yet sent, the ramps being booked, a frame on the wire, and the word that waits for
it to end. -/
structure Tuning where
  driven : Bool
  since48 : Nat
  rateSum : Int
  rateCount : Nat
  toSend : Option (Int × Rat)
  ramps : List Ramp
  sending : Bool
  queued : Option Int
  deriving DecidableEq, Repr

/-- One LO (R111, R112): the filtered warm-up flag, whether it has been measured since its last loss, departure or fall of that
flag (R178), whether the monitor sees it, since when both have held by the clock
that runs on through a freeze, whether it is in service, and since when by the timeline. -/
structure LoState where
  warm : Bool
  measured : Bool
  seen : Bool
  ready48 : Nat
  serving : Bool
  since48 : Nat
  deriving DecidableEq, Repr

/-- A disagreement of two equal ranks without a third opinion (R110): the members, the update at which it began, and
since which update it has stayed below half the limit, in base time. -/
structure Ambiguity where
  a : Nat
  b : Nat
  onset48 : Nat
  calm48 : Option Nat
  deriving DecidableEq, Repr

/-- Herd. -/
structure Herd where
  /-- by slot, 24 for LO-A and 25 for LO-B -/
  filters : List (Nat × Filter)
  /-- the time set and the frequency set in force (R88) -/
  timeSet : List Nat
  freqSet : List Nat
  /-- the dominant slot, as the last update that applied weights left it (R97) -/
  dominant : Option Nat
  /-- the ensemble of the last update: phase in 2^-16 ns, frequency, drift, at a base instant (R105) -/
  ensemble : Option LoModel
  /-- the base filter, which is the LO model while the time set is empty (R105, R123), and the variances of its
  frequency and drift -/
  model : Option LoModel
  /-- the LO model that governed when a time set returned, which the continued bound is still measured against (R163) -/
  heldModel : Option LoModel
  varY : Rat
  varD : Rat
  /-- Y, D and LO-A's frequency against the base (in the place of a phase), at each update of the last HD_DET_WIN (R108) -/
  history : List LoModel
  effect : Option HerdEffect
  acc : Rat
  limited : Bool
  path : FreqPath
  assist : Option Assist
  swl : HostServo
  tune : Tuning
  loA : LoState
  loB : LoState
  /-- the last rebase: its instant, and √variance of the build-out and of the frequency, in 2^-16 ns and rate units
  (R113) -/
  switchTerm : Option (Nat × Rat × Rat)
  /-- the last tuning step: its instant and dy in rate units (R116) -/
  lastTune : Option (Nat × Rat)
  ambiguity : Option Ambiguity
  /-- the time set has not been empty since the last reset (R85, phase monitor) -/
  everTimed : Bool
  /-- the last update whose time set was not empty, since reset (R267) -/
  timed80 : Option Nat
  /-- marks for the next ring 21 record (Table 5-7) -/
  lost21 : Bool
  stepped : Bool
  switched : Bool
  tuned : Bool
  pathSwitched : Bool
  /-- the sets of the last update differed from the ones before -/
  setChange : Bool
  deriving DecidableEq, Repr

/-! The timescale's UTC bookkeeping. -/

/-- An offset that AUTO has heard from the dominant slot and not yet taken (R145): the first one ever, which waits for
the next second boundary, or a changed one with the instant since which it has been reported. -/
structure Utc where
  first : Option Int
  held : Option (Int × Nat)
  /-- the last leap that took effect: its kind and its instant, for a step back across it (Table 6-1) -/
  applied : Option (Nat × Nat)
  deriving DecidableEq, Repr

/-! Synthesis. -/

/-- What a fractional output synthesiser holds beyond its objects: the remainder of its word (R183), the target m the
word was computed with, and whether the residual slew after a second boundary is in progress (R188). -/
structure Fos where
  rem : Rat
  target : Int
  aligning : Bool
  seed : Nat
  /-- a relock is in progress (R184); the cycle of the base in which the seed was loaded (R185) -/
  relock : Bool
  seeded : Nat
  /-- it has been locked since its start, so its next lock is a relock (R185) -/
  again : Bool
  deriving DecidableEq, Repr

/-- A synthesiser that has not been started. -/
def Fos.reset : Fos := { rem := 0, target := 0, aligning := false, seed := 0, relock := false, seeded := 0, again := false }

/-- The loop-back checks of one output (R197, R198): consecutive passes and failures, whether the check has failed,
and whether the output is squelched for it until its enable is written 0 and 1. -/
structure Loopback where
  passes : Nat
  fails : Nat
  failed : Bool
  squelched : Bool
  deriving DecidableEq, Repr

/-- No check yet. -/
def Loopback.reset : Loopback := { passes := 0, fails := 0, failed := false, squelched := false }

/-- What a clock output holds beyond its objects: its divider runs on an aligned FOS, and it has entered RUN (R188). -/
structure Output where
  started : Bool
  run : Bool
  /-- the start offset of its divider in VCO periods and the steps of its fine delay (R189); high swing (R186) -/
  coarse : Nat
  fine : Nat
  swing : Bool
  lb : Loopback
  deriving DecidableEq, Repr

/-- A clock output at reset. -/
def Output.reset : Output := { started := false, run := false, coarse := 0, fine := 0, swing := false, lb := Loopback.reset }

/-- Synthesis: FOS0–FOS7, OUT0–OUT15, since when loop-back checks are suspended and
whether LB_STALE has passed (R198), the output of the last gate: 0–15 for OUT, 16–31 for EVT, and its instant in this pass of
the timescale (R197). -/
structure Synth where
  fos : List (Nat × Fos)
  outs : List (Nat × Output)
  suspended48 : Option Nat
  stale : Bool
  gate : Nat
  gate80 : Option Nat
  deriving DecidableEq, Repr

/-! Event generators. -/

/-- A queue entry (R192): the instant as it was staged, in 2^-32 ns (a UTC instant on a UTC queue), the kind 1 PULSE,
2 ACTIVE or 3 IDLE, the width in 2^-9 ns, and whether its first edge has come, from which on the instant is the TAI instant
it was resolved to (R148). -/
structure EvEntry where
  at112 : Nat
  kind : Nat
  width9 : Nat
  begun : Bool
  deriving DecidableEq, Repr

/-- What a generator holds beyond its objects. Instants are in 2^-9 ns. -/
structure Evt where
  queue : List EvEntry
  /-- the last entry that has left the queue, with its instant as it then stood (R192) -/
  last : Option EvEntry
  calStart48 : Nat
  /-- the pin is at its active level -/
  active : Bool
  /-- programme: the number of the next rising edge, and whether its returning edge comes first (R194) -/
  edge : Nat
  falling : Bool
  /-- the boundary at which a refilled member rejoins its group (R196) -/
  rejoin9 : Option Nat
  lb : Loopback
  deriving DecidableEq, Repr

/-- A generator at reset. -/
def Evt.reset : Evt :=
  { queue := [], last := none, calStart48 := 0, active := false, edge := 0, falling := false, rejoin9 := none,
    lb := Loopback.reset }

/-- The event block: its generators, and the number of each group's next boundary (R195). -/
structure Events where
  gens : List (Nat × Evt)
  groups : List (Nat × Nat)
  deriving DecidableEq, Repr

/-! Time-error bound. -/

/-- A model that governs the bound (R161, R162). Times are of the timeline's progress in 2^-48 ns, bounds in bound
units. `lo` is the LO whose coefficients give F and G of the free model; `pieces` says from which instant on which LO
gives W, R and T. -/
structure TebModel where
  free : Bool
  start48 : Nat
  b0 : Rat
  sigmaY : Rat
  sigmaD : Rat
  lo : Nat
  pieces : List (Nat × Nat)
  assisted : Bool
  afterAssist : Bool
  /-- a host set started it, and |TS_SLEW_PEND| is still part of its B0 (R162) -/
  fromSet : Bool
  hostSet : Bool
  /-- magnitudes added by sets made while the bound was finite, and the one of a slew still in progress -/
  added : Rat
  slewing : Rat
  /-- when the holdover began, whose segments these are (R161) -/
  hold48 : Nat
  /-- how much of TEB_T_SWITCH and TEB_T_HAND B0 contains already: a bound at entry to FREERUN (R162) -/
  counted : Rat
  /-- TEB_K, the coefficients and TEB_FA_FREQ that the model goes on with once a time set has returned: no write lowers them
  (R163) -/
  kept : Option TebIn
  deriving DecidableEq, Repr

/-- Time-error bound. -/
structure Teb where
  /-- the bound of the timescale before rounding; none while it is unbounded -/
  exact : Option Rat
  /-- B0 of R161 and the instant of the last update with a time set -/
  last : Option (Rat × Nat)
  /-- the bound of the last update with a time set, where slot 22 was in it (R160) -/
  twinBound : Option Rat
  model : Option TebModel
  /-- the terms of Table 7-1 in order, of the last update with a time set; none for an unbounded one -/
  terms : List (Option Rat)
  /-- slot 22 has contributed since the last reset or freeze (R160) -/
  twinSeen : Bool
  /-- the lead e of the last update in 2^-16 ns, while the servo followed a phase, and the one over the model that governed before
  the time set returned (R163) -/
  e : Option Rat
  eHeld : Option Rat
  /-- the last update had a time set -/
  timed : Bool
  /-- a restored configuration or a reset of the block: unbounded until the next update (R175) -/
  blocked : Bool
  /-- after a freeze: unbounded until the first update in ACQUIRE or a host set (R166) -/
  afterFreeze : Bool
  /-- TEB_K and the coefficients of LO-A and LO-B that are in force (R164), in the order of Table 7-2 -/
  k : Nat
  coefA : List Nat
  coefB : List Nat
  held : Bool
  /-- TEB_FA_FREQ and the calibration terms of the interval in force (R156) -/
  fa : Nat
  cals : List Nat
  /-- the end of the interval in force -/
  end48 : Nat
  /-- WORST of Table 7-6, the bound that the pin compares, the pin's level, and since when it has stayed within (R168) -/
  worst : Nat
  source : Nat
  pin : Bool
  within48 : Option Nat
  /-- ring 22: event records of this second, and LOST_BEFORE of the next (R174) -/
  events : Nat
  lostBefore : Bool
  /-- the bounds that were finite when the last cycle ended: bit 0 the timescale, then ports, OUT and EVT; none while no log is
  kept (Table 7-6, cause 6) -/
  finite : Option Nat
  deriving DecidableEq, Repr

/-! GNSS baseband. -/

/-- A channel's code and carrier oscillators at an instant (R210, R211): the place in the primary code in chips, the code periods
since TRACK, the carrier phase in cycles, the Doppler in mHz, and the multipath discriminator last measured in 2^-15 chip. -/
structure Oscillators where
  code : Rat
  periods : Nat
  carrier : Rat
  doppler : Int
  mpDisc : Int
  at48 : Nat
  deriving DecidableEq, Repr

/-- What a tracking channel holds beyond its objects: since when it is in its state, since when in TRACK, a
CYCLE_SLIP that its first valid entry after a coast will carry (R211), and its oscillators. -/
structure Tracker where
  since48 : Nat
  trackSince48 : Nat
  slipDue : Bool
  osc : Oscillators
  deriving DecidableEq, Repr

/-- An IDLE channel. -/
def Tracker.reset : Tracker :=
  { since48 := 0, trackSince48 := 0, slipDue := false,
    osc := { code := 0, periods := 0, carrier := 0, doppler := 0, mpDisc := 0, at48 := 0 } }

/-- A confirmed detection that waits for a free channel (R208): receiver, signal, satellite, when it was made, and the code phase
and Doppler of its cell. -/
structure Detection where
  rx : Nat
  signal : Nat
  sv : Nat
  at48 : Nat
  osc : Oscillators
  deriving DecidableEq, Repr

/-- The pulse scheduled for a second (R219): the second, b and qErr in 2^-16 ns, and the lead of the timescale over its base at
the epoch that b was found for (R19). -/
structure Pulse where
  second : Nat
  b16 : Int
  qerr16 : Int
  lead48 : Int
  deriving DecidableEq, Repr

/-- A receiver: the second of the last whole-second epoch with a valid entry, with that epoch's instant, the timescale's lead
over its base then, and its valid entries as channel, assignment and C/N0 (R215); the instant of the last epoch that entered
a solution (R218), the survey's start and end (R216), the pulse scheduled, whether its last solution used both bands,
the almanac's age with the instant of that age (R209), the ephemerides held, by system and satellite, each with its age when it was
decoded and the instant of that (R223), and the second notice executed last in this pass of the timescale (R142, R220). -/
structure Receiver where
  epochSec : Option Nat
  epoch48 : Nat
  lead48 : Int
  entries : List (Nat × Nat × Nat)
  used48 : Option Nat
  survey48 : Option Nat
  held : Bool
  pulse : Option Pulse
  dual : Bool
  almanac : Option (Nat × Nat)
  ephemerides : List ((Nat × Nat) × (Nat × Nat))
  notice80 : Option Nat
  deriving DecidableEq, Repr

/-- A receiver that is off. -/
def Receiver.reset : Receiver :=
  { epochSec := none, epoch48 := 0, lead48 := 0, entries := [], used48 := none, survey48 := none, held := false, pulse := none, dual := false,
    almanac := none, ephemerides := [], notice80 := none }

/-- FE_CLK's divider (R206): its word, the remainder carried, and the rate it was computed for; none before BOOT step 7. -/
structure FeClock where
  word : Int
  rem : Rat
  target : Int
  deriving DecidableEq, Repr

/-- The GNSS baseband: trackers by channel, detections in the order in which they were made, the receivers, the epoch
count since GN_ENABLE 0→1, and what the next ring 19 block carries (R214). -/
structure Gnss where
  fe : Option FeClock
  trackers : List (Nat × Tracker)
  /-- since when each of the eight search engines has been free (R208), and since when each band may be searched -/
  engines : List Nat
  streams : List (Nat × Nat)
  waiting : List Detection
  rxA : Receiver
  rxB : Receiver
  epochSeq : Nat
  lastGen : Nat
  lostBefore : Bool
  /-- entries with propagated values so far (R213) -/
  propagated : Nat
  deriving DecidableEq, Repr

/-! The timing protocol engine (R249 to R276, R285 to R291). -/

/-- A received timing frame that waits for its pipeline or is in it before build (R249, R250): its number, port,
pipeline, stamp in 2^-16 ns, the CLASS of its rule, and its octets. -/
structure Passage where
  id : Nat
  port : Nat
  pl : Nat
  stamp16 : Nat
  cls : Nat
  octets : List Octet
  deriving DecidableEq, Repr

/-- What a frame is, for its counters and for what its departure does (Table 11-9, R274). -/
inductive FrameKind
  | sync (record : Option Nat)
  | announce
  | ptp
  | ntp
  | delayReq (session seq : Nat)
  | pdelayReq (port seq : Nat)
  deriving DecidableEq, Repr

/-- Where a frame goes and comes from: MAC addresses, the 802.1Q tag, the transport (0 UDP over IPv4, 1 UDP over IPv6,
2 IEEE 802.3), addresses and UDP ports (R256, R262). -/
structure Addressing where
  dst : Nat
  src : Nat
  tci : Option Nat
  transport : Nat
  srcIp : Nat
  dstIp : Nat
  srcUdp : Nat
  dstUdp : Nat
  deriving DecidableEq, Repr

/-- What a frame still lacks: nothing, or what the job with a number computes: the ICV of a PTP message, with the
algorithm, CF_ZERO, the KDF and the client's context (R263, R264); or the Authenticator of an NTS response, with the
master's keyID, the C2S and S2C keys, the number of cookies and the draw of its first nonce (R268). -/
inductive Tag
  | ready
  | icv (job alg : Nat) (cfZero : Bool) (kdf : Nat) (context : List Octet)
  | nts (job keyId : Nat) (c2s s2c : List Octet) (cookies draw : Nat)
  deriving DecidableEq, Repr

/-- A timed frame past the schedule stage: its number, port, pipeline, first block, departure instant D in 2^-48 ns, and
what is sent at D (R24, R269). -/
structure Frame where
  id : Nat
  port : Nat
  pl : Nat
  kind : FrameKind
  block : Nat
  dep48 : Nat
  addr : Addressing
  msg : List Octet
  tag : Tag
  deriving DecidableEq, Repr

/-- Whose generated messages a calendar entry is for (R285): a record's Sync or Announce, or those of a multicast
profile on a port. -/
inductive CalOwner
  | client (record : Nat) (announce : Bool)
  | multicast (port profile : Nat) (announce : Bool)
  deriving DecidableEq, Repr

/-- An entry of the calendar: its due time in TAI ns, its eligible time in 2^-16 ns once the pacer has given one, and
whether it waits for its pipeline; for a multicast entry some of whose transports have been built, the sequenceId of the
message and the transports to come (R250, R286 to R288; log entry 29). -/
structure CalEntry where
  owner : CalOwner
  due : Nat
  elig16 : Option Nat
  ready : Bool
  rest : Option (Nat × List Nat)
  deriving DecidableEq, Repr

/-- A pacer: the next class instant in 2^-16 ns and what that truncation has left over of its spacings, below one such unit
(R183, R287). -/
structure Pacer where
  at16 : Nat
  rem : Rat
  deriving DecidableEq, Repr

/-- A grant of a session: its end on the timeline, its granted period, and when its renewal is due (R274). -/
structure SesGrant where
  end48 : Nat
  log : Int
  renew48 : Nat
  deriving DecidableEq, Repr

/-- A two-step Sync that waits for its Follow_Up: its sequenceId, correction and stamp in 2^-16 ns, and when it came. -/
structure WaitingSync where
  seq : Nat
  correction16 : Int
  t2 : Int
  at48 : Nat
  deriving DecidableEq, Repr

/-- A session (R274, R275). Instants t1 to t4 are in 2^-16 ns of TAI. -/
structure Session where
  /-- by message type: the grants, the instants of requests that have no reply yet, and the instants of retries -/
  grants : List (Nat × SesGrant)
  asked48 : List (Nat × Nat)
  retry48 : List (Nat × Nat)
  waiting : Option WaitingSync
  /-- the last complete Sync: t1 corrected and t2 -/
  last : Option (Int × Int)
  /-- the Delay_Req that is out: its sequenceId and, once it has departed, t3 -/
  request : Option (Nat × Option Int)
  dreqAt48 : Nat
  dreqSeq : Nat
  sigSeq : Nat
  /-- meanPathDelay with the instant at which its exchange completed -/
  path : Option (Int × Nat)
  measured48 : Nat
  announced48 : Nat
  announceLog : Int
  deriving DecidableEq, Repr

/-- A session that is OFF. -/
def Session.reset : Session :=
  { grants := [], asked48 := [], retry48 := [], waiting := none, last := none, request := none, dreqAt48 := 0,
    dreqSeq := 0, sigSeq := 0, path := none, measured48 := 0, announced48 := 0, announceLog := 0 }

/-- The peer-delay exchange of a port: the sequenceId of its own Pdelay_Req, t1 once that has departed, and t4 with the
response's correction while a Follow_Up is awaited; instants in 2^-16 ns (R262). -/
structure Peer where
  seq : Nat
  t1 : Option Int
  t4 : Option (Int × Int)
  sent48 : Nat
  deriving DecidableEq, Repr

/-- The sequence counter of a multicast stream (R260). -/
structure McSeq where
  seq : Nat
  res : Nat
  deriving DecidableEq, Repr

/-- A GRANT reply that waits for its journal entries (Table 14-5): the JSEQ of the last of them, 0 once they are acknowledged, and what
is to be sent:
its request, the requester's record, its profile, its TLVs, and the SPP entry and context it is authenticated with. -/
structure HeldReply where
  jseq : Nat
  record : Option Nat
  /-- the record as the passage leaves build, and the first due times of its entries by type -/
  write : Option FoldRecord
  due : List (Nat × Nat)
  passage : Passage
  profile : Nat
  body : List Octet
  auth : Option (Nat × List Octet)
  deriving DecidableEq, Repr

/-- The timing protocol engine. `hashDraw` is the draw that the Fold's hash key came from (R253); `fences` are those
whose reply is withheld, each with the number that the first passage after it got (R272). -/
structure Tpe where
  hashDraw : Nat
  fold : List (Nat × FoldRecord)
  waiting : List Passage
  replies : List HeldReply
  frames : List Frame
  nextId : Nat
  calendar : List CalEntry
  pacers : List (Nat × Pacer)
  handed : List (Nat × Nat)
  multicast : List (Nat × McSeq)
  fences : List Nat
  sessions : List (Nat × Session)
  peers : List (Nat × Peer)
  /-- the record numbers that each set of the Fold cache holds, the last used first (R252; log entry 26) -/
  cache : List (Nat × List Nat)
  /-- DRAM has failed: packet service is stopped (R252, Table 1-6; log entry 102) -/
  dramLost : Bool
  deriving DecidableEq, Repr

/-! Ethernet ports and their egress (R227 to R242, R269, R292 to R299). -/

/-- PCS blocks that a frame holds, the last one exclusive; `frame` is its number in the engine, `bit` the bit of its gate (0 to 7
a queue, 8 TIMED, 9 SYNC, 10 none: PAUSE), and `sent` is whether it has started (R269, R295). -/
structure Reservation where
  first : Nat
  last : Nat
  frame : Nat
  bit : Nat
  sent : Bool
  deriving DecidableEq, Repr

/-- A slow-path frame in an egress queue: the count of its descriptor, what the host posted, and its octets (R242). -/
structure QueuedFrame where
  count : Nat
  desc : Posted
  octets : List Octet
  deriving DecidableEq, Repr

/-- A port beyond its objects. -/
structure Port where
  /-- the place of block 0 on the undisciplined clock, in 2^-16/25 ns; none while the PCS does not run (R233) -/
  phase : Option Nat
  reserved : List Reservation
  /-- a PAUSE frame that waits: its first block and its quanta (R238) -/
  pause : Option (Nat × Nat)
  repeat48 : Option Nat
  /-- the end of a received pause (R239) -/
  held48 : Option Nat
  /-- the entry to DOWN, or the last deskew measurement (R229, R230) -/
  since48 : Nat
  queues : List (Nat × List QueuedFrame)
  deficits : List (Nat × Nat)
  turn : Nat
  /-- the turn's queue has had its quantum (R293) -/
  gained : Bool
  /-- the instant from which cycles of the gate list count; none while every gate is open (R295) -/
  gates : Option Nat
  /-- a committed switch: its instant (R298) -/
  switch : Option Nat
  /-- the gate bits in force at the last change executed (R295) -/
  gateBits : Nat
  /-- the instant up to which gate changes have been executed (R142, R295) -/
  gateAt48 : Nat
  /-- by queue, the first block at which a head that the run limit has moved may start (R269, R294) -/
  holds : List (Nat × Nat)
  deriving DecidableEq, Repr

/-- A port that is OFF. -/
def Port.reset : Port :=
  { phase := none, reserved := [], pause := none, repeat48 := none, held48 := none, since48 := 0, queues := [],
    deficits := [], turn := 0, gained := false, gates := none, switch := none, gateBits := 0x3FF,
    gateAt48 := 0, holds := [] }

/-! Field ports (R243 to R246). -/

/-- What a field port's transmitter does with the frame at the head of its buffers. -/
inductive FpPhase
  /-- nothing to send, or waiting for the medium -/
  | deferring
  | sending
  /-- waiting r slot times after a collision -/
  | backoff (until48 : Nat)
  deriving DecidableEq, Repr

/-- What waits until the reply to the request that asked for it has left its field port: the port itself stopping (R246),
a block reset (R358), or transition 8 (R320). -/
inductive AfterReply
  | stop
  | reset (mask : Nat)
  | serve
  deriving DecidableEq, Repr

/-- A field port beyond its objects: the frames to send; the collisions of the first one; whether, as far as the commands
tell, CRS has been low for the interframe gap (R243); the frames received and not yet processed; how many back-off draws were
made; and what waits for a reply to leave, with the number of frames to send before it, that reply included. -/
structure FieldPort where
  tx : List (List Octet)
  phase : FpPhase
  collisions : Nat
  idle : Bool
  rx : Nat
  draws : Nat
  after : List (Nat × AfterReply)
  deriving DecidableEq, Repr

/-- A field port with empty buffers. -/
def FieldPort.reset : FieldPort :=
  { tx := [], phase := .deferring, collisions := 0, idle := false, rx := 0, draws := 0, after := [] }

/-- The two network blocks: ports by number, field ports, the policers' buckets by number (R284), and how many grid
phases were drawn. -/
structure Net where
  ports : List (Nat × Port)
  fps : List (Nat × FieldPort)
  buckets : List (Nat × Bucket)
  phases : Nat
  deriving DecidableEq, Repr

/-! Bellwether (R329 to R353). -/

/-- The pair record in flash (R348): the highest epoch seen, the twin's unit letter (0 A, 1 B), and the root, by its number, whose
storage key seals it (R305; log entry 104). -/
structure PairRecord where
  epoch : Nat
  twin : Nat
  under : Nat
  deriving DecidableEq, Repr

/-- Bellwether beyond its objects and the lease of mode control. Instants of LEASE_IN and of CONTENDING are of the clock that
runs on through a freeze, the others of the timeline's progress (R143), but E is an instant of the timescale. -/
structure Bellwether where
  /-- E, the largest LEASE_END of the current epoch, as a count of 2^-48 ns (R339) -/
  heldUntil48 : Option Nat
  /-- the standby was READY when the last valid RENEW arrived -/
  readyAtRenew : Bool
  /-- since when LEASE_IN has been LOW or OFF without a break, and since when HIGH -/
  quiet48 : Option Nat
  high48 : Option Nat
  /-- entry to CONTENDING (R340) -/
  contending48 : Nat
  /-- a holder has been seen since the last BOOT (R340) -/
  holderSeen : Bool
  /-- the twin's last HELLO and STATE -/
  twin : Option Hello
  twinState : Option TwinState
  /-- READY (R342) -/
  ready : Bool
  /-- a cause of R337 other than a fault is pending: BW_FORCE RELEASE, BW_ENABLE 0, a higher epoch -/
  releasing : Bool
  /-- the journal buffer: entries not yet acknowledged or kept for retransmission, by JSEQ; octets in all at most
  1 MiB (R345) -/
  journal : List (Nat × JEntry)
  /-- the oldest wait for an acknowledgement (R346) -/
  ackSince48 : Option Nat
  /-- the highest JSEQ whose entry has taken effect at the holder (Table 14-5) -/
  effected : Nat
  /-- the standby's next JSEQ (0: that of the next frame), a gap is open, a full resync has completed since the last
  RESYNC_REQ -/
  nextJseq : Nat
  gap : Bool
  synced : Bool
  /-- the KEYGEN entries received: entry, position, generation (R347) -/
  keygens : List (Nat × Nat × Nat)
  /-- the pair record in flash: epoch and the twin's letter (R348); a refused write that is to be retried (R49) -/
  pairRecord : Option PairRecord
  persistDue : Bool
  persist48 : Nat
  hello48 : Nat
  deriving DecidableEq, Repr

end Sys2Proof.Machine
end

