-- ==== Sys2Proof/Machine/State.lean ====
section
/-! DEFINITION. The machine's state, the reasons it can stop for, and the machine right after reset. -/

namespace Sys2Proof.Machine

/-- Why a command stops with a fault: there is no such reason. The manual gives every command an effect, or none at all, and
the block has no access that ends it; what it calls a fault is a source that raises (R405), which is an effect on the
state. Safe: nothing is left out by it. -/
inductive Fault
  deriving DecidableEq, Repr

/-- Why a command has no meaning. -/
inductive Refusal
  /-- The model gives the command no meaning yet; raised by the dispatch alone. Safe. -/
  | notModelled (mnemonic : String)
  /-- An access in FACTORY to a test object F000–FFFF that the manual names as a range and does not describe
  (Table 15-14); raised by the writes and reads of objects. Safe. -/
  | undescribedTestObject
  deriving DecidableEq, Repr

/-- Everything the manual gives the machine, and the queue of commands that wait. -/
structure State where
  /-- the commands that wait, first in, first out -/
  pending : List Instr
  /-- what bookkeeping writes: objects, fault log, subscriptions, rings, outputs -/
  book : Book
  /-- mode control: start-up, supplies, evaluation, slew, lease, FAULTSAFE -/
  ctl : Ctl
  /-- the timescale counter (R132) -/
  clk : Clock
  /-- the snapshot copy (R151, R152) -/
  snap : Snapshot
  /-- the always-on domain (R53, R323) -/
  aon : AlwaysOn
  /-- the test access port (R440) -/
  jtag : TestPort
  /-- block 3 -/
  tr : Trestle
  /-- block 14 -/
  ks : Keystone
  /-- block 4: filters, sets and the servo -/
  hd : Herd
  /-- the UTC bookkeeping of block 10 (R144 to R146) -/
  utc : Utc
  /-- block 2: what each reference slot holds beyond its objects -/
  sl : List (Nat × Slot)
  /-- block 5: synthesisers and clock outputs -/
  syn : Synth
  /-- block 6: event generators and groups -/
  ev : Events
  /-- block 11: the model that governs the bound, and what is in force -/
  teb : Teb
  /-- block 7: tracking channels, receivers and the epoch -/
  gn : Gnss
  /-- blocks 8, 9 and 13: ports, field ports, egress queues, gates and policers -/
  net : Net
  /-- block 12: the Fold, passages, frames, the calendar and the sessions -/
  tpe : Tpe
  /-- block 15: what the standby and the holder keep of each other -/
  bw : Bellwether
  deriving DecidableEq, Repr

/-- Bookkeeping after power-on: every object at its reset value (log entry 4), nothing logged, no subscription. -/
def Book.reset : Book :=
  { objs := [], blobs := [], flog := [], logLostBefore := false, subs := [], seqs := [], rings := [], msix := [],
    msixPending := 0, pci := PciConfig.reset, guard := { restoring := 0, safe := 0, failed := 0, elements := [], words := [] }, held := [], due := [],
    raisedIn := none, raisedAs := [], written := [], out := [] }

/-- Mode control right after transition 1: BOOT step 3 (Table 2-4), no lease, nothing counted. -/
def Ctl.reset : Ctl :=
  { outHeld := false,
    boot := { step := 3, firstStart := true, factoryEn := false, cwrole := 0, fault := false, zeroised := false,
              noImage := false, config := none },
    supply := { hrstLow := false, released48 := 0, vddauxLow := false, vbatLow := false, vbatAbsent := false },
    eval := { withinRun := none, overCount := 0, holdoverReady := false, autoStepped := false },
    slew := { rateWord := 0, term := 0, pend48 := 0, lastInterval := false, sinceCycle := 0, request := none },
    lease := { current := true, epoch := 0, acquired48 := 0, end48 := 0, renewals := 0 },
    fs := { entered48 := 0, disturbed48 := 0, exits48 := [] } }

/-- The counter before BOOT step 7: not running (R408). -/
def Clock.reset : Clock :=
  { ts := { sec := 0, ns := 0, frac := 0 }, running := false, frozen := false, cycles := 0, up48 := 0,
    frozenCycles := 0, before48 := 0, second80 := none, update80 := none, epoch80 := none, stepCycle := none }

/-- No snapshot taken, none pending. -/
def Snapshot.reset : Snapshot :=
  { base := [], heldDrop := [], heldLost := 0, lastAt48 := none, tried48 := none, copying := false, nowPending := false,
    atPending := none }

/-- An always-on log with nothing in it. -/
def AlwaysOn.reset : AlwaysOn := { log := [], reported := 0, reads := 0 }

/-- The test access port after power-on: IDCODE is not presumed, BYPASS is (log entry 4). -/
def TestPort.reset : TestPort := { instruction := .bypass, extest := false }

/-- Herd after reset: nothing measured. -/
def Herd.reset : Herd :=
  { filters := [], timeSet := [], freqSet := [], dominant := none, ensemble := none, model := none, heldModel := none, varY := 0, varD := 0,
    history := [], effect := none, acc := 0,
    limited := false, path := { phi := 0, at48 := 0, buildout := 0, since48 := [], hasPhase := false }, assist := none,
    swl := { rate := none, at48 := 0, fresh := false, tag := 0, closing := false },
    tune := { driven := false, since48 := 0, rateSum := 0, rateCount := 0, toSend := none, ramps := [], sending := false,
              queued := none },
    loA := { warm := false, measured := false, seen := false, ready48 := 0, serving := false, since48 := 0 },
    loB := { warm := false, measured := false, seen := false, ready48 := 0, serving := false, since48 := 0 }, switchTerm := none,
    lastTune := none, ambiguity := none,
    everTimed := false, timed80 := none, lost21 := false, stepped := false, switched := false, tuned := false, pathSwitched := false,
    setChange := false }

/-- Trestle after reset: every channel OFF, every pair disarmed, no record held. -/
def Trestle.reset : Trestle := { channels := [], pairs := [], buffer := [], bufferSince48 := 0, store := [], steps := 0 }

/-- Keystone at a first start: no root, every slot EMPTY; the first BOOT counted, the voltage source armed (R323). -/
def Keystone.reset : Keystone :=
  { slots := [], older := [], genHigh := 0, root := none, rootOlder := none, puf := none, rootKey := none, enrolStatus := none, enrolments := 0,
    cells := [], jobs := [], nextJob := 0, waits := [], pku := [],
    installs := [], fwUpdate := { active := false, image := [] }, requests := 0, draws := 0, seeds := 0, trngFailed := false, passes := 0,
    zeroising := false, cause := 0, causeMode := 0, zeroised := false, bootCount := 1, voltageArmed := true }

/-- Synthesis after reset. -/
def Synth.reset : Synth := { fos := [], outs := [], suspended48 := none, stale := false, gate := 31, gate80 := none }

/-- The event block after reset. -/
def Events.reset : Events := { gens := [], groups := [] }

/-- Time-error bound after reset: nothing bounds the timescale (R166). -/
def Teb.reset : Teb :=
  { exact := none, last := none, twinBound := none, model := none, terms := [], twinSeen := false, e := none, eHeld := none, timed := false, blocked := false,
    afterFreeze := false, k := 3,
    coefA := [10000000, 1000000, 1000, 3000, 1000], coefB := [10000000, 1000000, 1000, 3000, 1000], held := false,
    fa := 10000, cals := TebIn.reset.cals, end48 := 0, worst := 0xFFFFFFFF, source := 0xFFFFFFFF, pin := false, within48 := none, events := 0,
    lostBefore := false, finite := none }

/-- The GNSS baseband after reset. -/
def Gnss.reset : Gnss :=
  { fe := none, trackers := [], engines := List.replicate 8 0, streams := [], waiting := [], rxA := Receiver.reset, rxB := Receiver.reset, epochSeq := 0, lastGen := 0,
    lostBefore := false, propagated := 0 }

/-- Ports and field ports after reset. -/
def Net.reset : Net := { ports := [], fps := [], buckets := [], phases := 0 }

/-- The timing protocol engine after reset: no record, nothing in flight. -/
def Tpe.reset : Tpe :=
  { hashDraw := 0, fold := [], waiting := [], replies := [], frames := [], nextId := 1, calendar := [], pacers := [],
    handed := [], multicast := [], fences := [], sessions := [], peers := [], cache := [], dramLost := false }

/-- Bellwether after reset: the twin has not been heard. -/
def Bellwether.reset : Bellwether :=
  { heldUntil48 := none, readyAtRenew := false, quiet48 := none, high48 := none, contending48 := 0, holderSeen := false,
    twin := none, twinState := none, ready := false, releasing := false, journal := [], ackSince48 := none, effected := 0, nextJseq := 1, gap := false,
    synced := false, keygens := [], pairRecord := none, persistDue := false, persist48 := 0, hello48 := 0 }

/-- The machine right after transition 1 from COLD to BOOT (Table 2-6, power-on): an unpaired unit at its first
start, every object at its reset value. -/
def State.reset : State :=
  { pending := [],
    book := Book.reset,
    ctl := Ctl.reset,
    clk := Clock.reset,
    snap := Snapshot.reset,
    aon := AlwaysOn.reset,
    jtag := TestPort.reset,
    tr := Trestle.reset,
    ks := Keystone.reset,
    hd := Herd.reset,
    utc := { first := none, held := none, applied := none },
    sl := [],
    syn := Synth.reset,
    ev := Events.reset,
    teb := Teb.reset,
    gn := Gnss.reset,
    net := Net.reset,
    tpe := Tpe.reset,
    bw := Bellwether.reset }

end Sys2Proof.Machine
end

