-- ==== Sys2Proof/Machine/Ops.lean ====
section
/-! DEFINITION. The named operations every meaning is built from: registers, the clock, event counters, rings,
notices, mode changes, the end of a lease, and the raising of fault sources. -/

namespace Sys2Proof.Machine

/-! Registers. -/

/-- What a scalar register holds. -/
def State.rd (s : State) (r : Reg) : Int := SMap.get r.reset s.book.objs r.key

/-- What an unsigned register holds. -/
def State.rdN (s : State) (r : Reg) : Nat := (s.rd r).toNat

/-- What a BOOL register holds. -/
def State.rdB (s : State) (r : Reg) : Bool := s.rd r != 0

/-- The state with a scalar register holding `v`. -/
def State.wr (s : State) (r : Reg) (v : Int) : State :=
  { s with book := { s.book with objs := SMap.put r.reset s.book.objs r.key v } }

/-- The state with an unsigned register holding `v`. -/
def State.wrN (s : State) (r : Reg) (v : Nat) : State := s.wr r v

/-- The octets of a STRING or DOMAIN object that something has written; `d` where nothing has. -/
def State.blob (s : State) (d : List Octet) (r : Reg) : List Octet := SMap.get d s.book.blobs r.key

/-- The state with a STRING or DOMAIN object holding `v`. -/
def State.wrBlob (s : State) (d : List Octet) (r : Reg) (v : List Octet) : State :=
  { s with book := { s.book with blobs := SMap.put d s.book.blobs r.key v } }

/-! A host write and an update of the engine's own in the same cycle (R366). -/

/-- The three slots of key rotation `e`: an SPP entry, or 16 for the NTS master. -/
def rotationSlots (e : Nat) : List Reg :=
  if e < 16 then [Obj.SPP_CUR_SLOT e, Obj.SPP_NEXT_SLOT e, Obj.SPP_PREV_SLOT e]
  else [Obj.NTS_MASTER_CUR, Obj.NTS_MASTER_NEXT, Obj.NTS_MASTER_PREV]

/-- The place of a link in the order in which the requests of one cycle reach an object: PCIe, FP0, FP1 (R366). -/
def linkRank : Link → Nat
  | .pcie => 0 | .fp0 => 1 | .fp1 => 2

/-- The number of the 1 GHz cycle, through freezes too, by the progress up to it. -/
def State.cycle48 (s : State) : Nat := s.clk.up48 + s.clk.frozenCycles * ns48

/-- The host has written an object in this cycle, over a link. -/
def State.byHost (s : State) (l : Link) (r : Reg) : State :=
  let written := (s.book.written.filter fun e => e.2.1 == s.cycle48) ++ [(r.key, s.cycle48, linkRank l)]
  { s with book := { s.book with written := written } }

/-- The host's value of this cycle stands against the engine's (R366). -/
def State.hostWrote (s : State) (r : Reg) : Bool := s.book.written.any fun e => e.1 == r.key && e.2.1 == s.cycle48

/-- A request of this cycle over a later link of the order has written the object already: its value is the last (R366). -/
def State.overtaken (s : State) (l : Link) (r : Reg) : Bool :=
  s.book.written.any fun e => e.1 == r.key && e.2.1 == s.cycle48 && decide (linkRank l < e.2.2)

/-- The engine updates an object that the host writes; in the cycle of a host write the update is discarded (R366). -/
def State.hw (s : State) (r : Reg) (v : Int) : State := if s.hostWrote r then s else s.wr r v

/-- A hardware set of sticky bit `bit` of a status object (R14). -/
def State.stick (s : State) (r : Reg) (bit : Nat) : State := s.wrN r (sqSet (s.rdN r) bit)

/-- A wrapping 32-bit count goes up by one. -/
def State.bump (s : State) (r : Reg) : State := s.wrN r (wrapSucc (s.rdN r))

/-- A saturating count goes up by one. -/
def State.bumpSat (s : State) (max : Nat) (r : Reg) : State := s.wrN r (satSucc max (s.rdN r))

/-- `p` applied to the state where `b` holds. -/
def State.when (s : State) (b : Bool) (p : State → State) : State := if b then p s else s

/-- `p` applied for each of the list's members, in order. -/
def State.forEach {α : Type} (p : State → α → State) (l : List α) (s : State) : State := l.foldl p s

/-! Mode codes (Table 2-1). -/

namespace Mode
abbrev COLD : Nat := 0
abbrev BOOT : Nat := 1
abbrev UNPROVISIONED : Nat := 2
abbrev FREERUN : Nat := 3
abbrev ACQUIRE : Nat := 4
abbrev LOCKED : Nat := 5
abbrev HOLDOVER : Nat := 6
abbrev DEGRADED : Nat := 7
abbrev STANDBY : Nat := 8
abbrev FAULTSAFE : Nat := 9
abbrev ZEROISED : Nat := 10
abbrev FACTORY : Nat := 11
end Mode

/-- The current mode's code. -/
def State.mode (s : State) : Nat := s.rdN Obj.MODE_CURRENT

/-- The modes that take part in the service evaluation (R36): FREERUN to DEGRADED. -/
def serviceMode (m : Nat) : Bool := decide (3 ≤ m ∧ m ≤ 7)

/-- The engine is past BOOT step 13: the dictionary, rings and field ports are open (Table 2-4). -/
def State.open (s : State) : Bool := decide (2 ≤ s.mode)

/-! The clock. -/

/-- What the counter reads, in 2^-48 ns. -/
def TsCount.to48 (t : TsCount) : Nat := (t.sec * giga + t.ns) * ns48 + t.frac

/-- The counter that reads `t`, in 2^-48 ns; the seconds wrap at 2^48. -/
def TsCount.of48 (t : Nat) : TsCount := { sec := t / sec48 % 2 ^ 48, ns := t / ns48 % giga, frac := t % ns48 }

/-- The clock after `n` cycles at `step` per cycle, in 2^-48 ns. A frozen clock counts its undisciplined cycles
(R143); one that does not run yet does nothing. -/
def Clock.run (c : Clock) (n step : Nat) : Clock :=
  if !c.running then c
  else if c.frozen then { c with frozenCycles := c.frozenCycles + n }
  else { c with
    ts := TsCount.of48 (c.ts.to48 + n * step), cycles := c.cycles + n, up48 := c.up48 + n * step,
    before48 := if n = 0 then c.before48 else c.ts.to48 + (n - 1) * step }

/-- The timescale reading as TIME80, in nanoseconds. -/
def State.now80 (s : State) : Nat := s.clk.ts.sec * giga + s.clk.ts.ns

/-- The timescale reading in 2^-48 ns. -/
def State.now48 (s : State) : Nat := s.clk.ts.to48

/-- What durations on the timeline are measured by: the counter's progress without its steps (Table 6-1). -/
def State.up48 (s : State) : Nat := s.clk.up48

/-- The same, running on in undisciplined 1 GHz cycles through a freeze (R143). -/
def State.live48 (s : State) : Nat := s.clk.up48 + s.clk.frozenCycles * ns48

/-- The progress of one cycle: 1 ns times 1 + q (R132, R135). -/
def State.step48 (s : State) : Nat := (ns48 + s.ctl.slew.rateWord + s.ctl.slew.term).toNat

/-! Event counters (R416 to R419). -/

/-- A raise, or an end of ACTIVE, put down for the end of the cycle (R406). -/
def State.put (s : State) (d : Due) : State := { s with book := { s.book with due := s.book.due ++ [d] } }

/-- Source `n` raises (R405). -/
def State.raise (s : State) (n : Nat) : State := s.put { source := n, ends := false, detail := 0, injected := false }

/-- A block as a whole stands in its safe state: its configuration is being restored, or could not be (R368). -/
def State.unsafeBlock (s : State) (b : Nat) : Bool := bitOn s.book.guard.safe b

/-- One element of a block stands in its own safe state (R368, R423). -/
def State.unsafeElement (s : State) (b i : Nat) : Bool := s.book.guard.elements.contains (b, i)

/-- Counter `n` has CHAIN set (Table 17-7). -/
def State.chained (s : State) (n : Nat) : Bool := bitOn (s.rdN (Obj.CTR_CFG n)) 16

/-- Counter `n` is the partner of the counter below it (R418). -/
def State.partner (s : State) (n : Nat) : Bool := decide (0 < n) && s.chained (n - 1)

/-- A carry out of counter `n` is dropped (R418, R420). -/
def State.dropCarry (s : State) (n : Nat) : State :=
  ((s.stick (Obj.CTR_FLAGS n) 1).stick Obj.CTR_STATUS 3).raise Src.CTR_CARRY_DROPPED

/-- Counter `n` goes up by `amt`, and its carries go on through its chain in the same cycle (R417, R418); a partner that is
stopped takes none (R423; log entry 118). -/
def State.addTo : Nat → State → Nat → Nat → State
  | 0, s, _, _ => s
  | f + 1, s, n, amt =>
    let v := s.rdN (Obj.CTR_VALUE n) + amt
    let s1 := s.wrN (Obj.CTR_VALUE n) (v % 2 ^ 32)
    if v < 2 ^ 32 then s1
    else if s.chained n && decide (n < 127) then
      if s.rdB (Obj.CTR_EN (n + 1)) && !s.unsafeElement 17 (n + 1) then State.addTo f s1 (n + 1) (v / 2 ^ 32) else s1.dropCarry n
    else s1.stick (Obj.CTR_FLAGS n) 0

/-- Counter `n` counts event code `ev`: it is enabled, selects the code, is no partner, and its configuration is
good (R416, R418, R423). -/
def State.counts (s : State) (ev n : Nat) : Bool :=
  s.rdB (Obj.CTR_EN n) && decide (bitsAt (s.rdN (Obj.CTR_CFG n)) 0 9 = ev) && !s.partner n && !s.unsafeElement 17 n

/-- Event `ev` occurs with `amt` (R416); while CTR_FREEZE is 1 it is not counted (R419). -/
def State.count (s : State) (ev amt : Nat) : State :=
  if s.rdB Obj.CTR_FREEZE || ev == 0 then s
  else s.forEach (l := List.range 128) (p := fun s n => if s.counts ev n then s.addTo 128 n amt else s)

/-! The synthesisers' words (R183, R184, R206), which follow every change of the rate. -/

/-- FOS `f`. -/
def State.fosOf (s : State) (f : Nat) : Fos := SMap.get Fos.reset s.syn.fos f

/-- The state with FOS `f` replaced. -/
def State.setFos (s : State) (f : Nat) (x : Fos) : State :=
  { s with syn := { s.syn with fos := SMap.put Fos.reset s.syn.fos f x } }

/-- OUT `n`. -/
def State.outOf (s : State) (n : Nat) : Output := SMap.get Output.reset s.syn.outs n

/-- The state with OUT `n` replaced. -/
def State.setOut (s : State) (n : Nat) (x : Output) : State :=
  { s with syn := { s.syn with outs := SMap.put Output.reset s.syn.outs n x } }

/-- The FOS of OUT `n` (Table 8-2). -/
def State.outFos (s : State) (n : Nat) : Nat := bitsAt (s.rdN (Obj.OUT_CFG n)) 20 3
/-- FOS_STATE: 0 OFF, 1 ACQUIRE, 2 LOCKED, 3 ALIGNED. -/
def State.fosState (s : State) (f : Nat) : Nat := s.rdN (Obj.FOS_STATE f)

/-- TS_RATE_TOTAL: the rate word and the slew term (R135). -/
def State.rateTotal (s : State) : Int := s.ctl.slew.rateWord + s.ctl.slew.term

/-- m of R183: 0, the timescale's rate, or the frequency path's. -/
def State.fosTarget (s : State) (f : Nat) : Int :=
  match s.rdN (Obj.FOS_FOLLOW f) with
  | 0 => 0
  | 1 => s.rateTotal
  | _ => s.rd Obj.FP_WORD

/-- The word of a FOS for its target, and the remainder carried (R183). -/
def State.fosCompute (s : State) (f : Nat) : State :=
  let m := s.fosTarget f
  let exact : Rat := (s.rdN (Obj.FOS_FREQ f) : Rat) * ((2 ^ 48 + m : Int) : Rat) / 250000000000000
  let acc := exact + (s.fosOf f).rem
  let w := acc.floor
  (s.setFos f { s.fosOf f with rem := acc - w, target := m }).wr (Obj.FOS_WORD f) w

/-- A change of the word beyond ±100 ppm of the one in force (R184). -/
def wordJumps (old new : Int) : Bool := old != 0 && decide (old < (new - old).natAbs * 10000)

/-- The outputs of a FOS stop their dividers and leave RUN (R187, R188). -/
def State.fosUnalign (s : State) (f : Nat) : State :=
  (s.setFos f { s.fosOf f with aligning := false }).forEach (l := List.range 16) (p := fun s n =>
    s.when (s.outFos n == f) fun s =>
      s.setOut n { s.outOf n with started := false, run := false, lb := { (s.outOf n).lb with passes := 0 } })

/-- A FOS takes a state below ALIGNED. -/
def State.fosTo (s : State) (f state : Nat) : State := (s.fosUnalign f).wrN (Obj.FOS_STATE f) state

/-- The relock of R184: the outputs are squelched with the new word, and FOS_RELOCK waits for the lock that is declared
again. -/
def State.fosRelock (s : State) (f : Nat) : State :=
  let s1 := s.fosTo f 1
  s1.setFos f { s1.fosOf f with relock := true, again := true }

/-- The word follows its target, with a relock where it jumps (R183, R184). -/
def State.fosFollow (s : State) (f : Nat) : State :=
  let s1 := s.fosCompute f
  s1.when (wordJumps (s.rd (Obj.FOS_WORD f)) (s1.rd (Obj.FOS_WORD f))) (·.fosRelock f)

/-- FE_CLK's divider word at the present rate: 122.88 MHz × (1 + q × 2^-48) against APLL-A's 10 GHz in 2^-48, with its
remainder carried (R206; its scale is the model's choice, log entry 71). -/
def State.feCompute (s : State) (rem : Rat) : FeClock :=
  let acc := (12288 : Rat) * ((2 ^ 48 + s.rateTotal : Int) : Rat) / 1000000 + rem
  { word := acc.floor, rem := acc - acc.floor, target := s.rateTotal }

/-- FE_CLK follows the rate from BOOT step 7 on (R206). -/
def State.feFollow (s : State) : State :=
  match s.gn.fe with
  | none => s
  | some x => if x.target = s.rateTotal then s else { s with gn := { s.gn with fe := some (s.feCompute x.rem) } }

/-- Every running FOS whose target has changed computes its word again, and so does FE_CLK's divider (R135, R183, R206). -/
def State.fosFollowAll (s : State) : State :=
  (s.forEach (l := List.range 8) (p := fun s f =>
    s.when (s.fosState f != 0 && s.fosTarget f != (s.fosOf f).target) (·.fosFollow f))).feFollow

/-! The clock runs. -/

/-- Base time (R19): the undisciplined 1 GHz clock. -/
def State.base48 (s : State) : Nat := (s.clk.cycles + s.clk.frozenCycles) * ns48

/-- Snapshots of this cycle see the objects as they stood when it began (R21). -/
def State.snapBase (s : State) : State := { s with snap := { s.snap with base := s.book.objs } }

/-- The clock runs `n` cycles at the rate in force; each is event 0x001 (Table 17-8). -/
def State.runPlain (s : State) (n : Nat) : State :=
  if s.clk.running && decide (0 < n) then
    ((({ s with clk := s.clk.run n s.step48 } : State).count 0x001 (n - 1)).snapBase).count 0x001 1
  else s

/-- How much of a ramp's frequency is booked now, in rate units (R116). -/
def Ramp.part (r : Ramp) (at48 : Nat) : Rat :=
  if r.start48 + r.len48 ≤ at48 then r.dy else r.dy * ((at48 - r.start48 : Nat) : Rat) / (r.len48 : Rat)

/-- The rate word follows the tuning ramps: it gives up, in whole rate units, what they have booked (R116, R135). -/
def State.rampRate (s : State) : State :=
  let t := s.hd.tune
  let part := fun (r : Ramp) => ratTrunc (r.part s.base48)
  let d := t.ramps.foldl (fun d r => d + (part r - r.rated)) 0
  if d = 0 then s
  else
    let s1 : State := { s with
      ctl := { s.ctl with slew := { s.ctl.slew with rateWord := s.ctl.slew.rateWord - d } },
      hd := { s.hd with tune := { t with ramps := t.ramps.map fun r => { r with rated := part r } } } }
    (s1.wr Obj.SV_RATE s1.ctl.slew.rateWord).fosFollowAll

/-- A ramp still moves the rate word. -/
def State.ramping (s : State) : Bool := s.hd.tune.ramps.any fun r => r.rated != ratTrunc r.dy

/-- The clock runs `n` cycles, one by one while a ramp moves the rate (R116, R135). -/
def State.runCycles (s : State) : Nat → State
  | 0 => s
  | n + 1 => if s.ramping && s.clk.running && !s.clk.frozen then ((s.runPlain 1).rampRate).runCycles n
    else s.runPlain (n + 1)

/-- The clock runs until nothing is left of `gap`, in 2^-48 ns; at most `fuel` cycles while a ramp moves the rate. -/
def State.runGap (gap : State → Nat) : Nat → State → State
  | 0, s => s
  | f + 1, s =>
    if gap s = 0 then s
    else if s.ramping && !s.clk.frozen then State.runGap gap f (s.runPlain 1).rampRate
    else s.runPlain (ceilDiv (gap s) (if s.clk.frozen then ns48 else s.step48))

/-- The clock runs to the first cycle at which a duration on the timeline that ends at `due` has ended; none while
that duration is held (Table 6-1, R143). -/
def State.runTo (s : State) (due : Nat) : Option State :=
  if s.clk.running && !s.clk.frozen then some (State.runGap (fun s => due - s.up48) (due - s.up48) s) else none

/-- The same for the lease and the durations of FAULTSAFE, which run on through a freeze (R17, R143). -/
def State.liveTo (s : State) (due : Nat) : Option State :=
  if !s.clk.running then none else some (State.runGap (fun s => due - s.live48) (due - s.live48) s)

/-- The clock runs to the first cycle in which the timescale reads `t` ns or later (R20). -/
def State.reach (s : State) (t80 : Nat) : Option State :=
  if s.clk.running && !s.clk.frozen then
    some (State.runGap (fun s => t80 * ns48 - s.now48) (t80 * ns48 - s.now48) s)
  else none

/-- The next instant of a periodic action at or after the present cycle's, for a period of `p` ns; one executed in this
cycle already is past (R142). -/
def State.nextPeriodic (s : State) (p : Nat) (done : Option Nat) : Nat :=
  let c := s.now80 / p * p
  if s.clk.before48 < c * ns48 ∧ done ≠ some c then c else c + p

/-! Sources (R403 to R405). -/

/-- Tamper sources, which their policy alone governs (R404). -/
def tamperSource (n : Nat) : Bool := decide (0x250 ≤ n ∧ n ≤ 0x258)

/-- A word of `SRC_CFG` with the reaction that its policy gives a tamper source (R404). -/
def State.byPolicy (s : State) (n w : Nat) : Nat :=
  if tamperSource n then
    setBitsAt w 4 3 (match s.rdN (Obj.TAMP_POLICY (n - 0x250)) with | 0 => 0 | 1 => 1 | _ => 5)
  else w

/-- `SRC_CFG` as it reads (R403, R404). -/
def State.shownSrcCfg (s : State) (n : Nat) : Nat := s.byPolicy n (s.rdN (Obj.SRC_CFG n))

/-- `SRC_CFG` as the engine acts on it: its reset value while Sheepdog is being restored (R423). -/
def State.srcCfg (s : State) (n : Nat) : Nat :=
  s.byPolicy n (if s.unsafeBlock 16 then (srcCfgReset n).toNat else s.rdN (Obj.SRC_CFG n))

/-- The severity of a source (Table 17-1). -/
def State.severity (s : State) (n : Nat) : Nat := bitsAt (s.srcCfg n) 0 2

/-- The reaction code of a source (Table 17-2). -/
def State.reaction (s : State) (n : Nat) : Nat := bitsAt (s.srcCfg n) 4 3

/-- The source's LATCHED bit. -/
def State.latched (s : State) (n : Nat) : Bool := bitOn (s.rdN (Obj.SRC_STATE n)) 0

/-- The source's ACTIVE bit. -/
def State.active (s : State) (n : Nat) : Bool := bitOn (s.rdN (Obj.SRC_STATE n)) 2

/-- The condition of a condition source begins or ends; in the cycle in which it begins, the source raises, and its
end is logged (R405, R409). -/
def State.cond (s : State) (n : Nat) (on : Bool) : State :=
  if s.active n == on then s
  else (s.wrN (Obj.SRC_STATE n) (putBit (s.rdN (Obj.SRC_STATE n)) 2 on)).put
    { source := n, ends := !on, detail := 0, injected := false }

/-- The source that a listed `SRC_STATE` belongs to. -/
def srcOfKey (k : Nat) : Option Nat :=
  let index := k / 256
  let sub := k % 256
  if 0xD110 ≤ index ∧ index ≤ 0xD115 ∧ 1 ≤ sub ∧ sub ≤ 128 then some ((index - 0xD110) * 128 + sub - 1) else none

/-- The source alone would hold ERR_N low (R410). -/
def State.pullsErrN (s : State) (n : Nat) (state : Nat) : Bool :=
  bitOn (s.srcCfg n) 8 && decide (s.rdN Obj.ERRPIN_MIN ≤ s.severity n) && (bitOn state 0 || bitOn state 2)

/-- ERR_N is driven low: before BOOT step 13 always (R40), after it by R410 and R423. -/
def State.errNLow (s : State) : Bool :=
  !s.open || s.unsafeBlock 16 ||
    s.book.objs.any fun e => match srcOfKey e.1 with | some n => s.pullsErrN n e.2.toNat | none => false

/-! Rings (R381 to R389). -/

/-- A ring that nothing has used. -/
def Ring.reset : Ring :=
  { posted := [], taken := [], doorbell := 0, lastIrq48 := none, irqWaiting := false, finished := [], trailerDue := false,
    restart := false }

/-- Ring `k`. -/
def State.ring (s : State) (k : Nat) : Ring := SMap.get Ring.reset s.book.rings k

/-- The state with ring `k` replaced. -/
def State.setRing (s : State) (k : Nat) (r : Ring) : State :=
  { s with book := { s.book with rings := SMap.put Ring.reset s.book.rings k r } }

/-- Something leaves the engine. -/
def State.emit (s : State) (e : Emission) : State := { s with book := { s.book with out := s.book.out ++ [e] } }

/-- Entry `v` of the MSI-X table. -/
def State.msixEntry (s : State) (v : Nat) : MsixEntry := SMap.get MsixEntry.reset s.book.msix v

/-- The MSI-X message of a vector is sent, or is pending while the vector is masked (R386). -/
def State.message (s : State) (v : Nat) : State :=
  let e := s.msixEntry v
  if e.masked then { s with book := { s.book with msixPending := setBit s.book.msixPending v } } else s.emit (.msix v e.addr e.data)

/-- The MSI-X message of a ring's vector (R386). -/
def State.signal (s : State) (k : Nat) : State :=
  (s.setRing k { s.ring k with lastIrq48 := some s.up48, irqWaiting := false }).message (bitsAt (s.rdN (Obj.RING_IRQ k)) 0 6)

/-- Ring DMA pauses: nothing is fetched or written (R379, R397). -/
def State.dmaPaused (s : State) : Bool := !bitOn (s.rdN Obj.HL_LINK) 9 || !s.rdB Obj.VD_DATA_EN

/-- HOLDOFF has elapsed since ring `k`'s last message (R386). -/
def State.holdoffOver (s : State) (k : Nat) : Bool :=
  match (s.ring k).lastIrq48 with
  | none => true
  | some t => decide (t + us48 (bitsAt (s.rdN (Obj.RING_IRQ k)) 16 16) ≤ s.up48)

/-- The interrupt rule after a write-back (R386). -/
def State.qualify (s : State) (k : Nat) (interrupt : Bool) : State :=
  if !(interrupt || bitOn (s.rdN (Obj.RING_IRQ k)) 8) then s
  else if s.holdoffOver k && !s.dmaPaused then s.signal k
  else s.setRing k { s.ring k with irqWaiting := true }

/-- The engine takes the descriptor at HEAD (R383). -/
def State.takeHead (s : State) (k : Nat) : State :=
  (s.setRing k { s.ring k with posted := (s.ring k).posted.tail }).wrN (Obj.RING_HEAD k)
    (wrapSucc (s.rdN (Obj.RING_HEAD k)))

/-- Descriptor i of a ring lies at RING_BASE + 32 i, and the trailer behind the last one (R382). -/
def State.descAddr (s : State) (k i : Nat) : Nat := (s.rdN (Obj.RING_BASE k) + 32 * i) % 2 ^ 64

/-- The octets of a descriptor as it is written back: OWN 0, the host's fields unchanged (Table 16-4). -/
def descriptorBack (d : Posted) (stampNs aux length status : Nat) : List Octet :=
  let flags := (if d.interrupt then 8 else 0) + (if d.fence then 4 else 0) + if d.ordered then 2 else 0
  leBytes 5 flags ++ [BitVec.ofNat 8 status] ++ leBytes 2 length ++ leBytes 4 aux ++ leBytes 4 stampNs ++ leBytes 8 d.cookie ++
    leBytes 8 d.addr

/-- Descriptor `count` of a ring is written back in one write (R383). -/
def State.writeBack (s : State) (k count : Nat) (d : Posted) (stampNs aux length status : Nat) : State :=
  s.emit (.descriptor k count (s.descAddr k (count % 2 ^ s.rdN (Obj.RING_LOG2 k))) (descriptorBack d stampNs aux length status))

/-- The trailer of a ring: epoch word, HEAD and DONE (R382). -/
def State.trailerOctets (s : State) (k : Nat) : List Octet :=
  leBytes 8 (s.rdN (Obj.RING_EPOCH k)) ++ leBytes 4 (s.rdN (Obj.RING_HEAD k)) ++ leBytes 4 (s.rdN (Obj.RING_DONE k)) ++ List.replicate 16 0

/-- A ring's trailer is written, or is due while ring DMA pauses (R385). -/
def State.trailer (s : State) (k : Nat) : State :=
  if s.dmaPaused then s.setRing k { s.ring k with trailerDue := true }
  else (s.setRing k { s.ring k with trailerDue := false }).emit
    (.trailer k (s.descAddr k (2 ^ s.rdN (Obj.RING_LOG2 k))) (s.trailerOctets k))

/-- What every write-back brings: DONE, the two events, the trailer, and then the interrupt (R385, R386, Table 17-8). -/
def State.wroteBack (s : State) (k done status : Nat) (interrupt : Bool) : State :=
  ((((s.wrN (Obj.RING_DONE k) done).count 0x1F8 1).when (status != 0) (·.count 0x1F9 1)).trailer k).qualify k interrupt

/-- The engine reads a descriptor with OWN = 0: it stops at that count (R383). -/
def State.ownGap (s : State) (k : Nat) : State :=
  ((s.setRing k { s.ring k with posted := [] }).stick Obj.HL_STATUS 4).raise Src.HL_OWN_GAP

/-- What became of a record for a ring. -/
inductive RingPut
  | off | full | written (count : Nat)
  deriving DecidableEq, Repr

/-- The ring can take no descriptor now: it is in ERROR, Bus Master Enable is clear, data-class traffic is stopped,
or block 19 is being restored (R379, R387, R397, R402). -/
def State.ringStalled (s : State) (k : Nat) : Bool :=
  decide (s.rdN (Obj.RING_STATE k) = 2) || !bitOn (s.rdN Obj.HL_LINK) 9 || !s.rdB Obj.VD_DATA_EN || s.unsafeBlock 19

/-- An engine-to-host ring takes the next descriptor and writes `rec` to its buffer; a descriptor whose LENGTH is 0
or too small is written back untouched and the next one taken (R383, R384, R388). -/
def State.fill (k aux stampNs : Nat) (rec : List Octet) : List Posted → State → State × RingPut
  | [], s => (s, .full)
  | p :: rest, s =>
    if !p.own then (s.ownGap k, .full)
    else
      let status := if p.length = 0 then 2 else if p.length < rec.length then 1 else 0
      let s1 := s.takeHead k
      let count := s.rdN (Obj.RING_HEAD k)
      let s2 := s1.when (status == 0) (·.emit (.buffer p.addr rec))
      let s3 := (s2.writeBack k count p stampNs aux (if status = 0 then rec.length else 0) status).wroteBack k (wrapSucc count) status
        p.interrupt
      if status = 0 then (s3, .written count) else State.fill k aux stampNs rec rest s3

/-- A record for engine-to-host ring `k`: discarded while the ring is OFF (R387), refused while no host-owned
descriptor is free. -/
def State.toRing (s : State) (k aux stampNs : Nat) (rec : List Octet) : State × RingPut :=
  if s.rdN (Obj.RING_STATE k) = 0 then (s, .off)
  else if s.ringStalled k then (s, .full)
  else State.fill k aux stampNs rec (s.ring k).posted s

/-- The short stamp of the present instant, the stamp of most write-backs (R133, Table 16-4). -/
def State.stampNs (s : State) : Nat := s.now80 % 2 ^ 32

/-! The fault log (R408, R409). -/

/-- The 32 octets of a log entry (Table 17-5). -/
def LogEntry.octets (e : LogEntry) : List Octet :=
  leBytes 4 e.detail ++ leBytes 12
    ((if e.errnLow then 2 ^ 68 else 0) + (if e.lostBefore then 2 ^ 69 else 0) + (if e.injected then 2 ^ 70 else 0) +
     (if e.pretime then 2 ^ 71 else 0) + (if e.frozen then 2 ^ 72 else 0) + (if e.first then 2 ^ 73 else 0) +
     (if e.concurrent then 2 ^ 74 else 0) + e.reaction * 2 ^ 75 + e.severity * 2 ^ 78 + e.source % 2 ^ 10 * 2 ^ 80) ++
    leBytes 2 (e.kind + e.mode * 16 + e.raises * 256) ++ time80Bytes e.time80 ++ leBytes 4 e.entry

/-- The instant a log entry carries: 0 before the timescale runs (R408). -/
def State.logInstant (s : State) : Nat := if s.clk.running then s.now80 else 0

/-- A copy of an entry for ring 23, with what becomes of it (R409). -/
def State.logToRing (s : State) (e : LogEntry) : State :=
  let r := s.toRing 23 0 s.stampNs ({ e with lostBefore := s.book.logLostBefore } : LogEntry).octets
  match r.2 with
  | .off => s
  | .written _ => { r.1 with book := { r.1.book with logLostBefore := false } }
  | .full =>
    ((({ r.1 with book := { r.1.book with logLostBefore := true } } : State).bump Obj.FLOG_RING_LOST).stick
      Obj.SD_STATUS 2).count 0x1F5 1 |>.raise Src.SD_LOG_LOST

/-- One entry of the fault log: ENTRY, instant, mode, ERR_N; kept in FLOG, the last 256, and written to ring 23
(R408, R409). -/
def State.log (s : State) (kind source severity reaction : Nat) (concurrent first injected : Bool) (detail : Nat) :
    State :=
  let e : LogEntry :=
    { entry := s.rdN Obj.FLOG_NEXT, time80 := s.logInstant,
      raises := if kind ≤ 1 then bitsAt (s.rdN (Obj.SRC_STATE source)) 8 8 else 0, mode := s.mode, kind := kind,
      source := source, severity := severity, reaction := reaction, concurrent := concurrent, first := first,
      frozen := s.clk.frozen, pretime := !s.clk.running, injected := injected, lostBefore := false,
      errnLow := s.errNLow, detail := detail }
  let s1 := s.bump Obj.FLOG_NEXT
  let all := s1.book.flog ++ [e]
  ({ s1 with book := { s1.book with flog := all.drop (all.length - 256) } } : State).logToRing e

/-- The entry of a FAULTSAFE event: entered 2, left 3, latched 4, released 5; the last three carry FS_RECOV_CNT
(Table 17-5). -/
def State.logFs (s : State) (kind : Nat) : State :=
  s.log kind 0 0 0 false false false (if kind = 2 then 0 else s.rdN Obj.FS_RECOV_CNT)

/-! Notices (R370 to R372). -/

/-- A link's code. -/
def linkCode : Link → Nat
  | .fp0 => 0 | .fp1 => 1 | .pcie => 2

/-- A role's code (Table 15-4). -/
def roleCode : Role → Nat
  | .anonymous => 0 | .observer => 1 | .operator => 2 | .engineer => 3 | .custodian => 4

/-- Rate per second and burst of each notice code (Table 15-10). -/
def noticeRate : Nat → Nat × Nat
  | 0 => (16, 16) | 1 => (256, 64) | 2 => (64, 48) | 3 => (4, 4) | 4 => (16, 8) | 5 => (64, 16) | 6 => (64, 32)
  | 7 => (64, 32) | 8 => (8, 4) | _ => (0, 0)

/-- The role may receive the code (Table 15-10). -/
def noticeAllowed (code : Nat) (role : Role) : Bool :=
  if code = 6 ∨ code = 8 then decide (3 ≤ roleCode role) else decide (code ≤ 8 ∧ 1 ≤ roleCode role)

/-- The state of a key slot as it is stored (Table 13-3). -/
def State.slotOf (s : State) (k : Nat) : KeySlot := SMap.get KeySlot.none s.ks.slots k

/-! Key slots (R311). -/

/-! The codes of Table 13-3. -/
namespace Key
abbrev EMPTY : Nat := 0
abbrev ACTIVE : Nat := 1
abbrev RETIRING : Nat := 2
abbrev ORPHANED : Nat := 3
abbrev INVALID : Nat := 4
end Key

/-- The stored state's code. -/
def keyStateCode : KeyState → Nat
  | .empty => Key.EMPTY | .active => Key.ACTIVE | .retiring => Key.RETIRING | .invalid => Key.INVALID

/-- The state of a slot with its ancestry: ORPHANED where the parent is INVALID or ORPHANED, or holds another generation
than the one recorded at derivation (R311). A depth is at most 8 (R308). -/
def State.keyStateIn : Nat → State → Nat → Nat
  | 0, _, _ => Key.ORPHANED
  | f + 1, s, k =>
    let x := s.slotOf k
    let own := keyStateCode x.state
    match x.parent with
    | none => own
    | some (p, gen) =>
      let up := State.keyStateIn f s p
      if own = Key.EMPTY then own
      else if up = Key.INVALID ∨ up = Key.ORPHANED ∨ up = Key.EMPTY ∨ (s.slotOf p).gen ≠ gen then Key.ORPHANED
      else own

/-- The state of slot `k` (Table 13-3). -/
def State.keyState (s : State) (k : Nat) : Nat := s.keyStateIn 10 k

/-- From the cycle in which the ZEROISE line asserts, Keystone admits no job and accepts no command (R324); it is empty in
ZEROISED and FACTORY (Table 2-5). -/
def State.ksClosed (s : State) : Bool := s.ks.zeroising || s.mode == Mode.ZEROISED || s.mode == Mode.FACTORY

/-- A register access in the form of a request. -/
def registerRequest (role : Role) (index : BitVec 16) (sub : BitVec 8) (payload : List Octet) (descs : List Posted) : GopRequest where
  link := .pcie
  mac := 0
  nth := 0
  version := 1
  roleOctet := BitVec.ofNat 8 (roleCode role)
  status := 0
  seq := 0
  index := index
  sub := sub
  aux := 0
  length := BitVec.ofNat 16 payload.length
  offset := 0
  stamp := 0
  rest := payload
  descs := descs

/-- The block's configuration is being restored (R368). -/
def State.restoring (s : State) (b : Nat) : Bool := bitOn s.book.guard.restoring b

/-- A write that is a row of its own, with the value's octets, to an object of block `b`: as any other it waits while the block's
configuration is being restored, and executes after it (R368). -/
def State.orHeld (s : State) (b : Nat) (role : Role) (l : Link) (r : Reg) (octets : List Octet) (descs : List Posted)
    (go : Host.Outcome State Fault Refusal) : Host.Outcome State Fault Refusal :=
  if s.restoring b then
    let q := { registerRequest role (BitVec.ofNat 16 (r.key / 256)) (BitVec.ofNat 8 r.key) octets descs with link := l }
    .next { s with book := { s.book with held := s.book.held ++ [{ wait := .restoring b, op := 0, req := q, desc := 0 }] } }
  else go

/-- Slot `k` as a role key: over an ACTIVE one, an IMPORT whose record is in writing counts already (R365). -/
def State.roleSlot (s : State) (k : Nat) : KeySlot :=
  s.ks.cells.foldl (fun x op => match op.commit with
    | .slot _ j cmd y => if j = k ∧ cmd = 1 ∧ x.state = .active then y else x
    | _ => x) (s.slotOf k)

/-- The key of a role, while its slot 3 + ROLE is ACTIVE and permits ROLE, and a lane of HMAC is in service (R307, R317, R363). -/
def State.roleKey (s : State) (role : Role) : Option (BitVec 256) :=
  let k := s.roleSlot (3 + roleCode role)
  if role ≠ .anonymous ∧ (s.slotOf (3 + roleCode role)).state = .active ∧ bitOn k.usage 2 = true ∧ s.ksClosed = false ∧
    s.rdN Obj.KS_LANES % 16 ≠ 0 then some k.value else none

/-- The tag of octets under a role's key; zeros for anonymous (R363). -/
def State.tagOf (s : State) (role : Role) (octets : List Octet) : List Octet :=
  if role = .anonymous then List.replicate 16 0
  else beBytes 16 (Config.hmac16 ((s.roleKey role).getD 0) (s.blob (List.replicate 16 0) Obj.KS_BOOT_NONCE ++ octets)).toNat

/-- The link carries notices: the field port's PHY link (R246), or the PCIe link. -/
def State.linkUp (s : State) (l : Link) : Bool :=
  match l with
  | .pcie => bitOn (s.rdN Obj.HL_LINK) 8
  | .fp0 => s.rdN (Obj.FP_STATE 0) == 2
  | .fp1 => s.rdN (Obj.FP_STATE 1) == 2

/-- What a bucket holds now: it gains tokens at its rate up to its burst (R372). -/
def Bucket.level' (b : Bucket) (rate burst now : Nat) : Nat := min (burst * sec48) (b.level + (now - b.at48) * rate)

/-- A GOP message of the engine: header, payload, and the tag under a role's key; zeros for anonymous (Table 15-4,
R363). STAMP is the reading of the timescale, marked firmware-stamped by its place (R8). -/
def State.gopMessage (s : State) (op : Nat) (role : Role) (status seq index sub aux : Nat) (payload : List Octet) :
    List Octet :=
  let head := [1, BitVec.ofNat 8 op, BitVec.ofNat 8 (roleCode role), BitVec.ofNat 8 status] ++ beBytes 4 seq ++
    beBytes 2 index ++ [BitVec.ofNat 8 sub, BitVec.ofNat 8 aux] ++ beBytes 2 payload.length ++ beBytes 4 0 ++
    time80Net s.now80
  head ++ payload ++ s.tagOf role (head ++ payload)

/-- Field port `f`. -/
def State.fp (s : State) (f : Nat) : FieldPort := SMap.get FieldPort.reset s.net.fps f

/-- The state with field port `f` replaced. -/
def State.setFp (s : State) (f : Nat) (x : FieldPort) : State :=
  { s with net := { s.net with fps := SMap.put FieldPort.reset s.net.fps f x } }

/-- The shorter of an Ethernet frame without FCS, and the padding to 60 octets. -/
def framePadded (l : List Octet) : List Octet := l ++ List.replicate (60 - l.length) 0

/-- A GOP message for the station `mac` on field port `f`: behind an Ethernet header of Ethertype 0x88B5 (R245, Table 15-4)
it waits in one of the four transmit buffers, and is lost where none is free (Table 10-6; log entry 23). -/
def State.sendFp (s : State) (f mac : Nat) (message : List Octet) : State :=
  let frame := framePadded (beBytes 6 mac ++ beBytes 6 (s.rdN (Obj.FP_MAC f)) ++ [0x88, 0xB5] ++ message)
  if (s.fp f).tx.length < 4 then s.setFp f { s.fp f with tx := (s.fp f).tx ++ [frame] } else s

/-- The session of a link ends: KEY_VALUE as staged over it is cleared (R312; log entry 36). -/
def State.endSession (s : State) (l : Link) : State :=
  let staged := fun (k : Nat) => k / 2 ^ 24 == linkCode l && decide (0xB100 ≤ k / 256 % 2 ^ 16 ∧ k / 256 % 2 ^ 16 ≤ 0xB4FF) &&
    k % 256 == 1
  { s with book := { s.book with blobs := s.book.blobs.filter fun e => !staged e.1 } }

/-- The subscription replaced, matched by link, address and role. -/
def State.setSub (s : State) (x : Subscription) : State :=
  let subs := s.book.subs.map fun y => if y.link = x.link ∧ y.mac = x.mac ∧ y.role = x.role then x else y
  { s with book := { s.book with subs := subs } }

/-- One generated notice, judged by R371: the sequence advances in every case; then role and link, the token bucket,
and on PCIe a descriptor of ring 2. -/
def State.notifyOne (code index sub : Nat) (body : List Octet) (s : State) (x : Subscription) : State :=
  if !bitOn x.mask code then s
  else
    let seq := x.nextSeq
    let x1 := { x with nextSeq := wrapSucc seq }
    if (s.roleKey x.role).isNone || !s.linkUp x.link then s.setSub x1
    else
      let rate := noticeRate code
      let level := (SMap.get { level := rate.2 * sec48, at48 := 0 } x.buckets code).level' rate.1 rate.2 s.up48
      if level < sec48 then s.setSub x1
      else
        let s1 := (s.setSub { x1 with buckets := SMap.ins code { level := level - sec48, at48 := s.up48 } x.buckets }).count 0x1E0 1
        let message := s1.gopMessage 7 x.role 0 seq index sub code body
        if x.link = .pcie then (s1.toRing 2 code s1.stampNs message).1 else s1.sendFp (linkCode x.link) x.mac message

/-- A notice is generated for every subscription whose mask holds its code (R371). -/
def State.notice (s : State) (code index sub : Nat) (body : List Octet) : State :=
  s.forEach (l := s.book.subs) (p := State.notifyOne code index sub body)

/-- One octet. -/
def oct (v : Nat) : Octet := BitVec.ofNat 8 v

/-! Reference slots: what mode control reads and writes of them (R88, R90, R94). -/

/-- What slot `n` holds beyond its objects. -/
def State.slot (s : State) (n : Nat) : Slot := SMap.get Slot.reset s.sl n

/-- The state with slot `n` replaced. -/
def State.setSlot (s : State) (n : Nat) (x : Slot) : State := { s with sl := SMap.put Slot.reset s.sl n x }

namespace Sl
abbrev DISABLED : Nat := 0
abbrev LOS : Nat := 1
abbrev QUALIFYING : Nat := 2
abbrev QUALIFIED : Nat := 3
abbrev SUSPENDED : Nat := 4
abbrev DISQUALIFIED : Nat := 5
end Sl

/-- The reason codes of Table 4-6. -/
def slotReasonCode : SlotReason → Nat
  | .none => 0 | .los => 1 | .glitch => 2 | .freq => 3 | .phase => 4 | .drift => 5 | .ql => 6 | .ambiguous => 7
  | .host => 8

/-- The state of a slot (Table 4-11). -/
def State.slotState (s : State) (n : Nat) : Nat := bitsAt (s.rdN (Obj.SLOT_STATE n)) 0 3

/-- The reason field of a slot (Table 4-11). -/
def State.slotReason (s : State) (n : Nat) : Nat := bitsAt (s.rdN (Obj.SLOT_STATE n)) 8 4

/-- The AMBIGUOUS bit of a slot (Table 4-11). -/
def State.slotAmbiguous (s : State) (n : Nat) : Bool := bitOn (s.rdN (Obj.SLOT_STATE n)) 15

/-- The class in force at a slot (R86). -/
def State.slotClass (s : State) (n : Nat) : Nat := s.rdN (Obj.SLOT_CLASS n)

/-- MODE of a REFIN slot: 0 CLOCK, 1 PULSE, 2 COMPOSITE (Table 4-9). -/
def State.slotMode (s : State) (n : Nat) : Nat := bitsAt (s.rdN (Obj.SLOT_CFG n)) 8 2

/-- An enabled REFIN slot in COMPOSITE mode, which has no service of its own (R82). -/
def State.composite (s : State) (n : Nat) : Bool :=
  decide (n < 8) && s.rdB (Obj.SLOT_EN n) && s.slotMode n == 2

/-- A slot that delivers time as well as frequency (Table 4-1); a REFIN in COMPOSITE counts as slot 23 (R82). -/
def State.timeSlot (s : State) (n : Nat) : Bool :=
  (decide (16 ≤ n ∧ n ≤ 23)) || (decide (n < 8) && s.slotMode n == 1)

/-- The slot-state notice (R94, Table 15-10). -/
def State.slotNotice (s : State) (n old new : Nat) : State :=
  s.notice 2 0x2050 (n + 1) ([oct n, oct old, oct new, oct (s.slotReason n), oct (if s.slotAmbiguous n then 1 else 0),
    0] ++ time80Bytes s.now80)

/-- The word of SLOT_STATE with another reason; none leaves it unchanged (Table 4-7). -/
def withReason (w : Nat) (reason : Option SlotReason) : Nat :=
  match reason with
  | some r => setBitsAt w 8 4 (slotReasonCode r)
  | Option.none => w

/-- The new word of one slot's state, its CHANGED bit, its event and its notice; what leaving QUALIFIED and entering
DISABLED bring (R86, R89, R94). -/
def State.slotStateTo (s : State) (n new : Nat) (reason : Option SlotReason) : State :=
  let old := s.slotState n
  let r := Obj.SLOT_STATE n
  if old = new then s.wrN r (withReason (s.rdN r) reason)
  else
    let s1 := (s.wrN r (withReason (setBitsAt (s.rdN r) 0 3 new) reason)).stick r 7
    let s2 := s1.when (old == Sl.QUALIFIED) fun s => (s.wrN (Obj.HD_W_TIME n) 0).wrN (Obj.HD_W_FREQ n) 0
    let s3 := s2.when (new == Sl.DISABLED) fun s =>
      (((s.wrN (Obj.SLOT_CLASS n) 15).wrN (Obj.SLOT_UNC_RX n) 0xFFFFFFFF).wrN (Obj.SLOT_QL_RAW n) 0).setSlot n Slot.reset
    (s3.count (0x180 + n) 1).slotNotice n old new

/-- A change of one slot's state; the REFIN in COMPOSITE follows slot 23 (R82), in its state, CHANGED, event and notice alone:
the sources and the other sticky bits are slot 23's (log entry 78). -/
def State.slotTo (s : State) (n new : Nat) (reason : Option SlotReason) : State :=
  let s1 := s.slotStateTo n new reason
  if n = 23 then s1.forEach (l := List.range 8) (p := fun s c => if s.composite c then s.slotStateTo c new reason else s)
  else s1

/-- Every slot goes to DISABLED (Table 4-7, transition 1). -/
def State.slotsDisabled (s : State) : State :=
  s.forEach (l := List.range 24) (p := fun s n =>
    if s.slotState n = Sl.DISABLED then s else s.slotStateTo n Sl.DISABLED (some .host))

/-! Output service (Table 2-5, R412). -/

/-- The bound of the timescale: 0xFFFF_FFFF states that it is unbounded. -/
def State.bound (s : State) : Nat := s.rdN Obj.TEB_TS

/-- The mode lets clock and event outputs run: SVC_OUT_MODES in the service modes, the fault policy in FAULTSAFE, the
enables as they stood at entry in ZEROISED, the test configuration in FACTORY (Table 2-5, R412). -/
def State.outServed (s : State) : Bool :=
  let m := s.mode
  if serviceMode m then bitOn (s.rdN Obj.SVC_OUT_MODES) m
  else if m = Mode.FAULTSAFE then s.rdN Obj.FS_OUT_POLICY == 1 && !s.clk.frozen && s.bound != 0xFFFFFFFF
  else if m = Mode.ZEROISED then s.ctl.outHeld
  else m == Mode.FACTORY

/-- Packet service in the present mode: 0 none, 1 Announce alone, 2 full (Table 2-5, R343, R412); none while DRAM has failed (R41,
R252, Table 1-6; log entry 102). -/
def State.pktService (s : State) : Nat :=
  let m := s.mode
  if s.tpe.dramLost || s.rdN Obj.DRAM_STATE == 3 then 0
  else if serviceMode m then (if bitOn (s.rdN Obj.SVC_PKT_MODES) m then 2 else 0)
  else if m = Mode.FAULTSAFE then
    let holds := decide (s.live48 < s.ctl.fs.entered48 + s.rdN Obj.FS_ANN_HOLD * sec48)
    match s.rdN Obj.FS_PKT_POLICY with
    | 0 => 0
    | 1 => if holds then 1 else 0
    | _ => if s.clk.frozen || s.bound == 0xFFFFFFFF then (if holds then 1 else 0) else 2
  else 0

/-! Squelch (R187, R193). -/

/-- Generator `n`. -/
def State.evt (s : State) (n : Nat) : Evt := SMap.get Evt.reset s.ev.gens n

/-- The state with generator `n` replaced. -/
def State.setEvt (s : State) (n : Nat) (x : Evt) : State :=
  { s with ev := { s.ev with gens := SMap.put Evt.reset s.ev.gens n x } }

/-- APLL-B is locked (Table 8-6). -/
def State.apllB (s : State) : Bool := s.rdN Obj.APLLB_STATE == 1

/-- APLL-A is locked. -/
def State.apllA (s : State) : Bool := s.rdN Obj.APLLA_STATE == 1

/-- The straps pair this unit with a twin (R329). -/
def State.paired (s : State) : Bool := s.ctl.boot.cwrole == 1 || s.ctl.boot.cwrole == 2

/-- The lease is current at instant `t48` of the timescale: before its end, and always in an unpaired unit (R23). -/
def State.leaseAt (s : State) (t48 : Nat) : Bool :=
  !s.paired || (s.ctl.lease.current && decide (s.live48 + (t48 - s.now48) < s.ctl.lease.end48))

/-- The lease is current now. -/
def State.leaseCurrent (s : State) : Bool := s.leaseAt s.now48

/-- The bits of R187 that outputs and generators share: APLL-B, the mode, the lease, BOOT. -/
def State.sharedCauses (s : State) : Nat :=
  (if s.apllB then 0 else 1) + (if s.outServed then 0 else 4) + (if s.leaseCurrent then 0 else 8) +
    (if s.open then 0 else 64)

/-- The squelch causes of generator `n`, its own CAL or FAULT in the place of the FOS (R187, R193). -/
def State.evtCauses (s : State) (n : Nat) : Nat :=
  let st := s.rdN (Obj.EVT_STATE n)
  s.sharedCauses + (if st = 1 ∨ st = 4 then 2 else 0) + (if (s.evt n).lb.squelched then 16 else 0) +
    (if s.unsafeElement 6 n then 32 else 0)

/-- An instant in 2^-9 ns. -/
def State.now9 (s : State) : Nat := s.now80 * 512 + s.clk.ts.frac / 2 ^ 39

/-- A generator whose pulse a squelch cuts returns its pin to idle at that instant (R193). -/
def State.cutPulses (s : State) : State :=
  s.forEach (l := List.range 16) (p := fun s n =>
    let x := s.evt n
    if x.active && s.evtCauses n != 0 then (s.setEvt n { x with active := false }).emit (.eventEdge n false s.now9) else s)

/-! Points of delivery (R165, R187, R188). -/

/-- EVT_STATE: 0 OFF, 1 CAL, 2 RUN, 3 UNDERRUN, 4 FAULT. -/
def State.evtState (s : State) (e : Nat) : Nat := s.rdN (Obj.EVT_STATE e)

/-- ALIGN of OUT `n`. -/
def State.outAlign (s : State) (n : Nat) : Bool := bitOn (s.rdN (Obj.OUT_CFG n)) 19

/-- The squelch causes of OUT `n`, bit by bit (R187). -/
def State.outCauses (s : State) (n : Nat) : Nat :=
  let f := s.outFos n
  s.sharedCauses + (if s.fosState f < 2 then 2 else 0) + (if (s.outOf n).lb.squelched then 16 else 0) +
    (if s.unsafeElement 5 f then 32 else 0)

/-- OUT_SQ_CAUSE: an output that is not enabled has none. -/
def State.outSqCause (s : State) (n : Nat) : Nat := if s.rdB (Obj.OUT_EN n) then s.outCauses n else 0

/-- OUT_STATE: 0 OFF, 1 SQUELCHED, 2 ALIGNING, 3 RUN (R187, R188). -/
def State.outState (s : State) (n : Nat) : Nat :=
  if !s.rdB (Obj.OUT_EN n) then 0
  else if s.outCauses n ≠ 0 then 1
  else if s.outAlign n && !(s.outOf n).run then 2
  else 3

/-- The output carries the timescale's time under a bound: ALIGN on a FOS that follows the rate word (Table 7-3). -/
def State.outTimed (s : State) (n : Nat) : Bool :=
  s.outAlign n && s.rdN (Obj.FOS_FOLLOW (s.outFos n)) == 1

/-- The port launches frames (Table 2-5, Table 7-3): it is up, the mode serves clients, the lease is current, and its
configuration is good. -/
def State.portLaunching (s : State) (p : Nat) : Bool :=
  s.rdN (Obj.PORT_STATE p) == 3 && s.pktService != 0 && s.leaseCurrent && s.apllB && !s.unsafeElement 8 p &&
    !s.unsafeBlock 12

/-- The bound of the timescale and the terms of a point (Table 7-3): the calibration term in force, by its place in the
list, and a constant in ps. -/
def State.pointBound (s : State) (i ps : Nat) : Nat :=
  match s.teb.exact with
  | some b => boundUnits (b + (s.teb.cals.getD i 0 : Nat) + (ps : Rat) / 1000 * unitsPerNs)
  | none => 0xFFFFFFFF

/-- TEB_PORT. -/
def State.portBound (s : State) (p : Nat) : Nat :=
  if s.portLaunching p && s.apllB then s.pointBound p 8 else 0xFFFFFFFF

/-- TEB_OUT. -/
def State.outBound (s : State) (n : Nat) : Nat :=
  if s.outTimed n && s.outState n == 3 && !(s.outOf n).lb.failed then s.pointBound (8 + n) 100 else 0xFFFFFFFF

/-- A generator delivers edges (Table 7-3). -/
def State.evtLive (s : State) (e : Nat) : Bool :=
  s.rdB (Obj.EVT_EN e) && (s.evtState e == 2 || s.evtState e == 3) && s.evtCauses e == 0

/-- TEB_EVT. -/
def State.evtBound (s : State) (e : Nat) : Nat :=
  if s.evtLive e && !(s.evt e).lb.failed then s.pointBound (24 + e) 20 else 0xFFFFFFFF

/-- The largest bound over ports with launches enabled and outputs not squelched; unbounded where there is none
(R168). -/
def State.worstBound (s : State) : Nat :=
  let ports := ((List.range 8).filter s.portLaunching).map s.portBound
  let outs := ((List.range 16).filter fun n => s.rdB (Obj.OUT_EN n) && s.outTimed n && s.outCauses n == 0).map s.outBound
  let evts := ((List.range 16).filter s.evtLive).map s.evtBound
  let all := ports ++ outs ++ evts
  if all.isEmpty then 0xFFFFFFFF else all.foldl max 0

/-- The bounds that are finite: bit 0 the timescale's, then the ports', the outputs' and the generators'. -/
def State.finiteBounds (s : State) : Nat :=
  maskOf (fun i =>
    (if i = 0 then s.bound else if i < 9 then s.portBound (i - 1) else if i < 25 then s.outBound (i - 9)
      else s.evtBound (i - 25)) != 0xFFFFFFFF) 41

/-! The traceability log on ring 22 (R174). -/

/-- The 64 octets of a ring 22 record (Table 7-6). -/
def State.tebRecord (s : State) (cause : Nat) : List Octet :=
  leBytes 4 s.stampNs ++
    leBytes 4 (cause * 2 ^ 1 + s.mode * 2 ^ 4 + maskOf (s.hd.timeSet.contains ·) 24 * 2 ^ 8 +
      if s.teb.lostBefore then 1 else 0) ++
    leBytes 4 s.worstBound ++ leBytes 4 s.bound ++
    (([Obj.TEB_T_SET, Obj.TEB_T_HOLD, Obj.TEB_T_BASE, Obj.TEB_T_HAND, Obj.TEB_T_TUNE, Obj.TEB_T_DRIFT, Obj.TEB_T_AMB,
      Obj.TEB_T_SWITCH, Obj.TEB_T_SERVO, Obj.TEB_T_MEAS, Obj.TEB_T_RES, Obj.TEB_T_REF].map
        fun r => leBytes 4 (s.rdN r)).flatten)

/-- One record for ring 22 with a cause of Table 7-6: 0 a second boundary, otherwise an event, of which a second has
room for TEB_LOG_EVMAX. -/
def State.tebLog (s : State) (cause : Nat) : State :=
  let lost := fun (s : State) (b : Bool) => ({ s with teb := { s.teb with lostBefore := b } } : State)
  if !s.rdB Obj.TEB_LOG_EN then
    (if cause = 0 then { s with teb := { s.teb with events := 0 } } else s)
  else if cause ≠ 0 ∧ s.rdN Obj.TEB_LOG_EVMAX ≤ s.teb.events then lost ((s.bump Obj.TEB_LOG_SUPPR).count 0x1F6 1) true
  else
    let s1 : State := { s with teb := { s.teb with events := if cause = 0 then 0 else s.teb.events + 1 } }
    let r := s1.toRing 22 0 s.stampNs (s1.tebRecord cause)
    match r.2 with
    | .off => r.1
    | .written _ => lost r.1 false
    | .full => ((((lost r.1 true).bump Obj.TEB_LOG_LOST).count 0x1F6 1).stick Obj.TEB_STATUS 2).raise Src.TEB_LOG_LOST

/-- The end of a cycle in which a bound has become unbounded or finite (Table 7-6, cause 6). -/
def State.tebWatch (s : State) : State :=
  let now := if s.rdB Obj.TEB_LOG_EN then some s.finiteBounds else none
  let s1 : State := { s with teb := { s.teb with finite := now } }
  s1.when (s.teb.finite.isSome && now.isSome && s.teb.finite != now) (·.tebLog 6)

/-! Mode changes (R32) and the lease (R335 to R338). -/

/-- TEB_OK is low in COLD, BOOT, UNPROVISIONED and FACTORY (R168). -/
def pinLowMode (m : Nat) : Bool := decide (m < 3) || m == Mode.FACTORY

/-- The five coefficient objects of an LO (Table 7-2). -/
def State.coefObjects (s : State) (lo : Nat) : List Nat :=
  [s.rdN (Obj.TEB_LO_FREQ0 lo), s.rdN (Obj.TEB_LO_AGE lo), s.rdN (Obj.TEB_LO_WFM lo), s.rdN (Obj.TEB_LO_RW lo),
    s.rdN (Obj.TEB_LO_TEMP lo)]

/-- Time-error bound's own objects as they read now. -/
def State.tebObjects (s : State) : TebIn :=
  { k := s.rdN Obj.TEB_K, coefA := s.coefObjects 0, coefB := s.coefObjects 1, fa := s.rdN Obj.TEB_FA_FREQ,
    cals := ((List.range 8).map fun p => s.rdN (Obj.TEB_PORT_CAL p)) ++
      ((List.range 16).map fun n => s.rdN (Obj.TEB_OUT_CAL n)) ++
      ((List.range 16).map fun e => s.rdN (Obj.TEB_EVT_CAL e)) }

/-- COEF_HELD as it is now: while a model governs, TEB_K or a coefficient of the base LO reads below what is in force
(R164). -/
def State.tebHeld (s : State) : State :=
  let t := s.teb
  let below := fun (objs inForce : List Nat) => (objs.zip inForce).any fun p => decide (p.1 < p.2)
  let held := t.model.isSome && !t.timed && (decide (s.rdN Obj.TEB_K < t.k) ||
    (s.rdN Obj.LO_SEL == 0 && below (s.coefObjects 0) t.coefA) || (s.rdN Obj.LO_SEL == 1 && below (s.coefObjects 1) t.coefB))
  { s with teb := { t with held := held } }

/-- The record of ring 22 where the coefficients in force are no longer those of `before` (Table 7-6, cause 7). -/
def State.tebCoefLog (s before : State) : State :=
  s.when (s.teb.coefA != before.teb.coefA || s.teb.coefB != before.teb.coefB || s.teb.k != before.teb.k) (·.tebLog 7)

/-- The coefficients and TEB_K that an update or a model start read come into force; while a model governs, a lowering of
TEB_K or of the base LO's is held (R164). -/
def State.tebCoefs (s : State) (i : TebIn) (governs : Bool) : State :=
  let t := s.teb
  let take := fun (held : Bool) (cur new : Nat) => if held && decide (new < cur) then cur else new
  let a := List.zipWith (take (governs && s.rdN Obj.LO_SEL == 0)) t.coefA i.coefA
  let b := List.zipWith (take (governs && s.rdN Obj.LO_SEL == 1)) t.coefB i.coefB
  let k := take governs t.k i.k
  ({ s with teb := { t with coefA := a, coefB := b, k := k } } : State).tebHeld

/-- |TS_SLEW_PEND| in bound units, as the last effect instant left it. -/
def State.pendUnits (s : State) : Rat := ((s.ctl.slew.pend48.natAbs : Nat) : Rat) / 2 ^ 40

/-- The pending offset of a slew now, in 2^-48 ns: less what the interval so far has applied (R136). -/
def State.slewLeft (s : State) : Int :=
  s.ctl.slew.pend48 - s.ctl.slew.term * ((s.clk.cycles - s.ctl.slew.sinceCycle : Nat) : Int)

/-- The magnitude that host sets have added to a finite bound while `left` of the slew is still to be applied (R162). -/
def TebModel.addedBy (m : TebModel) (left : Rat) : Rat := m.added + ratMax 0 (m.slewing - left)

/-- A model whose slew is discarded: what has been applied stays added, and so does what the bound contained of the rest of a
first set, since no mode change lowers the bound (R136, R162, R163). -/
def State.settleSlew (s : State) (m : TebModel) : TebModel :=
  if m.hostSet then { m with b0 := m.b0 + s.pendUnits, hostSet := false }
  else { m with added := m.addedBy (((s.slewLeft.natAbs : Nat) : Rat) / 2 ^ 40), slewing := 0 }

/-- TEB_T_SWITCH at an instant: 100 ps while the other LO is in service, and the part of a switch for HD_WEIGHT_TAU, or
until a time set returns where the switch fell in a holdover (Table 7-1, R161). -/
def State.termSwitch (s : State) (at48 : Nat) : Rat :=
  let other := if s.rdN Obj.LO_SEL = 0 then s.hd.loB.serving else if s.rdN Obj.LO_SEL = 1 then s.hd.loA.serving else false
  (if other then (1 / 10 : Rat) * unitsPerNs else 0) +
    match s.hd.switchTerm with
    | none => 0
    | some (t, sx, sy) =>
      let stays := !s.teb.timed && (match s.teb.model with | some m => decide (m.hold48 ≤ t) | none => false)
      if s.up48 < t + s.rdN Obj.HD_WEIGHT_TAU * sec48 ∨ stays = true then
        s.teb.k * boundOfPhase (sx + sy * phasePerRate * secondsOf ((at48 : Int) - t))
      else 0

/-- TEB_T_HAND (Table 7-1). -/
def State.termHand (s : State) : Rat := if s.paired then 2 * unitsPerNs else 0

/-- An entry to FREERUN from another mode with a finite bound starts the free model, with B0 the bound at entry, which
contains `counted` of TEB_T_SWITCH and TEB_T_HAND; the writes that were held take effect. With no finite bound, no model goes on
(R162, R164). -/
def State.tebFreerun (s : State) : State :=
  match s.teb.exact with
  | none => ({ s with teb := { s.teb with model := none } } : State).tebHeld
  | some b =>
    let m : TebModel :=
      { free := true, start48 := s.clk.up48, b0 := b, sigmaY := 0, sigmaD := 0, lo := if s.rdN Obj.LO_SEL = 1 then 1 else 0,
        pieces := [(s.clk.up48, s.rdN Obj.LO_SEL)], assisted := false, afterAssist := false, fromSet := false,
        hostSet := false, added := 0, slewing := 0, hold48 := s.clk.up48, counted := s.termSwitch s.teb.end48 + s.termHand, kept := none }
    (({ s with teb := { s.teb with model := some m, timed := false } } : State).tebCoefs s.tebObjects false).tebCoefLog s

/-- The sources among the causes of the FAULTSAFE in force (R411). -/
def State.causing (s : State) : List Nat :=
  s.book.objs.filterMap fun e => if bitOn e.2.toNat 3 then srcOfKey e.1 else none

/-- No source is among them any longer (Table 17-3). -/
def State.noCauses (s : State) : State :=
  s.forEach (l := s.causing) (p := fun s n => s.wrN (Obj.SRC_STATE n) (clearBit (s.rdN (Obj.SRC_STATE n)) 3))

/-- FAULTSAFE has been left, and packet service is no longer stopped for DRAM (R29; log entry 102). -/
def State.dramBack (s : State) : State := { s with tpe := { s.tpe with dramLost := false } }

/-- Transition `num` to `mode`: MODE_REASON, MODE_SINCE and the notice (R32); what leaving FREERUN discards (R136,
R140); within_run stands only in ACQUIRE, LOCKED and STANDBY (R33); the automatic step belongs to one stay in ACQUIRE
(R139). -/
def State.modeTo (s : State) (num mode : Nat) : State :=
  let old := s.mode
  let s1 := (((s.wrN Obj.MODE_PREVIOUS old).wrN Obj.MODE_CURRENT mode).wrN Obj.MODE_REASON num).wrN Obj.MODE_SINCE
    s.now80
  let c := s1.ctl
  let slew := if old = Mode.FREERUN then { c.slew with term := 0, pend48 := 0, lastInterval := false, request := none }
    else c.slew
  let held := if mode = Mode.ZEROISED then s.outServed && s.leaseCurrent else c.outHeld
  let eval := { c.eval with
    withinRun := if mode = Mode.ACQUIRE ∨ mode = Mode.LOCKED ∨ mode = Mode.STANDBY then c.eval.withinRun else none,
    autoStepped := if mode = Mode.ACQUIRE then false else c.eval.autoStepped }
  let model := if old = Mode.FREERUN then s.teb.model.map s.settleSlew else s.teb.model
  let teb := if pinLowMode mode then { s.teb with model := model, pin := false, within48 := none, source := 0xFFFFFFFF }
    else { s.teb with model := model }
  let s2 := ({ s1 with ctl := { c with slew := slew, eval := eval, outHeld := held }, teb := teb } : State).fosFollowAll
  let s3 := ((s2.when (mode == Mode.FREERUN && old != Mode.FREERUN) State.tebFreerun).when (mode != Mode.FAULTSAFE)
    State.noCauses).when (old == Mode.FAULTSAFE) State.dramBack
  ((s3.tebLog 1).notice 0 0x1100 1 ([oct old, oct mode, oct num, 0] ++ time80Bytes s.now80)).cutPulses.when
    (mode == Mode.ZEROISED || mode == Mode.FACTORY) State.slotsDisabled

/-- A lease-event notice (R354, Table 15-10). -/
def State.leaseNotice (s : State) (event : Nat) : State :=
  s.notice 5 0xC000 2 ([oct event, oct (s.rdN Obj.BW_ROLE)] ++ leBytes 2 (s.rdN Obj.BW_NOTREADY) ++
    leBytes 4 s.ctl.lease.epoch ++ time80Bytes s.now80)

/-- A Causeway frame: its header in network order, its payload, and the AES-256-CMAC tag over both (R334). -/
def causewayFrame (key : BitVec 256) (kind epoch seq : Nat) (payload : List Octet) : List Octet :=
  let body := [oct kind, 0] ++ beBytes 2 payload.length ++ beBytes 4 epoch ++ beBytes 8 seq ++ payload
  body ++ beBytes 16 (Config.cmac key body).toNat

/-- A Causeway frame leaves: the lease frames and ACK on every lane that is UP, any other on one of them (R334); the payload of a
JOURNAL frame goes to ring 24 as well (R381). A unit whose CW_KEY_SLOT is no ACTIVE Causeway key, or whose Keystone runs no job,
sends none, for it can tag none. -/
def State.causeway (s : State) (kind seq : Nat) (payload : List Octet) : State :=
  let up := s.rdN Obj.CW_LANE_STATE
  let lanes := if kind = 2 ∨ kind = 3 ∨ kind = 4 ∨ kind = 0x11 then up else if bitOn up 0 then 1 else up
  let key := s.rdN Obj.CW_KEY_SLOT
  if !s.paired || up == 0 || s.ksClosed || s.mode == Mode.UNPROVISIONED || s.rdN Obj.KS_LANES == 0 ||
      s.keyState key != Key.ACTIVE || !bitOn (s.slotOf key).usage 4 then s
  else
    let s1 := (s.count 0x1E0 1).emit (.causeway lanes (causewayFrame (s.slotOf key).value kind s.ctl.lease.epoch seq payload))
    s1.when (kind == 0x10) fun s => (s.toRing 24 (seq % 2 ^ 32) s.stampNs payload).1

/-- The holder's lease ends: it is current no longer, LEASE_OUT goes LOW, RELEASE is sent where the end comes before
LEASE_END, and a lease event is notified (R334, R337, R354). What waited for this end is complete, a RELEASE of BW_FORCE too, and so
is HOLDER_SOLO (R346, R351). -/
def State.dropLease (s : State) (event cause : Nat) (early : Bool) : State :=
  if s.paired && s.ctl.lease.current then
    let s1 := ({ s with
      ctl := { s.ctl with lease := { s.ctl.lease with current := false } }
      bw := { s.bw with releasing := false } } : State).wrN Obj.BW_ROLE 2
    let s2 := (s1.when (s1.rdN Obj.BW_FORCE == 1) (·.hw Obj.BW_FORCE 0)).cond Src.BW_SOLO false
    (s2.when early (·.causeway 3 0 (beBytes 6 s.clk.ts.sec ++ beBytes 4 s.clk.ts.ns ++ [Config.releaseCause cause]))).cutPulses.leaseNotice
      event
  else s

/-! The service evaluation (R33). -/

/-- Some time slot is QUALIFIED with a class below 15 that `p` admits; none counts while Herd's updates are missing
(R125). -/
def State.anyTimeSlot (s : State) (p : Nat → Bool) : Bool :=
  !s.active Src.HD_UPDATE_MISS && (List.range 24).any fun n =>
    s.timeSlot n && s.slotState n == Sl.QUALIFIED && decide (s.slotClass n < 15) && p (s.slotClass n)

/-- The mode that the evaluation gives (R33). -/
def State.evaluation (s : State) : Nat :=
  let best := s.rdN Obj.MODE_CLASS_MIN
  if s.anyTimeSlot (fun c => decide (c ≤ best)) then
    if s.mode = Mode.LOCKED ∧ s.ctl.eval.overCount < 64 then Mode.LOCKED
    else match s.ctl.eval.withinRun with
      | some n => if 64 * s.rdN Obj.MODE_LOCK_DWELL ≤ n then Mode.LOCKED else Mode.ACQUIRE
      | none => Mode.ACQUIRE
  else if s.anyTimeSlot (fun c => decide (best < c)) then Mode.DEGRADED
  else if !s.ctl.eval.holdoverReady then Mode.FREERUN
  else if s.bound ≤ s.rdN Obj.TEB_THR_HOLDOVER then Mode.HOLDOVER
  else Mode.DEGRADED

/-- The transition of Table 2-3 that the evaluation takes from one mode to another; none where the table has no row
(log entry 12). -/
def evaluationRow (m next : Nat) : Option Nat :=
  if m = 3 ∧ next = 4 then some 9
  else if m = 4 ∧ next = 5 then some 10
  else if m = 5 ∧ next = 4 then some 11
  else if (m = 4 ∨ m = 5) ∧ next = 6 then some 12
  else if m = 4 ∧ next = 3 then some 13
  else if m = 6 ∧ next = 7 then some 14
  else if (m = 3 ∨ m = 4 ∨ m = 5) ∧ next = 7 then some 15
  else if (m = 6 ∨ m = 7) ∧ (next = 4 ∨ next = 6 ∨ next = 3) ∧ m ≠ next then some 16
  else none

/-- The service evaluation, at every Herd update and every slot, fault or lease event, in the modes that take part in
it; without the lease a paired unit is in STANDBY instead (R33, R35, R338). -/
def State.evaluate (s : State) : State :=
  if !serviceMode s.mode then s
  else if !s.leaseCurrent then s.modeTo 17 Mode.STANDBY
  else match evaluationRow s.mode s.evaluation with
    | some n => s.modeTo n s.evaluation
    | none => s

/-- A paired unit that has seen no holder enters CONTENDING, STANDBY where LEASE_IN reads HIGH (R340). -/
def State.contend (s : State) : State :=
  if s.bw.holderSeen ∨ s.rdN Obj.CW_LEASE_IN = 3 then s.wrN Obj.BW_ROLE 2
  else ({ s with bw := { s.bw with contending48 := s.live48 } } : State).wrN Obj.BW_ROLE 3

/-- Leaving BOOT, UNPROVISIONED, STANDBY or FAULTSAFE by transition `num`: STANDBY where a paired unit holds no lease,
otherwise what the evaluation gives (Table 2-3, R338, R340). -/
def State.leaveTo (s : State) (num : Nat) : State :=
  if !s.leaseCurrent then s.contend.modeTo num Mode.STANDBY else s.modeTo num s.evaluation

/-! FAULTSAFE (R411 to R414) and the end of a cycle (R406). -/

/-- Source `n` counts among the causes (Table 17-3). -/
def State.causes (s : State) (n : Nat) : State :=
  s.wrN (Obj.SRC_STATE n) (setBit (s.rdN (Obj.SRC_STATE n)) 3)

/-- The exits still inside the window (R414). -/
def State.recentExits (s : State) : List Nat :=
  s.ctl.fs.exits48.filter fun t => decide (s.live48 ≤ t + s.rdN Obj.FS_RECOV_WINDOW * sec48)

/-- The entry to FAULTSAFE by transition `num` (R411, R414): the entry, the latch where enough exits lie in the window, the loss of holdover_ready
where the timescale is frozen (R34), the end of the lease (R336). -/
def State.enterFaultsafe (num : Nat) (s : State) : State :=
  let fs : FaultSafe := { s.ctl.fs with entered48 := s.live48, exits48 := s.recentExits }
  let eval : EvalState := if s.clk.frozen then { s.ctl.eval with holdoverReady := false } else s.ctl.eval
  let s1 : State := { s with ctl := { s.ctl with fs := fs, eval := eval }, bw := { s.bw with holderSeen := false } }
  let s2 := ((s1.dropLease 1 19 true).modeTo num Mode.FAULTSAFE).count 0x1F4 1 |>.logFs 2
  if s.recentExits.length < s.rdN Obj.FS_RECOV_MAX then s2
  else ((s2.wrN Obj.FS_LATCHED 1).logFs 4).cond Src.FS_LATCHED true

/-- The order of R406: severity, highest first; then the source number, lowest first; a raise before an end. -/
def State.before (s : State) (a b : Due) : Bool :=
  decide (s.severity b.source < s.severity a.source) ||
    (decide (s.severity a.source = s.severity b.source) && decide (a.source < b.source))

/-- The first of the cycle's raises in the order of R406. -/
def State.firstDue (s : State) : List Due → Option Due
  | [] => none
  | d :: ds => match s.firstDue ds with
    | none => some d
    | some e => if s.before e d then some e else some d

/-- The number of the present 1 GHz cycle; none while the clock does not run. -/
def State.cycle (s : State) : Option Nat := if s.clk.running then some (s.clk.cycles + s.clk.frozenCycles) else none

/-- A raise of this cycle has been logged already (R406). -/
def State.raisedBefore (s : State) : Bool := s.cycle.isSome && s.book.raisedIn == s.cycle

/-- One raise: LATCHED, SEQ, RAISES (R405), its event, the first-fault record (R407), the log (R409), the FAULT notice
(R371), and CAUSING where it leads to FAULTSAFE or falls in it (R411); the quiet period starts again (R413). -/
def State.raiseNow (s : State) (d : Due) (concurrent : Bool) : State :=
  let n := d.source
  let sev := s.severity n
  let reaction := s.reaction n
  let vital := reaction == 3 || reaction == 4
  let s0 : State := { s with book := { s.book with
    raisedIn := s.cycle, raisedAs := SMap.put 0 s.book.raisedAs n (sev + 4 * reaction) } }
  let s1 := s0.wrN (Obj.SRC_STATE n) (srcRaised (s.rdN (Obj.SRC_STATE n)))
  let s2 := (s1.when (vital && (s.mode == Mode.BOOT || (decide (3 ≤ s.mode) && decide (s.mode ≤ Mode.FAULTSAFE))))
    (·.causes n)).count (0x1F0 + sev) 1
  let first := !bitOn (s.rdN Obj.FF_STATUS) 0
  let s3 := s2.when first fun s => ((((s.stick Obj.FF_STATUS 0).wrN Obj.FF_SOURCE n).wrN Obj.FF_SEVERITY sev).wrN
    Obj.FF_TIME s.logInstant).wrN Obj.FF_MODE s.mode
  let s4 := s3.log 0 n sev reaction concurrent first d.injected d.detail
  let s5 := s4.when (reaction != 0) (·.notice 1 (0xD110 + n / 128) (n % 128 + 1)
    (leBytes 2 n ++ [oct sev, oct reaction, oct (if concurrent then 1 else 0), 0] ++ time80Bytes s.logInstant))
  s5.when (decide (2 ≤ sev) || (bitOn (s2.rdN (Obj.SRC_STATE n)) 3 && !s2.active n)) fun s => { s with ctl := { s.ctl with fs := { s.ctl.fs with disturbed48 := s.live48 } } }

/-- The end of a condition source's ACTIVE: its entry, with severity and reaction of the raise (R404, R409, Table 17-5), and the
fall of a causing source (R413). -/
def State.endNow (s : State) (d : Due) : State :=
  let was := SMap.get 0 s.book.raisedAs d.source
  let s1 := s.log 1 d.source (was % 4) (was / 4) false false false d.detail
  s1.when (bitOn (s.rdN (Obj.SRC_STATE d.source)) 3)
    fun s => { s with ctl := { s.ctl with fs := { s.ctl.fs with disturbed48 := s.live48 } } }

/-- A source that its table raises only at the first event after its previous clear stays silent while LATCHED
(R405). -/
def State.silent (s : State) (d : Due) : Bool :=
  !d.ends && s.latched d.source && ((sourceRow? d.source).map (·.firstOnly)).getD false

/-- The ZEROISE line asserts (R324, R325): Keystone admits nothing and accepts nothing, its jobs complete with ZEROISED, and
transition 21 is taken, from BOOT transition 4 at its end (R42); in ZEROISED, FACTORY and COLD the mode stays (R36).
`cause` is the tamper source, 9 the command, 10 the PUF failure, 11 the entry to FACTORY. -/
def State.zeroise (s : State) (cause : Nat) : State :=
  let jobs := s.ks.jobs.map fun j => { j with status := 10, lane := some (j.lane.getD 8) }
  let s1 : State := { s with ks := { s.ks with zeroising := true, cause := cause, causeMode := s.mode, jobs := jobs } }
  if s.mode = Mode.BOOT then { s1 with ctl := { s1.ctl with boot := { s1.ctl.boot with zeroised := true } } }
  else if s.mode = Mode.COLD ∨ s.mode = Mode.FACTORY ∨ s.mode = Mode.ZEROISED then s1
  else s1.modeTo 21 Mode.ZEROISED

/-- The cycle's raises one after another, in the order of R406. What they lead to is gathered: whether FAULTSAFE, and the
source that asserts ZEROISE. A raise that the log itself brings about follows in its turn. -/
def State.drain : Nat → State → Bool → Bool × Option Nat → State × Bool × Option Nat
  | 0, s, _, r => (s, r)
  | f + 1, s, concurrent, r =>
    match s.firstDue s.book.due with
    | none => (s, r)
    | some d =>
      let s1 : State := { s with book := { s.book with due := s.book.due.erase d } }
      if s.silent d then State.drain f s1 concurrent r
      else if d.ends then State.drain f (s1.endNow d) concurrent r
      else
        let x := s.reaction d.source
        State.drain f (s1.raiseNow d concurrent) true
          (r.1 || x == 3 || x == 4, if x = 5 then some (d.source - 0x250) else r.2)

/-- The raises of a cycle take place, and the strongest reaction that the mode allows follows, ZEROISE first (R35, R406,
R411): in BOOT FAULTSAFE waits for BOOT completion; in the modes outside the service evaluation the mode stays (R36).
Otherwise the fault event is evaluated (R33). What a notice or an entry raises in its turn follows in the same way. -/
def State.settleIn : Nat → State → State
  | 0, s => { s with book := { s.book with due := [] } }
  | f + 1, s =>
    if s.book.due.isEmpty then s
    else
      let r := State.drain (s.book.due.length + 64) s s.raisedBefore (false, none)
      let s1 : State := { r.1 with book := { r.1.book with due := [] } }
      match r.2.2 with
      | some cause => State.settleIn f (s1.zeroise cause)
      | none =>
        if !r.2.1 then State.settleIn f s1.evaluate
        else if s1.mode = Mode.BOOT then { s1 with ctl := { s1.ctl with boot := { s1.ctl.boot with fault := true } } }
        else if serviceMode s1.mode || s1.mode == Mode.STANDBY then State.settleIn f (s1.enterFaultsafe 19)
        else s1

/-! Readiness (R342). -/

/-- The twin's HELLO differs in TPE_CLOCK_ID, BW_LEASE or BW_GUARD. -/
def State.twinDiffers (s : State) : Bool :=
  match s.bw.twin with
  | some h => h.clockId != s.rdN Obj.TPE_CLOCK_ID || h.lease != s.rdN Obj.BW_LEASE || h.guard != s.rdN Obj.BW_GUARD
  | none => false

/-- A generation is held by an ACTIVE or RETIRING slot with the usage of its entry: NTS_MASTER for 16, PTP_SERVICE for the
others (R347). -/
def State.holdsGen (s : State) (entry gen : Nat) : Bool :=
  s.ks.slots.any fun e => e.2.gen == gen && bitOn e.2.usage (if entry = 16 then 1 else 0) &&
    (s.keyState e.1 == Key.ACTIVE || s.keyState e.1 == Key.RETIRING)

/-- The conditions of Table 14-3a that fail. -/
def State.notReady (s : State) : Nat :=
  let bit := fun (n : Nat) (holds : Bool) => if holds then 0 else 2 ^ n
  bit 0 (s.mode == Mode.STANDBY && s.rdB Obj.BW_ENABLE) +
    bit 1 (s.slotState 22 == Sl.QUALIFIED && decide (s.slotClass 22 < 15)) +
    bit 2 (s.bw.synced && !s.bw.gap) +
    bit 3 (s.bw.twin.isSome && !s.twinDiffers) +
    bit 4 (s.bw.keygens.all fun k => s.holdsGen k.1 k.2.2) +
    bit 5 (match s.rdN Obj.LO_SEL with | 0 => s.hd.loA.serving | 1 => s.hd.loB.serving | _ => false) +
    bit 6 (s.rdN Obj.BW_FORCE != 2) +
    bit 7 ((s.bw.twin.map (·.role)) != some 4) +
    bit 8 (s.rdB Obj.TPE_ENABLE && s.rdN Obj.DRAM_STATE == 2)

/-- BW_NOTREADY as it is now, the notice of a change of READY and the raise of its loss (R342, R354). -/
def State.readiness (s : State) : State :=
  if !s.paired || !s.open then s
  else
    let w := s.notReady
    let ready := w == 0 && !s.unsafeBlock 15
    let s1 := (s.wrN Obj.BW_NOTREADY w).cond Src.BW_ID_MISMATCH s.twinDiffers
    if ready == s.bw.ready then s1
    else (({ s1 with bw := { s1.bw with ready := ready } } : State).leaseNotice (if ready then 5 else 6)).when (!ready)
      (·.raise Src.BW_NOT_READY)

/-- The end of a cycle (R405 to R411), with what it makes of READY and of the log on ring 22. -/
def State.settle (s : State) : State := (((s.settleIn 8).readiness).tebWatch).settleIn 8

/-- The end of a cycle with a slot or lease event in it: its raises, and the evaluation (R33, R35). -/
def State.close (s : State) : State := s.settle.evaluate.settle

/-! Writes that a block refuses (R11, Table 15-7 step 6). -/

/-- A block's status object, its LAST_IGNORED object, and the bit of RANGE_REJECT in the first. -/
def blockStatus : Nat → Reg × Reg × Nat
  | 2 => (Obj.SL_STATUS, Obj.SL_LAST_IGNORED, 1)
  | 3 => (Obj.TR_STATUS, Obj.TR_LAST_IGNORED, 1)
  | 4 => (Obj.HD_STATUS, Obj.HD_LAST_IGNORED, 1)
  | 5 => (Obj.SYN_STATUS, Obj.SYN_LAST_IGNORED, 1)
  | 6 => (Obj.EV_STATUS, Obj.EV_LAST_IGNORED, 1)
  | 7 => (Obj.GN_STATUS, Obj.GN_LAST_IGNORED, 1)
  | 8 => (Obj.ETH_STATUS, Obj.ETH_LAST_IGNORED, 1)
  | 9 => (Obj.FPB_STATUS, Obj.FPB_LAST_IGNORED, 1)
  | 10 => (Obj.TS_STATUS, Obj.TS_LAST_IGNORED, 1)
  | 11 => (Obj.TEB_STATUS, Obj.TEB_LAST_IGNORED, 0)
  | 12 => (Obj.TPE_STATUS, Obj.TPE_LAST_IGNORED, 1)
  | 13 => (Obj.DRV_STATUS, Obj.DRV_LAST_IGNORED, 1)
  | 14 => (Obj.KS_STATUS, Obj.KS_LAST_IGNORED, 0)
  | 15 => (Obj.BW_STATUS, Obj.BW_LAST_IGNORED, 1)
  | 16 => (Obj.SD_STATUS, Obj.SD_LAST_IGNORED, 1)
  | 17 => (Obj.CTR_STATUS, Obj.CTR_LAST_IGNORED, 1)
  | 18 => (Obj.VD_STATUS, Obj.VD_LAST_IGNORED, 1)
  | 19 => (Obj.HL_STATUS, Obj.HL_LAST_IGNORED, 1)
  | _ => (Obj.OD_STATUS, Obj.OD_LAST_IGNORED, 0)

/-- The place of a key in the dictionary: the link of a per-link object is no part of it. -/
def keyIndex (key : Nat) : Nat := key / 256 % 2 ^ 16
/-- The sub-index of a key. -/
def keySub (key : Nat) : Nat := key % 256

/-- The word a LAST_IGNORED object records: index, sub-index and kind (R65; log entry 9). -/
def ignoredWord (key kind : Nat) : Nat := keyIndex key * 2 ^ 16 + keySub key * 2 ^ 8 + kind

/-- A write or an enable is out of range: RANGE_REJECT and the record (Table 15-7). -/
def State.rangeReject (s : State) (block : Nat) (key : Nat) : State :=
  let b := blockStatus block
  (s.stick b.1 b.2.2).wrN b.2.1 (ignoredWord key 1)

/-- An RWD write meets an enabled block: CFG_IGNORED, the record, and the notice (Table 15-7, Table 15-10). -/
def State.cfgIgnored (s : State) (block : Nat) (key : Nat) : State :=
  let b := blockStatus block
  ((s.stick b.1 0).wrN b.2.1 (ignoredWord key 0)).notice 8 (keyIndex b.2.1.key) (keySub b.2.1.key)
    ([oct block, 0] ++ leBytes 2 (keyIndex key) ++ [oct (keySub key), 0])

end Sys2Proof.Machine
end

