-- ==== Sys2Proof/Machine/Trestle.lean ====
section
/-! DEFINITION. Trestle: stamps, interval pairs, records for ring 20, calibration (R54 to R77). -/

namespace Sys2Proof.Machine

/-! Channels. -/

/-- Channel `c`. -/
def State.channel (s : State) (c : Nat) : Channel := SMap.get Channel.reset s.tr.channels c

/-- The state with channel `c` replaced. -/
def State.setChannel (s : State) (c : Nat) (x : Channel) : State :=
  { s with tr := { s.tr with channels := SMap.put Channel.reset s.tr.channels c x } }

/-- The code of a channel state (Table 3-2). -/
def chStateCode : ChState → Nat
  | .off => 0 | .dllAcq => 1 | .cal => 2 | .run => 3 | .fault => 4

/-- Channels whose PRESCALE reads 1 and whose EDGE reads 00 (R66). -/
def fixedChannel (c : Nat) : Bool := decide (8 ≤ c ∧ c ≤ 11) || decide (44 ≤ c)

/-- PRESCALE in force (Table 3-4). -/
def State.prescale (s : State) (c : Nat) : Nat :=
  if fixedChannel c then 1 else bitsAt (s.rdN (Obj.CH_CFG c)) 16 16

/-- The edge's direction qualifies under EDGE (Table 3-4). -/
def State.edgeQualifies (s : State) (c : Nat) (falling : Bool) : Bool :=
  match (if fixedChannel c then 0 else bitsAt (s.rdN (Obj.CH_CFG c)) 10 2) with
  | 0 => !falling
  | 1 => falling
  | _ => true

/-- P_k: the centre of bin k, in 2^-22 ns, truncated (R60). -/
def binCentre (hist : List Nat) (k : Nat) : Nat := (hist.take k).sum + hist.getD k 0 / 2

/-- The 4 KiB of a table: 1,024 little-endian words (R60). -/
def tableOctets (f : Nat → Nat) : List Octet := (List.range 1024).flatMap fun k => leBytes 4 (f k)

/-- A histogram that R59 accepts: 1,024 codes, each with 1,024 to 16,384 hits, 2^22 in all (R58). -/
def histogramGood (counts : List Nat) : Bool :=
  counts.length == 1024 && counts.sum == 2 ^ 22 && counts.all fun n => decide (1024 ≤ n ∧ n ≤ 16384)

/-- The largest difference of two tables over their 1,024 entries, in fs, rounded up (R62; log entry 10). -/
def tableDrift (a b : List Nat) : Nat :=
  let d := ((List.range 1024).map fun k => ((binCentre a k : Int) - binCentre b k).natAbs).foldl max 0
  ceilDiv (d * 1000000) (2 ^ 22)

/-- The channel has a drift above TR_DRIFT_MAX (R62). -/
def State.tableStale (s : State) (c : Nat) : Bool := decide (s.rdN Obj.TR_DRIFT_MAX < s.rdN (Obj.CH_DRIFT c))

/-- CH_DRIFT of channel `c` after channel 47's table or state has changed; the crossing of the threshold raises
TABLE_STALE once (R62). -/
def State.refreshDrift (s : State) (c : Nat) : State :=
  let m := s.channel 47
  let x := s.channel c
  let d := if m.state = .fault then 0xFFFFFFFF
    else if x.hist.isEmpty then 0 else min 0xFFFFFFFF (tableDrift x.monitor m.hist)
  let s1 := s.wrN (Obj.CH_DRIFT c) d
  s1.when (s1.tableStale c && !s.tableStale c) (·.raise Src.TR_TABLE_STALE)

/-- CH_DRIFT of every channel. -/
def State.refreshDrifts (s : State) : State := s.forEach (l := List.range 48) (p := State.refreshDrift)

/-- What a transition to `new` leaves for the edges of its cycle (R64): the state that the channel had when the cycle began,
and FAULT once that has been entered. -/
def State.leaving (s : State) (c : Nat) (new : ChState) : Option (Nat × ChState) :=
  let x := s.channel c
  match s.cycle with
  | none => none
  | some n =>
    if new = .fault then some (n, .fault)
    else match x.left with
      | some (m, st) => if m = n then some (n, st) else some (n, x.state)
      | none => some (n, x.state)

/-- Channel `c` takes a state (Table 3-2); where channel 47 enters or leaves FAULT, every CH_DRIFT follows (R62). -/
def State.channelTo (s : State) (c : Nat) (new : ChState) : State :=
  let x := s.channel c
  let s1 := s.setChannel c { x with state := new, left := if new = x.state then x.left else s.leaving c new }
  s1.when (c == 47 && (new == .fault) != (x.state == .fault)) State.refreshDrifts

/-- Channel `c` goes to FAULT. -/
def State.channelFault (s : State) (c : Nat) : State := s.channelTo c .fault

/-- Channel `c` goes to OFF (Table 3-2). -/
def State.channelOff (s : State) (c : Nat) : State := s.channelTo c .off

/-- Channel `c` begins a code-density calibration (R58). -/
def State.channelCal (s : State) (c : Nat) : State :=
  let s1 := s.channelTo c .cal
  s1.setChannel c { s1.channel c with calStart48 := s.up48 }

/-- Channel `c` goes to DLL_ACQ, with its retries before it (Table 3-2). -/
def State.channelAcquire (s : State) (c : Nat) : State :=
  let s1 := s.channelTo c .dllAcq
  s1.setChannel c { s1.channel c with retries := 0 }

/-- Channel `c` passes from OFF to DLL_ACQ where it and Trestle are enabled (Table 3-2). -/
def State.channelStart (s : State) (c : Nat) : State :=
  s.when (s.rdB (Obj.CH_EN c) && s.rdB Obj.TR_ENABLE && (s.channel c).state == .off) (·.channelAcquire c)

/-- A channel whose calibration failed: FAULT, and CAL_FAIL (R59). -/
def State.calFail (s : State) (c : Nat) : State :=
  ((s.setChannel c { s.channel c with failed48 := s.up48 }).channelFault c).raise Src.TR_CAL_FAIL

/-- A write of TR_DRIFT_MAX: a channel that thereby lies above the threshold raises TABLE_STALE (R62). -/
def State.setDriftMax (s : State) (v : Int) : State :=
  let s1 := s.wr Obj.TR_DRIFT_MAX v
  s1.forEach (l := (List.range 48).filter fun c => s1.tableStale c && !s.tableStale c)
    (p := fun t _ => t.raise Src.TR_TABLE_STALE)

/-- BOOT step 11 begins: the DRAM configuration is read from the boot configuration block, with the subsystem IDs, and the DRAM is
trained (R399). -/
def State.dramTrains (s : State) : State :=
  let s1 : State := { s with ctl := { s.ctl with boot := { s.ctl.boot with step := 11 } } }
  let s2 := match s.ctl.boot.config with
    | none => s1
    | some c =>
      ((({ s1 with book := { s1.book with pci := { s1.book.pci with subsystem := c.subsystem } } } : State).wrN Obj.DRAM_SIZE
        c.dramMib).wrN Obj.DRAM_RATE c.dramRate).wrN Obj.DRAM_FW_BASE ((c.dramMib - 256) * 2 ^ 20)
  s2.wrN Obj.DRAM_STATE 1

/-- BOOT step 10 ends when no channel acquires or calibrates any longer; a channel whose CH_EN is 0 then goes to OFF
(Table 2-4; log entry 11). -/
def State.bootStep10 (s : State) : State :=
  if s.ctl.boot.step = 10 ∧
      (List.range 48).all (fun c => (s.channel c).state == .run || (s.channel c).state == .fault) = true then
    (s.forEach (l := List.range 48) (p := fun s c => s.when (!s.rdB (Obj.CH_EN c)) (·.channelOff c))).dramTrains
  else s

/-! Records for ring 20 (R73 to R75). -/

/-- The next record of the same channel or pair that reaches the ring carries LOST_BEFORE (R75). -/
def State.markLost (s : State) (r : TrRecord) (lost : Bool) : State :=
  if r.pair then
    let p := SMap.get Pair.reset s.tr.pairs r.number
    { s with tr := { s.tr with pairs := SMap.put Pair.reset s.tr.pairs r.number { p with lostBefore := lost } } }
  else s.setChannel r.number { s.channel r.number with lostBefore := lost }

/-- LOST_BEFORE of a record (Table 3-9). -/
def TrRecord.lost (r : TrRecord) : Bool := bitOn (ofLe r.octets) 42

/-- Records that are discarded on their way to ring 20: a LOST_BEFORE among them passes to the next record of its channel or
pair, for it has not reached the ring (R75). -/
def State.dropRecords (s : State) (l : List TrRecord) : State :=
  s.forEach (l := l.filter TrRecord.lost) (p := fun s r => s.markLost r true)

/-- The open descriptor of ring 20. -/
def State.openDesc (s : State) : Option Posted := (s.ring 20).taken.head?.map (·.desc)

/-- Ring 20's open descriptor is written back with the records its buffer holds (R74). -/
def State.closeBuffer (s : State) : State :=
  match (s.ring 20).taken with
  | [] => s
  | t :: ts =>
    let rec20 := s.tr.buffer.flatMap (·.octets)
    let s1 := s.setRing 20 { s.ring 20 with taken := ts }
    let s2 : State := { s1 with tr := { s1.tr with buffer := [] } }
    ((s2.emit (.buffer t.desc.addr rec20)).writeBack 20 t.count t.desc s.stampNs 0 rec20.length 0).wroteBack 20 (wrapSucc t.count) 0
      t.desc.interrupt

/-- The next descriptor of ring 20 with room for a record is taken; those with LENGTH 0 or below 16 are written back
untouched (R74, R384). -/
def State.takeRecordDesc : List Posted → State → State × Bool
  | [], s => (s, false)
  | p :: rest, s =>
    if !p.own then (s.ownGap 20, false)
    else
      let count := s.rdN (Obj.RING_HEAD 20)
      let s1 := s.takeHead 20
      if p.length < 16 then
        let status := if p.length = 0 then 2 else 1
        State.takeRecordDesc rest ((s1.writeBack 20 count p s.stampNs 0 0 status).wroteBack 20 (wrapSucc count) status p.interrupt)
      else ((s1.setRing 20 { s1.ring 20 with taken := [{ count := count, desc := p, started := true }] }).trailer 20, true)

/-- The waiting records move into descriptors, oldest first, while ring 20 takes any; a ring in ERROR takes none, and the
flush time of a buffer counts from the instant at which its first record is available (R74, R75). -/
def State.pump : Nat → State → State
  | 0, s => s
  | f + 1, s =>
    match s.tr.store with
    | [] => s
    | r :: rest =>
      match s.openDesc with
      | some d =>
        if s.dmaPaused || s.rdN (Obj.RING_STATE 20) == 2 then s
        else
        let since := if s.tr.buffer.isEmpty then max s.up48 r.ready48 else s.tr.bufferSince48
        let s1 : State := { s with tr := { s.tr with
          store := rest, buffer := s.tr.buffer ++ [r], bufferSince48 := since } }
        State.pump f (s1.when (decide (d.length / 16 ≤ s1.tr.buffer.length)) State.closeBuffer)
      | none =>
        if s.ringStalled 20 then s
        else
          let t := State.takeRecordDesc (s.ring 20).posted s
          if t.2 then State.pump f t.1 else t.1

/-- A record whose RING is set: discarded while ring 20 is OFF, lost while the store is full and no descriptor is
free (R75, R387). -/
def State.pushRecord (s : State) (r : TrRecord) : State :=
  if s.rdN (Obj.RING_STATE 20) = 0 then s
  else if 4096 ≤ s.tr.store.length then
    (((s.bump Obj.TR_RING_LOST).count 0x041 1).raise Src.TR_RING_LOST).markLost r true
  else
    let s1 := s.markLost r false
    State.pump (2 * (s1.tr.store.length + 2)) { s1 with tr := { s1.tr with store := s1.tr.store ++ [r] } }

/-! Stamps and pairs (R61, R66 to R73). -/

/-- The time T of an edge (R61), in 2^-22 ns: the counter, its fraction truncated to 2^-22 ns, the bin's centre, less
the offset. -/
def State.stampOf (s : State) (c fine : Nat) : Int :=
  (s.now80 * 2 ^ 22 + s.clk.ts.frac / 2 ^ 26 + binCentre (s.channel c).hist fine : Nat) - s.rd (Obj.CH_OFFSET c) * 64

/-- STAMP_NS: the nanoseconds of T, low 32 bits (R61, R133). -/
def stampNsOf (t22 : Int) : Nat := (t22 / 2 ^ 22 % 2 ^ 32).toNat

/-- FINEPOS: the part of T below a nanosecond (R61). -/
def finePos (t22 : Int) : Nat := (t22 % 2 ^ 22).toNat

/-- The 16 octets of an edge record (Tables 3-7, 3-9). -/
def edgeRecord (t22 : Int) (flags chan fine drops seq tabgen : Nat) : List Octet :=
  leBytes 16 (stampNsOf t22 + flags * 2 ^ 32 + chan * 2 ^ 48 + fine * 2 ^ 54 + drops * 2 ^ 72 + seq * 2 ^ 80 +
    finePos t22 * 2 ^ 96 + tabgen * 2 ^ 120)

/-- The 16 octets of an interval record (Tables 3-8, 3-9). -/
def intervalRecord (t22 : Int) (flags chan fine pair seq : Nat) (interval : Int) : List Octet :=
  let v := (interval % 2 ^ 43).toNat
  leBytes 16 (stampNsOf t22 + flags * 2 ^ 32 + chan * 2 ^ 48 + fine * 2 ^ 54 + v / 2 ^ 32 * 2 ^ 64 + pair * 2 ^ 75 +
    seq * 2 ^ 80 + v % 2 ^ 32 * 2 ^ 96)

/-- Pair `p`. -/
def State.pair (s : State) (p : Nat) : Pair := SMap.get Pair.reset s.tr.pairs p

/-- The state with pair `p` replaced. -/
def State.setPair (s : State) (p : Nat) (x : Pair) : State :=
  { s with tr := { s.tr with pairs := SMap.put Pair.reset s.tr.pairs p x } }

/-- The start channel of a pair (Table 3-6). -/
def State.pairStart (s : State) (p : Nat) : Nat := bitsAt (s.rdN (Obj.PAIR_CFG p)) 0 6
/-- The stop channel of a pair (Table 3-6). -/
def State.pairStop (s : State) (p : Nat) : Nat := bitsAt (s.rdN (Obj.PAIR_CFG p)) 8 6

/-- Forty nanoseconds in 2^-22 ns (R70). -/
def forty22 : Int := 40 * 2 ^ 22

/-- A pair's record: SEQ advances, and the record goes to ring 20 where RING is set (R73); the pair's flags of the
arming are spent. -/
def State.pairRecord (s : State) (p : Nat) (t22 : Int) (flags chan fine : Nat) (interval : Int) (ready48 : Nat) : State :=
  let x := s.pair p
  let ring := bitOn (s.rdN (Obj.PAIR_CFG p)) 17
  let all := 2 ^ 15 + flags + (if x.dropped then 2 ^ 11 else 0) + (if x.extraStart then 2 ^ 9 else 0) +
    (if ring && x.lostBefore then 2 ^ 10 else 0)
  let s1 := s.setPair p { x with seq := (x.seq + 1) % 2 ^ 16, armed := none, extraStart := false, dropped := false }
  let s2 := s1.wr (Obj.PAIR_LAST p) interval
  s2.when ring (·.pushRecord
    { pair := true, number := p, octets := intervalRecord t22 all chan fine p x.seq interval,
      ready48 := ready48 })

/-- The earliest unused stop stamp that a start stamp matches (R70). -/
def matchStop (lo hi : Int) : List StampRec → Option StampRec
  | [] => none
  | x :: xs =>
    match matchStop lo hi xs with
    | some y => if lo ≤ x.t22 ∧ x.t22 ≤ hi ∧ x.t22 ≤ y.t22 then some x else some y
    | none => if lo ≤ x.t22 ∧ x.t22 ≤ hi then some x else none

/-- STEP_ACROSS: a step of the timescale lies between two counts of steps (R71). -/
def stepFlag (a b : Nat) : Nat := if a = b then 0 else 2 ^ 4

/-- The result of a match: the interval in bins, its flags, and the re-arming under CONT (R70, R71). -/
def State.pairResult (s : State) (p : Nat) (start stop : StampRec) : State :=
  let bins := truncDiv (stop.t22 - start.t22) 4096
  let flags := (if bins = 0 then 2 ^ 14 else if bins < 0 then 2 ^ 13 else 0) + stepFlag start.steps stop.steps
  let s1 := s.pairRecord p stop.t22 flags (s.pairStop p) stop.fine bins (max start.ready48 stop.ready48)
  s1.when (bitOn (s.rdN (Obj.PAIR_CFG p)) 16) fun s => s.setPair p { s.pair p with armed := some stop }

/-- An armed pair looks for its match among the stop stamps that are kept (R70). -/
def State.pairLook : Nat → State → Nat → State
  | 0, s, _ => s
  | f + 1, s, p =>
    let x := s.pair p
    match x.armed with
    | none => s
    | some a =>
      match matchStop (a.t22 - forty22) (a.t22 + s.rdN (Obj.PAIR_TIMEOUT p) * 2 ^ 22) x.stops with
      | none => s
      | some q => State.pairLook f ((s.setPair p { x with stops := x.stops.erase q }).pairResult p a q) p

/-- A stamp on a pair's stop channel; the unused ones are kept, for R70 lets a start match any that no arming has used. -/
def State.pairStopStamp (s : State) (p : Nat) (q : StampRec) : State :=
  let x := s.pair p
  let kept := x.stops ++ [q]
  State.pairLook kept.length (s.setPair p { x with stops := kept }) p

/-- A stamp on a pair's start channel: it arms the pair, or counts as an extra start (R70). -/
def State.pairStartStamp (s : State) (p : Nat) (a : StampRec) : State :=
  let x := s.pair p
  match x.armed with
  | some _ => s.setPair p { x with extraStart := true }
  | none => State.pairLook x.stops.length (s.setPair p { x with armed := some a }) p

/-- A stamp on the one channel of a pair whose start and stop are the same: the stop of the stamp before it (R70). -/
def State.pairSame (s : State) (p : Nat) (a : StampRec) : State :=
  let x := s.pair p
  match x.armed with
  | none => s.setPair p { x with armed := some a }
  | some b =>
    if a.t22 ≤ b.t22 + s.rdN (Obj.PAIR_TIMEOUT p) * 2 ^ 22 then s.pairResult p b a
    else s.setPair p { x with extraStart := true }

/-- A stamp of channel `c` serves every enabled pair that names the channel (R72). -/
def State.pairStamp (c : Nat) (a : StampRec) (s : State) (p : Nat) : State :=
  if !s.rdB (Obj.PAIR_EN p) || s.unsafeElement 3 (48 + p) then s
  else if s.pairStart p = s.pairStop p then s.when (s.pairStart p == c) (·.pairSame p a)
  else (s.when (s.pairStop p == c) (·.pairStopStamp p a)).when (s.pairStart p == c) (·.pairStartStamp p a)

/-- A pair is disarmed, and what it has seen is forgotten with the flags of that arming (R77). -/
def State.disarm (s : State) (p : Nat) : State :=
  s.setPair p { Pair.reset with seq := (s.pair p).seq, lostBefore := (s.pair p).lostBefore }

/-- A write of PAIR_EN: a pair that is not enabled is not armed (R70; log entry 75). -/
def State.setPairEn (s : State) (p : Nat) (v : Int) : State :=
  (s.wr (Obj.PAIR_EN p) v).when (v == 0) (·.disarm p)

/-- An edge dropped by channel `c`: every armed pair that names the channel notes it (R71). -/
def State.pairDrop (c : Nat) (s : State) (p : Nat) : State :=
  let x := s.pair p
  s.when (x.armed.isSome && (s.pairStart p == c || s.pairStop p == c)) (·.setPair p { x with dropped := true })

/-- The flags of an edge record (Table 3-9). -/
def State.edgeFlags (s : State) (c : Nat) (falling pps : Bool) : Nat :=
  let x := s.channel c
  (if x.dropsSince ≠ 0 then 2 ^ 11 else 0) + (if x.lostBefore && bitOn (s.rdN (Obj.CH_CFG c)) 9 then 2 ^ 10 else 0) +
    (if pps && c == 44 then 2 ^ 8 else 0) + (if falling then 2 ^ 7 else 0) + (if s.tableStale c then 2 ^ 6 else 0) +
    (if bitOn (s.rdN (Obj.CH_CFG c)) 8 && s.mode == Mode.FACTORY then 2 ^ 5 else 0) + (if x.stepMark then 2 ^ 4 else 0)

/-- What an edge on a channel comes to: nothing (the channel is not in RUN, the edge does not qualify, the prescaler
skips it), a drop in the dead time, or a stamp. -/
inductive EdgeFate
  | ignored | skipped | dropped | stamped
  deriving DecidableEq, Repr

/-- The embedded PPS of CWPH_IN: the cycle that begins with the edge is high for 75 ns in the place of 50 ns, decided midway
(R68, R332; log entry 76). -/
def ppsCycle (highPs : Nat) : Bool := decide (62500 < highPs)

/-- The state in which an edge of this cycle is handled (R64): the one that the channel leaves in it, but FAULT where the
channel enters that. -/
def State.edgeState (s : State) (c : Nat) : ChState :=
  let x := s.channel c
  match x.left with
  | some (n, st) => if x.state ≠ .fault ∧ s.cycle = some n then st else x.state
  | none => x.state

/-- The instant of an edge by what the 1 GHz clock has run, also through a freeze (R67, R143), in 2^-22 ns. -/
def State.edgeAt22 (s : State) (c fine : Nat) : Nat := s.live48 / 2 ^ 26 + binCentre (s.channel c).hist fine

/-- The instant of an edge by the counter's progress, in 2^-48 ns. -/
def State.edgeUp48 (s : State) (c fine : Nat) : Nat := (s.up48 / 2 ^ 26 + binCentre (s.channel c).hist fine) * 2 ^ 26

/-- What becomes of an edge (R64, R66, R67). -/
def State.edgeFate (s : State) (c fine : Nat) (falling : Bool) : EdgeFate :=
  let x := s.channel c
  if s.edgeState c ≠ .run ∨ s.edgeQualifies c falling = false then .ignored
  else if x.skip ≠ 0 then .skipped
  else match x.lastEdge22 with
    | some t => if s.edgeAt22 c fine < t + 24 * 2 ^ 22 then .dropped else .stamped
    | none => .stamped

/-- The stamp of an edge: its record, its event, and the pairs (R61, R70, R73). -/
def State.stamped (s : State) (c fine : Nat) (falling pps : Bool) : State :=
  let x := s.channel c
  let t := s.stampOf c fine
  let flags := s.edgeFlags c falling pps
  let ring := bitOn (s.rdN (Obj.CH_CFG c)) 9
  let r := edgeRecord t flags c fine (min 255 x.dropsSince) x.seq (s.rdN (Obj.CH_TABGEN c))
  let s1 := s.setChannel c { x with seq := (x.seq + 1) % 2 ^ 16, dropsSince := 0, stepMark := false,
                                    skip := s.prescale c - 1, lastEdge22 := some (s.edgeAt22 c fine) }
  let at48 := s.edgeUp48 c fine
  let ready48 := at48 + 40 * ns48
  let s2 := (s1.count (0x010 + c) 1).when ring
    (·.pushRecord { pair := false, number := c, octets := r, ready48 := ready48 })
  s2.forEach (l := List.range 32)
    (p := State.pairStamp c { t22 := t, fine := fine, up48 := at48 - s.rd (Obj.CH_OFFSET c) * 2 ^ 32, ready48 := ready48,
                              steps := s.tr.steps })

/-- An edge on channel `c` (R64 to R73); one that the prescaler selects starts its count anew, dropped or stamped (R66, R67);
without what the slot behind the channel makes of it. -/
def State.edge (s : State) (c fine : Nat) (falling pps : Bool) : State :=
  match s.edgeFate c fine falling with
  | .ignored => s
  | .skipped => s.setChannel c { s.channel c with skip := (s.channel c).skip - 1 }
  | .dropped =>
    let s1 := s.setChannel c { s.channel c with
      dropsSince := (s.channel c).dropsSince + 1, skip := s.prescale c - 1 }
    ((s1.bump (Obj.CH_DROP c)).count 0x040 1).forEach (l := List.range 32) (p := State.pairDrop c)
  | .stamped => s.stamped c fine falling pps

end Sys2Proof.Machine
end

