-- ==== Sys2Proof/Machine/Measure.lean ====
section
/-! DEFINITION. What a stamp or an offset gives Herd: phases "source minus base" with the timescale's steering removed
(R19, R99, R101, R102). -/

namespace Sys2Proof.Machine

/-- Timescale minus base, in 2^-48 ns: all steering and every step, which R19 and R141 take out of the estimates. -/
def State.lead48 (s : State) : Int := (s.now48 : Int) - s.base48

/-- Filter `n`: 0–23 the slots, 24 LO-A, 25 LO-B (R99). -/
def State.filter (s : State) (n : Nat) : Filter := SMap.get Filter.reset s.hd.filters n

/-- The state with filter `n` replaced. -/
def State.setFilter (s : State) (n : Nat) (f : Filter) : State :=
  { s with hd := { s.hd with filters := SMap.put Filter.reset s.hd.filters n f } }

/-- The filter is initialised anew: its next two measurements set it (R102). The window of the drift effect slides on (R107). -/
def State.filterRestart (s : State) (n : Nat) : State :=
  s.setFilter n { Filter.reset with effects := (s.filter n).effects }

/-- The nearest integer, halves upward. -/
def nearest (r : Rat) : Int := (r + 1 / 2).floor

/-- A measurement for filter `n`, used at the next update; a slot in DISABLED or LOS takes none, nor does Herd while
the timescale is frozen (R98, R102, R143). -/
def State.measure (s : State) (n : Nat) (m : Meas) : State :=
  let takes := n ≥ 24 ∨ (s.slotState n ≠ Sl.DISABLED ∧ s.slotState n ≠ Sl.LOS)
  if takes ∧ s.clk.frozen = false then s.setFilter n { s.filter n with waiting := (s.filter n).waiting ++ [m] } else s

/-- A stamp T in 2^-48 ns. -/
def t48Of (t22 : Int) : Int := t22 * 2 ^ 26

/-- The phase of a source whose marks lie `period` apart (2^-48 ns) and whose stamp reads T: the nearest mark of the
source minus T, plus timescale minus base (R101). -/
def State.markPhase (s : State) (t48 : Int) (period : Rat) : Rat :=
  nearest ((t48 : Rat) / period) * period - t48 + s.lead48

/-- The phase of a stamp that is known to mark second `sec` of the source. -/
def State.secondPhase (s : State) (t48 : Int) (sec : Nat) : Rat := ((sec * sec48 : Nat) : Rat) - t48 + s.lead48

/-- The phase congruent to `raw` modulo `period` that lies nearest `prior` (R101). -/
def unwrap (raw period prior : Rat) : Rat := raw + nearest ((prior - raw) / period) * period

/-- A filter's phase carried to base time `at48`, in 2^-16 ns; one that has no frequency yet keeps its phase. -/
def Filter.xAt (f : Filter) (at48 : Int) : Rat :=
  let t := secondsOf (at48 - f.at48)
  if f.taken < 2 ∨ t ≤ 0 then f.x else f.x + phasePerRate * (f.y * t + ratePerDrift * f.d * t * t / 2)

/-- A filter's line fit with one stamp more (R101): the first of an interval lies nearest the filter's prediction, the next
ones nearest the stamp before. A mark fixes the whole period: what the fit and the filter held before it moves by the whole
periods that it was out. -/
def Filter.fitOne (f : Filter) (x : FitStamp) : Filter :=
  let near := match f.fit with
    | some g => unwrap x.raw48 x.period48 g.last48
    | none => unwrap x.raw48 x.period48 (if f.taken = 0 then x.raw48 else f.xAt x.base48 * 2 ^ 32)
  let shift := match x.whole48 with | some w => w - near | none => 0
  let phase := near + shift
  let fit : Fit := match f.fit with
    | none => { n := 1, base48 := x.base48, phase48 := phase, last48 := phase, st := 0, stt := 0, sp := 0, stp := 0 }
    | some g =>
      let dt : Rat := x.base48 - g.base48
      let dp := near - g.phase48
      { g with n := g.n + 1, phase48 := g.phase48 + shift, last48 := phase, st := g.st + dt, stt := g.stt + dt * dt,
               sp := g.sp + dp, stp := g.stp + dt * dp }
  { f with x := if f.taken = 0 then f.x else f.x + shift / 2 ^ 32, fit := some fit }

/-- The line fit takes the stamps that are available at base time `at48`: 40 ns after their edges (R74, R98). -/
def Filter.absorb (f : Filter) (at48 : Int) : Filter :=
  let ready := fun (x : FitStamp) => decide (x.base48 + 40 * (ns48 : Int) ≤ at48)
  (f.coming.filter ready).foldl Filter.fitOne { f with coming := f.coming.filter fun x => !ready x }

/-- One stamp more for the line fit of filter `n` (R101). -/
def State.fitAdd (s : State) (n : Nat) (base48 : Int) (t48 : Int) (period : Rat) (mark : Bool) : State :=
  let takes := n ≥ 24 ∨ (s.slotState n ≠ Sl.DISABLED ∧ s.slotState n ≠ Sl.LOS)
  if takes ∧ s.clk.frozen = false then
    let f := (s.filter n).absorb s.base48
    let x : FitStamp := { base48 := base48, raw48 := (s.lead48 : Rat) - t48, period48 := period,
                          whole48 := if mark then some (s.markPhase t48 sec48) else none }
    s.setFilter n { f with coming := f.coming ++ [x] }
  else s

/-- The fitted phase at base time `at48`: the line's value there, or the mean of a single instant (R101). -/
def Fit.phaseAt (g : Fit) (at48 : Int) : Rat :=
  let n : Rat := g.n
  let den := n * g.stt - g.st * g.st
  if den = 0 then g.phase48 + g.sp / n
  else
    let slope := (n * g.stp - g.st * g.sp) / den
    g.phase48 + (g.sp - slope * g.st) / n + slope * ((at48 : Rat) - g.base48)

end Sys2Proof.Machine
end

