-- ==== Sys2Proof/Machine/Utc.lean ====
section
/-! DEFINITION. TAI and UTC: the offset in force, the pending leap, and what AUTO takes from the dominant slot (R144 to
R147). -/

namespace Sys2Proof.Machine

/-- The time set's member with the highest time weight; on equal weights the lowest (R97). -/
def State.heaviest (s : State) : Option Nat :=
  s.hd.timeSet.foldl (init := none) fun best n =>
    match best with
    | none => some n
    | some b => if s.rdN (Obj.HD_W_TIME b) < s.rdN (Obj.HD_W_TIME n) then some n else some b

/-- The dominant slot: as the last Herd update that applied weights left it (R97). -/
def State.dominant (s : State) : Option Nat := s.hd.dominant

/-- The UTC that the dominant slot reports now, with its number: the slot contributes to time, and carries an offset (R84,
R144). -/
def State.utcReport (s : State) : Option (Nat × Int × Nat) :=
  match s.dominant with
  | none => none
  | some n => if s.slotState n = Sl.QUALIFIED then (s.slot n).utc.map fun u => (n, u.1, u.2) else none

/-- An offset that waits for UTC_AUTO_HOLD is given up, and the conflict with it (R145). -/
def State.utcDrop (s : State) : State :=
  ({ s with utc := { s.utc with held := none } } : State).cond Src.TS_UTC_CONFLICT false

/-- The second boundary at which a leap changes the offset (R146): the first t after the present instant with
(t − o') mod 86,400 = 0, o' being the offset after a leap61 (o + 1) or a leap59 (o − 1). -/
def leapAt (nowSec : Nat) (offset : Int) (leap : Nat) : Nat :=
  let o : Int := if leap = 1 then offset + 1 else offset - 1
  let t : Int := nowSec + 1
  (t + (o - t) % 86400).toNat

/-- The pending leap: its kind and, while there is one, its instant (R146). -/
def State.pendLeap (s : State) (leap : Nat) : State :=
  if leap = s.rdN Obj.UTC_LEAP_PEND then s
  else
    let s1 := s.wrN Obj.UTC_LEAP_PEND leap
    if leap = 0 then s1
    else s1.wrN Obj.UTC_LEAP_AT (leapAt s.clk.ts.sec (s.rd Obj.UTC_OFFSET) leap * giga)

/-- The offset in force changes; a pending leap is computed again from it (R146). -/
def State.setOffset (s : State) (o : Int) : State :=
  let s1 := s.wr Obj.UTC_OFFSET o
  let leap := s1.rdN Obj.UTC_LEAP_PEND
  s1.when (leap != 0) (·.wrN Obj.UTC_LEAP_AT (leapAt s.clk.ts.sec o leap * giga))

/-- A pending leap accounts for offset `o` (R145). -/
def State.leapAccounts (s : State) (o : Int) : Bool :=
  match s.rdN Obj.UTC_LEAP_PEND with
  | 1 => o == s.rd Obj.UTC_OFFSET + 1
  | 2 => o == s.rd Obj.UTC_OFFSET - 1
  | _ => false

/-- The UTC values in force are held while block 10 is being restored (R154). -/
def State.utcHeld (s : State) : Bool := s.unsafeBlock 10

/-- The dominant slot's UTC information is taken, in AUTO (R144, R145); where it reports none, or an offset that the pending
leap accounts for, the wait of another offset is broken. -/
def State.utcHeard (s : State) : State :=
  if s.rdN Obj.UTC_SRC ≠ 0 ∨ s.utcHeld = true then s
  else match s.utcReport with
    | none => s.utcDrop
    | some (n, o, leap) =>
      let s1 := s.pendLeap leap
      let other := s.hd.timeSet.any fun m => m != n && match (s.slot m).utc with
        | some (_, l) => l != leap
        | none => false
      let s2 := s1.when other (·.stick Obj.TS_STATUS 6)
      if !s.rdB Obj.UTC_VALID then { s2 with utc := { s2.utc with first := some (s2.utc.first.getD o) } }
      else if o = s.rd Obj.UTC_OFFSET ∨ s2.leapAccounts o = true then s2.utcDrop
      else
        let kept := match s2.utc.held with
          | some (v, _) => v == o
          | none => false
        if kept then s2
        else (({ s2 with utc := { s2.utc with held := some (o, s.up48) } } : State).stick Obj.TS_STATUS 6).cond
          Src.TS_UTC_CONFLICT true

/-- The report of another slot breaks the wait when the dominant slot changes (R145). -/
def State.utcDominant (s : State) : State := ({ s with utc := { s.utc with held := none } } : State).utcHeard

/-- What the slots reported before a leap says nothing of UTC after it: the next report counts (R145, R146). -/
def State.utcOld (s : State) : State :=
  s.forEach (l := List.range 24) (p := fun s n => s.when (s.slot n).utc.isSome (·.setSlot n { s.slot n with utc := none }))

/-- The UTC part of second-boundary housekeeping (R144 to R146): the leap due at this boundary first, then what the
host has written or the first offset heard. -/
def State.utcBoundary (s : State) : State :=
  if s.utcHeld then s
  else
    let leap := s.rdN Obj.UTC_LEAP_PEND
    let due := leap != 0 && decide (s.rdN Obj.UTC_LEAP_AT ≤ s.clk.ts.sec * giga)
    let o := s.rd Obj.UTC_OFFSET + (if leap = 1 then 1 else -1)
    let s1 := s.when due fun s =>
      let x : Utc := { s.utc with applied := some (leap, s.rdN Obj.UTC_LEAP_AT) }
      let s' := ((({ s with utc := x } : State).wr Obj.UTC_OFFSET o).wrN Obj.UTC_LEAP_PEND 0).stick Obj.TS_STATUS 5 |>.raise
        Src.TS_LEAP
      (s'.when (s.rdN Obj.UTC_SRC == 1) fun s => (s.hw Obj.UTC_HOST_OFFSET o).hw Obj.UTC_HOST_LEAP 0).utcOld
    if s1.rdN Obj.UTC_SRC = 1 then
      ((s1.setOffset (s1.rd Obj.UTC_HOST_OFFSET)).pendLeap (s1.rdN Obj.UTC_HOST_LEAP)).wrN Obj.UTC_VALID 1
    else match s1.utc.first with
      | none => s1
      | some v =>
        (({ s1 with utc := { s1.utc with first := none } } : State).setOffset v).wrN Obj.UTC_VALID 1

/-- A step back across a leap that has taken effect: the change is undone, what it wrote for the host with it, and the leap
is pending again (Table 6-1). -/
def State.utcUndo (s : State) : State :=
  match s.utc.applied with
  | none => s
  | some (leap, at80) =>
    if at80 ≤ s.now80 then s
    else
      let o := s.rd Obj.UTC_OFFSET - (if leap = 1 then 1 else -1)
      let s1 := ((({ s with utc := { s.utc with applied := none } } : State).wr Obj.UTC_OFFSET o).wrN Obj.UTC_LEAP_PEND
        leap).wrN Obj.UTC_LEAP_AT at80
      s1.when (s.rdN Obj.UTC_SRC == 1) fun s => (s.hw Obj.UTC_HOST_OFFSET o).hw Obj.UTC_HOST_LEAP leap

/-- UTC_AUTO_HOLD_EXPIRY: the dominant slot has reported the new offset without a break for UTC_AUTO_HOLD (R145). -/
def execUtcAutoHoldExpiry (s : State) : Host.Outcome State Fault Refusal :=
  match s.utc.held with
  | none => .next s
  | some (o, since) =>
    match s.runTo (since + s.rdN Obj.UTC_AUTO_HOLD * sec48) with
    | none => .next s
    | some s1 =>
      if s1.utcHeld then .next s1.settle
      else match s1.utcReport with
        | some (_, v, _) => .next (if v = o then (s1.setOffset o).utcDrop else s1.utcDrop).settle
        | none => .next s1.utcDrop.settle

end Sys2Proof.Machine
end

