-- ==== Sys2Proof/Machine/Slots.lean ====
section
/-! DEFINITION. Reference slots: monitors, states, quality and commands (R79 to R97), and the edge of a Trestle channel
with all that it brings (R61). -/

namespace Sys2Proof.Machine

/-! States (R90 to R92). -/

/-- The modes in which reference monitors run: every one from the end of BOOT but ZEROISED and FACTORY (R43). -/
def State.monitorsRun (s : State) : Bool := decide (2 ≤ s.mode ∧ s.mode ≤ 9)

/-- Entry to QUALIFYING from another state (transitions 4, 9, 11): the timer starts and the filter is initialised
(R91, R102). A timer runs with the value that its object had when it started (log entry 77). -/
def State.slotQualifying (s : State) (n : Nat) (reason : Option SlotReason) : State :=
  let s1 := s.slotTo n Sl.QUALIFYING reason
  (s1.setSlot n { s1.slot n with qualEnd48 := s.up48 + s.rdN (Obj.SLOT_QUAL_TIME n) * sec48 }).filterRestart n

/-- Transition 5: the timer starts again (Table 4-7). -/
def State.slotRequalify (s : State) (n : Nat) (reason : SlotReason) : State :=
  let s1 := s.slotTo n Sl.QUALIFYING (some reason)
  s1.setSlot n { s1.slot n with qualEnd48 := s.up48 + s.rdN (Obj.SLOT_QUAL_TIME n) * sec48 }

/-- Transition 7, with the hold of a glitch suspension. -/
def State.slotSuspend (s : State) (n : Nat) (reason : SlotReason) : State :=
  let s1 := s.slotTo n Sl.SUSPENDED (some reason)
  s1.setSlot n { s1.slot n with suspEnd48 := s.up48 + ms48 (s.rdN (Obj.SLOT_SUSP_HOLD n)) }

/-- Transition 10: DISQ_SEEN, SLOT_DISQ, and the hold (Tables 4-7, 4-11, 4-12). -/
def State.slotDisqualify (s : State) (n : Nat) (reason : SlotReason) : State :=
  let s1 := ((s.stick (Obj.SLOT_STATE n) 4).raise (Src.SLOT_DISQ n)).slotTo n Sl.DISQUALIFIED (some reason)
  s1.setSlot n { s1.slot n with disqEnd48 := s.up48 + s.rdN (Obj.SLOT_DISQ_HOLD n) * sec48 }

/-- The edges and messages of slot `n` are counted from nothing; its glitches of the last 60 s still count (Table 4-7). -/
def State.edgesAnew (s : State) (n : Nat) : State :=
  s.setSlot n { s.slot n with lastBase48 := none, misses := 0, good := 0, missing := 0 }

/-- Transition 3: LOS_SEEN, SLOT_LOS where the slot was QUALIFIED, and the monitors start over (Tables 4-7, 4-12). -/
def State.slotLos (s : State) (n : Nat) : State :=
  let st := s.slotState n
  if st = Sl.DISABLED ∨ st = Sl.LOS then s
  else
    let s1 := ((s.stick (Obj.SLOT_STATE n) 6).when (st == Sl.QUALIFIED) (·.raise (Src.SLOT_LOS n))).slotTo n Sl.LOS
      (some .los)
    s1.edgesAnew n

/-- Every slot that is not DISABLED goes to LOS as the timescale freezes: none stays QUALIFIED through it (R115, R29;
log entry 13). -/
def State.slotsFreeze (s : State) : State := s.forEach (l := List.range 24) (p := State.slotLos)

/-- A frequency or phase trip, or a residual test: what the state makes of it (Table 4-7, transitions 5 and 10). -/
def State.slotTrip (s : State) (n : Nat) (reason : SlotReason) : State :=
  match s.slotState n with
  | 2 => s.slotRequalify n reason
  | 3 => s.slotDisqualify n reason
  | 4 => s.slotDisqualify n reason
  | _ => s

/-- A glitch is seen (R85): GLITCH_SEEN, the event, and one more within 60 s. -/
def State.glitchSeen (s : State) (n : Nat) : State :=
  let st := s.slotState n
  if st = Sl.DISABLED ∨ st = Sl.LOS then s
  else
    let recent := ((s.slot n).glitches48.filter fun t => decide (s.up48 < t + 60 * sec48)) ++ [s.up48]
    ((s.stick (Obj.SLOT_STATE n) 5).count (0x198 + n) 1).setSlot n { s.slot n with glitches48 := recent }

/-- What a glitch that has been seen makes of the state: the count over 60 s decides between transitions 7 and 10; in a
GLITCH suspension the hold starts again (Table 4-7). -/
def State.glitchAct (s : State) (n : Nat) : State :=
  let many := decide (s.rdN (Obj.SLOT_GLITCH_MAX n) ≤ (s.slot n).glitches48.length)
  match s.slotState n with
  | 2 => s.slotRequalify n .glitch
  | 3 => if many then s.slotDisqualify n .glitch else s.slotSuspend n .glitch
  | 4 =>
    if many then s.slotDisqualify n .glitch
    else s.when (s.slotReason n == slotReasonCode .glitch) fun s =>
      s.setSlot n { s.slot n with suspEnd48 := s.up48 + ms48 (s.rdN (Obj.SLOT_SUSP_HOLD n)) }
  | _ => s

/-- A glitch of slot `n` in a cycle that brings no other cause for it (R85). -/
def State.slotGlitch (s : State) (n : Nat) : State := (s.glitchSeen n).glitchAct n

/-- The slot behind a Trestle channel (Table 4-1); the pulse of a REFIN in COMPOSITE is slot 23's (R82). -/
def State.slotOfChannel (s : State) (c : Nat) : Option Nat :=
  if c < 8 then some (if s.composite c then 23 else c)
  else if c = 10 then some 20
  else if c = 11 then some 21
  else if c = 44 then some 22
  else none

/-- A slot measured on Trestle is lost in the cycle in which its channel leaves RUN (R85). -/
def State.leftRun (s before : State) : State :=
  s.forEach (l := [0, 1, 2, 3, 4, 5, 6, 7, 10, 11, 44]) (p := fun s c =>
    match s.slotOfChannel c with
    | some n => s.when ((before.channel c).state == .run && (s.channel c).state != .run) (·.slotLos n)
    | none => s)

/-! Configuration (R80). -/

/-- PRESCALE for a nominal frequency in µHz (R80). -/
def prescaleFor (nom : Nat) : Nat := max 1 (ceilDiv nom 1000000000000)

/-- The combination of mode and nominal frequency is one of R80's, and no other REFIN is enabled in COMPOSITE. -/
def State.refinGood (s : State) (n : Nat) : Bool :=
  let f := s.rdN (Obj.SLOT_NOMFREQ n)
  match s.slotMode n with
  | 0 => decide (1000000000000 ≤ f ∧ f ≤ 1250000000000000)
  | 1 => decide (1000000 ≤ f ∧ f ≤ 1000000000000)
  | 2 => f == 1000000 && (List.range 8).all fun m => m == n || !s.composite m
  | _ => false

/-- EDGE and PRESCALE written into the channel of a REFIN slot; the prescaler starts over (R66, R80). -/
def State.programChannel (s : State) (n : Nat) : State :=
  let w := s.rdN (Obj.CH_CFG n)
  let w1 := setBitsAt (setBitsAt w 16 16 (prescaleFor (s.rdN (Obj.SLOT_NOMFREQ n)))) 10 2
    (bitsAt (s.rdN (Obj.SLOT_CFG n)) 0 1)
  (s.wrN (Obj.CH_CFG n) w1).setChannel n { s.channel n with skip := 0 }

/-- Transition 2, in a mode in which monitors run (Table 4-7); a REFIN in COMPOSITE takes slot 23's state (R82). -/
def State.slotEnabled (s : State) (n : Nat) : State :=
  if !s.monitorsRun then s
  else if s.composite n then s.slotStateTo n (s.slotState 23) (some .los)
  else s.slotTo n Sl.LOS (some .los)

/-- A write of SLOT_EN (R80, Table 4-7 transitions 1 and 2); without its REFIN in COMPOSITE slot 23 is in LOS (R82). -/
def State.setSlotEn (s : State) (n : Nat) (v : Bool) : State :=
  if !v then
    let s1 := s.wr (Obj.SLOT_EN n) 0
    let s2 := if s1.slotState n = Sl.DISABLED then s1 else s1.slotTo n Sl.DISABLED (some .host)
    s2.when (s.composite n) fun s => (s.slotLos 23).edgesAnew 23
  else if s.rdB (Obj.SLOT_EN n) then s
  else if n < 8 ∧ s.refinGood n = false then s.rangeReject 2 (Obj.SLOT_EN n).key
  else
    let s1 := (s.wr (Obj.SLOT_EN n) 1).when (decide (n < 8)) (·.programChannel n)
    s1.when (s.rdB Obj.SL_ENABLE) (·.slotEnabled n)

/-- The return of one slot at the 0→1 of SL_ENABLE, the check repeated (R80). -/
def State.slotReturn (s : State) (n : Nat) : State :=
  if !s.rdB (Obj.SLOT_EN n) then s
  else if n < 8 ∧ s.refinGood n = false then (s.wr (Obj.SLOT_EN n) 0).stick Obj.SL_STATUS 1
  else (s.when (decide (n < 8)) (·.programChannel n)).slotEnabled n

/-- A write of SL_ENABLE (R80). -/
def State.setSlEnable (s : State) (v : Bool) : State :=
  if !v then (s.wr Obj.SL_ENABLE 0).slotsDisabled
  else if s.rdB Obj.SL_ENABLE then s
  else (s.wr Obj.SL_ENABLE 1).forEach (l := List.range 24) (p := State.slotReturn)

/-- The slots of a unit that leaves BOOT: every enabled one enters LOS (R43, Table 4-7 transition 2). -/
def State.slotsStart (s : State) : State :=
  s.when (s.rdB Obj.SL_ENABLE) (·.forEach (l := List.range 24)
    (p := fun s n => s.when (s.rdB (Obj.SLOT_EN n) && s.slotState n == Sl.DISABLED) (·.slotEnabled n)))

/-! Edges (R84, R85, R90 transition 4). -/

/-- The nominal interval of stamped edges of a slot, in 2^-48 ns: PRESCALE / NOMFREQ for a REFIN, a second for the
receivers and slot 23, 100 ns for slot 22. -/
def State.slotPeriod (s : State) (n : Nat) : Rat :=
  if n < 8 then ((s.prescale n * 1000000000000000 * ns48 : Nat) : Rat) / ((s.rdN (Obj.SLOT_NOMFREQ n) : Nat) : Rat)
  else if n = 22 then ((100 * ns48 : Nat) : Rat)
  else ((sec48 : Nat) : Rat)

/-- The interval from the last stamped edge lies within SLOT_GLITCH_WIN of the nominal one (R85). -/
def State.intervalGood (s : State) (n : Nat) (last now : Nat) : Bool :=
  let d : Rat := ((now : Nat) : Rat) - ((last : Nat) : Rat) - s.slotPeriod n
  let w : Rat := ((s.rdN (Obj.SLOT_GLITCH_WIN n) * ns48 : Nat) : Rat)
  decide (-w ≤ d) && decide (d ≤ w)

/-- Sources judged pulse by pulse: REFIN in PULSE, the receivers, slot 23 (Table 4-3). -/
def State.pulseSlot (s : State) (n : Nat) : Bool :=
  (decide (n < 8) && s.slotMode n == 1) || n == 20 || n == 21 || n == 23

/-- Slot 23: the last pulse is one that a valid message names (Table 4-7, transition 4). -/
def State.pulseNamed (s : State) : Bool :=
  match (s.slot 23).named with
  | some (p, _) => p == (s.slot 23).pulses
  | none => false

/-- Transition 4 of a slot in LOS (Table 4-7). -/
def State.slotReturns (s : State) (n : Nat) : Bool :=
  let x := s.slot n
  if n = 20 ∨ n = 21 then decide (3 ≤ s.rdN (Obj.RX_STATE (n - 20)))
  else if n = 23 then decide (2 ≤ x.good) && s.pulseNamed && (List.range 8).any s.composite
  else if s.pulseSlot n then decide (2 ≤ x.good)
  else decide (x.since48 + us48 2 ≤ s.up48)

/-- R332: an edge of slot 22 at a whole second without the mark, or a mark elsewhere. -/
def badMark (t22 : Int) (mark : Bool) : Bool :=
  let k := nearest ((t22 : Rat) / (100 * 2 ^ 22))
  (k % 10000000 == 0) != mark

/-- A stamped edge of slot `n` gives its measurement (R101); a slot in LOS takes none (R102). -/
def State.edgeMeasure (s : State) (n c : Nat) (t22 : Int) (edge48 : Nat) (mark : Bool) : State :=
  if n = 23 ∨ n = 20 ∨ n = 21 then
    let phase := match (s.slot n).named with
      | some (p, sec) =>
        if p = (s.slot n).pulses then s.secondPhase (t48Of t22) sec else s.markPhase (t48Of t22) sec48
      | none => s.markPhase (t48Of t22) sec48
    s.measure n { base48 := edge48, ready48 := edge48 + 40 * ns48, phase48 := phase }
  else if s.pulseSlot n then
    s.measure n { base48 := edge48, ready48 := edge48 + 40 * ns48, phase48 := s.markPhase (t48Of t22) (s.slotPeriod c) }
  else s.fitAdd n edge48 (t48Of t22) (s.slotPeriod n) (n == 22 && mark)

/-- A stamped edge of slot `n`: the monitors, the measurement, and then transition 4, so that the edge that completes it is
not the first measurement of the filter it initialises (log entry 34). -/
def State.slotEdge (s : State) (n c : Nat) (t22 : Int) (edge48 : Nat) (mark : Bool) : State :=
  let x := s.slot n
  let st := s.slotState n
  if st = Sl.DISABLED then s
  else
    let steady := match x.lastBase48 with
      | some b => s.intervalGood n b edge48
      | none => true
    let broken := match x.lastBase48 with
      | some b => decide (b + us48 2 < edge48)
      | none => true
    let x1 := { x with lastBase48 := some edge48, lastUp48 := s.up48, misses := 0,
                       good := if x.lastBase48.isSome && steady then x.good + 1 else 1,
                       since48 := if broken then s.up48 else x.since48, pulses := x.pulses + 1, windowOpen := true }
    let bad := (!steady || (n == 22 && badMark t22 mark)) && st != Sl.LOS
    let s1 := ((s.setSlot n x1).when bad (·.slotGlitch n)).edgeMeasure n c t22 edge48 mark
    s1.when (s1.slotState n == Sl.LOS && s1.slotReturns n) (·.slotQualifying n none)

/-- What Herd and the slots make of a stamp on channel `c` (Table 3-1). -/
def State.stampConsumers (s : State) (c : Nat) (t22 : Int) (edge48 : Nat) (mark : Bool) : State :=
  if c = 8 ∨ c = 9 then
    if s.rdN Obj.LO_SEL = c - 8 then s
    else s.fitAdd (c + 16) edge48 (t48Of t22) ((1000 * ns48 : Nat) : Rat) false
  else match s.slotOfChannel c with
    | some n => s.slotEdge n c t22 edge48 mark
    | none => s

/-- An edge on a Trestle channel, with its record, its pairs, and its slot; Herd takes the stamp with a correction in
2^-22 ns, the qErr of a receiver's pulse (R101). -/
def State.trestleEdge (s : State) (c tap vernier : Nat) (falling pps : Bool) (corr22 : Int := 0) : State :=
  let fine := 32 * tap + vernier
  let fate := s.edgeFate c fine falling
  let t := s.stampOf c fine
  let edge48 := s.base48 + binCentre (s.channel c).hist fine * 2 ^ 26
  (s.edge c fine falling pps).when (fate == .stamped) (·.stampConsumers c (t + corr22) edge48 pps)

/-! Commands. -/

/-- TRESTLE_EDGE (R61); `highPs` is the high time of the cycle that the edge begins, by which channel 44's embedded PPS is
decoded (R68). -/
def execTrestleEdge (ch : Fin 48) (tap vernier : Fin 32) (falling : Bool) (highPs : Nat) (s : State) :
    Host.Outcome State Fault Refusal :=
  .next (s.trestleEdge ch tap vernier falling (ppsCycle highPs)).close

/-- SLOT_EN_WRITE (R80). -/
def execSlotEnWrite (slot : Fin 24) (v : Bool) (s : State) : Host.Outcome State Fault Refusal :=
  s.orHeld 2 .custodian .pcie (Obj.SLOT_EN slot) [flag8 v] [] <|
    .next (s.setSlotEn slot v).close

/-- SL_ENABLE_WRITE (R80). -/
def execSlEnableWrite (v : Bool) (s : State) : Host.Outcome State Fault Refusal :=
  s.orHeld 2 .custodian .pcie Obj.SL_ENABLE [flag8 v] [] <|
    .next (s.setSlEnable v).close

/-- A SLOT_CMD that is not valid for the slot's state (R92). -/
def State.slotCmdReject (s : State) : State := s.stick Obj.SL_STATUS 2

/-- A slot under a command of its own: a REFIN in COMPOSITE has none, for its state is slot 23's (R82). -/
def State.slotCmdOk (s : State) (n st : Nat) : Bool :=
  s.slotState n == st && !s.composite n && !s.unsafeElement 2 n

/-- The effect of SLOT_CMD (R90): 1 SUSPEND, 2 RESUME, 3 REQUALIFY. -/
def State.slotCmd (s : State) (n cmd : Nat) : State :=
  if cmd = 1 then if s.slotCmdOk n Sl.QUALIFIED then s.slotSuspend n .host else s.slotCmdReject
  else if cmd = 2 then
    if s.slotCmdOk n Sl.SUSPENDED && s.slotReason n == slotReasonCode .host then s.slotQualifying n none
    else s.slotCmdReject
  else if cmd = 3 then if s.slotCmdOk n Sl.DISQUALIFIED then s.slotQualifying n none else s.slotCmdReject
  else s

/-- SLOT_SUSPEND (R90). -/
def execSlotSuspend (slot : Fin 24) (s : State) : Host.Outcome State Fault Refusal :=
  s.orHeld 2 .custodian .pcie (Obj.SLOT_CMD slot) [1] [] <|
    .next (s.slotCmd slot 1).close

/-- SLOT_RESUME (R90). -/
def execSlotResume (slot : Fin 24) (s : State) : Host.Outcome State Fault Refusal :=
  s.orHeld 2 .custodian .pcie (Obj.SLOT_CMD slot) [2] [] <|
    .next (s.slotCmd slot 2).close

/-- SLOT_REQUALIFY (R90). -/
def execSlotRequalify (slot : Fin 24) (s : State) : Host.Outcome State Fault Refusal :=
  s.orHeld 2 .custodian .pcie (Obj.SLOT_CMD slot) [3] [] <|
    .next (s.slotCmd slot 3).close

/-- The instant of the next missing edge: the k-th expected instant plus SLOT_GLITCH_WIN (R85). -/
def State.missAt (s : State) (n : Nat) : Nat :=
  let x := s.slot n
  x.lastUp48 + ((((x.misses + 1 : Nat) : Rat) * s.slotPeriod n).floor.toNat) + s.rdN (Obj.SLOT_GLITCH_WIN n) * ns48

/-- SLOT_MISSING_EDGE: the third in a row puts the slot in LOS (R85). -/
def execSlotMissingEdge (slot : Fin 24) (s : State) : Host.Outcome State Fault Refusal :=
  let n := slot.val
  let st := s.slotState n
  if s.pulseSlot n = false ∨ st = Sl.DISABLED ∨ st = Sl.LOS ∨ (s.slot n).lastBase48 = none then .next s
  else match s.runTo (s.missAt n) with
    | none => .next s
    | some s1 =>
      let x := s1.slot n
      if x.misses < 2 then .next (s1.setSlot n { x with misses := x.misses + 1 }).settle
      else .next (s1.slotLos n).close

/-- PIN_ACTIVITY_LOSS: a clock source or slot 22 without an edge for 2 µs (R85). -/
def execPinActivityLoss (slot : Fin 24) (s : State) : Host.Outcome State Fault Refusal :=
  let n := slot.val
  if n = 22 ∨ (n < 8 ∧ s.slotMode n = 0) then .next (s.slotLos n).close else .next s

/-- SLOT_QUALIFIED: SLOT_QUAL_TIME since the timer's last start, with class below 15 (R91, transition 6). -/
def execSlotQualified (slot : Fin 24) (s : State) : Host.Outcome State Fault Refusal :=
  let n := slot.val
  if s.slotState n ≠ Sl.QUALIFYING ∨ 15 ≤ s.slotClass n ∨ s.composite n = true then .next s
  else match s.runTo (s.slot n).qualEnd48 with
    | none => .next s
    | some s1 => .next (s1.slotTo n Sl.QUALIFIED (some .none)).close

/-- SLOT_SUSP_HOLD_EXPIRY: a GLITCH suspension with no glitch for SLOT_SUSP_HOLD (transition 8). -/
def execSlotSuspHoldExpiry (slot : Fin 24) (s : State) : Host.Outcome State Fault Refusal :=
  let n := slot.val
  if s.slotState n ≠ Sl.SUSPENDED ∨ s.slotReason n ≠ slotReasonCode .glitch ∨ s.composite n = true then .next s
  else match s.runTo (s.slot n).suspEnd48 with
    | none => .next s
    | some s1 => .next (s1.slotTo n Sl.QUALIFIED none).close

/-- SLOT_DISQ_HOLD_EXPIRY (transition 11). -/
def execSlotDisqHoldExpiry (slot : Fin 24) (s : State) : Host.Outcome State Fault Refusal :=
  let n := slot.val
  if s.slotState n ≠ Sl.DISQUALIFIED ∨ s.composite n = true then .next s
  else match s.runTo (s.slot n).disqEnd48 with
    | none => .next s
    | some s1 => .next (s1.slotQualifying n none).close

/-! The time-of-day message (R83, R84). -/

/-- CRC-16 with polynomial 0x1021, one octet (Table 4-2). -/
def crcOctet (crc : Nat) (b : Octet) : Nat :=
  (List.range 8).foldl (init := Nat.xor crc (b.toNat * 256)) fun c _ =>
    if bitOn c 15 then Nat.xor (c * 2 % 65536) 0x1021 else c * 2 % 65536

/-- CRC-16, initial value 0xFFFF, not reflected, no final XOR (Table 4-2). -/
def crc16 (bs : List Octet) : Nat := bs.foldl crcOctet 0xFFFF

/-- The message is one of Table 4-2: 16 octets, SYNC, TYPE, CRC (R83). -/
def todGood (bs : List Octet) : Bool :=
  bs.length == 16 && bs.take 3 == [0x47, 0x54, 0x01] && ofBe (bs.drop 14) == crc16 (bs.take 14)

/-- The window of R84: 1 ms to 900 ms after the last pulse. -/
def State.todWindow (s : State) : Bool :=
  let t := (s.slot 23).lastUp48
  (s.slot 23).lastBase48.isSome && decide (t + ms48 1 ≤ s.up48) && decide (s.up48 ≤ t + ms48 900)

/-- A valid message: the pulse it names, the glitch of a wrong count, QUALITY, and what it says of UTC (R84, R86). A message
that makes a glitch, or whose offset is not valid, reports no UTC. -/
def State.todAccept (s : State) (bs : List Octet) : State :=
  let x := s.slot 23
  let assoc := bitOn (s.rdN (Obj.SLOT_CFG 23)) 19
  let pulse := if assoc then x.pulses else x.pulses + 1
  let sec := ofBe ((bs.drop 4).take 6)
  let flags := (bs.getD 12 0).toNat
  let bad := match x.named with
    | some (p, t) => (sec : Int) - t != (pulse : Int) - p
    | none => false
  let offset := wrapSigned 16 (ofBe ((bs.drop 10).take 2))
  let leap := if bitOn flags 0 then 1 else if bitOn flags 1 then 2 else 0
  let x1 := { x with named := some (pulse, sec), missing := 0, windowOpen := false,
                     info := some { raw := (bs.getD 13 0).toNat, unc := 0, cls := none, growth := 0, at48 := 0 },
                     utc := if bitOn flags 2 && !bad then some (offset, leap) else none }
  let s1 := (s.setSlot 23 x1).when bad (·.slotGlitch 23)
  (s1.when (s1.slotState 23 == Sl.LOS && s1.slotReturns 23) (·.slotQualifying 23 none)).utcHeard

/-- TOD_MESSAGE (R83, R84). -/
def execTodMessage (port : Fin 2) (octets : List Octet) (gapOk : Bool) (s : State) :
    Host.Outcome State Fault Refusal :=
  let wanted := if bitOn (s.rdN (Obj.SLOT_CFG 23)) 18 then 1 else 0
  if s.slotState 23 = Sl.DISABLED ∨ port.val ≠ wanted then .next s
  else if todGood octets && gapOk && s.todWindow then .next (s.todAccept octets).close
  else .next ((s.bump (Obj.SLOT_TOD_DISCARD 23)).count 0x1B4 1).settle

/-- TOD_MESSAGE_MISSING: a pulse's window closes with no valid message (R84); with TOD_ASSOC 0 the message missing is that of
the next pulse, which is counted at the close of the window too (log entry 79). -/
def execTodMessageMissing (s : State) : Host.Outcome State Fault Refusal :=
  let x := s.slot 23
  if s.slotState 23 = Sl.DISABLED ∨ x.windowOpen = false ∨ x.lastBase48 = none then .next s
  else match s.runTo (x.lastUp48 + ms48 900) with
    | none => .next s
    | some s1 =>
      let s2 := s1.setSlot 23 { x with windowOpen := false, missing := x.missing + 1 }
      if x.missing < 2 then .next s2.settle else .next (s2.slotLos 23).close

/-! ESMC (R86, R87). -/

/-- ESMC_PDU: the QL of an information or event PDU; the class follows at the next Herd update (R86, R87). An event PDU is no
information PDU: the class stays 15 where none of those has arrived for ESMC_TIMEOUT (Table 4-4). -/
def execEsmcPdu (port : Fin 8) (event : Bool) (ssm : Fin 16) (s : State) : Host.Outcome State Fault Refusal :=
  let n := 8 + port.val
  if s.slotState n = Sl.DISABLED then .next s
  else .next (s.setSlot n { s.slot n with
    info := some { raw := ssm.val, unc := 0xFFFFFFFF, growth := 0, at48 := 0,
                   cls := if event then (match (s.slot n).info with | some q => q.cls | none => some 15) else none },
    esmc48 := if event then (s.slot n).esmc48 else s.up48 })

/-- ESMC_TIMEOUT: no information PDU for ESMC_TIMEOUT (Table 4-4). -/
def execEsmcTimeout (port : Fin 8) (s : State) : Host.Outcome State Fault Refusal :=
  let n := 8 + port.val
  match (s.slot n).info with
  | none => .next s
  | some q =>
    match s.runTo ((s.slot n).esmc48 + s.rdN Obj.ESMC_TIMEOUT * sec48) with
    | none => .next s
    | some s1 => .next (s1.setSlot n { s1.slot n with info := some { q with cls := some 15 } }).settle

end Sys2Proof.Machine
end

