-- ==== Sys2Proof/Machine/Estimate.lean ====
section
/-! DEFINITION. Herd's arithmetic: exact rational numbers, the three-state filters, weights and square roots (R99 to
R105). Phases are in 2^-16 ns, frequencies in rate units of 2^-48, drifts in 2^-64 per second (R100). The equations of
the filter are those of the three-state clock model with scalar phase measurements, which R100 names and does not write
out (log entry 14). -/

namespace Sys2Proof.Machine

/-- A dimensionless fraction in rate units. -/
def rateOf (f : Rat) : Rat := f * 2 ^ 48

/-- Nanoseconds in phase units. -/
def phaseOfNs (t : Rat) : Rat := t * 65536

/-- A square root, rounded up to 2^-40 (R6). -/
def sqrtUp (r : Rat) : Rat := ((isqrtUp (r * 2 ^ 80).ceil.toNat : Nat) : Rat) / 2 ^ 40

/-- The sum of a list. -/
def ratSum (l : List Rat) : Rat := l.foldl (· + ·) 0

/-- The entry of a slot, or 0. -/
def entry (l : List (Nat × Rat)) (n : Nat) : Rat := SMap.get 0 l n

/-! Noise (R100, Table 5-1). -/

/-- Measurement noise in ps, white FM in 10^-12 and random-walk FM in 10^-15 of profiles 1 to 7. -/
def profileRow : Nat → Rat × Rat × Rat
  | 1 => (3000, 1 / 100, 1 / 10)
  | 2 => (20000, 1 / 10, 1)
  | 3 => (100, 5, 1 / 100)
  | 4 => (1000, 10, 10)
  | 5 => (20, 10, 10)
  | 6 => (1000, 100, 100)
  | _ => (10, 1 / 100, 1 / 10)

/-- White FM, random-walk FM, and drift walk in 10^-15 per day, of the LO kinds. -/
def loRow : Nat → Rat × Rat × Rat
  | 1 => (10, 1, 10)
  | 2 => (5, 1 / 100, 1 / 10)
  | _ => (1, 30, 300)

/-- The kind of an LO: LO-B is an OCXO (R111). -/
def State.loKind (s : State) (lo : Nat) : Nat := if lo = 0 then s.rdN Obj.LOA_KIND else 0

/-- The base LO: 0 LO-A, 1 LO-B, 3 none. -/
def State.base (s : State) : Nat := s.rdN Obj.LO_SEL

/-- What profile 0 selects (R100). -/
def State.autoProfile (s : State) (n : Nat) : Nat :=
  if n < 8 then (if s.slotMode n = 0 then 5 else 4)
  else if n < 16 then 6 else if n < 20 then 2 else if n < 22 then 1 else if n = 22 then 7 else 4

/-- The reset content of HD_CUSTOM: the values of profile 5 (Table 5-8). -/
def customReset : List Octet := leBytes 4 20 ++ leBytes 4 10 ++ leBytes 4 10

/-- The noise row of filter `n`. -/
def State.noiseRow (s : State) (n : Nat) : Rat × Rat × Rat :=
  if 24 ≤ n then let r := loRow (s.loKind (n - 24)); (5, r.1, r.2.1)
  else
    let p := s.rdN (Obj.HD_PROFILE n)
    if p = 8 then
      let b := s.blob customReset (Obj.HD_CUSTOM n)
      (ofLe (b.take 4), ofLe ((b.drop 4).take 4), ofLe ((b.drop 8).take 4))
    else profileRow (if p = 0 then s.autoProfile n else p)

/-- Intensities of the process noise: the filter's profile and the base LO's, added; only the base LO's drift walk
drives the drift (R100). -/
structure Noise where
  q1 : Rat
  q2 : Rat
  q3 : Rat

/-- The process noise of filter `n` (R100). -/
def State.noise (s : State) (n : Nat) : Noise :=
  let r := s.noiseRow n
  let b := loRow (s.loKind s.base)
  let walk := b.2.2 / 10 ^ 15 / 86400
  { q1 := (r.2.1 * r.2.1 + b.1 * b.1) / 10 ^ 24, q2 := (r.2.2 * r.2.2 + b.2.1 * b.2.1) / 10 ^ 30,
    q3 := walk * walk / 86400 }

/-! Filters (R100 to R102). -/

/-- Phase units in a second, and rate and drift units in 1: the scales of the covariance. -/
def phaseScale : Rat := 65536000000000
def rateScale : Rat := 2 ^ 48
def driftScale : Rat := 2 ^ 64

/-- The prediction of a filter at base time `at48` (R100): state and covariance carried forward. -/
def Filter.predict (f : Filter) (q : Noise) (at48 : Int) : Filter :=
  let t := secondsOf (at48 - f.at48)
  if f.taken < 2 ∨ t ≤ 0 then f
  else
    let a := phasePerRate * t
    let c := ratePerDrift * t
    let h := phasePerRate * ratePerDrift * t * t / 2
    let x0 := f.pxx + a * f.pxy + h * f.pxd
    let x1 := f.pxy + a * f.pyy + h * f.pyd
    let x2 := f.pxd + a * f.pyd + h * f.pdd
    let y1 := f.pyy + c * f.pyd
    let y2 := f.pyd + c * f.pdd
    { f with
      at48 := at48,
      x := f.x + a * f.y + h * f.d,
      y := f.y + c * f.d,
      pxx := x0 + a * x1 + h * x2 +
        phaseScale * phaseScale * (q.q1 * t + q.q2 * t ^ 3 / 3 + q.q3 * t ^ 5 / 20),
      pxy := x1 + c * x2 + phaseScale * rateScale * (q.q2 * t ^ 2 / 2 + q.q3 * t ^ 4 / 8),
      pxd := x2 + phaseScale * driftScale * (q.q3 * t ^ 3 / 6),
      pyy := y1 + c * y2 + rateScale * rateScale * (q.q2 * t + q.q3 * t ^ 3 / 3),
      pyd := y2 + rateScale * driftScale * (q.q3 * t ^ 2 / 2),
      pdd := f.pdd + driftScale * driftScale * (q.q3 * t) }

/-- A phase measurement `z` of variance `r` at the filter's own instant. -/
def Filter.correct (f : Filter) (z r : Rat) : Filter :=
  let v := f.pxx + r
  let k0 := f.pxx / v
  let k1 := f.pxy / v
  let k2 := f.pxd / v
  let e := z - f.x
  { f with
    x := f.x + k0 * e, y := f.y + k1 * e, d := f.d + k2 * e,
    pxx := f.pxx - k0 * f.pxx, pxy := f.pxy - k0 * f.pxy, pxd := f.pxd - k0 * f.pxd,
    pyy := f.pyy - k1 * f.pxy, pyd := f.pyd - k1 * f.pxd, pdd := f.pdd - k2 * f.pxd }

/-- The initial frequency deviation of a filter, in rate units: SLOT_FREQ_TOL (R102); an LO has none, and takes its
reset value (log entry 14). -/
def State.freqTol (s : State) (n : Nat) : Rat :=
  rateOf ((if n < 24 then (s.rdN (Obj.SLOT_FREQ_TOL n) : Rat) else 1000000) / 10 ^ 12)

/-- One measurement for a filter (R101, R102): the first sets the phase, the second the frequency, later ones correct
the prediction. -/
def Filter.take (f : Filter) (q : Noise) (tol r : Rat) (at48 : Int) (z : Rat) : Filter :=
  let sx := phaseOfNs 1000
  let sd : Rat := 2 ^ 64 / 10 ^ 15
  if f.taken = 0 then
    { f with taken := 1, at48 := at48, last48 := at48, x := z, y := 0, d := 0, pxx := sx * sx, pxy := 0, pxd := 0,
             pyy := tol * tol, pyd := 0, pdd := sd * sd, lastPhase := z }
  else if at48 ≤ f.last48 then f
  else if f.taken = 1 then
    { f with taken := 2, at48 := at48, last48 := at48, lastPhase := z,
             y := (z - f.x) / (phasePerRate * secondsOf (at48 - f.at48)), x := z }
  else { (f.predict q at48).correct z r with taken := f.taken + 1, at48 := at48, last48 := at48, lastPhase := z }

/-- The variance of a measurement of filter `n` reduced from `stamps` stamps: no lower than (1 ps)² (R101). -/
def State.measNoise (s : State) (n stamps : Nat) : Rat :=
  let p := (s.noiseRow n).1
  let v := p * p / stamps
  (if v < 1 then 1 else v) * (65536 / 1000) * (65536 / 1000)

/-- Filter `n` after the measurements that an update at base time `at48` uses, those before it that are available by then:
pulse by pulse, then the line fit reduced to the update's instant (R98, R101). -/
def State.filterTake (s : State) (n : Nat) (at48 : Int) : State :=
  let f := (s.filter n).absorb at48
  let usable := fun (m : Meas) => decide (m.base48 < at48 ∧ m.ready48 ≤ at48)
  let now := f.waiting.filter usable
  if now.isEmpty && f.fit.isNone then s
  else
    let q := s.noise n
    let tol := s.freqTol n
    let r := s.measNoise n
    let f1 := now.foldl (fun g m => g.take q tol (r 1) m.base48 (m.phase48 / 2 ^ 32)) f
    let f2 := match f.fit with
      | some g => f1.take q tol (r g.n) at48 (g.phaseAt at48 / 2 ^ 32)
      | none => f1
    s.setFilter n { f2 with waiting := f.waiting.filter fun m => !usable m, fit := none }

/-- Filter `n` predicted to base time `at48`. -/
def State.predicted (s : State) (n : Nat) (at48 : Int) : Filter := (s.filter n).predict (s.noise n) at48

/-- What filter `n` gives a set it belongs to at base time `at48`. A phase or frequency that R102 takes from measurements still
to come is a free value, with the deviations that a filter starts from (log entry 81). -/
def State.estimate (s : State) (n : Nat) (at48 : Int) : Filter :=
  let f := s.predicted n at48
  let free := Config.unmeasured n
  let sx := phaseOfNs 1000
  let sd : Rat := 2 ^ 64 / 10 ^ 15
  let tol := s.freqTol n
  if f.taken = 0 then
    { f with at48 := at48, x := free.1, y := free.2, d := 0, pxx := sx * sx, pxy := 0, pxd := 0, pyy := tol * tol,
             pyd := 0, pdd := sd * sd }
  else if f.taken = 1 then { f with y := free.2 }
  else f

/-! The LO model (R123). -/

/-- X(t) of a model: x0 + y0 (t − t0) + d0 (t − t0)² / 2. -/
def LoModel.phase (m : LoModel) (at48 : Int) : Rat :=
  let t := secondsOf (at48 - m.t48)
  m.x + phasePerRate * (m.y * t + ratePerDrift * m.d * t * t / 2)

/-- Y(t) of a model. -/
def LoModel.freq (m : LoModel) (at48 : Int) : Rat := m.y + ratePerDrift * m.d * secondsOf (at48 - m.t48)

/-! Weights (R104). -/

/-- The capped share-out: members above the cap are fixed at it, and the rest is shared in proportion to raw. -/
def shareOut (cap : Rat) (raw : List (Nat × Rat)) : Nat → List Nat → List (Nat × Rat)
  | 0, _ => raw
  | f + 1, fixed =>
    let free := raw.filter fun e => !fixed.contains e.1
    let total := ratSum (free.map (·.2))
    let left := 1 - cap * fixed.length
    let w := raw.map fun e => (e.1, if fixed.contains e.1 then cap else left * e.2 / total)
    let above := (w.filter fun e => !fixed.contains e.1 && decide (cap < e.2)).map (·.1)
    if above.isEmpty then w else shareOut cap raw f (fixed ++ above)

/-- The weights of a set from its variances (R104). -/
def weightsOf (wmax : Rat) (v : List (Nat × Rat)) : List (Nat × Rat) :=
  let total := ratSum (v.map fun e => 1 / e.2)
  let raw := v.map fun e => (e.1, 1 / e.2 / total)
  shareOut (ratMax wmax (1 / v.length)) raw (v.length + 1) []

/-- A weight in units of 2^-24, truncated (R104). -/
def weightWord (w : Rat) : Nat := (w * 2 ^ 24).floor.toNat

/-- Σ w z over the members of the weights. -/
def weighted (w z : List (Nat × Rat)) : Rat := ratSum (w.map fun e => e.2 * entry z e.1)

end Sys2Proof.Machine
end

