-- ==== Sys2Proof/Machine/Quality.lean ====
section
/-! DEFINITION. Slots at a Herd update: quality classes (R86, R87), the frequency and phase monitors (R85), and the
contributing sets (R88). -/

namespace Sys2Proof.Machine

/-! Quality maps (Table 4-5). -/

/-- A map of `n` codes with the listed classes; every other code maps to 15. -/
def qmapOf (n : Nat) (rows : List (Nat × Nat)) : List Octet :=
  (List.range n).map fun c => BitVec.ofNat 8 (SMap.get 15 rows c)

/-- The reset content of a quality map, by its sub-index in 2100. -/
def qmapReset : Nat → List Octet
  | 1 => qmapOf 256 [(6, 0), (7, 1), (13, 2), (14, 3), (52, 4), (187, 4), (58, 5), (193, 5), (248, 12)]
  | 2 => (List.range 256).map fun c => BitVec.ofNat 8 (c / 16)
  | 3 => qmapOf 16 [(2, 0), (4, 3), (8, 4), (11, 6), (15, 15)]
  | _ => qmapOf 16 [(1, 0), (0, 2), (7, 3), (4, 3), (13, 5), (10, 6), (12, 7), (14, 8), (15, 15)]

/-- The class of a code through a map; bits 7:4 of an entry read as zero (R87). -/
def State.qmap (s : State) (m code : Nat) : Nat :=
  let r := if m = 1 then Obj.QMAP_PTP else if m = 2 then Obj.QMAP_TOD else if m = 3 then Obj.QMAP_SSM1
    else Obj.QMAP_SSM2
  ((s.blob (qmapReset m) r).getD code 15).toNat % 16

/-- The uncertainty of a Bound TLV now: BOUND + GROWTH × age, rounded up (R171). -/
def State.agedUnc (s : State) (q : QlInfo) : Nat :=
  if q.unc = 0xFFFFFFFF then q.unc
  else boundUnits ((q.unc : Rat) + (q.growth : Rat) / 256 * secondsOf ((s.up48 : Int) - q.at48))

/-- Class, uncertainty and raw word of slot `n` from its quality information (Table 4-4); none before any arrives. -/
def State.quality (s : State) (n : Nat) : Option (Nat × Nat × Nat) :=
  if n < 8 then some (s.rdN (Obj.SLOT_QL_HOST n), s.rdN (Obj.SLOT_UNC n), 0)
  else (s.slot n).info.map fun q =>
    let code := q.raw % 256
    if n < 16 then
      (q.cls.getD (s.qmap (if bitOn (s.rdN (Obj.SLOT_CFG n)) 17 then 4 else 3) code), 0xFFFFFFFF, q.raw)
    else if n < 20 then (q.cls.getD (s.qmap 1 code), s.agedUnc q, q.raw)
    else if n = 23 then (s.qmap 2 code, s.rdN (Obj.SLOT_UNC 23), q.raw)
    else (q.cls.getD 15, q.unc, q.raw)

/-- The class, the uncertainty and the raw information in force at slot `n` from this update on (R86). -/
def State.classify (s : State) (n : Nat) : State :=
  if s.slotState n = Sl.DISABLED then s
  else match s.quality n with
    | none => s
    | some (c, u, r) => ((s.wrN (Obj.SLOT_CLASS n) c).wrN (Obj.SLOT_UNC_RX n) u).wrN (Obj.SLOT_QL_RAW n) r

/-- What the class makes of a slot's state (Table 4-7, transitions 5, 7 and 8). -/
def State.classAct (s : State) (n : Nat) : State :=
  if s.composite n then s
  else
    let bad := decide (15 ≤ s.slotClass n)
    match s.slotState n with
    | 2 => if bad then s.slotRequalify n .ql else s
    | 3 => if bad then s.slotSuspend n .ql else s
    | 4 => if !bad && s.slotReason n == slotReasonCode .ql then s.slotTo n Sl.QUALIFIED none else s
    | _ => s

/-! Frequency and phase monitors (R85). -/

/-- The frequency that a slot is judged against: the ensemble's; the selected LO's while nothing contributes. -/
def State.monitorFreq (s : State) (at48 : Int) : Rat :=
  if s.hd.timeSet.isEmpty && s.hd.freqSet.isEmpty then 0
  else match s.hd.ensemble with
    | some m => m.freq at48
    | none => 0

/-- The frequency monitor trips. -/
def State.freqTrips (s : State) (n : Nat) (at48 : Int) : Bool :=
  decide (2 ≤ (s.filter n).taken) &&
    decide (s.freqTol n < ratAbs ((s.predicted n at48).y - s.monitorFreq at48))

/-- The phase monitor trips: not evaluated in FREERUN, nor before a time slot has contributed; a timescale without a
bound trips none (log entry 15). -/
def State.phaseTrips (s : State) (n : Nat) (at48 : Int) : Bool :=
  s.timeSlot n && s.mode != Mode.FREERUN && s.hd.everTimed && s.bound != 0xFFFFFFFF &&
    decide (1 ≤ (s.filter n).taken) &&
    decide (((s.rdN (Obj.SLOT_PHASE_TOL n) * 256 + s.bound : Nat) : Rat) <
      boundOfPhase (ratAbs ((s.predicted n at48).x - (s.lead48 : Rat) / 2 ^ 32)))

/-- The monitor of slot `n` that trips at an update; the frequency one where both do (log entry 99). -/
def State.tripped (s : State) (at48 : Int) (n : Nat) : Option SlotReason :=
  let st := s.slotState n
  if st = Sl.DISABLED ∨ st = Sl.LOS ∨ s.composite n = true ∨ s.monitorsRun = false then none
  else if s.freqTrips n at48 then some .freq
  else if s.phaseTrips n at48 then some .phase
  else none

/-- A trip of slot `n` at an update makes its transition, ahead of a glitch and a class (R92). -/
def State.monitorTrip (at48 : Int) (s : State) (n : Nat) : State :=
  match s.tripped at48 n with
  | some r => s.slotTrip n r
  | none => s

/-- What a glitch seen at this update and the class make of slot `n`, which no trip and no residual test has moved (R92). A
glitch that makes no transition leaves the class its own. -/
def State.monitorRest (glitches moved : List Nat) (s : State) (n : Nat) : State :=
  let st := s.slotState n
  if st = Sl.DISABLED ∨ st = Sl.LOS ∨ s.composite n = true ∨ s.monitorsRun = false ∨ moved.contains n = true then s
  else
    let s1 := s.when (glitches.contains n) (·.glitchAct n)
    if glitches.contains n = true ∧ st = Sl.QUALIFYING then s1 else s1.classAct n

/-! SyncE (R81, R85). -/

/-- A UI/64 of port `p`'s reference lane, in 2^-16 ns (R81, Table 10-1). -/
def State.uiStep (s : State) (p : Nat) : Rat :=
  let tenKBd : Rat := match bitsAt (s.rdN (Obj.PORT_CFG p)) 0 3 with
    | 0 => 1031250 | 1 => 2578125 | 4 => 2578125 | _ => 2656250
  phaseOfNs (100000 / tenKBd / 64)

/-- The phase count of a port as a phase, unwrapped over its 48 bits. -/
def State.syncePhase (s : State) (e : Fin 8 × Int) : Rat :=
  let f := s.filter (8 + e.1.val)
  let u := s.uiStep e.1
  unwrap (e.2 * u) (2 ^ 48 * u) (if f.taken = 0 then e.2 * u else f.lastPhase)

/-- The change of the phase since the last update lies outside SLOT_GLITCH_WIN of the one that the frequency estimate
predicts. -/
def State.synceGlitch (s : State) (at48 : Int) (e : Fin 8 × Int) : Bool :=
  let n := 8 + e.1.val
  let f := s.filter n
  let pred := f.y * phasePerRate * secondsOf (at48 - f.last48)
  decide (2 ≤ s.slotState n) && decide (2 ≤ f.taken) &&
    decide (phaseOfNs (s.rdN (Obj.SLOT_GLITCH_WIN n) : Rat) < ratAbs (s.syncePhase e - f.lastPhase - pred))

/-- The phase count of a port at an update is measured, and a glitch in it seen. -/
def State.synce (at48 : Int) (s : State) (e : Fin 8 × Int) : State :=
  let n := 8 + e.1.val
  if s.slotState n < 2 then s
  else
    let z := s.syncePhase e
    let s1 := s.when (s.synceGlitch at48 e) (·.glitchSeen n)
    s1.setFilter n ((s1.filter n).take (s.noise n) (s.freqTol n) (s.measNoise n 1) at48 z)

/-- Transition 4 of the SyncE slots whose port is UP with its CDR locked (Table 4-7). -/
def State.synceReturn (s : State) : State :=
  s.forEach (l := List.range 8) (p := fun s p =>
    s.when (s.slotState (8 + p) == Sl.LOS && s.rdN (Obj.PORT_STATE p) == 3) (·.slotQualifying (8 + p) none))

/-! The contributing sets (R88). -/

/-- A slot that may enter a set: QUALIFIED with class below 15 (R88). -/
def State.eligible (s : State) (n : Nat) : Bool := s.slotState n == Sl.QUALIFIED && decide (s.slotClass n < 15)

/-- Class and rank of a slot in one number, best first. -/
def State.standing (s : State) (n : Nat) : Nat := s.slotClass n * 16 + s.rdN (Obj.SLOT_RANK n)

/-- The smallest of some numbers. -/
def leastOf (l : List Nat) : Option Nat := l.foldl (init := none) fun b x => some (match b with | none => x | some y => min x y)

/-- The time set (R88). -/
def State.formTime (s : State) : List Nat :=
  if s.mode = Mode.STANDBY then (if s.eligible 22 then [22] else [])
  else
    let cands := (List.range 24).filter fun n =>
      s.timeSlot n && n != 22 && !s.composite n && s.eligible n
    match leastOf (cands.map s.standing) with
    | none => []
    | some b => cands.filter fun n => s.standing n == b

/-- The frequency set that goes with a time set (R88). -/
def State.formFreq (s : State) (time : List Nat) : List Nat :=
  (List.range 24).filter fun n =>
    time.contains n || (s.eligible n && bitOn (s.rdN (Obj.SLOT_CFG n)) 16 && !s.composite n &&
      (n != 22 || s.mode == Mode.STANDBY))

end Sys2Proof.Machine
end

