-- ==== Sys2Proof/Machine/Herd.lean ====
section
/-! DEFINITION. The Herd update: weights, residual tests, equal ranks, the ensemble, the servo and the frequency path
(R98 to R131). -/

namespace Sys2Proof.Machine

/-! Members of the sets at an update. -/

/-- What an update knows of one member: estimates now, and the two variances of R103. -/
structure Member where
  n : Nat
  x : Rat
  y : Rat
  d : Rat
  pxx : Rat
  pyy : Rat
  pdd : Rat
  s2 : Rat
  v : Rat
  vf : Rat

/-- HD_WMAX as a fraction. -/
def State.wmax (s : State) : Rat := (s.rdN Obj.HD_WMAX : Rat) / 2 ^ 24

/-- Slot `n` as a member at base time `at48` of a set in which it is the `sole` one, or not: a sole member has no residual
(R103). -/
def State.member (s : State) (at48 : Int) (sole : Bool) (n : Nat) : Member :=
  let f := s.estimate n at48
  let g := f.predict (s.noise n) (at48 + s.rdN Obj.HD_WEIGHT_TAU * sec48)
  let u : Rat := phaseOfNs ((s.rdN (Obj.SLOT_UNC_RX n) : Rat) / 256) / 3
  let s2 := if sole then 0 else f.s2
  { n := n, x := f.x, y := f.y, d := f.d, pxx := f.pxx, pyy := f.pyy, pdd := f.pdd, s2 := s2,
    v := ratMax g.pxx s2 + u * u, vf := ratMax g.pyy (if sole then 0 else f.f2) }

/-- The members of a set at base time `at48`. -/
def State.members (s : State) (at48 : Int) (l : List Nat) : List Member := l.map (s.member at48 (l.length == 1))

/-- The weights of a list of members by phase variance, or by frequency variance (R104). -/
def State.weightsBy (s : State) (ms : List Member) (freq : Bool) : List (Nat × Rat) :=
  weightsOf s.wmax (ms.map fun m => (m.n, if freq then m.vf else m.v))

/-- The ensemble phase or frequency of a list of members (R105). -/
def State.meanOf (s : State) (ms : List Member) (freq : Bool) : Rat :=
  weighted (s.weightsBy ms freq) (ms.map fun m => (m.n, if freq then m.y else m.x))

/-! Residuals (R103, R106, R107). -/

/-- The phase residual of a member of the time set against the others; none for a sole member. -/
def State.phaseResidual (s : State) (time : List Member) (m : Member) : Option Rat :=
  let others := time.filter fun o => o.n != m.n
  if time.all (fun o => o.n != m.n) || others.isEmpty then none else some (m.x - s.meanOf others false)

/-- The frequency residual: of a member of the time set against the others; of a frequency-only member against the time
set with the frequency weights renormalised, or against the others of the frequency set (R103, Table 5-2). A sole member has none,
also the sole time member of a larger frequency set, and s'2 of R103 is then 0 (log entry 112). -/
def State.freqResidual (s : State) (time freq : List Member) (m : Member) : Option Rat :=
  if time.any (fun o => o.n == m.n) then
    let others := time.filter fun o => o.n != m.n
    if others.isEmpty then none else some (m.y - s.meanOf others true)
  else if !time.isEmpty then
    let u := (s.weightsBy freq true).filter fun e => time.any fun o => o.n == e.1
    let total := ratSum (u.map (·.2))
    if total = 0 then none
    else some (m.y - weighted (u.map fun e => (e.1, e.2 / total)) (time.map fun o => (o.n, o.y)))
  else
    let others := freq.filter fun o => o.n != m.n
    if others.isEmpty then none else some (m.y - s.meanOf others true)

/-- HD_RES_PTOL of a slot in phase units, HD_RES_FTOL in rate units. -/
def State.resTol (s : State) (n : Nat) : Rat × Rat :=
  (phaseOfNs (s.rdN (Obj.HD_RES_PTOL n) : Rat), rateOf ((s.rdN (Obj.HD_RES_FTOL n) : Rat) / 10 ^ 15))

/-- s² ← s² + (r² − s²) × min(Δt / HD_RES_TAU, 1) (R103). -/
def smooth (tau : Nat) (dt s2 r : Rat) : Rat := s2 + (r * r - s2) * ratMin (dt / (tau : Rat)) 1

/-- The start of a run of exceeded tests (R106). -/
def runFrom (exceeded : Bool) (since : Option Int) (at48 : Int) : Option Int :=
  if exceeded then some (since.getD at48) else none

/-- A run of exceeded tests has lasted HD_DET_WIN (R106). -/
def State.lasted (s : State) (since : Option Int) (at48 : Int) : Bool :=
  match since with
  | some t => decide (t + s.rdN Obj.HD_DET_WIN * sec48 ≤ at48)
  | none => false

/-- A new measurement of slot `n` has come with this update. -/
def State.fresh (s before : State) (n : Nat) : Bool := (s.filter n).last48 != (before.filter n).last48

/-- A measurement outside the sets exceeds no test, and ends a run of them (R106). -/
def State.unTested (before : State) (freq : List Nat) (s : State) (n : Nat) : State :=
  s.when (s.fresh before n && !freq.contains n) fun s =>
    s.setFilter n { s.filter n with overPhase := none, overFreq := none }

/-- A member's residuals at an update: its smoothed squares and HD_RESID follow a new measurement, and its tests run on
(R103, R106). A time set of two has no phase test, and the frequency of its members belongs to the equal-rank rule; a
frequency-only member without a time set is tested against two or more others (Table 5-2). -/
def State.residual (before : State) (time freq : List Member) (s : State) (m : Member) : State :=
  let f := s.filter m.n
  let prev := (before.filter m.n).last48
  if !s.fresh before m.n then s
  else
    let tau := s.rdN Obj.HD_RES_TAU
    let dt := secondsOf (f.last48 - prev)
    let rp := s.phaseResidual time m
    let rf := s.freqResidual time freq m
    let tol := s.resTol m.n
    let inTime := time.any fun o => o.n == m.n
    let tested := if inTime then decide (3 ≤ time.length) else !time.isEmpty || decide (3 ≤ freq.length)
    let overP := tested && inTime && decide (tol.1 < ratAbs (rp.getD 0))
    let overF := tested && decide (tol.2 < ratAbs (rf.getD 0))
    let s1 := s.setFilter m.n { f with
      s2 := match rp with | some r => smooth tau dt f.s2 r | none => 0
      f2 := match rf with | some r => smooth tau dt f.f2 r | none => 0
      overPhase := runFrom overP f.overPhase f.last48
      overFreq := runFrom overF f.overFreq f.last48 }
    match rp with
    | some r => s1.wr (Obj.HD_RESID m.n) r.floor
    | none => s1

/-- How far a member exceeds a test that has tripped at a new measurement (R106); 0 where none has. -/
def State.tripRatio (s before : State) (time freq : List Member) (m : Member) : Rat :=
  let f := s.filter m.n
  let tol := s.resTol m.n
  let p := if s.lasted f.overPhase f.last48 then ratAbs ((s.phaseResidual time m).getD 0) / tol.1 else 0
  let q := if s.lasted f.overFreq f.last48 then ratAbs ((s.freqResidual time freq m).getD 0) / tol.2 else 0
  if s.fresh before m.n then ratMax p q else 0

/-- The member with the largest ratio, the higher slot on equal ratios (R106). -/
def State.worst (s before : State) (time freq ms : List Member) : Option Nat :=
  (ms.foldl (init := (none, (0 : Rat))) fun b m =>
    let r := s.tripRatio before time freq m
    if 0 < r ∧ b.2 ≤ r then (some m.n, r) else b).1

/-- The slot that the residual tests disqualify at an update, at most one of a set: the frequency set holds the time set too
(R88, R106). -/
def State.drifted (s before : State) (time freq : List Member) : Option Nat := s.worst before time freq freq

/-! Equal ranks (R108 to R110). -/

/-- HD_AGREE_FREQ in rate units. -/
def State.agreeFreq (s : State) : Rat := rateOf ((s.rdN Obj.HD_AGREE_FREQ : Rat) / 10 ^ 15)

/-- LO-A is in service. -/
def State.loServing (s : State) (lo : Nat) : Bool := if lo = 0 then s.hd.loA.serving else s.hd.loB.serving

/-- LO-A's frequency against the base at base time `at48`: 0 while it is the base. -/
def State.loaFreq (s : State) (at48 : Int) : Rat := if s.base = 0 then 0 else (s.predicted 24 at48).y

/-- The LO-A prediction: the ensemble frequency as it stood HD_DET_WIN before the onset, carried to now (R108). -/
def State.loaOpinion (s : State) (onset48 : Nat) (at48 : Int) : Option Rat :=
  if s.rdN Obj.LOA_KIND = 0 ∨ s.loServing 0 = false ∨ (s.channel 8).state ≠ .run ∨
      s.ctl.eval.holdoverReady = false then none
  else
    let old := s.hd.history.filter fun m => decide (m.t48 + s.rdN Obj.HD_DET_WIN * sec48 ≤ (onset48 : Int))
    old.getLast?.map fun m => m.freq at48 - m.x + s.loaFreq at48

/-- A third slot's opinion: best class, then rank, then the lowest number (R108). -/
def State.slotOpinion (s : State) (pair : List Nat) (at48 : Int) : Option Rat :=
  let c := (List.range 24).filter fun n => !pair.contains n && s.eligible n && !s.composite n
  match leastOf (c.map fun n => s.standing n * 32 + n) with
  | none => none
  | some k => some (s.estimate (k % 32) at48).y

/-- The first third opinion that is available (R108). -/
def State.opinion (s : State) (pair : List Nat) (onset48 : Nat) (at48 : Int) : Option Rat :=
  match s.loaOpinion onset48 at48 with
  | some y => some y
  | none => s.slotOpinion pair at48

/-- The pair that R108 guards: a time set of two, or a frequency set of two of equal standing with no time set. -/
def State.equalPair (s : State) (time freq : List Member) : Option (Member × Member) :=
  match time, freq with
  | [a, b], _ => some (a, b)
  | [], [a, b] => if s.standing a.n = s.standing b.n then some (a, b) else none
  | _, _ => none

/-- The AMBIGUOUS bit of a slot changes, with the reason where it sets, and the notice (R93, R94). -/
def State.setAmbiguous (s : State) (n : Nat) (on : Bool) : State :=
  if s.slotAmbiguous n = on then s
  else
    let r := Obj.SLOT_STATE n
    let w := putBit (s.rdN r) 15 on
    (s.wrN r (if on then withReason w (some .ambiguous) else w)).slotNotice n (s.slotState n) (s.slotState n)

/-- The disagreement ends (R110). -/
def State.endAmbiguity (s : State) : State :=
  match s.hd.ambiguity with
  | none => s
  | some g => ({ s with hd := { s.hd with ambiguity := none } } : State).setAmbiguous g.a false |>.setAmbiguous g.b false

/-- The equal-rank rule at an update (R108, R110): a third opinion ends an ambiguity, and suspends a member where the
disagreement still exceeds the limit. -/
def State.equalRanks (s : State) (time freq : List Member) (at48 : Nat) : State :=
  let keep := match s.equalPair time freq, s.hd.ambiguity with
    | some (a, b), some g => a.n == g.a && b.n == g.b
    | _, _ => false
  let s1 := if keep then s else s.endAmbiguity
  match s1.equalPair time freq with
  | none => s1
  | some (a, b) =>
    let dy := ratAbs (a.y - b.y)
    let since := match s1.hd.ambiguity with | some g => g.onset48 | none => at48
    if s1.hd.ambiguity.isNone && decide (dy ≤ s1.agreeFreq) then s1
    else match s1.opinion [a.n, b.n] since at48 with
      | some y =>
        let out := if ratAbs (b.y - y) < ratAbs (a.y - y) then a.n else max a.n b.n
        let out := if ratAbs (a.y - y) < ratAbs (b.y - y) then b.n else out
        if dy ≤ s1.agreeFreq then s1.endAmbiguity
        else
          let s2 := (s1.slotSuspend out .freq).endAmbiguity
          s2.setFilter out { s2.filter out with rival := some (a.n + b.n - out, since) }
      | none =>
        match s1.hd.ambiguity with
        | none =>
          let g : Ambiguity := { a := a.n, b := b.n, onset48 := at48, calm48 := none }
          (({ s1 with hd := { s1.hd with ambiguity := some g } } : State).setAmbiguous a.n true |>.setAmbiguous b.n
            true).raise Src.SLOT_AMBIGUOUS
        | some g =>
          let calm := if dy < s1.agreeFreq / 2 then some (g.calm48.getD at48) else none
          match calm with
          | some t =>
            if t + s1.rdN Obj.HD_DET_WIN * sec48 ≤ at48 then s1.endAmbiguity
            else { s1 with hd := { s1.hd with ambiguity := some { g with calm48 := calm } } }
          | none => { s1 with hd := { s1.hd with ambiguity := some { g with calm48 := none } } }

/-- The release of a FREQ suspension: agreement within half the limit for an unbroken HD_DET_WIN, with the time set or with
the third opinion of the disagreement that led to it (R109). -/
def State.release (time freq : List Member) (at48 : Nat) (s : State) (n : Nat) : State :=
  if s.slotState n ≠ Sl.SUSPENDED ∨ s.slotReason n ≠ slotReasonCode .freq then s
  else
    let ref := if time.isEmpty then
        (match (s.filter n).rival with
         | some (other, onset) => s.opinion [n, other] onset at48
         | none => s.opinion [n] at48 at48)
      else
        let u := (s.weightsBy freq true).filter fun e => time.any fun o => o.n == e.1
        some (weighted (u.map fun e => (e.1, e.2 / ratSum (u.map (·.2)))) (time.map fun o => (o.n, o.y)))
    let f := s.filter n
    let agrees := match ref with
      | some y => decide (ratAbs ((s.predicted n at48).y - y) ≤ s.agreeFreq / 2)
      | none => false
    if !agrees then s.setFilter n { f with agreed := none }
    else
      let t := f.agreed.getD at48
      if t + s.rdN Obj.HD_DET_WIN * sec48 ≤ at48 then
        (s.setFilter n { f with agreed := none }).slotTo n Sl.QUALIFIED none
      else s.setFilter n { f with agreed := some t }

/-! The drift effect (R107). -/

/-- HD_DRIFT_EFFECT of a slot at an update: a new measurement adds w × |r|, and the window slides. -/
def State.driftEffect (before : State) (w : List (Nat × Rat)) (time : List Member) (at48 : Nat) (s : State) (n : Nat) :
    State :=
  let f := s.filter n
  let kept := f.effects.filter fun e => decide ((at48 : Int) ≤ e.1 + s.rdN Obj.HD_DET_WIN * sec48)
  let fresh := s.fresh before n
  let now := match time.find? fun m => m.n == n with
    | some m => (s.phaseResidual time m).map fun r => boundUnits (boundOfPhase (entry w n * ratAbs r))
    | none => none
  let all := match now with
    | some e => if fresh then kept ++ [(f.last48, e)] else kept
    | none => kept
  (s.setFilter n { f with effects := all }).wrN (Obj.HD_DRIFT_EFFECT n) ((all.map (·.2)).foldl max 0)

/-! The servo (R120 to R124). -/

/-- The mode by which the servo works: FAULTSAFE as the service evaluation would give (Table 5-5). -/
def State.servoMode (s : State) : Nat := if s.mode = Mode.FAULTSAFE then s.evaluation else s.mode

/-- What the servo follows at an update (Table 5-5): nothing, or a phase and a frequency, by the ensemble, by the LO
model, or under assistance. -/
inductive Follow
  | nothing | ensemble | model | assist
  deriving DecidableEq, Repr

/-- Table 5-5, by mode and sets. -/
def State.follow (s : State) (time freq : List Nat) : Follow :=
  let m := s.servoMode
  if m = Mode.ZEROISED then (if s.hd.model.isSome then .model else .nothing)
  else if m < 4 ∨ 8 < m then .nothing
  else if !time.isEmpty then .ensemble
  else if s.hd.model.isNone then .nothing
  else if (m = 6 ∨ m = 7) ∧ s.rdB Obj.HD_FASSIST_EN = true ∧ freq ≠ [] then .assist
  else .model

/-- The gains in force: KP in s^-1 and KI in s^-2 (R120). -/
def State.gains (s : State) : Rat × Rat :=
  let stby := s.mode == Mode.STANDBY
  ((s.rdN (if stby then Obj.SV_KP_STBY else Obj.SV_KP) : Rat) / 2 ^ 24,
   (s.rdN (if stby then Obj.SV_KI_STBY else Obj.SV_KI) : Rat) / 2 ^ 22)

/-- `v` held within ±`m` of `c`, and whether that acted. -/
def hold (c m v : Rat) : Rat × Bool :=
  if c + m < v then (c + m, true) else if v < c - m then (c - m, true) else (v, false)

/-- TS_SLEW_MAX in rate units (R121, R136). -/
def State.slewMax (s : State) : Rat := rateOf ((s.rdN Obj.TS_SLEW_MAX : Rat) / 10 ^ 11)

/-- The three limits of R121 on a rate word, with the flags of those that acted. -/
def State.limits (s : State) (y rate : Rat) : Int × Bool × Bool × Bool :=
  let a := hold y s.slewMax rate
  let b := hold (s.ctl.slew.rateWord : Rat) (rateOf ((s.rdN Obj.SV_FSTEP_MAX : Rat) / 10 ^ 12)) a.1
  let m := rateOf ((s.rdN Obj.SV_RATE_MAX : Rat) / 10 ^ 9)
  let c := hold 0 m b.1
  (ratTrunc c.1, a.2, b.2, c.2 || decide (ratAbs b.1 = m))

/-- The sticky bits and the source of the limits that acted (R121, Table 5-9). -/
def State.limitFlags (s : State) (l : Int × Bool × Bool × Bool) : State :=
  let s1 := ((s.when l.2.1 (·.stick Obj.HD_STATUS 3)).when l.2.2.1 (·.stick Obj.HD_STATUS 4)).when l.2.2.2
    fun s => (s.stick Obj.HD_STATUS 5).raise Src.HD_RATE_LIMIT
  { s1 with hd := { s1.hd with limited := l.2.1 || l.2.2.1 || l.2.2.2 } }

/-- The host's correction governs (R126). -/
def State.hostGoverns (s : State) (time : List Nat) : Bool :=
  s.rdN Obj.HD_LOOP_MODE == 1 && s.hd.swl.rate.isSome &&
    (s.mode == Mode.ACQUIRE || s.mode == Mode.LOCKED || (s.mode == Mode.DEGRADED && !time.isEmpty))

/-! The frequency path (R117 to R119). -/

/-- φ, and X under assistance, up to now: the integral of FP_WORD as it has stood since (R118, R124). -/
def State.pathAdvance (s : State) : State :=
  let x := s.hd.path
  let d := (s.rd Obj.FP_WORD : Rat) * phasePerRate * secondsOf ((s.base48 : Int) - x.at48)
  { s with hd := { s.hd with
      path := { x with phi := x.phi + d, at48 := s.base48 }, assist := s.hd.assist.map fun a => { a with x := a.x + d } } }

/-- The LO model's source code while LO-A or LO-B is the base. -/
def State.modelSource (s : State) : Nat := if s.base = 1 then 0x19 else 0x18

/-- The source of the frequency path (R117). -/
def State.pathSource (s : State) (freq : List Nat) (u : List (Nat × Rat)) (up48 : Nat) : Nat :=
  let cur := s.rdN Obj.FP_SOURCE
  if s.rdN Obj.FP_MODE = 1 then 0x1E
  else if freq.isEmpty then s.modelSource
  else if !freq.contains cur then
    (freq.foldl (init := none) fun b n =>
      match b with
      | none => some n
      | some m =>
        if s.standing n < s.standing m ∨
            (s.standing n = s.standing m ∧ weightWord (entry u m) < weightWord (entry u n)) then some n
        else some m).getD cur
  else
    let held := fun n => decide (SMap.get up48 s.hd.path.since48 n + s.rdN Obj.FP_HOLD * sec48 ≤ up48)
    (leastOf (freq.filter fun n => decide (s.standing n < s.standing cur) && held n)).getD cur

/-- The phase and frequency of a source of the path (R118): no phase for an ensemble without a time set, nor before a
model. -/
def State.pathInput (s : State) (src : Nat) (at48 : Int) (x : Option Rat) (y : Rat) : Option Rat × Rat :=
  if src = 0x1E then (x, y)
  else if src = 0x18 ∨ src = 0x19 then
    match s.hd.model with
    | some m => (some (m.phase at48), m.freq at48)
    | none => (none, 0)
  else let f := s.estimate src at48; (some f.x, f.y)

/-- The frequency path at an update, with φ brought up to it: source, build-out and word (R117 to R119). -/
def State.pathUpdate (s : State) (freq : List Nat) (u : List (Nat × Rat)) (at48 : Int) (x : Option Rat) (y : Rat) :
    State × Int :=
  let since := freq.map fun n => (n, SMap.get s.up48 s.hd.path.since48 n)
  let s0 : State := { s with hd := { s.hd with path := { s.hd.path with since48 := since } } }
  let cur := s.rdN Obj.FP_SOURCE
  let src := s0.pathSource freq u s.up48
  let word := s.rd Obj.FP_WORD
  let phi := s.hd.path.phi
  let i := s0.pathInput src at48 x y
  let anew := src != cur || (i.1.isSome && !s.hd.path.hasPhase)
  let b := match i.1 with
    | some p => if anew then phi - p else s.hd.path.buildout
    | none => s.hd.path.buildout
  let pull := match i.1 with
    | some p => (p + b - phi) / phasePerRate / (s.rdN Obj.FP_TAU : Rat)
    | none => 0
  let slope := rateOf ((s.rdN Obj.FP_SLOPE : Rat) / 10 ^ 12) / 64
  let next := ratTrunc (hold (word : Rat) slope (i.2 + pull)).1
  let s1 : State := { s0 with hd := { s0.hd with
    path := { s0.hd.path with buildout := b, hasPhase := i.1.isSome },
    pathSwitched := src != cur } }
  (((s1.wrN Obj.FP_SOURCE src).wr Obj.FP_BUILDOUT b.floor).when (src != cur) (·.raise Src.HD_FPATH_SWITCH), next)

/-! LO-A's tuning steps are booked (R116). -/

/-- A filter less a booked frequency and the integral of it (R116), both as they stand at base time `at48`. -/
def Filter.book (f : Filter) (at48 : Int) (dy dphi : Rat) : Filter :=
  if f.taken = 0 then f
  else { f with y := f.y - dy, x := f.x + phasePerRate * dy * secondsOf (at48 - f.at48) - dphi }

/-- The same of a model. -/
def LoModel.book (m : LoModel) (at48 : Int) (dy dphi : Rat) : LoModel :=
  { m with y := m.y - dy, x := m.x + phasePerRate * dy * secondsOf (at48 - m.t48) - dphi }

/-- One ramp is booked up to now: every filter and every model gives up the frequency of the part, and its integral in phase
(R116). -/
def State.bookOne (s : State) (r : Ramp) : State :=
  let at48 := s.base48
  let part := r.part at48 - r.booked
  let u0 := if r.dy = 0 then 1 else r.booked / r.dy
  let u : Rat := if r.start48 + r.len48 ≤ at48 then 1 else ((at48 - r.start48 : Nat) : Rat) / (r.len48 : Rat)
  let rest := ratMax 0 (secondsOf ((at48 : Int) - r.start48) - secondsOf r.len48)
  let dphi := if r.len48 = 0 then 0 else phasePerRate * (part / 2 * ((u - u0) * secondsOf r.len48) + part * rest)
  let s1 := s.forEach (l := List.range 26) (p := fun s n => s.setFilter n ((s.filter n).book at48 part dphi))
  { s1 with hd := { s1.hd with
      model := s1.hd.model.map fun m => m.book at48 part dphi,
      heldModel := s1.hd.heldModel.map fun m => m.book at48 part dphi,
      ensemble := s1.hd.ensemble.map fun m => m.book at48 part dphi,
      history := s1.hd.history.map fun m => { m with y := m.y - part } } }

/-- Every ramp is booked up to now, at each update and each effect instant; one that is booked whole is done (R116; log
entry 18). -/
def State.bookRamp (s : State) : State :=
  let s1 := s.forEach (l := s.hd.tune.ramps) (p := State.bookOne)
  let ramps := s.hd.tune.ramps.map fun r => { r with booked := r.part s.base48 }
  { s1 with hd := { s1.hd with tune := { s1.hd.tune with
      ramps := ramps.filter fun r => r.booked != r.dy || r.rated != ratTrunc r.dy } } }

/-! The update as a whole. -/

/-- The filters of the two LOs: only the one that is not the base, and only while it is in service (R99, R112). -/
def State.loFilters (s : State) (at48 : Int) : State :=
  s.forEach (l := [0, 1]) (p := fun s lo =>
    if s.loServing lo && s.base != lo then s.filterTake (24 + lo) at48
    else s.setFilter (24 + lo) { s.filter (24 + lo) with waiting := [], coming := [], fit := none })

/-- The weights of a set at an update: exactly one half each during an ambiguity of its two members (R110). -/
def State.updateWeights (s : State) (ms : List Member) (freq : Bool) : List (Nat × Rat) :=
  match s.hd.ambiguity with
  | some g =>
    if ms.length = 2 ∧ ms.any (fun m => m.n == g.a) = true ∧ ms.any (fun m => m.n == g.b) = true then
      ms.map fun m => (m.n, 1 / 2)
    else s.weightsBy ms freq
  | none => s.weightsBy ms freq

/-- The first part of an update: measurements, classes, trips, the sets with their residual tests, what glitches and classes
make of the other slots (R92), equal ranks and releases. -/
def State.updateSlots (s : State) (synce : List (Fin 8 × Int)) (at48 : Nat) : State :=
  let s1 := s.forEach (l := List.range 24) (p := fun s n => s.filterTake n at48)
  let glitches := (synce.filter (s1.synceGlitch at48)).map fun e => 8 + e.1.val
  let s2 := (s1.forEach (l := synce) (p := State.synce at48)).synceReturn
  let s3 := s2.forEach (l := List.range 24) (p := State.classify)
  let trips := (List.range 24).filter fun n => (s3.tripped at48 n).isSome
  let s4 := s3.forEach (l := List.range 24) (p := State.monitorTrip at48)
  let ms := fun (s : State) (l : List Nat) => s.members at48 l
  let t := s4.formTime
  let f := s4.formFreq t
  let s5 := (s4.forEach (l := List.range 24) (p := State.unTested s f)).forEach (l := ms s4 f)
    (p := State.residual s (ms s4 t) (ms s4 f))
  let now := ms s5 t
  let s6 := s5.forEach (l := List.range 24) (p := State.driftEffect s (s5.updateWeights now false) now at48)
  let out := s6.drifted s (ms s4 t) (ms s4 f)
  let s7 := match out with | some n => s6.slotDisqualify n .drift | none => s6
  let s8 := s7.forEach (l := List.range 24) (p := State.monitorRest glitches (trips ++ out.toList))
  let t8 := s8.formTime
  let s9 := s8.equalRanks (ms s8 t8) (ms s8 (s8.formFreq t8)) at48
  let t9 := s9.formTime
  s9.forEach (l := List.range 24) (p := State.release (ms s9 t9) (ms s9 (s9.formFreq t9)) at48)

/-- The reports per slot: x̂ − X, a time and so cut towards the earlier instant (R6), ŷ − Y, cut towards zero (log entry 113), and √v
(R105, Table 5-8); a slot outside the sets has no v, and one without the measurements of R102 reports 0. -/
def State.reportSlot (ms : List Member) (x : Option Rat) (y : Rat) (at48 : Int) (s : State) (n : Nat) : State :=
  let f := s.predicted n at48
  let dx := if 1 ≤ f.taken then (f.x - x.getD f.x).floor else 0
  let dy := if 2 ≤ f.taken then ratTrunc (f.y - y) else 0
  let sig := match ms.find? fun m => m.n == n with
    | some m => boundUnits (boundOfPhase (sqrtUp m.v))
    | none => 0xFFFFFFFF
  ((s.wr (Obj.HD_PHASE n) dx).wr (Obj.HD_FREQ n) dy).wrN (Obj.HD_SIGMA n) sig

/-- The flags of Table 5-7 for the record of this update. -/
def State.recordFlags (s : State) (lim : Bool × Bool × Bool) (follow : Follow) (swl : Bool) : Nat :=
  (if s.hd.lost21 then 2 ^ 15 else 0) + (if s.hd.stepped then 2 ^ 14 else 0) + (if s.hd.switched then 2 ^ 13 else 0) +
    (if s.hd.tuned then 2 ^ 12 else 0) + (if s.hd.pathSwitched then 2 ^ 11 else 0) + (if lim.1 then 2 ^ 10 else 0) +
    (if lim.2.1 then 2 ^ 9 else 0) + (if lim.2.2 then 2 ^ 8 else 0) + (if swl then 2 ^ 7 else 0) +
    (if s.hd.swl.fresh then 0 else 2 ^ 6) + (if follow = .model then 2 ^ 5 else 0) +
    (if follow = .assist then 2 ^ 4 else 0) + (if s.hd.ambiguity.isSome then 2 ^ 3 else 0) +
    (if s.hd.setChange then 2 ^ 2 else 0)

/-- REFSEL[4:0] (R97). -/
def State.refsel (s : State) : Nat :=
  let m := s.mode
  if m < 3 ∨ m = Mode.FACTORY ∨ s.clk.frozen = true then 0x1F else s.dominant.getD s.modelSource

/-- The 64 octets of a ring 21 record (Table 5-6). -/
def State.herdRecord (s : State) (rate : Int) (time freq : List Nat) (flags : Nat) : List Octet :=
  let lo := if s.base = 3 then 3 else s.base
  leBytes 16 (s.now80 % 2 ^ 32 + (s.rd Obj.LOA_TUNE_WORD % 2 ^ 32).toNat * 2 ^ 32 + lo * 2 ^ 70 + s.refsel * 2 ^ 72 +
      s.hd.swl.tag % 2 ^ 16 * 2 ^ 80 + s.rdN Obj.HD_ENS_SIGMA * 2 ^ 96) ++
    leBytes 16 (s.bound + s.rdN Obj.HD_UPDATE * 2 ^ 32 + flags * 2 ^ 64 +
      maskOf (freq.contains ·) 24 * 2 ^ 80 + maskOf (time.contains ·) 24 * 2 ^ 104) ++
    leBytesInt 8 (s.rd Obj.HD_ENS_DRIFT) ++ leBytesInt 8 (s.rd Obj.HD_ENS_PHASE) ++
    leBytesInt 8 (s.rd Obj.HD_ENS_FREQ) ++ leBytesInt 8 rate

/-- The record of an update goes to ring 21, or is lost (R128). -/
def State.writeHerdRecord (s : State) (rec : List Octet) : State :=
  let r := s.toRing 21 0 s.stampNs rec
  let clear := fun (s : State) (lost : Bool) => ({ s with hd := { s.hd with
    lost21 := lost, stepped := false, swl := { s.hd.swl with fresh := false } } } : State)
  match r.2 with
  | .off => s
  | .written _ => clear r.1 false
  | .full => (clear (r.1.bump Obj.HD_RING21_LOST) true).raise Src.HD_RING21_LOST

/-- The hardware loop closes: `acc` is such that the first hardware rate word equals the last one applied (R127). -/
def State.closeLoop (s : State) (y es : Rat) : State :=
  let g := s.gains
  let ff := if s.rdB Obj.SV_FF_EN then y else 0
  let acc := ((ff - s.ctl.slew.rateWord) / 2 ^ 48 - g.1 * es) / g.2
  { s with hd := { s.hd with acc := acc, limited := true, swl := { s.hd.swl with closing := false, rate := none } } }

/-- Frequency assistance at an update: it begins at the phase that the servo follows, and runs on at FP_WORD
(`pathAdvance`); when it ends, the model restarts from it (R124). -/
def State.assistUpdate (s : State) (follow : Follow) (time : List Nat) (at48 : Int) : State :=
  let word : Rat := s.rd Obj.FP_WORD
  match s.hd.assist with
  | none =>
    if follow = .assist then
      { s with hd := { s.hd with assist := s.hd.model.map fun m => { x := m.phase at48 } } }
    else s
  | some a =>
    if follow = .assist then s
    else if time.isEmpty then
      { s with hd := { s.hd with assist := none, model := s.hd.model.map fun m => { m with t48 := at48, x := a.x, y := word } } }
    else { s with hd := { s.hd with assist := none } }

/-- The rate word that the servo gives at an update (R120 to R126), by what it follows at phase lead `e` and frequency
`y`; none where it is held. `word` is the FP_WORD of this update, which in FREERUN is the rate word (Table 5-5). -/
def State.servo (s : State) (time freq : List Nat) (follow : Follow) (e y : Rat) (word : Int) :
    State × Option Int × Bool × Bool × Bool :=
  let m := s.servoMode
  let free := m = Mode.FREERUN ∧ freq ≠ [] ∧ s.rdB Obj.HD_FASSIST_EN = true
  if follow = .nothing ∧ ¬free then
    ({ s with hd := { s.hd with limited := false } }, if m < 3 ∨ m = Mode.FACTORY then some 0 else none, false, false, false)
  else if follow = .nothing then
    let l := s.limits word word
    (s.limitFlags l, some l.1, l.2)
  else
    let es := e / 65536 / 10 ^ 9
    let s1 := if s.hd.swl.closing then s.closeLoop y es else s
    let acc := if s1.hd.limited then s1.hd.acc else s1.hd.acc + es / 64
    let s2 : State := { s1 with hd := { s1.hd with acc := acc } }
    let g := s2.gains
    let ff := if s.rdB Obj.SV_FF_EN then y else 0
    let raw := ff - (g.1 * es + g.2 * acc) * 2 ^ 48
    let want := if s2.hostGoverns time then ((s2.hd.swl.rate.getD 0 : Int) : Rat) else raw
    let l := s2.limits y want
    ((s2.limitFlags l).wr Obj.SV_INTEG (ratTrunc (-(g.2 * acc) * 2 ^ 48)), some l.1, l.2)

/-! What an update hands to Time-error bound (R156, Table 7-1). -/

/-- The channel whose CH_DRIFT counts for slot `n` (Table 3-1, Table 7-1): none for slots 16–19 and for SyncE. -/
def State.termChannel (s : State) (n : Nat) : Option Nat :=
  if n < 8 then some n
  else match n with
    | 20 => some 10
    | 21 => some 11
    | 22 => some 44
    | 23 => (List.range 8).find? s.composite
    | _ => none

/-- The CH_DRIFT part of m_i of slot `n`, in bound units: none while it is unknown (Table 7-1). -/
def State.termDrift (s : State) (n : Nat) : Option Rat :=
  match s.termChannel n with
  | none => some 0
  | some c =>
    let d := s.rdN (Obj.CH_DRIFT c)
    if d = 0xFFFFFFFF then none else some ((d : Rat) / 1000000 * 256)

/-- U_i of slot `n`: none while it is unbounded (Table 7-1). -/
def State.termRef (s : State) (n : Nat) : Option Rat :=
  let u := s.rdN (Obj.SLOT_UNC_RX n)
  if u = 0xFFFFFFFF then none
  else some ((u : Rat) + if 16 ≤ n ∧ n < 20 then ((s.rdN Obj.TEB_PKT_ASYM : Nat) : Rat) else 0)

/-- Herd updates: enabled, its configuration good, its timescale running (R125, R131, R143). -/
def State.herdRuns (s : State) : Bool :=
  s.rdB Obj.HD_ENABLE && !s.unsafeBlock 4 && s.clk.running && !s.clk.frozen

/-- LO-A is tuned, with the time set given (R116, R131). -/
def State.tunes (s : State) (time : List Nat) : Bool :=
  s.rdB Obj.LOA_TUNE_EN && s.base == 0 && !time.isEmpty && s.herdRuns &&
    (s.mode == 4 || s.mode == 5 || s.mode == 7 || s.mode == 8)

/-- Every condition of R114 holds at an update. -/
def State.reverts (s : State) (time : List Nat) : Bool :=
  s.rdB Obj.LO_REVERT && s.base == 1 && s.hd.loA.serving &&
    decide (s.hd.loA.since48 + s.rdN Obj.LO_REVERT_HOLD * sec48 ≤ s.up48) && (s.channel 8).state == .run && !time.isEmpty

/-- The history that R108 looks back into, with the state of this update: what lies before HD_DET_WIN ahead of the present,
or of the onset of an ambiguity, is kept no longer. -/
def State.keptHistory (s : State) (at48 : Nat) (m : LoModel) : List LoModel :=
  let from48 : Int := (match s.hd.ambiguity with | some g => min g.onset48 at48 | none => at48 : Nat)
  let cut := from48 - s.rdN Obj.HD_DET_WIN * sec48
  let old := s.hd.history.filter fun m => decide (m.t48 ≤ cut)
  old.getLast?.toList ++ (s.hd.history.filter fun m => decide (cut < m.t48)) ++ [m]

/-- The time-keeping part of an update: ensemble, base filter, path, servo, reports and record (R105, R117 to R128). With an empty
frequency set the frequency that the path follows is the LO model's (log entry 110). -/
def State.updateServo (sIn : State) (at48 : Nat) : State :=
  let s := sIn.pathAdvance
  let t := s.formTime
  let f := s.formFreq t
  let time := s.members at48 t
  let freq := s.members at48 f
  let w := s.updateWeights time false
  let u := s.updateWeights freq true
  let x := weighted w (time.map fun m => (m.n, m.x))
  let yE := weighted u (freq.map fun m => (m.n, m.y))
  let dE := weighted u (freq.map fun m => (m.n, m.d))
  let has := !t.isEmpty
  let ens : LoModel := { t48 := at48, x := x, y := yE, d := dE }
  let varOf := fun (g : Member → Rat) => ratSum (u.map fun e =>
    e.2 * e.2 * entry (freq.map fun m => (m.n, g m)) e.1)
  let hist := s.keptHistory at48 { ens with x := s.loaFreq at48 }
  let follow := s.follow t f
  let s2 := s.assistUpdate follow t at48
  let s3 : State := { s2 with hd := { s2.hd with
    model := if has then some ens else s2.hd.model,
    heldModel := if !has then none else if s.hd.timeSet.isEmpty then s2.hd.model else s.hd.heldModel,
    ensemble := if has || !f.isEmpty then some ens else none,
    varY := if has then varOf (·.pyy) else s2.hd.varY,
    varD := if has then varOf (·.pdd) else s2.hd.varD,
    history := if has then hist else s2.hd.history,
    everTimed := s2.hd.everTimed || has,
    timed80 := if has then some s.now80 else s2.hd.timed80,
    setChange := s.hd.timeSet != t || s.hd.freqSet != f } }
  let lead : Rat := (s.lead48 : Rat) / 2 ^ 32
  let fp := s3.pathUpdate f u at48 (if has then some x else none)
    (if f.isEmpty then (match s3.hd.model with | some m => m.freq at48 | none => 0) else yE)
  let target : Option (Rat × Rat) := match follow with
    | .ensemble => some (x, yE)
    | .model => s3.hd.model.map fun m => (m.phase at48, m.freq at48)
    | .assist => s3.hd.assist.map fun a => (a.x, ((fp.2 : Int) : Rat))
    | .nothing => none
  let y := match target with | some p => p.2 | none => yE
  let e := target.map fun p => lead - p.1
  let sv := fp.1.servo t f follow (e.getD 0) y fp.2
  let xR := if has then some x else target.map (·.1)
  let yR := if f.isEmpty then y else yE
  let eR := match xR with | some p => lead - p | none => 0
  let sig := sqrtUp (ratSum (w.map fun p => p.2 * p.2 * entry (time.map fun m => (m.n, m.v)) p.1))
  let s4 := (((sv.1.wr Obj.HD_ENS_PHASE eR.floor).wr Obj.HD_ENS_FREQ (ratTrunc yR)).wr Obj.HD_ENS_DRIFT
    (ratTrunc dE)).wrN Obj.HD_ENS_SIGMA (if has then boundUnits (boundOfPhase sig) else 0xFFFFFFFF)
  let s5 := s4.forEach (l := List.range 24) (p := State.reportSlot time xR yR at48)
  let status := putBit (putBit (putBit (s5.rdN Obj.HD_STATUS) 10 (follow == .assist)) 9 (follow == .model)) 8
    (s5.hostGoverns t)
  let rate := sv.2.1.getD s.ctl.slew.rateWord
  let amb := match s5.hd.ambiguity, time with
    | some _, [a, b] => boundOfPhase (ratAbs (a.x - b.x) / 2)
    | _, _ => 0
  let place := s.mode == Mode.ACQUIRE && has && (!s.rdB Obj.TS_VALID ||
    (s.rdB Obj.TS_STEP_ALLOWED && !s.unsafeBlock 10 && !s.ctl.eval.autoStepped &&
      decide (phaseOfNs (s.rdN Obj.TS_STEP_MIN : Rat) < ratAbs (e.getD 0))))
  let eff : HerdEffect :=
    { due48 := s.up48 + ms48 1, timeSet := t, freqSet := f, wTime := w, wFreq := u, rate := sv.2.1, fpWord := fp.2,
      step48 := if place then some (-(e.getD 0) * 2 ^ 32).floor else none, e := e,
      eHeld := s5.hd.heldModel.map fun m => lead - m.phase at48,
      vars := time.map fun m => (m.n, ratMax m.pxx m.s2), amb := amb,
      drift := ((List.range 24).map fun n => s5.rdN (Obj.HD_DRIFT_EFFECT n)).foldl max 0, model := follow == .model,
      assisted := follow == .assist, sigmaY := sqrtUp s5.hd.varY, sigmaD := sqrtUp s5.hd.varD,
      switched := s5.hd.switched, refs := t.map fun n => (n, s5.termRef n), drifts := t.map fun n => (n, s5.termDrift n),
      revert := s5.reverts t, tune := if s5.tunes t then s5.hd.tune.toSend else none, tebIn := s5.tebObjects }
  let hd : Herd := { s5.hd with
    effect := some eff, switched := s5.hd.switched || eff.revert, tuned := eff.tune.isSome,
    tune := { s5.hd.tune with toSend := none } }
  let s6 : State := { s5.wrN Obj.HD_STATUS status with hd := hd }
  let wants := s6.rdN Obj.HD_LOOP_MODE == 1 || s6.rdB Obj.HD_RING21_EN
  let s7 := s6.when wants
    (·.writeHerdRecord (s6.herdRecord rate t f (s6.recordFlags sv.2.2 follow (s6.hostGoverns t))))
  { s7 with hd := { s7.hd with switched := false, tuned := false } }

/-- What the service evaluation counts at an update that Herd makes (R33, R34). -/
def State.countWithin (s : State) : State :=
  let within := decide (s.bound ≤ s.rdN Obj.TEB_THR_LOCKED)
  let m := s.mode
  let counting := m = Mode.ACQUIRE ∨ m = Mode.LOCKED ∨ m = Mode.STANDBY
  let run := if !within || !decide counting then none
    else some (match s.ctl.eval.withinRun with | some n => n + 1 | none => 0)
  let ready := match run with
    | some n => s.ctl.eval.holdoverReady || decide (64 * s.rdN Obj.MODE_LOCK_DWELL ≤ n)
    | none => s.ctl.eval.holdoverReady
  { s with ctl := { s.ctl with eval := { s.ctl.eval with
      withinRun := run, holdoverReady := ready, overCount := if within then 0 else s.ctl.eval.overCount + 1 } } }

/-- A word of block 4 that is being restored is held, and so is Herd as R125 states (R131). -/
def State.herdHeld (s : State) : State := s.cond Src.HD_UPDATE_MISS true

/-- The hand-over of an update that is missing: no set, every word held, a tuning step that waits too; the bound goes on by the
model (R125). -/
def State.missedUpdate (s : State) : State :=
  let m := s.hd.model
  let lead : Rat := (s.lead48 : Rat) / 2 ^ 32
  let eff : HerdEffect :=
    { due48 := s.up48 + ms48 1, timeSet := [], freqSet := [], wTime := [], wFreq := [], rate := none,
      fpWord := s.rd Obj.FP_WORD, step48 := none, e := m.map fun m => lead - m.phase s.base48, eHeld := none, vars := [], amb := 0,
      drift := 0, model := m.isSome, assisted := false, sigmaY := sqrtUp s.hd.varY, sigmaD := sqrtUp s.hd.varD,
      switched := s.hd.switched, refs := [], drifts := [], revert := false, tune := none,
      tebIn := s.tebObjects }
  { s with hd := { s.hd with effect := some eff, limited := false, tune := { s.hd.tune with toSend := none } } }

/-- The loop closes at this update (R127). -/
def State.closingUpdate (s : State) : State :=
  s.when (s.hd.swl.closing && s.rdN Obj.HD_LOOP_MODE == 1) fun s => (s.hw Obj.HD_LOOP_MODE 0).raise Src.HD_SWL_TIMEOUT

/-- One Herd update at the present instant (R98). -/
def State.herdUpdate (s : State) (synce : List (Fin 8 × Int)) : State :=
  if !s.herdRuns then s.missedUpdate
  else
    let at48 := s.base48
    let s1 := (((s.bump Obj.HD_UPDATE).count 0x003 1).cond Src.HD_UPDATE_MISS false).closingUpdate.bookRamp
    let s2 := (s1.loFilters at48).updateSlots synce at48
    (s2.updateServo at48).countWithin

/-- The next update instant: S + k × 15,625,000 ns, this cycle's where it has not been executed (R98, R142). -/
def State.nextUpdate (s : State) : Nat := s.nextPeriodic 15625000 s.clk.update80

/-- The update instant `t80` is past. -/
def State.updateDone (s : State) (t80 : Nat) : State := { s with clk := { s.clk with update80 := some t80 } }

/-- HERD_UPDATE: the next update instant is reached (R98), and the service is evaluated (R33). -/
def execHerdUpdate (synce : List (Fin 8 × Int)) (s : State) : Host.Outcome State Fault Refusal :=
  match s.reach s.nextUpdate with
  | none => .next s
  | some s1 => .next ((s1.updateDone s.nextUpdate).herdUpdate synce).close

/-- HERD_UPDATE_MISS: two consecutive updates are missing (31.25 ms); the words are held, and the source is raised
(R125, Table 1-6). -/
def execHerdUpdateMiss (s : State) : Host.Outcome State Fault Refusal :=
  match s.reach (s.nextUpdate + 15625000) with
  | none => .next s
  | some s1 => .next ((s1.updateDone (s.nextUpdate + 15625000)).missedUpdate.cond Src.HD_UPDATE_MISS true).close

/-- The effect of a write of HD_ENABLE (R125): 0 stops Herd and holds its words; 1 lets it resume at the next update,
which ends the source. -/
def State.setHdEnable (s : State) (v : Bool) : State :=
  (s.wr Obj.HD_ENABLE (flag v)).when (!v) State.herdHeld

/-- HD_ENABLE_WRITE (R125). -/
def execHdEnableWrite (v : Bool) (s : State) : Host.Outcome State Fault Refusal :=
  s.orHeld 4 .custodian .pcie Obj.HD_ENABLE [flag8 v] [] <|
    .next (s.setHdEnable v).close

end Sys2Proof.Machine
end

