-- ==== Sys2Proof/Machine/Synth.lean ====
section
/-! DEFINITION. Fractional output synthesisers, clock outputs (R183 to R189). -/

namespace Sys2Proof.Machine

/-! The synthesisers. -/

/-- A FOS starts: its word is computed without a remainder, its seed is loaded, and it acquires (R183 to R185). -/
def State.fosStart (s : State) (f : Nat) : State :=
  ((s.setFos f { Fos.reset with seed := s.rdN (Obj.FOS_SEED f), seeded := s.clk.cycles + s.clk.frozenCycles }).fosCompute f).fosTo f 1

/-- A write of FOS_EN (R184, R185). -/
def State.setFosEn (s : State) (f : Nat) (v : Bool) : State :=
  let old := s.rdB (Obj.FOS_EN f)
  let s1 := s.wr (Obj.FOS_EN f) (flag v)
  if v && !old then
    s1.fosStart f
  else if !v then (s1.fosTo f 0).cond (Src.FOS_LOL f) false
  else s1

/-- FOS_EN_WRITE (R184). -/
def execFosEnWrite (f : Fin 8) (v : Bool) (s : State) : Host.Outcome State Fault Refusal :=
  s.orHeld 5 .custodian .pcie (Obj.FOS_EN f) [flag8 v] [] <|
    .next (s.setFosEn f v).settle

/-- A write of FOS_FREQ: judged by its range, tracked or relocked, and realigned (R184, R188). -/
def State.setFosFreq (s : State) (f v : Nat) : State :=
  if v < 4800000000000000 ∨ 5600000000000000 < v then s.rangeReject 5 (Obj.FOS_FREQ f).key
  else
    let s1 := s.wrN (Obj.FOS_FREQ f) v
    if s.fosState f = 0 then s1
    else
      let s2 := s1.fosFollow f
      s2.when (decide (2 ≤ s2.fosState f)) (·.fosTo f 2)

/-- FOS_FREQ_WRITE (R184). -/
def execFosFreqWrite (f : Fin 8) (microHz : Nat) (s : State) : Host.Outcome State Fault Refusal :=
  s.orHeld 5 .custodian .pcie (Obj.FOS_FREQ f) (leBytes 8 microHz) [] <|
    .next (s.setFosFreq f microHz).settle

/-- The lock of a FOS: at a relock its seed is loaded again, and the relock that a jump of the word called for is reported
(R184, R185, Table 8-7). -/
def State.fosLocked (s : State) (f : Nat) : State :=
  let x := s.fosOf f
  let s1 := (s.wrN (Obj.FOS_STATE f) 2).cond (Src.FOS_LOL f) false
  let y : Fos := if x.again then
      { x with seed := s.rdN (Obj.FOS_SEED f), seeded := s.clk.cycles + s.clk.frozenCycles }
    else x
  (s1.setFos f { y with relock := false, again := false }).when x.relock fun s => (s.stick Obj.SYN_STATUS 4).raise Src.FOS_RELOCK

/-- FOS_LOCK: a FOS that acquires declares lock (R179). -/
def execFosLock (f : Fin 8) (s : State) : Host.Outcome State Fault Refusal :=
  if s.fosState f ≠ 1 then .next s else .next (s.fosLocked f).settle

/-- What a FOS's modulator is driven with: its word, and with FOS_DITHER the register's ±1 (R183, R185). -/
def State.mashInput (s : State) (f : Nat) : Int :=
  let n := (s.clk.cycles + s.clk.frozenCycles - (s.fosOf f).seeded) / 4
  s.rd (Obj.FOS_WORD f) + if s.rdB (Obj.FOS_DITHER f) then (if Config.dither (s.fosOf f).seed n then 1 else -1) else 0

/-- FOS_LOSS_OF_LOCK: uncommanded, in a FOS that is locked (R202). -/
def execFosLossOfLock (f : Fin 8) (s : State) : Host.Outcome State Fault Refusal :=
  if s.fosState f < 2 then .next s
  else .next (((s.fosTo f 1).setFos f { (s.fosTo f 1).fosOf f with again := true }).cond (Src.FOS_LOL f) true).settle

/-! Alignment (R188). -/

/-- The outputs of a FOS that are enabled with ALIGN. -/
def State.alignedOuts (s : State) (f : Nat) : List Nat :=
  (List.range 16).filter fun n => s.rdB (Obj.OUT_EN n) && s.outAlign n && s.outFos n == f

/-- Where the first edge of an ALIGN output lies behind the second: its period less OUT_OFFSET, as VCO periods of the
divider's start and 2^-9 ns steps of the fine delay (R189; log entry 87). Both products are in 2^-16 ns times FOS_FREQ. -/
def State.outDelay (s : State) (n : Nat) : Nat × Nat :=
  let freq := s.rdN (Obj.FOS_FREQ (s.outFos n))
  let vco : Nat := 65536 * 10 ^ 15
  let d := ((-(s.rd (Obj.OUT_OFFSET n) * freq)) % ((s.rdN (Obj.OUT_DIV n) * vco : Nat) : Int)).toNat
  (d / vco, d % vco / (128 * freq))

/-- An output whose divider starts; with LB_EN at 0, on an ALIGNED FOS, it is in RUN at once. -/
def State.outStart (s : State) (n : Nat) : State :=
  let x := s.outOf n
  let free := !bitOn (s.rdN (Obj.OUT_CFG n)) 18 && s.fosState (s.outFos n) == 3
  let d := s.outDelay n
  s.when (!x.started) (·.setOut n { x with started := true, run := x.run || free, coarse := d.1, fine := d.2 })

/-- The second boundary at one FOS: a locked one restarts its dividers and begins its residual slew; an aligned one
starts the outputs that have joined. -/
def State.fosBoundary (s : State) (f : Nat) : State :=
  let join := fun (s : State) => s.forEach (l := s.alignedOuts f) (p := State.outStart)
  if s.fosState f = 2 then
    let x := s.fosOf f
    if x.aligning then s else join (s.setFos f { x with aligning := true })
  else if s.fosState f = 3 then join s
  else s

/-- FOS_ALIGN_COMPLETE: the residual slew is complete; outputs without loop-back checks enter RUN. -/
def execFosAlignComplete (f : Fin 8) (s : State) : Host.Outcome State Fault Refusal :=
  if s.fosState f ≠ 2 ∨ (s.fosOf f).aligning = false then .next s
  else
    let s1 := (s.setFos f { s.fosOf f with aligning := false }).wrN (Obj.FOS_STATE f) 3
    .next (s1.forEach (l := s1.alignedOuts f) (p := fun s n =>
      let x := s.outOf n
      s.when (x.started && !bitOn (s.rdN (Obj.OUT_CFG n)) 18) (·.setOut n { x with run := true }))).settle

/-- A step by `d48` that is not a whole number of VCO periods takes a FOS out of ALIGNED (R188). -/
def State.fosStep (s : State) (d48 : Int) : State :=
  s.forEach (l := List.range 8) (p := fun s f =>
    let periods : Rat := (d48 : Rat) * (s.rdN (Obj.FOS_FREQ f) : Rat) / (1000000000000000 * 2 ^ 48)
    s.when (decide (2 ≤ s.fosState f) && periods.den != 1) (·.fosTo f 2))

/-! Clock outputs (R186). -/

/-- The checks of OUT_EN 0→1 (R186). -/
def State.outGood (s : State) (n : Nat) : Bool :=
  let cfg := s.rdN (Obj.OUT_CFG n)
  let f := s.outFos n
  let freq := s.rdN (Obj.FOS_FREQ f)
  let div := s.rdN (Obj.OUT_DIV n)
  let fmt := bitsAt cfg 8 4
  let limit := if fmt = 4 ∨ fmt = 5 then 250000000000000 else 1250000000000000
  s.rdB (Obj.FOS_EN f) && decide (fmt ≤ 5) && decide (freq ≤ limit * div) &&
    (!s.outAlign n || (s.rdN (Obj.FOS_FOLLOW f) == 1 && freq % 1000000 == 0 && freq / 1000000 % div == 0))

/-- A block reset of synthesis clears what an output holds; its swing waits for its next enable (R45, R186, R200). -/
def State.outCleared (s : State) (n : Nat) : State :=
  (s.setOut n { Output.reset with swing := (s.outOf n).swing }).cond (Src.OUT_LB_FAIL n) false

/-- A write of OUT_EN (R186). -/
def State.setOutEn (s : State) (n : Nat) (v : Bool) : State :=
  if !v then ((s.wr (Obj.OUT_EN n) 0).setOut n Output.reset).cond (Src.OUT_LB_FAIL n) false
  else if s.rdB (Obj.OUT_EN n) then s
  else if s.outGood n then (s.wr (Obj.OUT_EN n) 1).setOut n { Output.reset with swing := s.rdB (Obj.OUT_HISWING n) }
  else s.rangeReject 5 (Obj.OUT_EN n).key

/-- OUT_EN_WRITE (R186). -/
def execOutEnWrite (o : Fin 16) (v : Bool) (s : State) : Host.Outcome State Fault Refusal :=
  s.orHeld 5 .custodian .pcie (Obj.OUT_EN o) [flag8 v] [] <|
    .next (s.setOutEn o v).settle

end Sys2Proof.Machine
end

