-- ==== Sys2Proof/Machine/Events.lean ====
section
/-! DEFINITION. Event generators, their queues and programmes, aligned groups, and loop-back checks (R190 to R198, R200). -/

namespace Sys2Proof.Machine

/-- The generator runs a programme (Table 8-3). -/
def State.evtProgramme (s : State) (e : Nat) : Bool := bitOn (s.rdN (Obj.EVT_CFG e)) 0

/-! Instants. -/

/-- The UTC offset in force at UTC instant `u` (2^-32 ns), by the offset and the pending leap known now (R148). -/
def State.offsetAt (s : State) (u : Nat) : Int :=
  let o := s.rd Obj.UTC_OFFSET
  let leap := s.rdN Obj.UTC_LEAP_PEND
  let o1 : Int := if leap = 1 then o + 1 else o - 1
  if leap ≠ 0 ∧ (s.rdN Obj.UTC_LEAP_AT : Int) - o1 * giga ≤ ((u / 2 ^ 32 : Nat) : Int) then o1 else o

/-- The TAI instant of an entry, in 2^-32 ns; a UTC one is resolved until its first edge has come (R148). -/
def State.entryAt32 (s : State) (e : Nat) (x : EvEntry) : Int :=
  if bitOn (s.rdN (Obj.EVT_CFG e)) 8 && !x.begun then (x.at112 : Int) + s.offsetAt x.at112 * giga * 2 ^ 32 else x.at112

/-- The last edge of an entry (R192). -/
def State.entryEnd32 (s : State) (e : Nat) (x : EvEntry) : Int :=
  s.entryAt32 e x + if x.kind = 1 then (x.width9 : Int) * 2 ^ 23 else 0

/-- An entry whose instant is resolved for good. -/
def State.resolved (s : State) (e : Nat) (x : EvEntry) : EvEntry := { x with at112 := (s.entryAt32 e x).toNat, begun := true }

/-- An instant in 2^-32 ns at the ball: less EVT_OFFSET, in 2^-9 ns, truncated (R6, R190). -/
def State.ball9 (s : State) (e : Nat) (at32 : Int) : Int := (at32 - s.rd (Obj.EVT_OFFSET e) * 65536) / 2 ^ 23

/-- The k-th instant of a recurrence of S / N seconds from `base9` (R194). -/
def recur9 (base9 S N k : Nat) : Nat := base9 + k * S * 512000000000 / N

/-- The number of the first instant of a recurrence not earlier than `t9`. -/
def firstFrom (base9 S N : Nat) (t9 : Int) : Nat :=
  let d := (t9 - base9).toNat
  let k := d * N / (S * 512000000000)
  if ((recur9 base9 S N k : Nat) : Int) < t9 then k + 1 else k

/-! Groups (R195). -/

/-- The enabled group that generator `e` belongs to. -/
def State.groupOf (s : State) (e : Nat) : Option Nat :=
  (List.range 4).find? fun g => s.rdB (Obj.GRP_EN g) && bitOn (s.rdN (Obj.GRP_MEMBERS g)) e

/-- The start of a group, in 2^-9 ns. -/
def State.groupStart9 (s : State) (g : Nat) : Nat := s.rdN (Obj.GRP_START g) * 512

/-- Boundary `j` of a group. -/
def State.boundary9 (s : State) (g j : Nat) : Nat :=
  recur9 (s.groupStart9 g) (s.rdN (Obj.GRP_S g)) (s.rdN (Obj.GRP_N g)) j

/-- The number of the group's first boundary not earlier than `t9`. -/
def State.boundaryFrom (s : State) (g : Nat) (t9 : Int) : Nat :=
  firstFrom (s.groupStart9 g) (s.rdN (Obj.GRP_S g)) (s.rdN (Obj.GRP_N g)) t9

/-- The number of the group's next boundary. -/
def State.groupNext (s : State) (g : Nat) : Nat := SMap.get 0 s.ev.groups g

/-- The state with the number of a group's next boundary set. -/
def State.setGroupNext (s : State) (g j : Nat) : State :=
  { s with ev := { s.ev with groups := SMap.put 0 s.ev.groups g j } }

/-! Edges. -/

/-- The pin takes its active or idle level by an edge that leaves the ball at `ball9`, which is counted (R190, Table 17-8). -/
def State.drive (s : State) (e : Nat) (active : Bool) (ball9 : Nat) : State :=
  let x := s.evt e
  if x.active = active then s
  else ((s.setEvt e { x with active := active }).emit (.eventEdge e active ball9)).count (0x1C0 + e) 1

/-- The pin returns to idle without an edge of its own. -/
def State.toIdle (s : State) (e : Nat) : State :=
  let x := s.evt e
  if x.active then (s.setEvt e { x with active := false }).emit (.eventEdge e false s.now9) else s

/-- An entry is discarded late: counted, LATE_DROP, the source (R193, R195, R196). -/
def State.lateDrop (s : State) (e : Nat) : State :=
  (((s.bump (Obj.EVT_LATE_DROP e)).count 0x1D1 1).stick Obj.EV_STATUS 4).raise Src.EVT_LATE_DROP

/-- An entry is consumed under squelch (R193). -/
def State.suppress (s : State) (e : Nat) : State := (s.bump (Obj.EVT_SUPPR e)).count 0x1D1 1

/-- The head of a generator's queue leaves it. -/
def State.popEntry (s : State) (e : Nat) : State :=
  let x := s.evt e
  s.setEvt e { x with queue := x.queue.tail, last := (x.queue.head?.map (s.resolved e)).or x.last }

/-- An underrun notice (Table 15-10). -/
def State.underrunNotice (s : State) (g e kind at9 : Nat) : State :=
  s.notice 7 0x5550 (g + 1) ([oct g, oct e, oct kind, 0] ++ time80Bytes (at9 / 512))

/-- A member rejoins its group at boundary `b9` (R196). -/
def State.rejoin (s : State) (g e b9 : Nat) : State :=
  let x := s.evt e
  let r := Obj.GRP_UNDERRUN g
  (((s.setEvt e { x with rejoin9 := none }).wrN (Obj.EVT_STATE e) 2).wrN r (clearBit (s.rdN r) e)).underrunNotice g e 1 b9

/-! Enable, calibration, queue. -/

/-- The queue is emptied (R191, R192); a pulse in progress returns to idle (log entry 16). -/
def State.flush (s : State) (e : Nat) : State :=
  let s1 := s.toIdle e
  s1.setEvt e { s1.evt e with queue := [], last := none }

/-- A generator is OFF: its queue is flushed, and its group no longer counts it in UNDERRUN (R191). -/
def State.evtStop (s : State) (e : Nat) : State :=
  let s1 := (s.flush e).wrN (Obj.EVT_STATE e) 0
  let s2 := (s1.setEvt e Evt.reset).cond (Src.EVT_LB_FAIL e) false
  s2.forEach (l := List.range 4) (p := fun s g =>
    s.wrN (Obj.GRP_UNDERRUN g) (clearBit (s.rdN (Obj.GRP_UNDERRUN g)) e))

/-- A write of 0 to EVT_EN (R191). -/
def State.evtOff (s : State) (e : Nat) : State := (s.wr (Obj.EVT_EN e) 0).evtStop e

/-- The check of a programme: width, and period less width, of at least 2 ns (R194), and, as at the write of the phase, a phase below
one period (Table 8-6; log entry 115). -/
def State.programmeGood (s : State) (e : Nat) : Bool :=
  let w := s.rdN (Obj.EVT_PRG_WIDTH e)
  let n := s.rdN (Obj.EVT_PRG_N e)
  let per := s.rdN (Obj.EVT_PRG_S e) * 512000000000
  decide (1024 ≤ w) && decide ((w + 1024) * n ≤ per) && decide (s.rdN (Obj.EVT_PRG_PHASE e) * n < per)

/-- A write of EVT_EN (R191, R194, R200): 0→1 is judged and begins the calibration, and so does a 1 written to a generator
that a block reset left OFF. -/
def State.setEvtEn (s : State) (e : Nat) (v : Bool) : State :=
  if !v then s.evtOff e
  else if s.rdB (Obj.EVT_EN e) && s.evtState e != 0 then s
  else if !s.rdB Obj.EV_ENABLE || (s.evtProgramme e && !s.programmeGood e) then s.rangeReject 6 (Obj.EVT_EN e).key
  else
    let x := s.evt e
    ((s.wr (Obj.EVT_EN e) 1).wrN (Obj.EVT_STATE e) 1).setEvt e { x with calStart48 := s.up48, lb := Loopback.reset }

/-- EVT_EN_WRITE (R191). -/
def execEvtEnWrite (e : Fin 16) (v : Bool) (s : State) : Host.Outcome State Fault Refusal :=
  s.orHeld 6 .custodian .pcie (Obj.EVT_EN e) [flag8 v] [] <|
    .next (s.setEvtEn e v).settle

/-- The programme's first edge from now on: its start is its own, or its group's (R194, R195). -/
def State.programmeBase9 (s : State) (e : Nat) : Nat :=
  let start := match s.groupOf e with
    | some g => s.rdN (Obj.GRP_START g)
    | none => s.rdN (Obj.EVT_PRG_START e)
  start * 512 + s.rdN (Obj.EVT_PRG_PHASE e)

/-- The programme takes up at the first edge whose ball instant is not past (R193, R194). -/
def State.anchor (s : State) (e : Nat) : State :=
  let x := s.evt e
  let from9 : Int := s.now9 + (s.rd (Obj.EVT_OFFSET e) + 127) / 128
  s.setEvt e { x with falling := false,
                      edge := firstFrom (s.programmeBase9 e) (s.rdN (Obj.EVT_PRG_S e)) (s.rdN (Obj.EVT_PRG_N e)) from9 }

/-- EVT_CAL_COMPLETE: the 16 ms of calibration end in RUN, or in FAULT where a table step is bad or channel 45 is not in
RUN (R191). -/
def execEvtCalComplete (e : Fin 16) (tableGood : Bool) (s : State) : Host.Outcome State Fault Refusal :=
  if s.evtState e ≠ 1 then .next s
  else match s.runTo ((s.evt e).calStart48 + ms48 16) with
    | none => .next s
    | some s1 =>
      if tableGood && (s1.channel 45).state == .run then
        let s2 := s1.wrN (Obj.EVT_STATE e) 2
        .next (s2.when (s2.evtProgramme e) (·.anchor e)).settle
      else .next ((s1.wrN (Obj.EVT_STATE e) 4).raise Src.EVT_CAL_FAIL).settle

/-- The staged entry of a link (R192). -/
def State.staged (s : State) (l : Link) (e : Nat) : EvEntry :=
  { at112 := s.rdN (Obj.EVT_ENT_AT (linkCode l) e), kind := s.rdN (Obj.EVT_ENT_KIND (linkCode l) e),
    width9 := s.rdN (Obj.EVT_ENT_WIDTH (linkCode l) e), begun := false }

/-- The outcome of a push: OK 0, FULL 1, ORDER 2, LATE 3, RANGE 4, MODE 5 (R192). Where several apply, the first of
MODE, RANGE, FULL, LATE and ORDER is reported (log entry 17). -/
def State.pushResult (s : State) (e : Nat) (x : EvEntry) : Nat :=
  let at32 := s.entryAt32 e x
  if s.evtProgramme e then 5
  else if x.kind = 0 ∨ (x.kind = 1 ∧ x.width9 < 1024) then 4
  else if 64 ≤ (s.evt e).queue.length then 1
  else if at32 * 2 ^ 16 < s.now48 + 2000 * ns48 then 3
  else match (s.evt e).queue.getLast?.or (s.evt e).last with
    | some y => if at32 < s.entryEnd32 e y + 2 * 2 ^ 32 then 2 else 0
    | none => 0

/-- The effect of a 1 written to EVT_ENT_PUSH (R192); a push that refills an UNDERRUN member sets the boundary at which
it rejoins (R196). -/
def State.push (s : State) (l : Link) (e : Nat) : State :=
  let x := s.staged l e
  let r := s.pushResult e x
  let s1 := s.wrN (Obj.EVT_PUSH_RESULT (linkCode l) e) r
  if r ≠ 0 then s1.stick Obj.EV_STATUS 2
  else
    let g := s.evt e
    let back := match s.groupOf e with
      | some k => if s.evtState e = 3 ∧ g.rejoin9 = none then some (s.boundary9 k (s.boundaryFrom k (s.now9 + 1))) else g.rejoin9
      | none => g.rejoin9
    s1.setEvt e { g with queue := g.queue ++ [x], rejoin9 := back }

/-- EVT_ENT_PUSH (R192). -/
def execEvtEntPush (link : Link) (e : Fin 16) (s : State) : Host.Outcome State Fault Refusal :=
  s.orHeld 6 .custodian link (Obj.EVT_ENT_PUSH e) [1] [] <|
    .next (s.push link e).settle

/-- EVT_Q_FLUSH (R192). -/
def execEvtQFlush (e : Fin 16) (s : State) : Host.Outcome State Fault Refusal :=
  s.orHeld 6 .custodian .pcie (Obj.EVT_Q_FLUSH e) [1] [] <|
    .next (s.flush e).settle

/-- What the head entry's first edge comes to at its instant (R193, R195, R196). An entry whose instant passes in OFF is late (log
entry 114). -/
def State.headEdge (s : State) (e : Nat) (x : EvEntry) : State :=
  let at9 := (s.entryAt32 e x / 2 ^ 23).toNat
  let b9 := (s.ball9 e (s.entryAt32 e x)).toNat
  let st := s.evtState e
  let g := s.groupOf e
  let back := match (s.evt e).rejoin9 with
    | some b => decide (b ≤ at9)
    | none => false
  let early := match g with
    | some k => decide (at9 < s.groupStart9 k)
    | none => false
  if st = 3 ∧ back = false then (s.popEntry e).lateDrop e
  else
    let s1 := match g with
      | some k => s.when (st == 3) (·.rejoin k e (((s.evt e).rejoin9).getD at9))
      | none => s
    if st = 0 ∨ st = 1 ∨ early = true then (s1.popEntry e).lateDrop e
    else if s1.evtCauses e ≠ 0 then (s1.popEntry e).suppress e
    else if x.kind = 1 then
      let s2 := s1.drive e true b9
      let y := s2.evt e
      s2.setEvt e { y with queue := s.resolved e x :: y.queue.tail }
    else (s1.drive e (x.kind == 2) b9).popEntry e

/-- EVT_QUEUE_EDGE: the next edge of the entry at the head of the queue (R193). An edge whose instant at the ball is past
is never executed. -/
def execEvtQueueEdge (e : Fin 16) (s : State) : Host.Outcome State Fault Refusal :=
  match (s.evt e).queue with
  | [] => .next s
  | x :: _ =>
    let b9 := s.ball9 e (if x.begun then s.entryEnd32 e x else s.entryAt32 e x)
    let due := (b9 / 512).toNat
    match s.reach due with
    | none => .next s
    | some s1 =>
      if x.begun then
        if due < s.now80 then .next ((s1.toIdle e).popEntry e).settle
        else .next ((s1.when (s1.evtCauses e == 0) (·.drive e false b9.toNat)).popEntry e).settle
      else if due < s.now80 then .next ((s1.popEntry e).lateDrop e).settle
      else .next (s1.headEdge e x).settle

/-- EVT_PROGRAMME_EDGE: the next active or returning edge of a programme (R194), suppressed under a squelch. One whose instant
is past is never executed, and the programme takes up again at the first that is not (R193). -/
def execEvtProgrammeEdge (e : Fin 16) (s : State) : Host.Outcome State Fault Refusal :=
  if s.evtState e ≠ 2 ∨ s.evtProgramme e = false then .next s
  else
    let x := s.evt e
    let rise := recur9 (s.programmeBase9 e) (s.rdN (Obj.EVT_PRG_S e)) (s.rdN (Obj.EVT_PRG_N e)) x.edge
    let at9 := rise + if x.falling then s.rdN (Obj.EVT_PRG_WIDTH e) else 0
    let b9 := s.ball9 e (at9 * 2 ^ 23)
    match s.reach (b9 / 512).toNat with
    | none => .next s
    | some s1 =>
      if (b9 / 512).toNat < s.now80 then .next ((s1.toIdle e).anchor e).settle
      else
      let s2 := s1.when (s1.evtCauses e == 0) (·.drive e (!x.falling) b9.toNat)
      let y := s2.evt e
      .next (s2.setEvt e { y with falling := !x.falling, edge := if x.falling then x.edge + 1 else x.edge }).settle

/-! Groups. -/

/-- The programmes of a group's members take up from its start, or again from their own (R195). -/
def State.regroup (s : State) (members : Nat) : State :=
  s.forEach (l := List.range 16) (p := fun s e =>
    s.when (bitOn members e && s.evtProgramme e && s.evtState e == 2) fun s => (s.toIdle e).anchor e)

/-- A write of 0 to GRP_EN: its members in UNDERRUN are free again. -/
def State.groupOff (s : State) (g : Nat) : State :=
  let members := s.rdN (Obj.GRP_MEMBERS g)
  let s1 := ((s.wr (Obj.GRP_EN g) 0).wrN (Obj.GRP_UNDERRUN g) 0).setGroupNext g 0
  (s1.forEach (l := List.range 16) (p := fun s e =>
    s.when (bitOn members e && s.evtState e == 3) fun s =>
      (s.setEvt e { s.evt e with rejoin9 := none }).wrN (Obj.EVT_STATE e) 2)).regroup members

/-- A write of GRP_EN (R195, R200). -/
def State.setGrpEn (s : State) (g : Nat) (v : Bool) : State :=
  let members := s.rdN (Obj.GRP_MEMBERS g)
  let clash := (List.range 4).any fun h => h != g && s.rdB (Obj.GRP_EN h) &&
    (s.rdN (Obj.GRP_MEMBERS h) &&& members) != 0
  if !v then (if s.rdB (Obj.GRP_EN g) then s.groupOff g else s)
  else if s.rdB (Obj.GRP_EN g) then s
  else if !s.rdB Obj.EV_ENABLE || clash || decide (s.rdN (Obj.GRP_START g) < s.now80 + 1000000) then
    s.rangeReject 6 (Obj.GRP_EN g).key
  else ((s.wr (Obj.GRP_EN g) 1).setGroupNext g 0).regroup members

/-- GRP_EN_WRITE (R195). -/
def execGrpEnWrite (g : Fin 4) (v : Bool) (s : State) : Host.Outcome State Fault Refusal :=
  s.orHeld 6 .custodian .pcie (Obj.GRP_EN g) [flag8 v] [] <|
    .next (s.setGrpEn g v).settle

/-- One member at a boundary instant: a refilled one rejoins, an empty one underruns (R196). -/
def State.memberBoundary (g b9 : Nat) (s : State) (e : Nat) : State :=
  let x := s.evt e
  if !bitOn (s.rdN (Obj.GRP_MEMBERS g)) e || s.evtProgramme e then s
  else if s.evtState e = 3 then
    match x.rejoin9 with
    | some r =>
      if b9 < r then s else if x.queue.isEmpty then s.setEvt e { x with rejoin9 := none } else s.rejoin g e b9
    | none => s
  else if s.evtState e = 2 ∧ x.queue.isEmpty = true then
    let r := Obj.GRP_UNDERRUN g
    ((((((s.toIdle e).wrN (Obj.EVT_STATE e) 3).wrN r (setBit (s.rdN r) e)).stick Obj.EV_STATUS 3).raise
      Src.EVT_UNDERRUN).count 0x1D0 1).underrunNotice g e 0 b9
  else s

/-- GROUP_BOUNDARY: the next boundary instant of a group (R196). -/
def execGroupBoundary (g : Fin 4) (s : State) : Host.Outcome State Fault Refusal :=
  if !s.rdB (Obj.GRP_EN g) then .next s
  else
    let j := s.groupNext g
    let b9 := s.boundary9 g j
    match s.reach (b9 / 512) with
    | none => .next s
    | some s1 =>
      .next ((s1.forEach (l := List.range 16) (p := State.memberBoundary g b9)).setGroupNext g (j + 1)).settle

/-- A write of EV_ENABLE: 0 clears every EVT_EN and GRP_EN (R200). -/
def State.setEvEnable (s : State) (v : Bool) : State :=
  let s1 := s.wr Obj.EV_ENABLE (flag v)
  if v then s1
  else
    let s2 := s1.forEach (l := List.range 4) (p := fun s g => s.setGrpEn g false)
    s2.forEach (l := List.range 16) (p := State.evtOff)

/-- EV_ENABLE_WRITE (R200). -/
def execEvEnableWrite (v : Bool) (s : State) : Host.Outcome State Fault Refusal :=
  s.orHeld 6 .custodian .pcie Obj.EV_ENABLE [flag8 v] [] <|
    .next (s.setEvEnable v).settle

/-! Loop-back checks (R197, R198). An output is numbered 0–15 for OUT, 16–31 for EVT. -/

/-- The output is covered: LB_EN, enabled, not squelched; an OUT only with ALIGN, ALIGNING or with a started divider, a generator in
RUN or UNDERRUN. -/
def State.lbCovered (s : State) (k : Nat) : Bool :=
  if k < 16 then
    bitOn (s.rdN (Obj.OUT_CFG k)) 18 && s.rdB (Obj.OUT_EN k) && s.outAlign k &&
      ((s.outOf k).started || s.outState k == 2) && s.outCauses k == 0
  else
    let e := k - 16
    let st := s.rdN (Obj.EVT_STATE e)
    bitOn (s.rdN (Obj.EVT_CFG e)) 12 && s.rdB (Obj.EVT_EN e) && (st == 2 || st == 3) && s.evtCauses e == 0

/-- The checks of output `k`. -/
def State.lbOf (s : State) (k : Nat) : Loopback := if k < 16 then (s.outOf k).lb else (s.evt (k - 16)).lb

/-- The state with the checks of output `k` replaced. -/
def State.setLb (s : State) (k : Nat) (x : Loopback) : State :=
  if k < 16 then s.setOut k { s.outOf k with lb := x } else s.setEvt (k - 16) { s.evt (k - 16) with lb := x }

/-- The output that the next gate opens for: first one that is ALIGNING, otherwise the next in order (R197). -/
def State.lbNext (s : State) : Option Nat :=
  let order := (List.range 32).map fun i => (s.syn.gate + 1 + i) % 32
  match order.find? fun k => decide (k < 16) && s.lbCovered k && s.outState k == 2 with
  | some k => some k
  | none => order.find? s.lbCovered

/-- The result of one check of output `k` (R188, R198). -/
def State.lbResult (s : State) (k : Nat) (pass : Bool) : State :=
  let x := s.lbOf k
  let limit := s.rdN Obj.LB_FAILS
  if pass then
    let s1 := s.setLb k { x with passes := x.passes + 1, fails := 0,
                                 failed := x.failed && (x.squelched || decide (x.passes + 1 < limit)) }
    let s2 := s1.when (x.failed && !(s1.lbOf k).failed)
      (·.cond (if k < 16 then Src.OUT_LB_FAIL k else Src.EVT_LB_FAIL (k - 16)) false)
    s2.when (decide (k < 16) && decide (1 ≤ x.passes) && s.fosState (s.outFos k) == 3)
      fun s => s.setOut k { s.outOf k with run := true }
  else
    let f := x.fails + 1
    let s1 := s.setLb k { x with passes := 0, fails := f }
    if f < limit ∨ x.failed = true then s1
    else
      let out := decide (k < 16)
      let sq := if out then bitOn (s.rdN (Obj.OUT_CFG k)) 17 else bitOn (s.rdN (Obj.EVT_CFG (k - 16))) 11
      ((s1.setLb k { s1.lbOf k with failed := true, squelched := sq }).stick
        (if out then Obj.SYN_STATUS else Obj.EV_STATUS) 2).cond
        (if out then Src.OUT_LB_FAIL k else Src.EVT_LB_FAIL (k - 16)) true |>.cutPulses

/-- A generator is in CAL, so checks pause (R191). -/
def State.calRunning (s : State) : Bool := (List.range 16).any fun e => s.rdN (Obj.EVT_STATE e) == 1

/-- The edge of an ALIGN output nearest `at16`, at the ball (R188, R189), in 2^-16 ns: its frequency is a whole number of hertz,
so it has an edge at every second, less OUT_OFFSET. -/
def State.outExpected (s : State) (n : Nat) (at16 : Int) : Int :=
  let hz : Int := (s.rdN (Obj.FOS_FREQ (s.outFos n)) / 1000000 / s.rdN (Obj.OUT_DIV n) : Nat)
  let sec : Int := giga * 65536
  let y := at16 + s.rd (Obj.OUT_OFFSET n)
  let j := (y % sec * hz + sec / 2) / sec
  y / sec * sec + j * sec / hz - s.rd (Obj.OUT_OFFSET n)

/-- The rising edges that a generator has before it, in order, at the ball and in 2^-9 ns: on an idle-high pin they are the
returning edges (R190, R193, R194, Table 8-3). -/
def State.evtRises (s : State) (e : Nat) : List Int :=
  let high := bitOn (s.rdN (Obj.EVT_CFG e)) 1
  let x := s.evt e
  if s.evtProgramme e then
    let k := if !high && x.falling then x.edge + 1 else x.edge
    let rise := recur9 (s.programmeBase9 e) (s.rdN (Obj.EVT_PRG_S e)) (s.rdN (Obj.EVT_PRG_N e)) k
    [s.ball9 e ((rise + if high then s.rdN (Obj.EVT_PRG_WIDTH e) else 0) * 2 ^ 23)]
  else x.queue.filterMap fun q =>
    if high then (if q.kind = 2 then none else some (s.ball9 e (s.entryEnd32 e q)))
    else if q.begun || q.kind == 3 then none
    else some (s.ball9 e (s.entryAt32 e q))

/-- The instant at the ball of the edge that a gate opened now checks, in 2^-16 ns, `at16` being its stamp; none where a QUEUE generator
has no rising edge within 1 ms, or a divider has not started (R197). -/
def State.lbExpected (s : State) (k : Nat) (at16 : Int) : Option Int :=
  if k < 16 then (if (s.outOf k).started then some (s.outExpected k at16) else none)
  else ((s.evtRises (k - 16)).find? fun r => decide ((s.now9 : Int) ≤ r) &&
    (s.evtProgramme (k - 16) || decide (r ≤ s.now9 + 512000000))).map (· * 128)

/-- The error of a gate's edge: what channel 45 stamps, its CH_OFFSET applied, less the edge's expected instant at the ball; `after`
is how long after the gate the edge came, in 2^-16 ns (R197). -/
def State.lbError (s : State) (k : Nat) (after : Int) : Option Int :=
  let at16 := (s.now48 / 2 ^ 32 : Nat) + after - s.rd (Obj.CH_OFFSET 45)
  (s.lbExpected k at16).map (at16 - ·)

/-- The instant of the next gate: every 1 ms of the timescale (R197). -/
def State.nextGate (s : State) : Nat := s.nextPeriodic 1000000 s.syn.gate80

/-- LOOPBACK_CHECK: the gate of the next covered output, and how long after it the first rising edge came to channel 45, in
2^-16 ns; none where no edge came (R197, R198; log entry 101). -/
def execLoopbackCheck (after : Option Int) (s : State) : Host.Outcome State Fault Refusal :=
  match s.reach s.nextGate with
  | none => .next s
  | some s0 =>
    let s1 : State := { s0 with syn := { s0.syn with gate80 := some s.nextGate } }
    if s1.calRunning then .next s1.settle
    else match s1.lbNext with
      | none => .next s1.settle
      | some k =>
        let s2 : State := { s1 with syn := { s1.syn with gate := k } }
        if (s1.channel 45).state ≠ .run then
          let s3 : State := { s2 with syn := { s2.syn with suspended48 := some (s1.syn.suspended48.getD s1.up48) } }
          .next (s3.when s1.syn.stale (·.lbResult k false)).settle
        else
          let s3 : State := { s2 with syn := { s2.syn with suspended48 := none, stale := false } }
          match after.bind (s3.lbError k) with
          | none => .next s3.settle
          | some e =>
            let r := if k < 16 then Obj.OUT_LB k else Obj.EVT_LB (k - 16)
            .next ((s3.wr r (clampAbs (2 ^ 31 - 1) e)).lbResult k
              (decide (e.natAbs * 1000 ≤ s3.rdN Obj.LB_TOL * 65536))).settle

/-- LOOPBACK_STALE: checks have been suspended for LB_STALE (R198). -/
def execLoopbackStale (s : State) : Host.Outcome State Fault Refusal :=
  if (s.channel 45).state = .run then .next s
  else
    let t := s.syn.suspended48.getD s.up48
    match s.runTo (t + s.rdN Obj.LB_STALE * sec48) with
    | none => .next s
    | some s1 => .next ({ s1 with syn := { s1.syn with suspended48 := some t, stale := true } } : State).settle

/-! Steps (Table 6-1). -/

/-- What a step from `old48` does to a generator: a forward step discards the entries of the skipped interval and raises
TL_SKIPPED, a pulse whose last edge is skipped ending in the step cycle; a programme takes up again at its first instance not
earlier than the new time. -/
def State.evtStep (old48 : Nat) (s : State) (e : Nat) : State :=
  let x := s.evt e
  let at48 := fun (q : EvEntry) => (if q.begun then s.entryEnd32 e q else s.entryAt32 e q) * (2 ^ 16 : Int)
  let skipped := x.queue.filter fun q => decide ((old48 : Int) ≤ at48 q ∧ at48 q < s.now48)
  let s0 := s.when (skipped.any (·.begun)) (·.toIdle e)
  let s1 := s0.setEvt e { s0.evt e with
    queue := x.queue.filter fun q => !skipped.contains q
    last := (skipped.getLast?.map (s.resolved e)).or x.last }
  let s2 := s1.forEach (l := skipped) (p := fun s _ => (s.lateDrop e).raise Src.TL_SKIPPED)
  s2.when (s2.evtProgramme e && s2.evtState e == 2) fun s => (s.toIdle e).anchor e

/-- The event block at a step. -/
def State.eventsStep (s : State) (old48 : Nat) : State :=
  let s1 := s.forEach (l := List.range 16) (p := State.evtStep old48)
  s1.forEach (l := List.range 4) (p := fun s g =>
    s.when (s.rdB (Obj.GRP_EN g)) (·.setGroupNext g (s.boundaryFrom g s.now9)))

end Sys2Proof.Machine
end

