-- ==== Sys2Proof/Machine/Teb.lean ====
section
/-! DEFINITION. Time-error bound: the terms of Table 7-1, the models, the bounds of the points of delivery, thresholds
and the TEB_OK pin (R155 to R168, R175). Bounds are exact rationals in bound units of 1/256 ns until they are rounded
up once (R156); times are of the timeline's progress in 2^-48 ns. -/

namespace Sys2Proof.Machine

/-- A fractional frequency in 10^-15 over one second, in bound units. -/
def femto : Rat := 256 / 1000000

/-! Terms. -/

/-- m_i of slot `n` at an update that found `drift` as the CH_DRIFT part: 0 for slots 16–19 (Table 7-1). -/
def State.termMeas (s : State) (n : Nat) (drift : Option Rat) : Option Rat :=
  if 16 ≤ n ∧ n < 20 then some 0
  else drift.map fun d => (5 + (s.teb.k : Rat) / 4) / 1000 * unitsPerNs + d

/-- Σ w_i g(i) over the weights above 0; none where one of the values is unbounded. -/
def weightedSum (w : List (Nat × Rat)) (g : Nat → Option Rat) : Option Rat :=
  w.foldl (init := (some 0 : Option Rat)) fun (acc : Option Rat) (e : Nat × Rat) =>
    if e.2 = 0 then acc
    else match acc, g e.1 with
      | some a, some v => some (a + e.2 * v)
      | _, _ => none

/-- The sum of the terms; none where one is unbounded. -/
def termSum (l : List (Option Rat)) : Option Rat :=
  l.foldl (init := (some 0 : Option Rat)) fun (acc t : Option Rat) =>
    match acc, t with
    | some a, some v => some (a + v)
    | _, _ => none

/-- TEB_T_TUNE at an instant (Table 7-1). -/
def State.termTune (s : State) (at48 : Nat) : Rat :=
  match s.hd.lastTune with
  | none => 0
  | some (t, dy) =>
    let dt := ratMin (secondsOf ((at48 : Int) - t)) (s.rdN Obj.HD_WEIGHT_TAU : Rat)
    (s.rdN Obj.LOA_GAIN_TOL : Rat) / 1000 * boundOfPhase (ratAbs dy * phasePerRate * dt)

/-- TEB_T_SERVO: |e| (Table 7-1). -/
def State.termServo (s : State) : Rat := boundOfPhase (ratAbs (s.teb.e.getD 0))

/-- The terms of Table 7-1, in its order, of an update with a time set, at an instant. -/
def State.termsOf (s : State) (eff : HerdEffect) (at48 : Nat) : List (Option Rat) :=
  [weightedSum eff.wTime (SMap.get none eff.refs),
   some (s.teb.k * boundOfPhase (sqrtUp (ratSum (eff.wTime.map fun e => e.2 * e.2 * entry eff.vars e.1)))),
   weightedSum eff.wTime fun n => s.termMeas n (SMap.get none eff.drifts n), some s.termServo, some (s.termSwitch at48),
   some eff.amb, some ((eff.drift : Nat) : Rat), some (s.termTune at48), some s.termHand]

/-- The terms in force at an instant: those of the last update with a time set, with the servo error, the switch and
the handover terms of now, and the tuning term while a time set governs. -/
def State.termsNow (s : State) (at48 : Nat) : List (Option Rat) :=
  let l := ((s.teb.terms.set 3 (some s.termServo)).set 4 (some (s.termSwitch at48))).set 8 (some s.termHand)
  if s.teb.timed then l.set 7 (some (s.termTune at48)) else l

/-! Models (R161, R162). -/

/-- W, R and T of an LO, from the coefficients in force. -/
def Teb.coef (t : Teb) (lo i : Nat) : Rat := (((if lo = 1 then t.coefB else t.coefA).getD i 0 : Nat) : Rat)

/-- k·W·√τ + k·R·τ^(3/2) + T·τ of one LO, in bound units. -/
def Teb.noise (t : Teb) (lo : Nat) (tau : Rat) : Rat :=
  let r := sqrtUp tau
  (t.k * t.coef lo 2 * r + t.k * t.coef lo 3 / 1000 * tau * r + t.coef lo 4 * tau) * femto

/-- The sum over the pieces of a segment: each LO's terms grow over the time in which it was the base. -/
def Teb.pieceSum (t : Teb) (start48 : Nat) (tau : Rat) : List (Nat × Nat) → Rat
  | [] => 0
  | [p] =>
    let a := secondsOf ((p.1 : Int) - start48)
    t.noise p.2 tau - t.noise p.2 a
  | p :: q :: rest =>
    let a := secondsOf ((p.1 : Int) - start48)
    let b := secondsOf ((q.1 : Int) - start48)
    t.noise p.2 b - t.noise p.2 a + Teb.pieceSum t start48 tau (q :: rest)

/-- F of a model, in bound units per second (R161, R162). -/
def Teb.freqTerm (t : Teb) (m : TebModel) : Rat :=
  if m.free then t.coef m.lo 0 * femto
  else if m.assisted || m.afterAssist then (t.fa : Rat) * femto
  else t.k * boundOfPhase (m.sigmaY * phasePerRate)

/-- The block as a model reads it: once a time set has returned, with what it goes on with (R163). -/
def State.tebOf (s : State) (m : TebModel) : Teb :=
  match m.kept with
  | some i => { s.teb with k := i.k, coefA := i.coefA, coefB := i.coefB, fa := i.fa }
  | none => s.teb

/-- The holdover polynomial of a model at an instant (R161, R162). -/
def State.holdTerm (s : State) (m : TebModel) (at48 : Nat) : Rat :=
  let t := s.tebOf m
  let tau := ratMax 0 (secondsOf ((at48 : Int) - m.start48))
  let gd := t.k * boundOfPhase (m.sigmaD * ratePerDrift * phasePerRate)
  let f := t.freqTerm m
  let g := if m.free then t.coef m.lo 1 * femto / 86400 else if m.assisted then 0 else gd
  f * tau + g * tau * tau / 2 + t.pieceSum m.start48 tau m.pieces

/-- B0 of a model: with |TS_SLEW_PEND| where a first host set started it (R162). -/
def State.baseUnits (s : State) (m : TebModel) : Rat := m.b0 + if m.hostSet then s.pendUnits else 0

/-- |TS_SLEW_PEND| in bound units as the slew in progress will have left it at an instant (R156, R162). -/
def State.pendUnitsAt (s : State) (at48 : Nat) : Rat :=
  let done := s.ctl.slew.term.natAbs * ceilDiv (at48 - s.up48) ns48
  ((s.slewLeft.natAbs - done : Nat) : Rat) / 2 ^ 40

/-- TEB_T_SERVO of a model: |e| against it, also once a time set has returned (R161, R163). -/
def State.modelServo (s : State) (m : TebModel) : Rat :=
  if m.free then 0 else if s.teb.timed then boundOfPhase (ratAbs (s.teb.eHeld.getD 0)) else s.termServo

/-- The bound on a model at an instant (R161, R162). The rule gives no sum for the free model: it gets TEB_T_SWITCH and
TEB_T_HAND, so far as B0 does not contain them, and no servo error, since its servo follows no phase (log entry 84). -/
def State.modelBound (s : State) (m : TebModel) (at48 : Nat) : Rat :=
  s.baseUnits m + s.holdTerm m at48 + s.modelServo m + ratMax 0 (s.termSwitch at48 + s.termHand - m.counted) +
    m.addedBy (s.pendUnitsAt at48)

/-! The bound of the timescale. -/

/-- The cases in which nothing bounds the timescale (R160, R166). -/
def State.tebBlocked (s : State) : Bool :=
  s.teb.blocked || s.teb.afterFreeze || !s.rdB Obj.TS_VALID || s.clk.frozen || s.unsafeBlock 11 ||
    (s.mode == Mode.STANDBY && !s.teb.twinSeen)

/-- The bound at an instant, and whether a model governs (R159, R161, R163). FAULTSAFE, which neither rule lists, is bounded as
the service modes are (log entry 83). -/
def State.tebValue (s : State) (at48 : Nat) : Option Rat × Bool :=
  if s.tebBlocked then (none, false)
  else
    let onModel := s.teb.model.map fun m => s.modelBound m at48
    if s.teb.timed && s.mode != Mode.FREERUN then
      match termSum (s.termsNow at48), onModel with
      | some a, some b => (some (ratMin a b), false)
      | some a, none => (some a, false)
      | none, some b => (if (s.teb.terms.getD 2 none).isNone then none else some b, false)
      | none, none => (none, false)
    else (onModel, onModel.isSome)

/-! Thresholds and the pin (R167, R168). -/

/-- A bound crosses threshold `code`: CROSSED, the notice, the record of ring 22, and TEB_OVER_HOLD upward. -/
def State.tebCross (s : State) (code thr old new : Nat) : State :=
  let up := decide (old ≤ thr ∧ thr < new)
  if !up && !decide (thr < old ∧ new ≤ thr) then s
  else
    let s1 := ((s.stick Obj.TEB_STATUS 1).notice 4 0x4C30 1
      ([oct code, oct (if up then 1 else 0), 0, 0] ++ leBytes 4 new ++ time80Bytes s.now80)).tebLog 2
    s1.when (up && code == 1) (·.raise Src.TEB_OVER_HOLD)

/-- The pin at an effect instant. -/
def State.tebPin (s : State) : State :=
  let worst := s.worstBound
  let s0 : State := { s with teb := { s.teb with worst := worst } }
  if pinLowMode s.mode then { s0 with teb := { s0.teb with pin := false, within48 := none, source := 0xFFFFFFFF } }
  else
    let src := if s.rdN Obj.TEB_PIN_SRC = 0 then s.bound else worst
    let thr := s.rdN Obj.TEB_THR_PIN
    let s1 := s0.tebCross 2 thr s.teb.source src
    let t := s1.teb
    if thr < src ∨ src = 0xFFFFFFFF then { s1 with teb := { t with source := src, pin := false, within48 := none } }
    else { s1 with teb := { t with source := src, within48 := some (t.within48.getD s.up48),
                                   pin := t.pin || s.rdN Obj.TEB_PIN_HOLD == 0 } }

/-- A term as its object reports it. -/
def termWord (t : Option Rat) : Nat := match t with | some r => boundUnits r | none => 0xFFFFFFFF

/-- The objects of the terms (Table 7-1, R161, R162). -/
def State.reportTerms (s : State) (at48 : Nat) (onModel : Bool) : State :=
  let regs := [Obj.TEB_T_REF, Obj.TEB_T_RES, Obj.TEB_T_MEAS, Obj.TEB_T_SERVO, Obj.TEB_T_SWITCH, Obj.TEB_T_AMB,
    Obj.TEB_T_DRIFT, Obj.TEB_T_TUNE, Obj.TEB_T_HAND]
  let s1 := s.forEach (l := regs.zip (s.termsNow at48)) (p := fun s e => s.wrN e.1 (termWord e.2))
  match s.teb.model with
  | some m =>
    let added := m.addedBy (s.pendUnitsAt at48)
    let set := if m.fromSet && added == 0 then s.baseUnits m else added
    ((s1.wrN Obj.TEB_T_BASE (if onModel then boundUnits (s.baseUnits m) else 0)).wrN Obj.TEB_T_HOLD
      (if onModel then boundUnits (s.holdTerm m at48) else 0)).wrN Obj.TEB_T_SET (if m.free then boundUnits set else 0)
  | none => ((s1.wrN Obj.TEB_T_BASE 0).wrN Obj.TEB_T_HOLD 0).wrN Obj.TEB_T_SET 0

/-- Every bound is computed for the interval in force, with what follows from it: TEB_STATUS.MODEL, TEB_UNBOUNDED, the
crossings, the pin, the records of ring 22 (R156 to R158, R165 to R168, R174). -/
def State.tebPublish (s : State) : State :=
  let end48 := if s.teb.end48 < s.up48 then s.up48 + 15625000 * ns48 else s.teb.end48
  let at48 := end48 + 8000 * ns48
  let v := s.tebValue at48
  let old := s.bound
  let new := termWord v.1
  let s1 : State := { s with teb := { s.teb with end48 := end48, exact := if new = 0xFFFFFFFF then none else v.1 } }
  let s2 := (s1.reportTerms at48 v.2).wrN Obj.TEB_TS new
  let s3 := (s2.wrN Obj.TEB_STATUS (putBit (s2.rdN Obj.TEB_STATUS) 7 v.2)).cond Src.TEB_UNBOUNDED
    (new == 0xFFFFFFFF && (old != 0xFFFFFFFF || s.active Src.TEB_UNBOUNDED))
  let s4 := s3.cutPulses
  ((s4.tebCross 0 (s.rdN Obj.TEB_THR_LOCKED) old new).tebCross 1 (s.rdN Obj.TEB_THR_HOLDOVER) old new).tebPin

/-- TEB_PIN_HOLD_EXPIRY: the source has stayed within for TEB_PIN_HOLD, and TEB_OK goes high (R168). -/
def execTebPinHoldExpiry (s : State) : Host.Outcome State Fault Refusal :=
  match s.teb.within48 with
  | none => .next s
  | some t =>
    if s.teb.pin then .next s
    else match s.runTo (t + ms48 (s.rdN Obj.TEB_PIN_HOLD)) with
      | none => .next s
      | some s1 => .next ({ s1 with teb := { s1.teb with pin := true } } : State).settle

/-! What changes the bound. -/

/-- The sum that a model freezes as B0: the terms of Table 7-1 without switch and handover (R161); none where one is
unbounded. -/
def frozenSum (terms : List (Option Rat)) : Option Rat := termSum ((terms.set 4 (some 0)).set 8 (some 0))

/-- A holdover model from the instant and B0 of the last update with a time set (R161); in STANDBY B0 is the whole bound of
the last update at which slot 22 contributed (R160; log entry 86). -/
def State.tebHoldover (s : State) (sigmaY sigmaD : Rat) (assisted : Bool) : State :=
  match s.teb.last with
  | none => { s with teb := { s.teb with model := none } }
  | some (b, t0) =>
    let b0 := if s.mode = Mode.STANDBY then s.teb.twinBound.getD b else b
    let m : TebModel := { free := false, start48 := t0, b0 := b0, sigmaY := sigmaY, sigmaD := sigmaD, lo := s.base,
                          pieces := [(t0, s.base)], assisted := assisted, afterAssist := false, fromSet := false,
                          hostSet := false, added := 0, slewing := 0, hold48 := t0, counted := 0, kept := none }
    { s with teb := { s.teb with model := some m } }

/-- A new segment of the holdover where assistance has started or ended (R161). -/
def State.tebSegment (s : State) (m : TebModel) (assisted : Bool) : State :=
  let n : TebModel := { m with b0 := m.b0 + s.holdTerm m s.up48, start48 := s.up48, pieces := [(s.up48, s.base)],
                               assisted := assisted, afterAssist := m.assisted }
  { s with teb := { s.teb with model := some n } }

/-- The model goes on beside the time set that has returned, with what was in force then; only a raise changes that (R163, R164). -/
def State.tebContinue (s : State) (i : TebIn) : State :=
  match s.teb.model with
  | none => s
  | some m =>
    let t := s.tebOf m
    let raise := List.zipWith max
    let n : TebModel := { m with kept := some { i with
      k := max t.k i.k, coefA := raise t.coefA i.coefA, coefB := raise t.coefB i.coefB, fa := max t.fa i.fa } }
    { s with teb := { s.teb with model := some n } }

/-- The model of an update (R161): a new one where the time set has just become empty, a new segment where assistance
has started or ended. -/
def State.tebModelAt (s : State) (eff : HerdEffect) : State :=
  if !eff.timeSet.isEmpty then s
  else if s.teb.timed && s.mode != Mode.FREERUN then s.tebHoldover eff.sigmaY eff.sigmaD eff.assisted
  else match s.teb.model with
    | some m => if m.free || m.assisted == eff.assisted then s else s.tebSegment m eff.assisted
    | none => s

/-- The bounds of an update come into force at its effect instant (R156, R159 to R163). -/
def State.tebEffect (s : State) (eff : HerdEffect) : State :=
  let timed := !eff.timeSet.isEmpty
  let twin := eff.timeSet.contains 22
  let ends := s.mode == Mode.ACQUIRE || (s.mode == Mode.STANDBY && twin)
  let start := s.teb.timed && !timed && s.mode != Mode.FREERUN
  let s0 := s.when timed (·.tebContinue eff.tebIn)
  let s1 := s0.tebCoefs eff.tebIn (!timed && !start && s.teb.model.isSome)
  let end48 := eff.due48 + 15625000 * ns48
  let s2 : State := { s1 with teb := { s1.teb with
    e := eff.e, eHeld := eff.eHeld, end48 := end48, blocked := false, twinSeen := s1.teb.twinSeen || twin, fa := eff.tebIn.fa, cals := eff.tebIn.cals,
    afterFreeze := s1.teb.afterFreeze && !ends } }
  let s3 := s2.tebModelAt eff
  if timed then
    let terms := s3.termsOf eff (end48 + 8000 * ns48)
    let s4 := ({ s3 with teb := { s3.teb with
      timed := true, terms := terms, last := (frozenSum terms).map fun b => (b, eff.due48 - ms48 1) } } : State).tebPublish
    ({ s4 with teb := { s4.teb with twinBound := if twin then s4.teb.exact else none } } : State).tebCoefLog s
  else (({ s3 with teb := { s3.teb with timed := false } } : State).tebPublish.tebHeld).tebCoefLog s

/-- The lease is acquired (R158): every bound is recomputed in this cycle, on the model of R160 where slot 22 has been lost
since the last update, which reads the coefficients as any model start does (R164). A unit that slot 22 has not contributed to has
no bound of its own: none it had in an earlier mode goes on. -/
def State.tebAcquire (s : State) : State :=
  if !s.teb.twinSeen then
    ({ s with teb := { s.teb with model := none, timed := false, last := none } } : State).tebPublish.tebHeld
  else if s.teb.timed && s.slotState 22 != Sl.QUALIFIED then
    let s1 := (s.tebCoefs s.tebObjects false).tebHoldover (sqrtUp s.hd.varY) (sqrtUp s.hd.varD) false
    (({ s1 with teb := { s1.teb with timed := false, fa := s.rdN Obj.TEB_FA_FREQ } } : State).tebPublish.tebHeld).tebCoefLog s
  else s.tebPublish

/-- A placement or a step by `d48` recomputes every bound with the new e (R157). -/
def State.tebStep (s : State) (d48 : Int) : State :=
  ({ s with teb := { s.teb with e := s.teb.e.map fun e => e + (d48 : Rat) / 2 ^ 32,
                                 eHeld := s.teb.eHeld.map fun e => e + (d48 : Rat) / 2 ^ 32 } } : State).tebPublish.tebLog 5

/-- A host set at its instant, before its offset is applied (R162): the first one, without a bound, starts the free model; a
later one adds its magnitude, a slew as it is applied. A new slew takes the place of the rest of an earlier one. -/
def State.tebHostSet (s : State) (unc : Nat) (offset48 : Int) (slew : Bool) : State :=
  let mag : Rat := ((offset48.natAbs : Nat) : Rat) / 2 ^ 40
  match s.teb.exact, s.teb.model with
  | none, _ =>
    if unc = 0xFFFFFFFF then s
    else
      let s1 := s.tebCoefs s.tebObjects false
      let m : TebModel := { free := true, start48 := s.up48, b0 := (unc : Rat), sigmaY := 0, sigmaD := 0,
                            lo := if s.base = 1 then 1 else 0, pieces := [(s.up48, s.base)], assisted := false,
                            afterAssist := false, fromSet := true, hostSet := true, added := 0, slewing := 0, hold48 := s.up48,
                            counted := 0, kept := none }
      { s1 with teb := { s1.teb with model := some m, afterFreeze := false, timed := false } }
  | some _, some m =>
    let n : TebModel := if slew then { s.settleSlew m with slewing := mag } else { m with added := m.added + mag }
    { s with teb := { s.teb with model := some n } }
  | some _, none => s

/-- A switch of the base during a model, also one that goes on beside a time set: the new base's W, R and T apply from now (R161). -/
def State.tebSwitch (s : State) : State :=
  match s.teb.model with
  | some m =>
    let n : TebModel := { m with pieces := m.pieces ++ [(s.up48, s.base)] }
    ({ s with teb := { s.teb with model := some n } } : State).tebHeld
  | none => s

/-- A freeze: every bound is unbounded, and what it was computed from is gone (R160, R166). -/
def State.tebFreeze (s : State) : State :=
  (({ s with teb := { s.teb with model := none, timed := false, last := none, twinBound := none, terms := [], e := none, eHeld := none,
                                 twinSeen := false, afterFreeze := true } } : State).tebPublish).tebHeld

end Sys2Proof.Machine
end

