-- ==== Sys2Proof/Machine/Packet.lean ====
section
/-! DEFINITION. Frames as octets: Ethernet, IPv4, IPv6 and UDP headers with their checksums (R235, R236), PTP and NTP
headers, TLVs and extension fields (R256, R263, R268, R276). The formats are those of the standards that the manual
names (log entry 20). -/

namespace Sys2Proof.Machine

/-! Octet strings. -/

/-- `n` octets of `bs` from position `off`. -/
def slice (bs : List Octet) (off n : Nat) : List Octet := (bs.drop off).take n

/-- The number that `n` octets at `off` spell in network order. -/
def field (bs : List Octet) (off n : Nat) : Nat := ofBe (slice bs off n)

/-- The signed number that `n` octets at `off` spell in network order. -/
def fieldInt (bs : List Octet) (off n : Nat) : Int := wrapSigned (8 * n) (field bs off n)

/-- A signed number in `n` octets of network order. -/
def beInt (n : Nat) (v : Int) : List Octet := beBytes n (v % (2 ^ (8 * n) : Int)).toNat

/-- The sum of 16-bit words in network order; an odd last octet is padded with zero. -/
def wordSum : List Octet → Nat
  | [] => 0
  | [a] => a.toNat * 256
  | a :: b :: rest => a.toNat * 256 + b.toNat + wordSum rest

/-- The one's complement sum folded to 16 bits. -/
def foldSum (v : Nat) : Nat :=
  let f := fun v : Nat => v % 65536 + v / 65536
  f (f (f v))

/-- The Internet checksum over octets. -/
def checksum (bs : List Octet) : Nat := 65535 - foldSum (wordSum bs)

/-! Received frames. -/

/-- What the receive path reads of a frame's headers. `ip` is 4, 6 or 0; `header` is whether the IPv4 header checksum is
good; `udp` is the source port, the destination port and the payload; `sum` is 0 good, 1 bad, 2 none. -/
structure Packet where
  dst : Nat
  src : Nat
  vid : Option Nat
  ethertype : Nat
  ip : Nat
  fragment : Bool
  header : Bool
  srcIp : Nat
  dstIp : Nat
  udp : Option (Nat × Nat × List Octet)
  /-- the UDP destination port, of a whole datagram or of the first fragment of one -/
  udpTo : Option Nat
  sum : Nat
  /-- what follows the Ethertype -/
  body : List Octet
  deriving DecidableEq, Repr

/-- An IPv4 address as ::ffff:0:0/96. -/
def mapped (v4 : Nat) : Nat := 0xFFFF * 2 ^ 32 + v4 % 2 ^ 32

/-- A UDP datagram at the head of `bs`: ports, payload. -/
def udpOf (bs : List Octet) : Option (Nat × Nat × List Octet) :=
  let len := field bs 4 2
  if bs.length < 8 ∨ len < 8 ∨ bs.length < len then none else some (field bs 0 2, field bs 2 2, slice bs 8 (len - 8))

/-- The destination port of a UDP header at the head of `bs`. -/
def udpPortAt (bs : List Octet) : Option Nat := if bs.length < 8 then none else some (field bs 2 2)

/-- The verdict on a UDP checksum over a pseudo-header: 0 good, 1 bad, 2 accepted unchecked (Table 10-4). -/
def udpSum (v6 : Bool) (pseudo bs : List Octet) : Nat :=
  if field bs 6 2 = 0 then (if v6 then 1 else 2)
  else if checksum (pseudo ++ bs.take (field bs 4 2)) = 0 then 0 else 1

/-- The UDP datagram behind IPv6 extension headers, and whether a Fragment header is among them; a fragment that is not the first
has no header of its datagram. -/
def walkIpv6 : Nat → Nat → List Octet → Bool → Bool × Option (List Octet)
  | 0, _, _, fragment => (fragment, none)
  | f + 1, next, bs, fragment =>
    if next = 17 then (fragment, some bs)
    else if next = 44 then
      if field bs 2 2 / 8 ≠ 0 then (true, none) else walkIpv6 f (field bs 0 1) (bs.drop 8) true
    else if next = 0 ∨ next = 43 ∨ next = 60 then walkIpv6 f (field bs 0 1) (bs.drop (8 * (field bs 1 1 + 1))) fragment
    else (fragment, none)

/-- The headers of a frame. -/
def packetOf (frame : List Octet) : Packet :=
  let tagged := field frame 12 2 == 0x8100
  let body := frame.drop (if tagged then 18 else 14)
  let base : Packet :=
    { dst := field frame 0 6, src := field frame 6 6, vid := if tagged then some (field frame 14 2 % 4096) else none,
      ethertype := field frame (if tagged then 16 else 12) 2, ip := 0, fragment := false, header := true, srcIp := 0,
      dstIp := 0, udp := none, udpTo := none, sum := 0, body := body }
  if base.ethertype = 0x0800 ∧ 20 ≤ body.length ∧ field body 0 1 / 16 = 4 then
    let hlen := field body 0 1 % 16 * 4
    let fragment := field body 6 2 % 2 ^ 14 != 0
    let payload := slice body hlen (field body 2 2 - hlen)
    let udp := if field body 9 1 = 17 ∧ fragment = false then udpOf payload else none
    { base with
      ip := 4, fragment := fragment, header := checksum (body.take hlen) == 0 && decide (20 ≤ hlen),
      srcIp := mapped (field body 12 4), dstIp := mapped (field body 16 4), udp := udp,
      udpTo := if !fragment then udp.map (·.2.1)
        else if field body 9 1 = 17 ∧ field body 6 2 % 2 ^ 13 = 0 then udpPortAt payload else none,
      sum := if udp.isSome then
          udpSum false (slice body 12 8 ++ [0, 17] ++ slice payload 4 2) payload
        else 0 }
  else if base.ethertype = 0x86DD ∧ 40 ≤ body.length ∧ field body 0 1 / 16 = 6 then
    let r := walkIpv6 16 (field body 6 1) (slice body 40 (field body 4 2)) false
    let udp := if r.1 then none else r.2.bind udpOf
    { base with
      ip := 6, fragment := r.1, srcIp := field body 8 16, dstIp := field body 24 16, udp := udp,
      udpTo := if r.1 then r.2.bind udpPortAt else udp.map (·.2.1),
      sum := if udp.isSome then
          udpSum true (slice body 8 32 ++ [0, 0] ++ slice (r.2.getD []) 4 2 ++ [0, 0, 0, 17]) (r.2.getD [])
        else 0 }
  else base

/-! Frames that the engine makes (R236, R256, R262). -/

/-- The octets of a frame around a payload, without the FCS. -/
def encapsulate (a : Addressing) (payload : List Octet) : List Octet :=
  let udpLen := 8 + payload.length
  let udpHead := beBytes 2 a.srcUdp ++ beBytes 2 a.dstUdp ++ beBytes 2 udpLen
  let sum := fun pseudo => let c := checksum (pseudo ++ udpHead ++ [0, 0] ++ payload); if c = 0 then 0xFFFF else c
  let eth := fun (type : Nat) => beBytes 6 a.dst ++ beBytes 6 a.src ++
    (match a.tci with | some t => beBytes 2 0x8100 ++ beBytes 2 t | none => []) ++ beBytes 2 type
  if a.transport = 0 then
    let ips := beBytes 4 (a.srcIp % 2 ^ 32) ++ beBytes 4 (a.dstIp % 2 ^ 32)
    let head := [0x45, 0] ++ beBytes 2 (20 + udpLen) ++ [0, 0, 0, 0, 64, 17]
    let c := checksum (head ++ [0, 0] ++ ips)
    eth 0x0800 ++ head ++ beBytes 2 c ++ ips ++ udpHead ++ beBytes 2 (sum (ips ++ [0, 17] ++ beBytes 2 udpLen)) ++ payload
  else if a.transport = 1 then
    let ips := beBytes 16 a.srcIp ++ beBytes 16 a.dstIp
    eth 0x86DD ++ [0x60, 0, 0, 0] ++ beBytes 2 udpLen ++ [17, 64] ++ ips ++ udpHead ++
      beBytes 2 (sum (ips ++ [0, 0] ++ beBytes 2 udpLen ++ [0, 0, 0, 17])) ++ payload
  else eth 0x88F7 ++ payload

/-- The length on the wire of a frame around a payload of `n` octets, with its FCS; short frames are padded. -/
def wireLength (a : Addressing) (n : Nat) : Nat :=
  max 64 (18 + (if a.tci.isSome then 4 else 0) + (match a.transport with | 0 => 28 | 1 => 48 | _ => 0) + n)

/-! PTP messages. -/

namespace Ptp
abbrev SYNC : Nat := 0
abbrev DELAY_REQ : Nat := 1
abbrev PDELAY_REQ : Nat := 2
abbrev PDELAY_RESP : Nat := 3
abbrev FOLLOW_UP : Nat := 8
abbrev DELAY_RESP : Nat := 9
abbrev PDELAY_RESP_FOLLOW_UP : Nat := 10
abbrev ANNOUNCE : Nat := 11
abbrev SIGNALING : Nat := 12
abbrev MANAGEMENT : Nat := 13
end Ptp

/-- The type of a PTP message. -/
def ptpType (m : List Octet) : Nat := field m 0 1 % 16
/-- Its messageLength. -/
def ptpLength (m : List Octet) : Nat := field m 2 2
/-- Its domainNumber. -/
def ptpDomain (m : List Octet) : Nat := field m 4 1
/-- Its twoStepFlag. -/
def ptpTwoStep (m : List Octet) : Bool := bitOn (field m 6 1) 1
/-- The octet of its flags that carries leap61, leap59, currentUtcOffsetValid. -/
def ptpFlags (m : List Octet) : Nat := field m 7 1
/-- Its correctionField, in 2^-16 ns. -/
def ptpCorrection (m : List Octet) : Int := fieldInt m 8 8
/-- The clockIdentity and portNumber of its sourcePortIdentity. -/
def ptpSource (m : List Octet) : Nat × Nat := (field m 20 8, field m 28 2)
/-- Its sequenceId. -/
def ptpSeq (m : List Octet) : Nat := field m 30 2
/-- Its logMessageInterval. -/
def ptpLog (m : List Octet) : Int := fieldInt m 33 1

/-- Header plus fixed body of each type, in octets (R276). -/
def ptpFixed (type : Nat) : Nat :=
  if type = Ptp.SYNC ∨ type = Ptp.DELAY_REQ ∨ type = Ptp.FOLLOW_UP ∨ type = Ptp.SIGNALING then 44
  else if type = Ptp.PDELAY_REQ ∨ type = Ptp.PDELAY_RESP ∨ type = Ptp.DELAY_RESP ∨ type = Ptp.PDELAY_RESP_FOLLOW_UP
  then 54
  else if type = Ptp.ANNOUNCE then 64 else if type = Ptp.MANAGEMENT then 48 else 34

/-- The TLVs of what follows a fixed body; none where R276 calls the message MALFORMED. -/
def tlvsOf : Nat → List Octet → Option (List (Nat × List Octet))
  | 0, bs => if bs = [] then some [] else none
  | f + 1, bs =>
    if bs = [] then some []
    else
      let len := field bs 2 2
      if bs.length < 4 ∨ len % 2 = 1 ∨ len = 0xFFFF ∨ bs.length < 4 + len then none
      else (tlvsOf f (bs.drop (4 + len))).map fun r => (field bs 0 2, slice bs 4 len) :: r

namespace Tlv
abbrev ORGANIZATION : Nat := 0x0003
abbrev REQUEST : Nat := 0x0004
abbrev GRANT : Nat := 0x0005
abbrev CANCEL : Nat := 0x0006
abbrev ACK_CANCEL : Nat := 0x0007
abbrev ATOI : Nat := 0x0009
abbrev AUTHENTICATION : Nat := 0x8009
end Tlv

/-- An AUTHENTICATION TLV stands before the last TLV (R263). -/
def authNotLast (tlvs : List (Nat × List Octet)) : Bool := tlvs.dropLast.any fun t => t.1 == Tlv.AUTHENTICATION

/-- The message and its TLVs where it is well formed: octets beyond messageLength are ignored (R276). -/
def ptpParse (payload : List Octet) : Option (List Octet × List (Nat × List Octet)) :=
  let len := ptpLength payload
  if payload.length < 34 ∨ len < ptpFixed (ptpType payload) ∨ payload.length < len then none
  else
    let m := payload.take len
    match tlvsOf (len / 4 + 1) (m.drop (ptpFixed (ptpType m))) with
    | none => none
    | some tlvs => if authNotLast tlvs then none else some (m, tlvs)

/-- A TLV. -/
def tlv (type : Nat) (body : List Octet) : List Octet := beBytes 2 type ++ beBytes 2 body.length ++ body

/-- The Timestamp of a TAI instant in nanoseconds: seconds in 48 bits, nanoseconds in 32. -/
def ptpTimestamp (ns : Nat) : List Octet := beBytes 6 (ns / giga) ++ beBytes 4 (ns % giga)

/-- The instant of a Timestamp, in nanoseconds. -/
def timestampOf (bs : List Octet) : Nat := field bs 0 6 * giga + field bs 6 4

/-- controlField by message type. -/
def ptpControl (type : Nat) : Nat := match type with | 0 => 0 | 1 => 1 | 8 => 2 | 9 => 3 | _ => 5

/-- A PTP message: its header around a body (R257). -/
def ptpMessage (type domain flags : Nat) (correction : Int) (source : Nat × Nat) (seq : Nat) (log : Int)
    (body : List Octet) : List Octet :=
  [oct type, 0x12] ++ beBytes 2 (34 + body.length) ++ [oct domain, 0] ++ beBytes 2 flags ++ beInt 8 correction ++
    [0, 0, 0, 0] ++ beBytes 8 source.1 ++ beBytes 2 source.2 ++ beBytes 2 seq ++ [oct (ptpControl type)] ++ beInt 1 log ++
    body

/-- A message with another messageLength: what an appended TLV of `n` octets brings. -/
def lengthened (m : List Octet) (n : Nat) : List Octet := overlay m 2 (beBytes 2 (m.length + n))

/-! NTP. -/

/-- The extension fields behind the header: type and body; none where a length is bad (R276). -/
def extensionsOf : Nat → List Octet → Option (List (Nat × List Octet))
  | 0, bs => if bs = [] then some [] else none
  | f + 1, bs =>
    if bs = [] then some []
    else
      let len := field bs 2 2
      if bs.length < 4 ∨ len < 4 ∨ len % 4 ≠ 0 ∨ bs.length < len then none
      else (extensionsOf f (bs.drop len)).map fun r => (field bs 0 2, slice bs 4 (len - 4)) :: r

namespace Ext
abbrev UNIQUE_ID : Nat := 0x0104
abbrev COOKIE : Nat := 0x0204
abbrev PLACEHOLDER : Nat := 0x0304
abbrev AUTHENTICATOR : Nat := 0x0404
end Ext

/-- An extension field, padded to a multiple of four octets. -/
def extension (type : Nat) (body : List Octet) : List Octet :=
  let len := 4 * ceilDiv (4 + body.length) 4
  beBytes 2 type ++ beBytes 2 len ++ padTo (len - 4) body

end Sys2Proof.Machine
end

