-- ==== Sys2Proof/Machine/Viaduct.lean ====
section
/-! DEFINITION. Viaduct's rule against dependency cycles (R393, R395). Every access completes within the command that makes it
but for the jobs of the crypto lanes, so a request never meets an unfinished write to its line (log entry 70). -/

namespace Sys2Proof.Machine

/-- The targets of Viaduct (Table 16-8). -/
inductive VdTarget
  | sram | foldCache | cryptoLanes | dram | fabric
  deriving DecidableEq, Repr

/-- The targets that a target calls to serve a request (R395). -/
def VdTarget.calls : VdTarget → List VdTarget
  | .foldCache => [.dram] | .cryptoLanes => [.sram] | _ => []

/-- VD_OUTSTANDING: what is outstanding between commands is, for each job in a lane, the request of its pipeline and the lane's own
for its operands. Eight lanes hold 4 jobs each, so no master reaches 64 and the matrix never 512 (R316, R394; log entry 70). -/
def State.outstanding (s : State) : Nat := 2 * (s.ks.jobs.filter fun j => j.lane.isSome).length

/-- The bits of VD_PIER_BYPASS that are in force: none above 110 °C, nor while block 18 is being restored (R396, R397, R402). -/
def State.bypassed (s : State) : Nat :=
  if bitOn (s.rdN Obj.VD_STATUS) 8 || s.unsafeBlock 18 then 0 else s.rdN Obj.VD_PIER_BYPASS

/-- The one-way latency of a path of Table 16-9 in 0.01 ns, by its row: piers in, or bypassed where its bit is in force (R396). -/
def State.pathLatency (s : State) (row : Fin 12) : Nat :=
  let (bit, slow, fast) : Option Nat × Nat × Nat := match row.val with
    | 0 => (some 0, 400, 200) | 1 => (some 1, 400, 200) | 2 => (some 2, 400, 200) | 3 => (some 3, 400, 200)
    | 4 => (some 4, 400, 200) | 5 => (some 5, 775, 675) | 6 => (some 6, 1621, 1521) | 7 => (some 7, 400, 200)
    | 8 => (some 7, 12400, 12300) | 9 => (some 8, 1000, 900) | 10 => (none, 1375, 1375) | _ => (none, 13000, 13000)
  match bit with
  | some b => if bitOn s.bypassed b then fast else slow
  | none => slow

/-- The wait edges of the transactions that are outstanding between commands: those of the jobs in the crypto lanes. -/
def State.waitEdges (s : State) : List (VdTarget × VdTarget) :=
  (s.ks.jobs.filter fun j => j.lane.isSome).flatMap fun _ => VdTarget.cryptoLanes.calls.map fun c => (.cryptoLanes, c)

/-- `b` is reached from `a` over at most `n` wait edges. -/
def reaches : Nat → List (VdTarget × VdTarget) → VdTarget → VdTarget → Bool
  | 0, _, a, b => a == b
  | n + 1, edges, a, b => a == b || edges.any fun e => e.1 == a && reaches n edges e.2 b

/-- Target `t` calls `c` to serve a request: where that closes a cycle of wait edges, the request is held until some
transaction of the cycle completes, and HOLD_CYCLE_SEEN is set (R395). -/
def State.called (s : State) (t c : VdTarget) : State :=
  if reaches 5 s.waitEdges c t then s.stick Obj.VD_STATUS 5 else s

/-- A request is admitted to target `t`, with every call that serving it makes (R395). -/
def State.requested (s : State) (t : VdTarget) : State := s.forEach (l := t.calls) (p := fun s c => s.called t c)

end Sys2Proof.Machine
end

