-- ==== Sys2Proof/Machine/Keys.lean ====
section
/-! DEFINITION. What every user of Keystone asks of it: the slots, the status of a job, derivations, the lanes
and the jobs they hold, and random numbers (R305, R308, R311, R316 to R318). -/

namespace Sys2Proof.Machine

/-- The slots that hold a record. -/
def State.keySlots (s : State) : List Nat := s.ks.slots.map (·.1)

/-- The ORPHANED slots. -/
def State.orphans (s : State) : List Nat := s.keySlots.filter fun k => s.keyState k == Key.ORPHANED

namespace Ks
abbrev OK : Nat := 0
abbrev KEY_EMPTY : Nat := 1
abbrev KEY_INVALID : Nat := 2
abbrev KEY_ORPHANED : Nat := 3
abbrev KEY_USAGE : Nat := 4
abbrev KEY_RETIRING : Nat := 5
abbrev STATE : Nat := 6
abbrev RANGE : Nat := 7
abbrev LOCKED : Nat := 8
abbrev BROWNOUT : Nat := 9
abbrev ZEROISED : Nat := 10
abbrev LANE_FAULT : Nat := 11
abbrev NO_ENTROPY : Nat := 12
abbrev VERIFY_FAIL : Nat := 13
abbrev UNWRAP_FAIL : Nat := 14
end Ks

/-- What the mode lets Keystone answer: OK where it is full, STATE in UNPROVISIONED, ZEROISED in ZEROISED and FACTORY and
while the ZEROISE line is asserted (R324, R326). -/
def State.ksMode (s : State) : Nat :=
  if s.ks.zeroising || s.mode == Mode.ZEROISED || s.mode == Mode.FACTORY then Ks.ZEROISED
  else if s.mode = Mode.UNPROVISIONED then Ks.STATE else Ks.OK

/-- The status that a slot gives a job: `usage` is the bit it needs, `checking` whether it only checks or opens (Table
13-3, Table 13-7). -/
def State.slotStatus (s : State) (k usage : Nat) (checking : Bool) : Nat :=
  match s.keyState k with
  | 0 => Ks.KEY_EMPTY
  | 3 => Ks.KEY_ORPHANED
  | 4 => Ks.KEY_INVALID
  | st =>
    if !bitOn (s.slotOf k).usage usage then Ks.KEY_USAGE
    else if st = Key.RETIRING ∧ checking = false then Ks.KEY_RETIRING
    else Ks.OK

/-! Lanes (R316, R317). -/

/-- Lane `n` is in service. -/
def State.laneUp (s : State) (n : Nat) : Bool := bitOn (s.rdN Obj.KS_LANES) n

/-- The lanes that may run a job: 0–3 alone for HMAC and HKDF. -/
def State.lanesFor (s : State) (sha : Bool) : List Nat :=
  (List.range (if sha then 4 else 8)).filter s.laneUp

/-- The status of a job at its admission (R316); in the safe state of block 14 none is admitted, and a job whose result its
requester cannot wait for fails with STATE (R328; log entry 105). -/
def State.jobStatus (s : State) (k usage : Nat) (checking sha : Bool) : Nat :=
  if s.ksMode ≠ Ks.OK then s.ksMode
  else if s.unsafeBlock 14 then Ks.STATE
  else if (s.lanesFor sha).isEmpty then Ks.LANE_FAULT
  else s.slotStatus k usage checking

/-- A kind that runs in the lanes with SHA-256 only. -/
def shaKind : JobKind → Bool
  | .hkdf => true | .hmacGenerate => true | .hmacCheck => true | _ => false

/-- The usage bit a kind needs is given with the job; a kind that only checks or opens may name a RETIRING slot. -/
def checkingKind : JobKind → Bool
  | .cmacCheck => true | .hmacCheck => true | .sivOpen => true | .unwrap => true | _ => false

/-- Jobs that lane `n` executes. -/
def State.laneLoad (s : State) (n : Nat) : Nat := (s.ks.jobs.filter fun j => j.lane == some n).length

/-- The waiting jobs are admitted in order, each to the lowest lane with fewer than 4 jobs; where no lane is in service,
the job fails with LANE_FAULT. While Keystone's configuration is restored, none is admitted (R316, R317, R328). Every
job kept here is a tag or a seal under a PTP_SERVICE key (usage 0) or an NTS master (usage 1). -/
def State.admitJobs (s : State) : State :=
  if s.unsafeBlock 14 || !s.rdB Obj.VD_DATA_EN then s
  else s.forEach (l := s.ks.jobs.filter fun j => j.lane.isNone) (p := fun s j =>
    let usage := if j.kind = .sivSeal then 1 else 0
    let status := s.jobStatus j.slot usage (checkingKind j.kind) (shaKind j.kind)
    let lane := if status = Ks.LANE_FAULT then some 8 else (s.lanesFor (shaKind j.kind)).find? fun n => s.laneLoad n < 4
    match lane with
    | none => s
    | some n =>
      let j1 : Job := { j with lane := some n, status := status, key := (s.slotOf j.slot).value }
      { s with ks := { s.ks with jobs := s.ks.jobs.map fun x => if x.id = j.id then j1 else x } })

/-- 256 jobs are held (R316). -/
def State.jobsFull (s : State) : Bool := decide (256 ≤ s.ks.jobs.length)

/-- A job is handed to Keystone and admitted when a lane has room; its number. -/
def State.startJob (s : State) (kind : JobKind) (slot parts : Nat) : State × Nat :=
  let id := s.ks.nextJob
  let j : Job := { id := id, kind := kind, slot := slot, lane := none, status := 0, key := 0, parts := parts }
  let s1 := s.requested .cryptoLanes
  (({ s1 with ks := { s1.ks with jobs := s1.ks.jobs ++ [j], nextJob := id + 1 } } : State).admitJobs, id)

/-- Jobs that a passage had run for it within a step have completed: their events (Table 17-8). -/
def State.jobsDone (s : State) (status n : Nat) : State :=
  if status = Ks.OK then s.count 0x1E0 n else s.count 0x1E1 1

/-! Derivations (R264, R305, R308). -/

/-- The octets of a 256-bit value. -/
def keyOctets (k : BitVec 256) : List Octet := beBytes 32 k.toNat

/-- The 256-bit value of 32 octets. -/
def keyOf (bs : List Octet) : BitVec 256 := BitVec.ofNat 256 (ofBe bs)

/-- HKDF-Expand of up to 64 octets (RFC 5869). -/
def hkdfExpand (prk : BitVec 256) (info : List Octet) (n : Nat) : List Octet :=
  let t1 := keyOctets (Config.hmac prk (info ++ [1]))
  (t1 ++ keyOctets (Config.hmac prk (t1 ++ info ++ [2]))).take n

/-- The two-call CMAC-based KDF in counter mode, over a tag octet and a context (R264, R308). -/
def cmacKdf (key : BitVec 256) (tag : Octet) (context : List Octet) : BitVec 256 :=
  let call := fun (i : Octet) => Config.cmac key ([i, tag, 0] ++ context ++ [1, 0])
  keyOf (beBytes 16 (call 1).toNat ++ beBytes 16 (call 2).toNat)

/-- KDF(key, context) with the KDF field of the slot: 0 HKDF-SHA-256, 1 the CMAC-based KDF (Table 13-5). -/
def derive (kdf : Nat) (key : BitVec 256) (tag : Octet) (context : List Octet) : BitVec 256 :=
  if kdf = 0 then keyOf (hkdfExpand key ([tag] ++ context) 32) else cmacKdf key tag context

/-- The key of a client (R264): the tag octet is 0x47. -/
def clientKeyOf (kdf : Nat) (service : BitVec 256) (context : List Octet) : BitVec 256 := derive kdf service 0x47 context

/-- An ICV under a client's key: AES-256-CMAC or HMAC-SHA-256 truncated to 16 octets (R263). -/
def icv (alg : Nat) (key : BitVec 256) (m : List Octet) : List Octet :=
  beBytes 16 (if alg = 0 then Config.cmac key m else Config.hmac16 key m).toNat

/-! Random numbers (R318). -/

/-- The DRBG answers: it has reseeded within 2^24 requests (R318). -/
def State.entropy (s : State) : Bool := decide (s.ks.requests < 2 ^ 24)

/-- `n` draws of the DRBG: the number of the first one, and the state after them. It reseeds every 2^20 requests while the
entropy source is healthy (R318). -/
def State.draw (s : State) (n : Nat) : State × Nat :=
  let r := s.ks.requests + n
  ({ s with ks := { s.ks with draws := s.ks.draws + n, requests := if r < 2 ^ 20 ∨ s.ks.trngFailed then r else 0 } },
    s.ks.draws)

/-- The DRBG is given a seed of 512 bits of entropy that has passed the health tests (R302, R318). -/
def State.seeded (s : State) : State := { s with ks := { s.ks with requests := 0, seeds := s.ks.seeds + 1 } }

/-- Sixteen octets of a draw. -/
def random16 (draw : Nat) : List Octet := beBytes 16 ((Config.random draw).extractLsb' 0 128).toNat

/-! The result of a key command (R313, R314). -/

/-- The holder slot `a` is slot `k` or an ancestor of it, within a depth. -/
def State.descends : Nat → State → Nat → Nat → Bool
  | 0, _, _, _ => false
  | f + 1, s, k, a => k == a || match (s.slotOf k).parent with
    | none => false
    | some (p, _) => State.descends f s p a

/-- A key command completes with OK: KEY_RESULT of the link that gave it, KEY_EVENT, the notice, and KS_ORPHAN where slots
became ORPHANED (R313, R314). -/
def State.keyDone (s : State) (w : KeyWait) : State :=
  let s1 := match w.link with
    | some l => s.wrN (Obj.KEY_RESULT (linkCode l) w.slot) Ks.OK
    | none => s
  ((s1.stick Obj.KS_STATUS 1).notice 6 (0xB100 + w.slot) 7
    (leBytes 2 w.slot ++ [oct w.cmd, oct w.state] ++ leBytes 6 w.gen ++ leBytes 2 w.orphaned)).when
      (decide (0 < w.orphaned)) (·.raise Src.KS_ORPHAN)

/-- Job `id` has completed: the key commands that waited for it alone complete (R314). -/
def State.keyJobDone (s : State) (id : Nat) : State :=
  let waits := s.ks.waits.map fun w => { w with jobs := w.jobs.filter (· != id) }
  let s1 : State := { s with ks := { s.ks with waits := waits.filter fun w => !w.jobs.isEmpty } }
  s1.forEach (l := waits.filter fun w => w.jobs.isEmpty) (p := State.keyDone)

/-! The root-derived keys (R305). -/

/-- The order of P-256. -/
def p256Order : Nat := 0xFFFFFFFF00000000FFFFFFFFFFFFFFFFBCE6FAADA7179E84F3B9CAC2FC632551

/-- Root-derived slot `k` from HKDF-Expand with the root as PRK: the scalar d, the storage key, the base of the management
channel. -/
def rootSlot (root : BitVec 256) (k : Nat) (old : KeySlot) : KeySlot :=
  let value := match k with
    | 0 => BitVec.ofNat 256 (ofBe (hkdfExpand root [0x49] 40) % (p256Order - 1) + 1)
    | 1 => keyOf (hkdfExpand root [0x53] 32)
    | _ => keyOf (hkdfExpand root [0x4D] 32)
  { KeySlot.none with state := .active, value := value, usage := 2 ^ (5 + k), recordGen := old.recordGen }

/-- The root that unwraps from its record: the PUF key of the helper data is the one it is wrapped under, or the integrity check
fails (R303). -/
def RootRecord.unwrapped (r : RootRecord) : Option (BitVec 256) := if r.helper = r.under then some r.value else none

/-- What a copy of the root's record holds in the key cells: the root under AES-256 key wrap with a PUF key (R302). -/
def RootRecord.cell (r : RootRecord) : List Octet := Config.wrap (Config.pufKey r.under) r.value

/-- What a slot's record holds of its key value in the key cells: the value wrapped with the storage key of slot 1 (R305). -/
def State.slotCell (s : State) (k : Nat) : List Octet := Config.wrap (s.slotOf 1).value (s.slotOf k).value

/-- BOOT step 8: slots 0–2 and KS_BOOT_NONCE, and the highest epoch of the pair record that the storage key opens (R348); nothing in a BOOT that a tamper alarm has left without a root (R42, R305). -/
def State.unlockKeystone (s : State) : State :=
  match s.ks.rootKey with
  | none => s
  | some root =>
    let slots := [0, 1, 2].foldl (fun (m : List (Nat × KeySlot)) k =>
      SMap.put KeySlot.none m k (rootSlot root k (SMap.get KeySlot.none m k))) s.ks.slots
    let d := ({ s with ks := { s.ks with slots := slots } } : State).draw 1
    let base := SMap.get KeySlot.none slots 2
    let s1 := d.1.wrBlob (List.replicate 16 0) Obj.KS_BOOT_NONCE
      ((keyOctets (Config.hmac base.value (beBytes 4 s.ks.bootCount ++ random16 d.2))).take 16)
    match s.bw.pairRecord, s.ks.root with
    | some r, some x => s1.when (s.paired && r.under == x.number) (·.wrN Obj.BW_EPOCH r.epoch)
    | _, _ => s1

end Sys2Proof.Machine
end

