-- ==== Sys2Proof/Machine/Grid.lean ====
section
/-! DEFINITION. The egress of a port: the grid of PCS block boundaries, the time gates, the reservation list, and the
choice of a departure instant (R20, R24, R232, R233, R269, R294 to R298). -/

namespace Sys2Proof.Machine

/-- Port `p`. -/
def State.port (s : State) (p : Nat) : Port := SMap.get Port.reset s.net.ports p

/-- The state with port `p` replaced. -/
def State.setPort (s : State) (p : Nat) (x : Port) : State :=
  { s with net := { s.net with ports := SMap.put Port.reset s.net.ports p x } }

/-- PORT_STATE: 0 OFF, 1 TRAINING, 2 ALIGNING, 3 UP, 4 DOWN (Table 10-3). -/
def State.portState (s : State) (p : Nat) : Nat := s.rdN (Obj.PORT_STATE p)

/-- SPEED of the port's configuration. -/
def State.speed (s : State) (p : Nat) : Nat := bitsAt (s.rdN (Obj.PORT_CFG p)) 0 3

/-- The block time of a speed in 1/25 ns (Table 10-1). -/
def blockUnits (speed : Nat) : Nat := match speed with | 0 => 160 | 1 => 64 | 2 => 32 | _ => 16

/-- 512 bit times, one quantum of PAUSE, in 2^-48 ns: eight blocks of 64 bits. -/
def State.quantum48 (s : State) (p : Nat) : Nat := 8 * blockUnits (s.speed p) * ns48 / 25

/-! The grid (R233). A place on the undisciplined clock is counted in 2^-16/25 ns, so that every block time and every
cycle is a whole number of units. -/

/-- Units in one 1 GHz cycle. -/
def gridUnits : Nat := 25 * 65536

/-- The place of the present cycle. -/
def State.place (s : State) : Nat := (s.clk.cycles + s.clk.frozenCycles) * gridUnits

/-- The block time of port `p` in units. -/
def State.blockStep (s : State) (p : Nat) : Nat := blockUnits (s.speed p) * 65536

/-- The place of block boundary `k` of port `p`. -/
def State.blockPlace (s : State) (p k : Nat) : Nat := (s.port p).phase.getD 0 + k * s.blockStep p

/-- The timescale instant of block boundary `k`, in 2^-48 ns, by the mapping in force (R20). -/
def State.blockTime (s : State) (p k : Nat) : Nat :=
  ((s.now48 : Int) + ((s.blockPlace p k : Int) - s.place) * s.step48 / gridUnits).toNat

/-- The first block boundary at or after the instant `t48`. -/
def State.firstBlock (s : State) (p t48 : Nat) : Nat :=
  let at48 : Int := ((t48 : Int) - s.now48) * gridUnits
  let place : Int := s.place - -at48 / s.step48
  ceilDiv (place - (s.port p).phase.getD 0).toNat (s.blockStep p)

/-- The short form of an instant in 2^-48 ns as stamps carry it: the short stamp and its 16-bit fraction (R133). -/
def shortStamp (t48 : Nat) : Nat × Nat := (t48 / ns48 % 2 ^ 32, t48 / 2 ^ 32 % 65536)

/-! Time gates (R295 to R298). -/

/-- Entry `j` of a gate list: its interval and its gate bits (Table 12-4). -/
def gateEntry (list : List Octet) (j : Nat) : Nat × Nat :=
  let w := ofLe (slice list (8 * j) 8)
  (bitsAt w 32 32, bitsAt w 0 10)

/-- The operational list of port `p`: GATE_LEN entries. -/
def State.gateList (s : State) (p : Nat) : List (Nat × Nat) :=
  (List.range (s.rdN (Obj.GATE_LEN p))).map (gateEntry (s.blob (List.replicate 512 0) (Obj.GATE_LIST p)))

/-- Where an instant of a cycle falls: the bits in force and the offset at which they end; the last entry lasts until
the cycle ends (R295). -/
def gateAt (cycle : Nat) : List (Nat × Nat) → Nat → Nat → Nat × Nat
  | [], _, _ => (0x3FF, cycle)
  | [(_, bits)], _, _ => (bits, cycle)
  | (len, bits) :: rest, start, off => if off < start + len then (bits, start + len) else gateAt cycle rest (start + len) off

/-- The administrative list of port `p` (R298). -/
def State.adminList (s : State) (p : Nat) : List (Nat × Nat) :=
  (List.range (s.rdN (Obj.ADM_LEN p))).map (gateEntry (s.blob (List.replicate 512 0) (Obj.ADM_LIST p)))

/-- The gate bits that a list gives at an instant, and when they end: the first cycle run is the first that starts at or after
`from80`, and every gate is open until then (R295; log entry 21). -/
def listAt (base cycle : Nat) (list : List (Nat × Nat)) (from80 t48 : Nat) : Nat × Nat :=
  let first := base + ceilDiv (from80 - base) cycle * cycle
  let t80 := t48 / ns48
  if t80 < first then (0x3FF, first * ns48)
  else
    let start := t80 - (t80 - base) % cycle
    let r := gateAt cycle list 0 (t80 - start)
    (r.1, (start + r.2) * ns48)

/-- The gate bits of port `p` at an instant, and the instant, in 2^-48 ns, at which they end. Every gate is open while GATE_EN
is 0; a list that is being restored closes the queues and opens SYNC and TIMED (R295, R301): elements 200 + p of block 13. From
the instant of a committed switch on the administrative bank counts (R298). -/
def State.gateState (s : State) (p t48 : Nat) : Nat × Nat :=
  if s.unsafeElement 13 (200 + p) then (0x300, t48 + sec48)
  else match (s.port p).gates with
    | none => (0x3FF, t48 + sec48)
    | some from80 =>
      let now := listAt (s.rdN (Obj.GATE_BASE p)) (s.rdN (Obj.GATE_CYCLE p)) (s.gateList p) from80 t48
      match (s.port p).switch with
      | none => now
      | some w =>
        if w * ns48 ≤ t48 then listAt (s.rdN (Obj.ADM_BASE p)) (s.rdN (Obj.ADM_CYCLE p)) (s.adminList p) w t48
        else (now.1, min now.2 (w * ns48))

/-- Gate bit `bit` of port `p` is open in block `k`: a change executes at the first boundary not earlier than its
instant (R295). -/
def State.gateOpen (s : State) (p bit k : Nat) : Bool := bitOn (s.gateState p (s.blockTime p k)).1 bit

/-! Reservations (R269). -/

/-- Blocks behind its start that a frame of `n` octets with its FCS holds: the frame, its preamble and the gap. -/
def frameBlocks (n : Nat) : Nat := ceilDiv (n + 12) 8

/-- The unbroken run of reserved blocks that [a, b) would be part of. -/
def runAround (l : List Reservation) (a b : Nat) : Nat × Nat :=
  (l.foldr (fun r lo => if r.last = lo then r.first else lo) a, l.foldl (fun hi r => if r.first = hi then r.last else hi) b)

/-- Reservations in order of their blocks, with one more. -/
def insertReservation (r : Reservation) : List Reservation → List Reservation
  | [] => [r]
  | x :: rest => if r.first < x.first then r :: x :: rest else x :: insertReservation r rest

/-- Reservations whose blocks have not all passed: a frame that has started keeps its blocks until it has left (log
entry 22). -/
def State.prune (s : State) (p : Nat) : State :=
  let x := s.port p
  s.setPort p { x with reserved := x.reserved.filter fun r => !r.sent || decide (s.place < s.blockPlace p r.last) }

/-- What the gates hold against a start at block `k`, and the first block worth a look after it. -/
def State.gateBlocked (s : State) (p bit n k : Nat) : Option Nat :=
  ((List.range (n + 1)).find? fun i => !s.gateOpen p bit (k - 1 + i)).map fun i =>
    max (k + 1) (s.firstBlock p (max s.now48 (s.gateState p (s.blockTime p (k - 1 + i))).2) + 1)

/-- A frame of `n` blocks that would join the reservations held into an unbroken run of more than 2,048 blocks moves to the first
boundary that leaves 12 free blocks after the last block they hold of it (R269). -/
def State.runBlocked (s : State) (p n k : Nat) : Option Nat :=
  let run := runAround (s.port p).reserved (k - 1) (k + n)
  if 2048 < run.2 - run.1 then some ((if k + n < run.2 then run.2 else k - 1) + 13) else none

/-- The reservations, a waiting PAUSE frame or the gates keep a frame of `n` blocks with gate bit `bit` from starting at block
`k`: the first block worth a look after it (R24, R238, R269, R294). -/
def State.occupied (s : State) (p bit n k : Nat) : Option Nat :=
  let x := s.port p
  match x.reserved.find? fun r => decide (r.first < k + n ∧ k - 1 < r.last) with
  | some r => some (r.last + 1)
  | none => match x.pause with
    | some (start, _) => if k < start then some (start + 11) else s.gateBlocked p bit n k
    | none => s.gateBlocked p bit n k

/-- What keeps a frame from starting at block `k`, the run limit last; none where it may start. -/
def State.blocked (s : State) (p bit n k : Nat) : Option Nat :=
  match s.occupied p bit n k with
  | some k1 => some k1
  | none => s.runBlocked p n k

/-- The first block from `k` on at which a frame may start. -/
def State.search : Nat → State → Nat → Nat → Nat → Nat → Option Nat
  | 0, _, _, _, _, _ => none
  | f + 1, s, p, bit, n, k => match s.blocked p bit n k with
    | none => some k
    | some k1 => State.search f s p bit n (max k1 (k + 1))

/-- The departure instant of a frame of `octets` (with FCS) whose gate bit is `bit` and that is not to leave before
`from48`: its block, and D (R24, R269). -/
def State.schedule (s : State) (p bit octets from48 : Nat) : Option Nat :=
  s.search (4 * ((s.port p).reserved.length + 600)) p bit (frameBlocks octets)
    (s.firstBlock p (max from48 (s.now48 + s.rdN Obj.TPE_COMMIT_LEAD * ns48)))

/-- The reservation of a frame that starts at block `k`, with the bit of its gate. -/
def State.reserve (s : State) (p k octets frame bit : Nat) (sent : Bool) : State :=
  let x := s.port p
  let r : Reservation := { first := k - 1, last := k + frameBlocks octets, frame := frame, bit := bit, sent := sent }
  s.setPort p { x with reserved := insertReservation r x.reserved }

/-- The reservation of frame `frame` is released. -/
def State.unreserve (s : State) (p frame : Nat) : State :=
  let x := s.port p
  s.setPort p { x with reserved := x.reserved.filter fun r => r.frame != frame || r.sent }

/-- Frame `frame` has started. -/
def State.onWire (s : State) (p frame : Nat) : State :=
  let x := s.port p
  s.setPort p { x with reserved := x.reserved.map fun r => if r.frame = frame then { r with sent := true } else r }

end Sys2Proof.Machine
end

