-- ==== Sys2Proof/Machine/Transmit.lean ====
section
/-! DEFINITION. Host-to-engine rings as their users see them: taking descriptors, starting one, holding it back by ORDERED
and FENCE, and writing it back (R383, R385, R389 to R391). -/

namespace Sys2Proof.Machine

/-- The ring takes descriptors: enabled, in RUN, and not stalled (R379, R387). -/
def State.takes (s : State) (k : Nat) : Bool :=
  s.rdB (Obj.RING_EN k) && s.rdN (Obj.RING_STATE k) == 1 && !(s.ring k).restart && !s.ringStalled k

/-- A ring is enabled: HEAD, DONE and the doorbell count are 0, the trailer is written, and it runs (R387). -/
def State.ringOn (s : State) (k : Nat) : State :=
  ((((((s.wrN (Obj.RING_EN k) 1).wrN (Obj.RING_HEAD k) 0).wrN (Obj.RING_DONE k) 0).setRing k
    { s.ring k with posted := [], taken := [], doorbell := 0, irqWaiting := false, finished := [], restart := false }).trailer k).wrN
      (Obj.RING_STATE k) 1)

/-- What a disabled ring had started is complete: it writes its trailer and enters OFF, and a later enable takes effect (R387). -/
def State.ringDrained (s : State) (k : Nat) : State :=
  let s1 := (s.trailer k).wrN (Obj.RING_STATE k) 0
  s1.when (s.ring k).restart (·.ringOn k)

/-- The octets that a slow-path frame holds in the egress buffer, with its padding and its FCS (R242). -/
def slowSize (d : Posted) : Nat := max 60 d.length + 4

/-- Ring `k` takes one more descriptor: ring 0 holds up to 16 commands that are not yet written back (R389), and a ring 11 to 18
takes a descriptor while its frame fits in the 192 KiB that the queues share (R292). -/
def State.takesOne (s : State) (k : Nat) (d : Posted) : Bool :=
  let taken := (s.ring k).taken
  if k = 0 then decide (taken.length < 16)
  else decide ((taken.map fun t => slowSize t.desc).foldl (· + ·) (slowSize d) ≤ 196608)

/-- The engine takes posted descriptors in count order and reads their buffers (R383, R389). It goes no further than one with
OWN = 0, nor than one that it has no room for. -/
def State.takeAhead (k : Nat) : List Posted → State → State
  | [], s => s
  | p :: rest, s =>
    if !p.own || !s.takesOne k p then s
    else
      let count := s.rdN (Obj.RING_HEAD k)
      let s1 := s.takeHead k
      let t : Taken := { count := count, desc := p, started := false }
      State.takeAhead k rest ((s1.setRing k { s1.ring k with taken := (s1.ring k).taken ++ [t] }).trailer k)

/-- What a host-to-engine ring takes now. -/
def State.ahead (s : State) (k : Nat) : State := if s.takes k then State.takeAhead k (s.ring k).posted s else s

/-- Those of the taken descriptors that may start, in count order: held back neither by ORDERED nor by FENCE (R390, R391). -/
def mayStartOf (earlier : List Taken) : List Taken → List Taken
  | [] => []
  | t :: ts =>
    let rest := mayStartOf (earlier ++ [t]) ts
    if !t.started && !(t.desc.ordered && earlier.any (·.desc.ordered)) && !(t.desc.fence && !earlier.isEmpty) &&
        !earlier.any (·.desc.fence) then t :: rest
    else rest

/-- The descriptors of a host-to-engine ring that may start now. -/
def State.startable (s : State) (k : Nat) : List Taken :=
  if s.takes k then mayStartOf [] (s.ring k).taken else []

/-- The next descriptor of a host-to-engine ring that may start. -/
def State.nextTaken (s : State) (k : Nat) : Option Taken := (s.startable k).head?

/-- The work of a taken descriptor starts. -/
def State.takeStart (s : State) (k : Nat) (t : Taken) : State :=
  s.setRing k { s.ring k with taken := (s.ring k).taken.map fun x => if x.count = t.count then { x with started := true } else x }

/-- A taken descriptor is written back once, with DONE at the first descriptor that is not (R382, R383, R385). The ring that
is being disabled enters OFF with the last of them (R387). A write-back on ring 0 carries its own instant (Table 16-4). -/
def State.finishNow (s : State) (k : Nat) (f : Finished) : State :=
  let x := s.ring k
  match x.taken.find? fun t => t.count == f.count with
  | none => s
  | some t =>
    let rest := x.taken.filter fun t => t.count != f.count
    let done := match rest with | [] => s.rdN (Obj.RING_HEAD k) | t :: _ => t.count
    let stamp := if k = 0 then s.stampNs else f.stampNs
    let s1 := ((s.setRing k { x with taken := rest }).writeBack k f.count t.desc stamp f.aux t.desc.length f.status).wroteBack k done
      f.status t.desc.interrupt
    s1.when (rest.isEmpty && (!s1.rdB (Obj.RING_EN k) || x.restart)) (·.ringDrained k)

/-- A taken descriptor is finished: it is written back, when ring DMA goes on where it pauses (R379, R397). -/
def State.finishTaken (s : State) (k count status aux stampNs : Nat) : State :=
  let x := s.ring k
  let f : Finished := { count := count, status := status, aux := aux, stampNs := stampNs }
  if !s.dmaPaused then s.finishNow k f
  else if x.finished.any (·.count == count) then s else s.setRing k { x with finished := x.finished ++ [f] }

/-- A descriptor whose command is not executed or whose frame is never sent: on ring 0 the instant of the write-back; on rings
11 to 18 the bits of AUX as posted, and a departure instant that does not exist (Tables 16-3 and 16-4). -/
def State.finishUnsent (s : State) (k count status : Nat) : State :=
  if k = 0 then s.finishTaken 0 count status 0 s.stampNs
  else
    let posted := match (s.ring k).taken.find? fun t => t.count == count with | some t => t.desc.aux % 16 | none => 0
    let free := (Config.unsentStamp k count).toNat
    s.finishTaken k count status (free / 2 ^ 32 * 2 ^ 16 + posted) (free % 2 ^ 32)

end Sys2Proof.Machine
end

