-- ==== Sys2Proof/Machine/Ports.lean ====
section
/-! DEFINITION. The Ethernet ports: configuration, states, deskew, and PAUSE (R227 to R239). -/

namespace Sys2Proof.Machine

/-- An event of port `p` (Table 17-8). -/
def State.portEvent (s : State) (p k amt : Nat) : State := s.count (0x080 + 16 * p + k) amt

/-- The port's configuration is good, or it stops its launches and discards what it receives (R248). -/
def State.portGood (s : State) (p : Nat) : Bool := !s.unsafeElement 8 p

/-- The port may put a frame on the wire: UP, configured, its SerDes clocked by a locked APLL-B, the lease current, the
timescale running (R23, R180, R181, R229, R248). -/
def State.portSends (s : State) (p : Nat) : Bool :=
  s.portState p == 3 && s.portGood p && s.apllB && s.leaseCurrent && !s.clk.frozen && s.mode != Mode.STANDBY

/-- A bit of PORT_CFG: 10 AN, 11 LT, 12 TX_PAUSE, 13 RX_PAUSE (Table 10-2). -/
def State.portBit (s : State) (p bit : Nat) : Bool := bitOn (s.rdN (Obj.PORT_CFG p)) bit

/-- A frame whose first block is at the reference plane at D: it leaves the ball PORT_TX_LAT earlier (R232). -/
def State.launchAt (s : State) (p dep48 : Nat) (octets : List Octet) : State :=
  let at16 := dep48 / 2 ^ 32
  s.emit (.launch p at16 ((at16 : Int) - s.rd (Obj.PORT_TX_LAT p)) octets)

/-- A discard of a frame at or before its D (R25, R229, R239). -/
def State.launchDiscard (s : State) (p : Nat) : State :=
  ((s.portEvent p 9 1).stick (Obj.PORT_STICKY p) 5).raise Src.PORT_LATE_DISCARD

/-! Configuration (R227). -/

/-- The FEC modes that a speed permits (Table 10-1). -/
def fecGood (speed fec : Nat) : Bool :=
  match speed with
  | 0 => fec == 0 || fec == 1
  | 1 => fec == 0 || fec == 1 || fec == 2
  | 2 => fec == 3
  | 3 => fec == 3
  | 4 => fec == 2
  | _ => false

/-- Port `p` is enabled with SPEED 4. -/
def State.fourLanes (s : State) (p : Nat) : Bool := s.rdB (Obj.PORT_EN p) && s.speed p == 4

/-- PORT_EN 0→1 is accepted (R227, R238). -/
def State.portConfigGood (s : State) (p : Nat) : Bool :=
  let mac := s.rdN (Obj.PORT_MAC p)
  fecGood (s.speed p) (bitsAt (s.rdN (Obj.PORT_CFG p)) 6 2) &&
    !(s.speed p == 4 && (p % 2 == 1 || s.rdB (Obj.PORT_EN (p + 1)))) && !(p % 2 == 1 && s.fourLanes (p - 1)) &&
    mac != 0 && !bitOn mac 40 && decide (s.rdN (Obj.PORT_BUF_LO p) < s.rdN (Obj.PORT_BUF_HI p))

/-! States (R228, R229). -/

/-- Every queued slow-path frame of port `p` is written back with LINK_DOWN (R229, R343). -/
def State.queuesDown (s : State) (p : Nat) : State :=
  let s1 := s.forEach (l := (s.port p).queues) (p := fun s e =>
    s.forEach (l := e.2) (p := fun s f => s.finishUnsent (11 + p) f.count 3))
  s1.setPort p { s1.port p with queues := [], deficits := [], gained := false, holds := [] }

/-- A frame of the port is on the wire. -/
def State.onTheWire (s : State) (p : Nat) : Bool :=
  (s.port p).reserved.any fun r =>
    r.sent && decide (s.blockPlace p (r.first + 1) ≤ s.place ∧ s.place < s.blockPlace p r.last)

/-- The port leaves UP for `st`: a frame partly launched is abandoned, the queues are written back, and the SyncE slot
goes to LOS (R229, R85). -/
def State.portLeave (s : State) (p st : Nat) : State :=
  let s1 := (s.when (s.onTheWire p) fun s => (s.portEvent p 9 1).raise Src.PORT_LATE_DISCARD).queuesDown p
  let s2 := (s1.setPort p { s1.port p with reserved := [], pause := none, repeat48 := none, held48 := none,
                                           since48 := s1.up48 }).wrN (Obj.PORT_STATE p) st
  (((s2.stick (Obj.PORT_STICKY p) 8).portEvent p 15 1).slotLos (8 + p)).cond (Src.PORT_DESKEW_FAIL p) false

/-- The port takes a state in which it is not UP. -/
def State.portTo (s : State) (p st : Nat) : State :=
  if s.portState p = 3 then s.portLeave p st
  else ((s.setPort p { s.port p with since48 := s.up48 }).wrN (Obj.PORT_STATE p) st).cond (Src.PORT_DESKEW_FAIL p) false

/-- The port starts: TRAINING, or ALIGNING where AN and LT are both clear. -/
def State.portStart (s : State) (p : Nat) : State := s.portTo p (if s.portBit p 10 || s.portBit p 11 then 1 else 2)

/-- The port goes to OFF. -/
def State.portOff (s : State) (p : Nat) : State := (s.portTo p 0).cond (Src.PORT_DOWN p) false

/-- A write of PORT_EN. -/
def State.setPortEn (s : State) (p : Nat) (v : Bool) : State :=
  if !v then (s.wrN (Obj.PORT_EN p) 0).portOff p
  else if s.rdB (Obj.PORT_EN p) then s
  else if !s.portConfigGood p then s.rangeReject 8 (Obj.PORT_EN p).key
  else (s.wrN (Obj.PORT_EN p) 1).when (s.rdB Obj.ETH_ENABLE) (·.portStart p)

/-- PORT_EN_WRITE (R227). -/
def execPortEnWrite (port : Fin 8) (v : Bool) (s : State) : Host.Outcome State Fault Refusal :=
  s.orHeld 8 .custodian .pcie (Obj.PORT_EN port) [flag8 v] [] <|
    .next (s.setPortEn port v).close

/-- A write of ETH_ENABLE: 0 puts every port in OFF. -/
def State.setEthEnable (s : State) (v : Bool) : State :=
  (s.wr Obj.ETH_ENABLE (flag v)).when (!v) fun s => s.forEach (l := List.range 8) (p := fun s p => s.portOff p)

/-- ETH_ENABLE_WRITE (R229). -/
def execEthEnableWrite (v : Bool) (s : State) : Host.Outcome State Fault Refusal :=
  s.orHeld 8 .custodian .pcie Obj.ETH_ENABLE [flag8 v] [] <|
    .next (s.setEthEnable v).close

/-- PORT_TRAINING_COMPLETE: auto-negotiation and training are complete (R228). -/
def execPortTrainingComplete (port : Fin 8) (s : State) : Host.Outcome State Fault Refusal :=
  if s.portState port ≠ 1 then .next s else .next (s.portTo port 2).settle

/-- A measurement of the lanes' skew: a spread of up to 180 ns is accepted and the port is UP, on a grid whose phase is
where its PCS put it, and the SyncE slot of the port leaves LOS; a larger one is tried again (R90, R230, R233). Both operands are in 2^-16 ns. -/
def State.deskew (s : State) (p spread : Nat) (deskew : Int) : State :=
  if 180 * 65536 < spread then
    ((s.setPort p { s.port p with since48 := s.up48 }).stick (Obj.PORT_STICKY p) 9).cond (Src.PORT_DESKEW_FAIL p) true
  else
    let x := s.port p
    let phase := Config.gridPhase s.net.phases % s.blockStep p
    let s1 := s.setPort p { x with phase := some phase, reserved := [] }
    let s2 : State := { s1 with net := { s1.net with phases := s1.net.phases + 1 } }
    let s3 := (((s2.wr (Obj.PORT_DESKEW p) deskew).wrN (Obj.PORT_STATE p) 3).cond (Src.PORT_DESKEW_FAIL p) false).cond
      (Src.PORT_DOWN p) false
    s3.when (s3.slotState (8 + p) == Sl.LOS) (·.slotQualifying (8 + p) none)

/-- PORT_ALIGNED: lock is complete on every lane and the skew is measured (R230). -/
def execPortAligned (port : Fin 8) (spread deskew : BitVec 32) (s : State) : Host.Outcome State Fault Refusal :=
  if s.portState port ≠ 2 ∨ s.active (Src.PORT_DESKEW_FAIL port) = true then .next s
  else .next (s.deskew port spread.toNat deskew.toInt).settle

/-- PORT_DESKEW_RETRY: 10 ms after a failure the skew is measured again (R230). -/
def execPortDeskewRetry (port : Fin 8) (spread deskew : BitVec 32) (s : State) : Host.Outcome State Fault Refusal :=
  if s.portState port ≠ 2 ∨ s.active (Src.PORT_DESKEW_FAIL port) = false then .next s
  else match s.runTo ((s.port port).since48 + ms48 10) with
    | none => .next s
    | some s1 => .next (s1.deskew port spread.toNat deskew.toInt).settle

/-- A frame cut off mid-reception (R229, Table 10-4). -/
def State.truncated (s : State) (p : Nat) : State := (s.portEvent p 8 1).stick (Obj.PORT_STICKY p) 0

/-- PORT_LINK_LOSS: a condition of UP is lost (R229). -/
def execPortLinkLoss (port : Fin 8) (rxCut : Bool) (s : State) : Host.Outcome State Fault Refusal :=
  if s.portState port ≠ 3 then .next s
  else .next (((s.when rxCut (·.truncated port)).portLeave port 4).cond (Src.PORT_DOWN port) true).close

/-- PORT_DOWN_EXPIRY: 10 ms in DOWN (Table 10-3). -/
def execPortDownExpiry (port : Fin 8) (s : State) : Host.Outcome State Fault Refusal :=
  if s.portState port ≠ 4 then .next s
  else match s.runTo ((s.port port).since48 + ms48 10) with
    | none => .next s
    | some s1 => .next (s1.portStart port).settle

/-! Buffers and PAUSE (R237 to R239). -/

/-- The passages of pipeline `pl` that wait or are in it before build, oldest first. -/
def State.inbound (s : State) (pl : Nat) : List Passage := s.tpe.waiting.filter fun w => w.pl == pl

/-- The frames that pipeline `pl` holds past build. -/
def State.outbound (s : State) (pl : Nat) : Nat :=
  (s.tpe.frames.filter fun f => f.pl == pl).length + (s.tpe.replies.filter fun r => r.passage.pl == pl).length

/-- The received passages that a full pipeline leaves in their ports' ingress buffers (R250). -/
def State.held (s : State) : List Passage :=
  ((List.range 4).map fun pl => (s.inbound pl).drop (256 - s.outbound pl)).flatten

/-- Octets in the ingress buffer of port `p`, with their FCS (R237). -/
def State.ingress (s : State) (p : Nat) : Nat :=
  ((s.held.filter fun w => w.port == p).map fun w => w.octets.length + 4).foldl (· + ·) 0

/-- A PAUSE with `quanta` is due: it takes the first boundary, at least 100 ns away, at which its 11 blocks overlap no
reservation (R238). -/
def State.pauseDue (s : State) (p quanta : Nat) : State :=
  let x := s.port p
  match x.pause with
  | some (k, _) => s.setPort p { x with pause := some (k, quanta) }
  | none =>
    let k := x.reserved.foldl (fun k r => if r.first < k + 10 ∧ k - 1 < r.last then r.last + 1 else k)
      (s.firstBlock p (s.now48 + 100 * ns48))
    (s.setPort p { x with pause := some (k, quanta) }).reserve p k 64 0 10 true

/-- A PAUSE frame, without its FCS (R238). -/
def pauseFrame (mac quanta : Nat) : List Octet :=
  framePadded (beBytes 6 0x0180C2000001 ++ beBytes 6 mac ++ [0x88, 0x08, 0, 1] ++ beBytes 2 quanta)

/-- The watermarks, after the occupancy was `before`: PAUSE at PORT_BUF_HI, and a PAUSE of 0 below PORT_BUF_LO after
one was sent (R238). -/
def State.watermarks (s : State) (p before : Nat) : State :=
  let now := s.ingress p
  if !s.portBit p 12 || !s.portSends p then s
  else if before < s.rdN (Obj.PORT_BUF_HI p) ∧ s.rdN (Obj.PORT_BUF_HI p) ≤ now then
    s.pauseDue p (s.rdN (Obj.PORT_PAUSE_TIME p))
  else if (s.port p).repeat48.isSome && decide (s.rdN (Obj.PORT_BUF_LO p) ≤ before ∧ now < s.rdN (Obj.PORT_BUF_LO p)) then
    (s.setPort p { s.port p with repeat48 := none }).pauseDue p 0
  else s

/-- The watermarks of every port judged after what led from `s` to `t`. -/
def State.watched (t s : State) : State :=
  t.forEach (l := List.range 8) (p := fun t p => t.watermarks p (s.ingress p))

/-- PAUSE_FRAME_SEND: the PAUSE that waits is launched at its boundary. While the occupancy stays at or above PORT_BUF_LO it is
to be repeated; where the occupancy has fallen below it by then, a PAUSE of 0 follows (R238). -/
def execPauseFrameSend (port : Fin 8) (s : State) : Host.Outcome State Fault Refusal :=
  match (s.port port).pause with
  | none => .next s
  | some (k, quanta) =>
    if !s.portSends port then .next (s.setPort port { s.port port with pause := none }).settle
    else match s.reach (s.blockTime port k / ns48) with
      | none => .next s
      | some s1 =>
        if !s1.portSends port then .next (s1.setPort port { s1.port port with pause := none }).settle
        else
        let high := decide (s1.rdN (Obj.PORT_BUF_LO port) ≤ s1.ingress port)
        let again := if 0 < quanta ∧ high then some (s1.up48 + quanta * s1.quantum48 port / 2) else none
        let s2 := ((s1.setPort port { s1.port port with pause := none, repeat48 := again }).stick (Obj.PORT_STICKY port) 6
          |>.portEvent port 11 1).launchAt port (s1.blockTime port k) (pauseFrame (s1.rdN (Obj.PORT_MAC port)) quanta)
        .next (s2.when (decide (0 < quanta) && !high) (·.pauseDue port 0)).settle

/-- PAUSE_REPEAT: PORT_PAUSE_TIME / 2 quanta have passed with the occupancy still at or above PORT_BUF_LO (R238). -/
def execPauseRepeat (port : Fin 8) (s : State) : Host.Outcome State Fault Refusal :=
  match (s.port port).repeat48 with
  | none => .next s
  | some due => match s.runTo due with
    | none => .next s
    | some s1 =>
      let s2 := s1.setPort port { s1.port port with repeat48 := none }
      if s2.rdN (Obj.PORT_BUF_LO port) ≤ s2.ingress port then
        .next (s2.pauseDue port (s2.rdN (Obj.PORT_PAUSE_TIME port))).settle
      else .next s2.settle

/-- A received PAUSE of `quanta`: with RX_PAUSE set the MAC starts no frame until it ends (R239). -/
def State.pauseReceived (s : State) (p quanta : Nat) : State :=
  let s1 := (s.stick (Obj.PORT_STICKY p) 7).portEvent p 10 1
  if s.portBit p 13 then
    s1.setPort p { s1.port p with held48 := if quanta = 0 then none else some (s1.up48 + quanta * s1.quantum48 p) }
  else s1

/-- RECEIVED_PAUSE_END: the requested pause runs out (R239). -/
def execReceivedPauseEnd (port : Fin 8) (s : State) : Host.Outcome State Fault Refusal :=
  match (s.port port).held48 with
  | none => .next s
  | some due => match s.runTo due with
    | none => .next s
    | some s1 => .next (s1.setPort port { s1.port port with held48 := none }).settle

end Sys2Proof.Machine
end

