-- ==== Sys2Proof/Machine/FieldPorts.lean ====
section
/-! DEFINITION. The field ports: reception, half-duplex transmission with back-off, and the PHY link (R243 to R246). -/

namespace Sys2Proof.Machine

/-- A sticky bit of a field port (Table 10-7). -/
def State.fpStick (s : State) (f bit : Nat) : State := s.stick (Obj.FP_STICKY f) bit

/-- A received frame is discarded (R245). -/
def State.fpDiscard (s : State) (f bit : Nat) : State := (s.fpStick f bit).count (0x1E8 + f) 1

/-- The frame passes the address, Ethertype and length tests (R245). -/
def State.fpWanted (s : State) (f : Nat) (octets : List Octet) : Bool :=
  let dst := field octets 0 6
  (dst == s.rdN (Obj.FP_MAC f) || dst == 0xFFFFFFFFFFFF) && field octets 12 2 == 0x88B5 &&
    decide (64 ≤ octets.length + 4 ∧ octets.length + 4 ≤ 1518)

/-- A frame has been on the medium: CRS was high for it (R243). -/
def State.fpHeard (s : State) (f : Nat) : State := s.setFp f { s.fp f with idle := false }

/-- FP_FRAME_RX: CRS was high for it; a frame is filtered and, where it is a GOP frame, takes a receive buffer until its
request is processed (R243, R245). -/
def execFpFrameRx (fp : Fin 2) (frame : RxFrame) (s : State) : Host.Outcome State Fault Refusal :=
  let s := s.fpHeard fp
  if s.rdN (Obj.FP_STATE fp) ≠ 2 then .next s
  else if !frame.complete || !frame.fcsOk then .next (s.fpDiscard fp 2).settle
  else if !s.fpWanted fp frame.octets then .next (s.fpDiscard fp 4).settle
  else if 4 ≤ (s.fp fp).rx then .next (s.fpDiscard fp 3).settle
  else .next (s.setFp fp { s.fp fp with rx := (s.fp fp).rx + 1 }).settle

/-- The frame at the head starts, or starts again, where the port is UP and its configuration good (R243, R248). -/
def State.fpSend (s : State) (f : Nat) : State :=
  let x := s.fp f
  match x.tx with
  | [] => s.setFp f { x with phase := .deferring }
  | e :: _ =>
    if s.rdN (Obj.FP_STATE f) = 2 ∧ s.unsafeElement 9 f = false then
      (s.setFp f { x with phase := .sending, idle := false }).emit (.fieldFrame f e)
    else s.setFp f { x with phase := .deferring }

/-- The frame at the head is done with. -/
def State.fpNext (s : State) (f : Nat) : State :=
  let x := s.fp f
  s.setFp f { x with tx := x.tx.tail, collisions := 0, phase := .deferring, after := x.after.map fun a => (a.1 - 1, a.2) }

/-- The slots of the back-off after the n-th collision: uniform below 2^min(n, 10), and so left open (R244). -/
def backoffSlots (draw n : Nat) : Nat := Config.backoff draw % 2 ^ min n 10

/-- FP_BACKOFF_EXPIRY: the frame is tried again: at once where the medium is free, and otherwise when CRS has fallen and
the interframe gap has passed (R243, R244). -/
def execFpBackoffExpiry (fp : Fin 2) (s : State) : Host.Outcome State Fault Refusal :=
  match (s.fp fp).phase with
  | .backoff due => match s.runTo due with
    | none => .next s
    | some s1 =>
      .next (if (s1.fp fp).idle then s1.fpSend fp else s1.setFp fp { s1.fp fp with phase := .deferring }).settle
  | _ => .next s

/-- What a field port holds to send, and what waits for it, is given up. -/
def State.fpEmpty (s : State) (f : Nat) : State :=
  s.setFp f { s.fp f with tx := [], phase := .deferring, collisions := 0, after := [] }

/-- A write of FP_EN: 0 stops the port, 1 starts it, or lets it run on where it was about to stop; the next poll finds its
link (R246). -/
def State.setFpEn (s : State) (f : Nat) (v : Bool) : State :=
  if v then
    let s1 := s.setFp f { s.fp f with after := (s.fp f).after.filter fun a => a.2 != .stop }
    if s1.rdB (Obj.FP_EN f) then s1 else (s1.wrN (Obj.FP_EN f) 1).wrN (Obj.FP_STATE f) 1
  else if s.rdB (Obj.FP_EN f) then
    let s1 := ((s.wrN (Obj.FP_EN f) 0).endSession (if f = 0 then .fp0 else .fp1)).wrN (Obj.FP_STATE f) 0
    ((s1.fpEmpty f).setFp f { (s1.fpEmpty f).fp f with rx := 0, idle := false }).cond (Src.FP_LINK_DOWN f) false
  else s

/-- What is to be done when the reply just queued on field port `f` has left (R246, R358). -/
def State.afterReply (s : State) (f : Nat) (a : AfterReply) : State :=
  s.setFp f { s.fp f with after := (s.fp f).after ++ [((s.fp f).tx.length, a)] }

/-- FP_EN_WRITE (R246). -/
def execFpEnWrite (fp : Fin 2) (v : Bool) (s : State) : Host.Outcome State Fault Refusal :=
  s.orHeld 9 .custodian .pcie (Obj.FP_EN fp) [flag8 v] [] <|
    .next (s.setFpEn fp v).settle

end Sys2Proof.Machine
end

