-- ==== Sys2Proof/Machine/Fold.lean ====
section
/-! DEFINITION. The Fold: client keys and their hash, buckets, insertion with relocation, and the record as octets (R252
to R255), with what Drover counts over it (R290). -/

namespace Sys2Proof.Machine

/-- The key fields in the order of Table 11-2, in network order: 36 octets. -/
def keyBytes (k : ClientKey) : List Octet :=
  beBytes 16 k.addr ++ beBytes 6 k.mac ++ beBytes 8 k.clockId ++ beBytes 2 k.portNum ++ beBytes 2 k.udpPort ++
    [oct (k.eport * 32 + k.transport * 8), oct k.domain]

/-- The 128-bit key that the TRNG draws at every BOOT (R253). -/
def State.hashKey (s : State) : BitVec 128 := (Config.random s.tpe.hashDraw).extractLsb' 0 128

/-- H of a client key (R253). -/
def State.hash (s : State) (k : ClientKey) : Nat := (Config.sipHash s.hashKey (keyBytes k)).toNat

/-- H over the source address and source UDP port, for NTP (R249). -/
def State.ntpHash (s : State) (addr udpPort : Nat) : Nat :=
  (Config.sipHash s.hashKey (beBytes 16 addr ++ beBytes 2 udpPort)).toNat

/-- The pipeline of a hash: its bits 63:62 (R249). -/
def pipelineOf (h : Nat) : Nat := bitsAt h 62 2

/-- The two candidate buckets of a hash (R253). -/
def bucketsOf (h : Nat) : Nat × Nat :=
  let b1 := bitsAt h 0 17
  let b2 := bitsAt h 33 17
  (b1, if b2 = b1 then b1 ^^^ 1 else b2)

/-- The record of a number. -/
def State.record (s : State) (r : Nat) : Option FoldRecord := (s.tpe.fold.find? fun e => e.1 == r).map (·.2)

/-- The state with record `r` holding `x`. -/
def State.setRecord (s : State) (r : Nat) (x : FoldRecord) : State :=
  { s with tpe := { s.tpe with fold := SMap.ins r x s.tpe.fold } }

/-- Record `r` changed, where it is valid. -/
def State.onRecord (s : State) (r : Nat) (f : FoldRecord → FoldRecord) : State :=
  match s.record r with | some x => s.setRecord r (f x) | none => s

/-- The record numbers of a bucket. -/
def bucketRecords (b : Nat) : List Nat := (List.range 8).map (8 * b + ·)

/-- The record that holds a client key: both buckets are read and the whole key is compared (R253). -/
def State.lookup (s : State) (k : ClientKey) : Option (Nat × FoldRecord) :=
  let b := bucketsOf (s.hash k)
  (bucketRecords b.1 ++ bucketRecords b.2).findSome? fun r => match s.record r with
    | some x => if x.key = k then some (r, x) else none
    | none => none

/-- The free records of a bucket. -/
def State.freeIn (s : State) (b : Nat) : List Nat := (bucketRecords b).filter fun r => (s.record r).isNone

/-- The other candidate bucket of a record. -/
def State.otherBucket (s : State) (r : Nat) : Nat :=
  match s.record r with
  | some x => let b := bucketsOf (s.hash x.key); if b.1 = r / 8 then b.2 else b.1
  | none => r / 8

/-- Moves that free a record of bucket `b`, at most `fuel` of them, the last one first: the first record whose other
bucket has room moves there; where none has, room is made in the other bucket of the bucket's first record, and so on
(R253; log entry 24). The record freed comes with them. -/
def State.relocations : Nat → State → Nat → Option (List (Nat × Nat) × Nat)
  | 0, _, _ => none
  | f + 1, s, b =>
    match (bucketRecords b).findSome? fun r => (s.freeIn (s.otherBucket r)).head?.map fun t => (r, t) with
    | some (r, t) => some ([(r, t)], r)
    | none =>
      let r := 8 * b + f % 8
      match State.relocations f s (s.otherBucket r) with
      | some (moves, free) => some (moves ++ [(r, free)], r)
      | none => none

/-- A record is copied to a free place and its old copy invalidated; calendar entries follow its number (R253). -/
def State.moveRecord (s : State) (m : Nat × Nat) : State :=
  match s.record m.1 with
  | none => s
  | some x =>
    let s1 := s.setRecord m.2 x
    let cal := s1.tpe.calendar.map fun e => match e.owner with
      | .client r a => if r = m.1 then { e with owner := .client m.2 a } else e
      | .multicast _ _ _ => e
    let frames := s1.tpe.frames.map fun f => match f.kind with
      | .sync (some r) => if r = m.1 then { f with kind := .sync (some m.2) } else f
      | _ => f
    let replies := s1.tpe.replies.map fun h => if h.record = some m.1 then { h with record := some m.2 } else h
    { s1 with tpe := { s1.tpe with fold := SMap.del m.1 s1.tpe.fold, calendar := cal, frames := frames, replies := replies } }

/-- A place for a new record: a free one of the less occupied bucket, the first on a tie; otherwise up to 32 records are
relocated; none where that fails (R253). -/
def State.place? (s : State) (k : ClientKey) : Option (State × Nat) :=
  let b := bucketsOf (s.hash k)
  let f1 := s.freeIn b.1
  let f2 := s.freeIn b.2
  match (if f1.length < f2.length then f2.head? else f1.head?) with
  | some r => some (s, r)
  | none => match s.relocations 32 b.1 with
    | some (moves, r) => some (s.forEach (l := moves) (p := State.moveRecord), r)
    | none => none

/-! Grants. -/

/-- A grant that has never been made. -/
def noGrant : Grant := { exp := 0, log := 0, seq := 0, res := 0 }

/-- The grant of a message type. -/
def grantOf (x : FoldRecord) (type : Nat) : Grant :=
  if type = Ptp.SYNC then x.sync else if type = Ptp.ANNOUNCE then x.ann else x.dresp

/-- The record with the grant of a message type replaced. -/
def withGrant (x : FoldRecord) (type : Nat) (g : Grant) : FoldRecord :=
  if type = Ptp.SYNC then { x with sync := g } else if type = Ptp.ANNOUNCE then { x with ann := g } else { x with dresp := g }

/-- The record as a passage of a Signaling message leaves build, over what others have written meanwhile (R272). -/
def writtenOver (x w : FoldRecord) : FoldRecord :=
  { x with
    mac := w.mac, ordered := w.ordered, exempt := w.exempt, ended := w.ended
    sync := { x.sync with exp := w.sync.exp, log := w.sync.log }
    ann := { x.ann with exp := w.ann.exp, log := w.ann.log }
    dresp := { x.dresp with exp := w.dresp.exp, log := w.dresp.log } }

/-- Some grant of the record is live. -/
def recordLive (x : FoldRecord) : Bool := x.sync.exp != 0 || x.ann.exp != 0 || x.dresp.exp != 0

/-- The three message types that are granted. -/
def grantTypes : List Nat := [Ptp.SYNC, Ptp.ANNOUNCE, Ptp.DELAY_RESP]

/-- 2^(−log) messages per second in units of 1/64; a Delay_Resp grant has a rate of 0 (R290). -/
def rateUnits (type : Nat) (log : Int) : Nat := if type = Ptp.DELAY_RESP then 0 else 2 ^ (6 - log).toNat

/-- What a record adds to its class's committed rate. -/
def recordRate (x : FoldRecord) : Nat :=
  (if x.sync.exp = 0 then 0 else rateUnits Ptp.SYNC x.sync.log) + (if x.ann.exp = 0 then 0 else rateUnits Ptp.ANNOUNCE x.ann.log)

/-- `A420.cc CLASS_COMMITTED` (R290). -/
def State.committed (s : State) (c : Nat) : Nat :=
  ((s.tpe.fold.filter fun e => e.2.cls == c).map fun e => recordRate e.2).foldl (· + ·) 0

/-- `A422.cc CLASS_CLIENTS` (R290). -/
def State.clients (s : State) (c : Nat) : Nat := (s.tpe.fold.filter fun e => e.2.cls == c && recordLive e.2).length

/-! The Fold cache (R252). -/

/-- Record `r` is accessed through the cache: 16,384 sets of 8, the least recently used one replaced; a miss calls
DRAM and is event 0x123 (R395; log entry 26). -/
def State.touch (s : State) (r : Nat) : State :=
  let l := SMap.get [] s.tpe.cache (r % 16384)
  let s1 := if l.contains r then s else (s.requested .foldCache).count 0x123 1
  { s1 with tpe := { s1.tpe with cache := SMap.ins (r % 16384) ((r :: l.erase r).take 8) s1.tpe.cache } }

/-! The record as octets (Table 11-2). -/

/-- The due time of a client's entry, 0 without one. -/
def State.dueOf (s : State) (r : Nat) (announce : Bool) : Nat :=
  match s.tpe.calendar.find? fun e => e.owner == .client r announce with | some e => e.due | none => 0

/-- One octet of a signed number. -/
def i8 (v : Int) : Nat := (v % 256).toNat

/-- The record's 128 octets, little-endian (R255). -/
def State.recordOctets (s : State) (r : Nat) (x : FoldRecord) : List Octet :=
  let k := x.key
  leBytes 128
    (k.addr * 2 ^ 896 + x.mac * 2 ^ 848 + k.clockId * 2 ^ 784 + k.portNum * 2 ^ 768 + k.udpPort * 2 ^ 752 +
     k.eport * 2 ^ 749 + k.transport * 2 ^ 747 + 2 ^ 746 + (if x.ordered then 2 ^ 745 else 0) +
     (if x.auth then 2 ^ 744 else 0) + k.domain * 2 ^ 736 + x.profile * 2 ^ 732 + x.spp * 2 ^ 728 + x.cls * 2 ^ 720 +
     x.sync.exp % 2 ^ 32 * 2 ^ 688 + i8 x.sync.log * 2 ^ 680 + x.sync.seq * 2 ^ 664 + x.sync.res * 2 ^ 656 +
     x.ann.exp % 2 ^ 32 * 2 ^ 624 + i8 x.ann.log * 2 ^ 616 + x.ann.seq * 2 ^ 600 + x.ann.res * 2 ^ 592 +
     x.dresp.exp % 2 ^ 32 * 2 ^ 560 + i8 x.dresp.log * 2 ^ 552 + x.dreqLastSeq * 2 ^ 536 + x.sigSeq * 2 ^ 520 +
     s.dueOf r false % 2 ^ 64 * 2 ^ 448 + s.dueOf r true % 2 ^ 64 * 2 ^ 384 + x.lastDep % 2 ^ 64 * 2 ^ 320 +
     x.dreqLastNs.getD 0 % 2 ^ 32 * 2 ^ 288 + x.grantAt % 2 ^ 32 * 2 ^ 256 + x.syncSent * 2 ^ 224 + x.dreqRcvd * 2 ^ 192 +
     x.authFail * 2 ^ 176 + x.dreqExcess * 2 ^ 160)

/-- The key fields of a 128-octet image (R255). -/
def imageKey (image : List Octet) : ClientKey :=
  let w := ofLe (padTo 128 image)
  let transport := bitsAt w 747 2
  { eport := bitsAt w 749 3, transport := transport, addr := bitsAt w 896 128, udpPort := bitsAt w 752 16,
    mac := if transport = 2 then bitsAt w 848 48 else 0, domain := bitsAt w 736 8, clockId := bitsAt w 784 64,
    portNum := bitsAt w 768 16 }

/-- FOLD_RESULT as a query leaves it: the matching record, or zeros (R255). -/
def State.foldQuery (s : State) (image : List Octet) : State :=
  let s1 := s.wrBlob (List.replicate 128 0) Obj.FOLD_QUERY (padTo 128 image)
  s1.wrBlob (List.replicate 128 0) Obj.FOLD_RESULT (match s.lookup (imageKey image) with
    | some (r, x) => s.recordOctets r x
    | none => List.replicate 128 0)

/-- FOLD_QUERY: a write to the object looks up a record by its key fields (R255). -/
def execFoldQuery (image : List Octet) (s : State) : Host.Outcome State Fault Refusal :=
  s.orHeld 12 .custodian .pcie Obj.FOLD_QUERY image [] <|
    .next (s.foldQuery image).settle

end Sys2Proof.Machine
end

