-- ==== Sys2Proof/Machine/Drover.lean ====
section
/-! DEFINITION. Drover's classifier and policers, the reception of a frame, the slow path and its egress queues, and the
time gates (R235, R241, R242, R280 to R284, R292 to R299). Elements of block 13 that can stand in their own safe state:
0–63 rules, 64–127 policers, 128–191 classes, 200–207 gate lists (R301). -/

namespace Sys2Proof.Machine

/-- An element of block 13 waits for its configuration. -/
def State.drvUnsafe (s : State) (i : Nat) : Bool := s.unsafeElement 13 i

/-! Classifier (R280, R281). -/

/-- A source address lies within a 17-octet prefix; a length of 0 matches every frame. -/
def prefixMatches (src : List Octet) (k : Packet) : Bool :=
  let len := field src 16 1
  len == 0 || (k.ip != 0 && k.srcIp / 2 ^ (128 - len) == field src 0 16 / 2 ^ (128 - len))

/-- KIND against VALUE (Table 12-1). -/
def kindMatches (kind value : Nat) (k : Packet) : Bool :=
  let udp := k.udpTo == some value
  match kind with
  | 0 => true
  | 1 => k.ethertype == value
  | 2 => k.ip == 4 && udp
  | 3 => k.ip == 6 && udp
  | 4 => udp
  | _ => false

/-- DEST (Table 12-1): multicast is a group address other than the broadcast one (log entry 25). -/
def destMatches (dest mac dst : Nat) : Bool :=
  match dest with
  | 0 => true
  | 1 => dst == mac
  | 2 => bitOn dst 40 && dst != 0xFFFFFFFFFFFF
  | _ => dst == 0xFFFFFFFFFFFF

/-- ACTION of a rule: 0 DROP, 1 TIMING, 2 SLOW, 3 RING. -/
def State.ruleAction (s : State) (n : Nat) : Nat := bitsAt (s.rdN (Obj.RULE_ACTION n)) 0 2

/-- Rule `n` matches a frame of port `p`; a TIMING rule matches no fragment (R280, R281). -/
def State.ruleMatches (s : State) (p : Nat) (k : Packet) (n : Nat) : Bool :=
  let w := s.rdN (Obj.RULE_MATCH n)
  s.rdB (Obj.RULE_EN n) && !s.drvUnsafe n && bitOn w (48 + p) && kindMatches (bitsAt w 28 4) (bitsAt w 32 16) k &&
    destMatches (bitsAt w 26 2) (s.rdN (Obj.PORT_MAC p)) k.dst && (!bitOn w 25 || k.vid == some (bitsAt w 12 12)) &&
    prefixMatches (s.blob (List.replicate 17 0) (Obj.RULE_SRC n)) k && !(k.fragment && s.ruleAction n == 1)

/-- The rule that takes a frame: the lowest enabled one that matches. -/
def State.ruleFor (s : State) (p : Nat) (k : Packet) : Option Nat := (List.range 64).find? (s.ruleMatches p k)

/-- RULE_EN 0→1 is accepted: no field holds an out-of-range value, and a RING action names a ring 32–63 (R282). -/
def State.ruleGood (s : State) (n : Nat) : Bool :=
  let a := s.rdN (Obj.RULE_ACTION n)
  let policer := bitsAt a 16 8
  decide (bitsAt (s.rdN (Obj.RULE_MATCH n)) 28 4 ≤ 4) && decide (bitsAt a 24 8 ≤ 63) &&
    (policer == 0xFF || decide (policer ≤ 63)) &&
    (s.ruleAction n != 3 || decide (32 ≤ bitsAt a 8 8 ∧ bitsAt a 8 8 ≤ 63)) &&
    decide (field (s.blob (List.replicate 17 0) (Obj.RULE_SRC n)) 16 1 ≤ 128)

/-- A write of RULE_EN. -/
def State.setRuleEn (s : State) (n : Nat) (v : Bool) : State :=
  if v && !s.rdB (Obj.RULE_EN n) && !s.ruleGood n then s.rangeReject 13 (Obj.RULE_EN n).key
  else s.wr (Obj.RULE_EN n) (flag v)

/-- RULE_EN_WRITE (R282). -/
def execRuleEnWrite (rule : Fin 64) (v : Bool) (s : State) : Host.Outcome State Fault Refusal :=
  s.orHeld 13 .custodian .pcie (Obj.RULE_EN rule) [flag8 v] [] <|
    .next (s.setRuleEn rule v).settle

/-! Policers (R284). -/

/-- A full bucket of policer `q`. -/
def State.fullBucket (s : State) (q : Nat) : Bucket := { level := s.rdN (Obj.POL_BURST q) * sec48, at48 := s.up48 }

/-- A frame reaches policer `q`: whether it passes, with a token removed; a policer whose configuration is bad drops
it (R284, R301). -/
def State.police (s : State) (q : Nat) : State × Bool :=
  if q = 0xFF ∨ (s.rdB (Obj.POL_EN q) = false ∧ s.drvUnsafe (64 + q) = false) then (s, true)
  else
    let b := SMap.get (s.fullBucket q) s.net.buckets q
    let level := b.level' (s.rdN (Obj.POL_RATE q)) (s.rdN (Obj.POL_BURST q)) s.up48
    let put := fun (l : Nat) => ({ s with net := { s.net with
      buckets := SMap.ins q { level := l, at48 := s.up48 } s.net.buckets } } : State)
    if sec48 ≤ level ∧ s.drvUnsafe (64 + q) = false then (put (level - sec48), true)
    else
      ((((put level).bump (Obj.POL_DROPS q)).count (0x140 + q) 1).stick Obj.DRV_STATUS 2 |>.raise Src.DRV_POLICED, false)

/-! Reception (R235, R241). -/

/-- The ingress stamp in 2^-16 ns: the present cycle and its fraction, with PORT_RX_LAT removed and, at 10 and 25 GbE,
four octet times added for a start character in position 4 (R231). -/
def State.ingressStamp (s : State) (p : Nat) (f : RxFrame) : Int :=
  (s.now80 * 65536 : Nat) + f.fraction.val - s.rd (Obj.PORT_RX_LAT p) +
    (if f.start4 then (match s.speed p with | 0 => 209715 | 1 => 83886 | _ => 0) else 0)

/-- The receive AUX word (Table 16-5). -/
def rxAux (stamp16 : Nat) (bad none vlan : Bool) (p rule : Nat) : Nat :=
  stamp16 % 65536 * 2 ^ 16 + (if bad then 2 ^ 15 else 0) + (if none then 2 ^ 14 else 0) + (if vlan then 2 ^ 13 else 0) +
    p * 2 ^ 10 + rule

/-- A frame for a ring: without a free descriptor it is dropped with SLOW_DROP_SEEN (R241, R282). -/
def State.slowDeliver (s : State) (p ring aux stampNs : Nat) (octets : List Octet) : State :=
  let r := s.toRing ring aux stampNs octets
  match r.2 with
  | .full => (r.1.stick (Obj.PORT_STICKY p) 10).portEvent p 12 1
  | _ => r.1

/-- A TPE counter and the event of its name (R276): 5 SVC_OFF, 6 MALFORMED, and so on as in Table 11-9. -/
def State.tpeCount (s : State) (xx : Nat) : State :=
  let r := Obj.TPE_CNT (xx - 1)
  (s.wrN r ((s.rdN r + 1) % 2 ^ 64)).count (0x100 + xx - 1) 1

/-- The TPE works at all: enabled, its configuration good, the lease current, in a mode that serves or may serve (R251,
R279, R343). -/
def State.tpeOn (s : State) : Bool :=
  s.rdB Obj.TPE_ENABLE && !s.unsafeBlock 12 && s.leaseCurrent && (serviceMode s.mode || s.mode == Mode.FAULTSAFE)

/-- The client key of a PTP message (R253). -/
def clientKey (p : Nat) (k : Packet) (m : List Octet) : ClientKey :=
  let transport := if k.ip = 4 then 0 else if k.ip = 6 then 1 else 2
  { eport := p, transport := transport, addr := if transport = 2 then 0 else k.srcIp,
    udpPort := (k.udp.map (·.1)).getD 0, mac := if transport = 2 then k.src else 0, domain := ptpDomain m,
    clockId := (ptpSource m).1, portNum := (ptpSource m).2 }

/-- The PTP message of a frame: Ethertype 0x88F7, or UDP ports 319 and 320 (R256). -/
def ptpPayload (k : Packet) : Option (List Octet) :=
  if k.ethertype = 0x88F7 then some k.body
  else match k.udp with
    | some (_, dst, payload) => if dst = 319 ∨ dst = 320 then some payload else none
    | none => none

/-- The NTP message of a frame: its source port and payload. -/
def ntpPayload (k : Packet) : Option (Nat × List Octet) :=
  match k.udp with
  | some (src, dst, payload) => if dst = 123 then some (src, payload) else none
  | none => none

/-- The pipeline of a received frame: that of its client, or of the port for a multicast message (R249). -/
def State.pipelineFor (s : State) (p : Nat) (k : Packet) : Nat :=
  match ptpPayload k with
  | some m => if bitOn k.dst 40 then p % 4 else pipelineOf (s.hash (clientKey p k m))
  | none => match ntpPayload k with
    | some (src, _) => pipelineOf (s.ntpHash k.srcIp src)
    | none => p % 4

/-- A frame with action TIMING: it waits for its pipeline, unless no packet service runs (R250, R251). -/
def State.admitFrame (s : State) (p : Nat) (k : Packet) (stamp16 cls : Nat) (octets : List Octet) : State :=
  let s1 := s.portEvent p 14 1
  if !s1.tpeOn then s1.tpeCount 5
  else
    let w : Passage := { id := s1.tpe.nextId, port := p, pl := s1.pipelineFor p k, stamp16 := stamp16, cls := cls,
                         octets := octets }
    let s2 : State := { s1 with tpe := { s1.tpe with waiting := s1.tpe.waiting ++ [w], nextId := s1.tpe.nextId + 1 } }
    s2.watched s1

/-- What becomes of a frame that has passed the checks: `bad` is a checksum failure (R235, R280, R284). -/
def State.classifyFrame (s : State) (p : Nat) (k : Packet) (stamp16 : Nat) (bad : Bool) (octets : List Octet) : State :=
  let rule := s.ruleFor p k
  let action := match rule with | some n => s.ruleAction n | none => s.rdN Obj.DRV_DEFAULT
  let word := match rule with | some n => s.rdN (Obj.RULE_ACTION n) | none => 0xFF0000
  if bad && action == 1 then s
  else
    let r := s.police (bitsAt word 16 8)
    if !r.2 then r.1
    else
      let aux := rxAux stamp16 bad (k.sum == 2) k.vid.isSome p (rule.getD 0x40)
      let ns := stamp16 / 65536 % 2 ^ 32
      match action with
      | 0 => r.1.portEvent p 13 1
      | 1 => r.1.admitFrame p k stamp16 (bitsAt word 24 8) octets
      | 2 => r.1.slowDeliver p (3 + p) aux ns octets
      | _ => r.1.slowDeliver p (bitsAt word 8 8) aux ns octets

/-- The checks of Table 10-4 in their order; MAC control frames go no further than the MAC (R239). -/
def State.receive (s : State) (p : Nat) (f : RxFrame) : State :=
  let n := f.octets.length + 4
  if !f.complete then s.truncated p
  else
    let s1 := (s.portEvent p 0 1).portEvent p 1 n
    if !f.fcsOk then (s1.portEvent p 4 1).stick (Obj.PORT_STICKY p) 1
    else if n < 64 ∨ s.rdN (Obj.PORT_MTU p) < n then (s1.portEvent p 5 1).stick (Obj.PORT_STICKY p) 3
    else
      let k := packetOf f.octets
      if k.ethertype = 0x8808 then
        (if field k.body 0 2 = 1 then s1.pauseReceived p (field k.body 2 2) else s1)
      else if 524288 < s.ingress p + n then
        ((s1.portEvent p 6 1).stick (Obj.PORT_STICKY p) 4).raise Src.PORT_RX_OVERFLOW
      else
        let bad := !k.header || k.sum == 1
        (s1.when bad fun s => (s.portEvent p 7 1).stick (Obj.PORT_STICKY p) 2).classifyFrame p k
          (s.ingressStamp p f).toNat bad f.octets

/-- PORT_FRAME_RX: a frame is received on a port that is UP (R229, R235, R248). -/
def execPortFrameRx (port : Fin 8) (frame : RxFrame) (s : State) : Host.Outcome State Fault Refusal :=
  if s.portState port ≠ 3 ∨ s.portGood port = false then .next s else .next (s.receive port frame).settle

/-! Slow-path transmission (R242, R292). -/

/-- Egress queue `q` of port `p`, oldest first. -/
def State.queue (s : State) (p q : Nat) : List QueuedFrame := SMap.get [] (s.port p).queues q

/-- The state with egress queue `q` of port `p` replaced. -/
def State.setQueue (s : State) (p q : Nat) (l : List QueuedFrame) : State :=
  let x := s.port p
  s.setPort p { x with queues := SMap.put [] x.queues q l }

/-- The IPv4 header and UDP checksums of a frame as CSUM_GEN requests them; over IPv6 the datagram may stand behind extension
headers (R236). -/
def withChecksums (octets : List Octet) : List Octet :=
  let tagged := field octets 12 2 == 0x8100
  let base := if tagged then 18 else 14
  let k := packetOf octets
  if k.ip = 4 then
    let hlen := field k.body 0 1 % 16 * 4
    let head := overlay (k.body.take hlen) 10 [0, 0]
    let o1 := overlay octets (base + 10) (beBytes 2 (checksum head))
    if k.udp.isSome then
      let u := overlay (slice k.body hlen (field k.body (hlen + 4) 2)) 6 [0, 0]
      let c := checksum (slice k.body 12 8 ++ [0, 17] ++ slice u 4 2 ++ u)
      overlay o1 (base + hlen + 6) (beBytes 2 (if c = 0 then 0xFFFF else c))
    else o1
  else if k.ip = 6 ∧ k.udp.isSome then
    let payload := slice k.body 40 (field k.body 4 2)
    let datagram := (walkIpv6 16 (field k.body 6 1) payload false).2.getD []
    let u := overlay (datagram.take (field datagram 4 2)) 6 [0, 0]
    let c := checksum (slice k.body 8 32 ++ [0, 0] ++ slice u 4 2 ++ [0, 0, 0, 17] ++ u)
    overlay octets (base + 40 + (payload.length - datagram.length) + 6) (beBytes 2 (if c = 0 then 0xFFFF else c))
  else octets

/-- The port takes slow-path frames: UP, and the unit is not in STANDBY (R229, R343). -/
def State.slowOpen (s : State) (p : Nat) : Bool := s.portState p == 3 && s.leaseCurrent && s.mode != Mode.STANDBY

/-- The status with which a slow-path descriptor is written back at once; none where its frame is queued (Table 16-6,
R242). `octets` is none where the buffer could not be read. -/
def State.slowStatus (s : State) (p : Nat) (d : Posted) (octets : Option (List Octet)) : Option Nat :=
  if d.length < 14 then some 2
  else if s.rdN (Obj.PORT_MTU p) - 4 < d.length then some 1
  else if !s.slowOpen p then some 3
  else if octets.isNone then some 5 else none

/-- SLOW_PATH_TX_POST: the next descriptor of ring 11 + p is taken, its frame checked and placed in its egress queue;
its octets are those of the host's buffer, as many as the descriptor says (R242, R292). -/
def execSlowPathTxPost (port : Fin 8) (octets : Option (List Octet)) (s : State) : Host.Outcome State Fault Refusal :=
  let k := 11 + port.val
  let s0 := s.ahead k
  match s0.nextTaken k with
  | none => .next s0.settle
  | some t =>
    let d := t.desc
    let s1 := s0.takeStart k t
    match s0.slowStatus port d octets with
    | some status => .next (s1.finishUnsent k t.count status).settle
    | none =>
      let body := padTo (max 60 d.length) (padTo d.length (octets.getD []))
      let f : QueuedFrame := { count := t.count, desc := d, octets := if bitOn d.aux 3 then withChecksums body else body }
      let q := d.aux % 8
      .next (s1.setQueue port q (s1.queue port q ++ [f])).settle

/-! Deficit round robin (R293, R294). -/

/-- The counted length of a queued frame: with FCS, and DRV_LEN_OVH. -/
def State.counted (s : State) (p : Nat) (f : QueuedFrame) : Nat := f.octets.length + 4 + s.rdN (Obj.DRV_LEN_OVH p)

/-- The deficit of queue `q`. -/
def State.deficit (s : State) (p q : Nat) : Nat := SMap.get 0 (s.port p).deficits q

/-- The state with a deficit replaced. -/
def State.setDeficit (s : State) (p q v : Nat) : State :=
  let x := s.port p
  s.setPort p { x with deficits := SMap.put 0 x.deficits q v }

/-- The turn goes on until it stands at a queue whose head lies within its deficit: a queue that service reaches gains
its quantum once, and an empty one loses its deficit. -/
def State.turnOn : Nat → State → Nat → State
  | 0, s, _ => s
  | f + 1, s, p =>
    let x := s.port p
    let q := x.turn
    let next := fun (s : State) => State.turnOn f (s.setPort p { s.port p with turn := (q + 1) % 8, gained := false }) p
    match s.queue p q with
    | [] => next (s.setDeficit p q 0)
    | head :: _ =>
      let s1 := if x.gained then s
        else (s.setPort p { x with gained := true }).setDeficit p q (s.deficit p q + s.rdN (Obj.DRV_QUANTUM q p))
      if s1.counted p head ≤ s1.deficit p q then s1 else next s1

/-- Queue `q` may start its head now, at block `k`. -/
def State.mayStart (s : State) (p k q : Nat) : Bool :=
  match s.queue p q with
  | [] => false
  | head :: _ => decide (s.counted p head ≤ s.deficit p q) && decide (SMap.get 0 (s.port p).holds q ≤ k) &&
      (s.blocked p q (frameBlocks (head.octets.length + 4)) k).isNone

/-- The queues in round order from the one whose turn it is. -/
def State.roundOrder (s : State) (p : Nat) : List Nat := (List.range 8).map fun i => ((s.port p).turn + i) % 8

/-- The queue whose head starts at block `k`: the turn's, or the first of the others, in round order, that fits the gap
and its deficit (R294). -/
def State.offer (s : State) (p k : Nat) : Option Nat := (s.roundOrder p).find? (s.mayStart p k)

/-- The head of queue `q` could start at block `k` but for the run limit, which moves its start (R269, R294). -/
def State.holdQueue (s : State) (p k q : Nat) : State :=
  match s.queue p q with
  | [] => s
  | head :: _ =>
    let n := frameBlocks (head.octets.length + 4)
    match s.occupied p q n k, s.runBlocked p n k with
    | none, some k1 =>
      if s.counted p head ≤ s.deficit p q then
        s.setPort p { s.port p with holds := SMap.put 0 (s.port p).holds q (max k1 (SMap.get 0 (s.port p).holds q)) }
      else s
    | _, _ => s

/-- The queues to which the gap at block `k` is offered before queue `q`, and all of them where none starts: the run limit moves
the start of their heads. -/
def State.holdQueues (s : State) (p k : Nat) (q : Option Nat) : State :=
  s.forEach (l := (s.roundOrder p).takeWhile fun i => some i != q) (p := fun s i => s.holdQueue p k i)

/-- The head of queue `q` starts at block `k`: its reservation, its deficit, the frame on the wire, and the write-back
with its departure instant (R242, R294). -/
def State.startQueued (s : State) (p k q : Nat) : State :=
  match s.queue p q with
  | [] => s
  | head :: rest =>
    let n := head.octets.length + 4
    let d48 := s.blockTime p k
    let stamp := shortStamp d48
    let s0 := s.setPort p { s.port p with holds := SMap.put 0 (s.port p).holds q 0 }
    let s1 := ((s0.reserve p k n 0 q true).setQueue p q rest).setDeficit p q
      (if rest = [] then 0 else s.deficit p q - s.counted p head)
    (((s1.portEvent p 2 1).portEvent p 3 n).launchAt p d48 head.octets).finishTaken (11 + p) head.count 0
      (stamp.2 * 2 ^ 16 + head.desc.aux % 16) stamp.1

/-- QUEUED_FRAME_START: service starts a queued frame at the next block boundary, where one may start there; in a unit
that may not send, the queues are written back. The turn that service has come to stays, with its gain (R293, R294, R343). -/
def execQueuedFrameStart (port : Fin 8) (s : State) : Host.Outcome State Fault Refusal :=
  if !s.slowOpen port then .next (s.queuesDown port).settle
  else if (s.port port).queues = [] ∨ s.portSends port = false ∨ (s.port port).held48.isSome ∨ s.rdB Obj.VD_DATA_EN = false
  then .next s
  else
    let s1 := (s.prune port).turnOn 80000 port
    let k := s1.firstBlock port s1.now48
    let q := s1.offer port k
    let s2 := s1.holdQueues port k q
    match q with
    | none => .next s2.settle
    | some q => .next (s2.when (s2.leaseAt (s2.blockTime port k)) fun s => s.startQueued port k q).settle

/-! Time gates (R295 to R299). -/

/-- A gate list passes R297: 1–64 entries without an interval of 0, a sum within the cycle, and SYNC and TIMED each open
in a single entry of at least 1,000 ns. -/
def gateListGood (cycle : Nat) (l : List (Nat × Nat)) : Bool :=
  !l.isEmpty && l.all (fun e => decide (1 ≤ e.1 ∧ e.1 ≤ giga)) && decide ((l.map (·.1)).foldl (· + ·) 0 ≤ cycle) &&
    decide (1000 ≤ cycle) && l.any (fun e => decide (1000 ≤ e.1) && bitOn e.2 9) &&
    l.any (fun e => decide (1000 ≤ e.1) && bitOn e.2 8)

/-- SWITCH_PENDING of DRV_STATUS: some port holds a committed switch (Table 12-7). -/
def State.switchBit (s : State) : State :=
  s.wrN Obj.DRV_STATUS (putBit (s.rdN Obj.DRV_STATUS) 8 ((List.range 8).any fun p => (s.port p).switch.isSome))

/-- The gates of port `p` take the state that its list gives them now (R295). -/
def State.gatesNow (s : State) (p : Nat) : State :=
  s.setPort p { s.port p with gateBits := (s.gateState p s.now48).1, gateAt48 := s.now48 }

/-- A write of GATE_EN. -/
def State.setGateEn (s : State) (p : Nat) (v : Bool) : State :=
  if !v then
    ((s.wrN (Obj.GATE_EN p) 0).setPort p { s.port p with
      gates := none, switch := none, gateBits := 0x3FF, gateAt48 := s.now48 }).switchBit
  else if s.rdB (Obj.GATE_EN p) then s
  else if !gateListGood (s.rdN (Obj.GATE_CYCLE p)) (s.gateList p) then s.rangeReject 13 (Obj.GATE_EN p).key
  else ((s.wrN (Obj.GATE_EN p) 1).setPort p { s.port p with gates := some s.now80 }).gatesNow p

/-- GATE_EN_WRITE (R297). -/
def execGateEnWrite (port : Fin 8) (v : Bool) (s : State) : Host.Outcome State Fault Refusal :=
  s.orHeld 13 .custodian .pcie (Obj.GATE_EN port) [flag8 v] [] <|
    .next (s.setGateEn port v).settle

/-- A write of GATE_SWITCH_AT: judged, and pending where it is accepted; a new commit replaces it (R297, R298). -/
def State.setGateSwitch (s : State) (p at80 : Nat) : State :=
  if at80 < s.now80 + 1000000 then s.stick Obj.DRV_STATUS 6
  else if !gateListGood (s.rdN (Obj.ADM_CYCLE p)) (s.adminList p) then s.rangeReject 13 (Obj.GATE_SWITCH_AT p).key
  else ((s.wrN (Obj.GATE_SWITCH_AT p) at80).setPort p { s.port p with switch := some at80 }).switchBit

/-- GATE_SWITCH_AT_WRITE (R298). -/
def execGateSwitchAtWrite (port : Fin 8) (sec : BitVec 48) (ns : Fin 1000000000) (s : State) :
    Host.Outcome State Fault Refusal :=
  s.orHeld 13 .custodian .pcie (Obj.GATE_SWITCH_AT port) (time80Bytes (sec.toNat * giga + ns)) [] <|
    .next (s.setGateSwitch port (sec.toNat * giga + ns)).settle

/-- The administrative bank becomes the operational list, which runs from GATE_SWITCH_AT on (R298). -/
def State.gateSwitch (s : State) (p : Nat) : State :=
  let s0 := ((s.hw (Obj.GATE_BASE p) (s.rdN (Obj.ADM_BASE p))).hw (Obj.GATE_CYCLE p) (s.rdN (Obj.ADM_CYCLE p))).hw
    (Obj.GATE_LEN p) (s.rdN (Obj.ADM_LEN p))
  let s1 := s0.when (!s.hostWrote (Obj.GATE_LIST p)) (·.wrBlob (List.replicate 512 0) (Obj.GATE_LIST p)
    (s.blob (List.replicate 512 0) (Obj.ADM_LIST p)))
  let on := s.rdB (Obj.GATE_EN p)
  (s1.setPort p { s1.port p with switch := none, gates := if on then some (s.rdN (Obj.GATE_SWITCH_AT p)) else none }).switchBit

/-- GATE_SWITCH: GATE_SWITCH_AT is reached, the bank is copied, and the gates follow the new list (R298). -/
def execGateSwitch (port : Fin 8) (s : State) : Host.Outcome State Fault Refusal :=
  match (s.port port).switch with
  | none => .next s
  | some t => match s.reach t with
    | none => .next s
    | some s1 => .next ((s1.gateSwitch port).when s1.leaseCurrent (·.gatesNow port)).settle

/-- GATE_CHANGE: the first change after the last one executed is reached, also where another command has reached its cycle
(R142), and the gates change at the next block boundary (R295); under a lease that has ended no change is executed (R23). -/
def execGateChange (port : Fin 8) (s : State) : Host.Outcome State Fault Refusal :=
  let x := s.port port
  if x.gates.isNone || !s.leaseCurrent then .next s
  else match s.reach (ceilDiv (s.gateState port x.gateAt48).2 ns48) with
    | none => .next s
    | some s1 => .next (s1.when s1.leaseCurrent (·.gatesNow port)).settle

/-- A step of the timescale: the gate state for the new time takes effect, and a queued frame on the wire that now
reaches past a close of its queue's gate is an overrun (R299). -/
def State.gatesStep (s : State) : State :=
  s.forEach (l := List.range 8) (p := fun s p =>
    let x := s.port p
    if x.gates.isNone then s
    else
      let bits := (s.gateState p s.now48).1
      let overrun := x.reserved.any fun r => r.sent && decide (r.bit < 8) && decide (s.place < s.blockPlace p r.last) &&
        (List.range (r.last - r.first)).any fun i => decide (s.place ≤ s.blockPlace p (r.first + i)) &&
          !bitOn (s.gateState p (s.blockTime p (r.first + i))).1 r.bit
      let from80 := match x.gates with | some t => some (min t s.now80) | none => none
      (s.setPort p { x with gateBits := bits, gates := from80, gateAt48 := s.now48 }).when overrun
        fun s => (s.stick Obj.DRV_STATUS 5).raise Src.DRV_GATE_OVERRUN)

end Sys2Proof.Machine
end

