-- ==== Sys2Proof/Machine/Message.lean ====
section
/-! DEFINITION. The octets of a GOP request: its role, header, payload and tag (R360, R363, Table 15-4). -/

namespace Sys2Proof

/-- The role that ROLE names; what it names beyond 4 fails at step 1 (Table 15-7). -/
def GopRequest.role (q : GopRequest) : Role :=
  match q.roleOctet.toNat with
  | 1 => .observer | 2 => .operator | 3 => .engineer | 4 => .custodian | _ => .anonymous

/-- The payload: the LENGTH octets behind the header. -/
def GopRequest.payload (q : GopRequest) : List Octet := q.rest.take q.length.toNat

/-- TAG: the 16 octets behind the payload; what follows is ignored (R360). -/
def GopRequest.tag (q : GopRequest) : List Octet := Machine.slice q.rest q.length.toNat 16

/-- Octets 0 to 27 of the message with operation `op`, in network order. -/
def GopRequest.header (q : GopRequest) (op : Nat) : List Octet :=
  [q.version, BitVec.ofNat 8 op, q.roleOctet, q.status] ++ Machine.beBytes 4 q.seq.toNat ++ Machine.beBytes 2 q.index.toNat ++
    [q.sub, q.aux] ++ Machine.beBytes 2 q.length.toNat ++ Machine.beBytes 4 q.offset.toNat ++ Machine.beBytes 10 q.stamp.toNat

end Sys2Proof
end

