-- ==== Sys2Proof/Machine/Reply.lean ====
section
/-! DEFINITION. Replies to GOP requests: the ACK, its place in the sequence cell, and its way out over a field port or the
rings (R362 to R364, R389). -/

namespace Sys2Proof.Machine

/-- The key of a sequence cell: link and role (R364). -/
def seqKey (l : Link) (r : Role) : Nat := linkCode l * 8 + roleCode r

/-- The sequence cell of a link and role; L is 0 and no ACK is cached at BOOT. -/
def State.seqCell (s : State) (l : Link) (r : Role) : SeqCell := SMap.get { last := 0, ack := none } s.book.seqs (seqKey l r)

/-- The state with a sequence cell replaced. -/
def State.setSeqCell (s : State) (l : Link) (r : Role) (x : SeqCell) : State :=
  { s with book := { s.book with seqs := SMap.put { last := 0, ack := none } s.book.seqs (seqKey l r) x } }

/-- The index of a count in a ring. -/
def State.ringIndex (s : State) (k count : Nat) : Nat := count % 2 ^ s.rdN (Obj.RING_LOG2 k)

/-- The message of an ACK (Table 15-4, Table 15-5). -/
def State.ackMessage (s : State) (role : Role) (seq : Nat) (a : Ack) : List Octet :=
  s.gopMessage 8 role a.status seq a.index a.sub a.op a.payload

/-- An ACK's message leaves: over a field port as a frame; over PCIe into ring 1, and then its command's descriptor is written
back with the index of the descriptor that holds it, 0 where none does (R389, Table 16-3; log entry 106). `desc` is that descriptor's
count. -/
def State.transmitAck (s : State) (l : Link) (mac desc : Nat) (message : List Octet) : State :=
  if l = .pcie then
    let r := s.toRing 1 (s.ringIndex 0 desc % 65536) s.stampNs message
    r.1.finishTaken 0 desc 0 (match r.2 with | .written c => s.ringIndex 1 c % 65536 | _ => 0) s.stampNs
  else s.sendFp (linkCode l) mac message

/-- A request without a reply: its ring 0 descriptor is written back (Table 16-6). -/
def State.discardGop (s : State) (q : GopRequest) (desc : Nat) : State :=
  s.when (q.link == .pcie) fun s => s.finishUnsent 0 desc 0

/-- The ACK of an executed request: its message is cached for its sequence number while that is the last accepted one, and
sent (R364). None is sent where the role's key tags no more (log entry 106). -/
def State.reply (s : State) (q : GopRequest) (desc : Nat) (a : Ack) : State :=
  if q.role ≠ .anonymous ∧ (s.roleKey q.role).isNone = true then s.discardGop q desc
  else
    let cell := s.seqCell q.link q.role
    let m := s.ackMessage q.role q.seq.toNat a
    let s1 := s.when (q.role != .anonymous) (·.jobsDone Ks.OK 1)
    let s2 := if q.role ≠ .anonymous ∧ cell.last = q.seq.toNat then s1.setSeqCell q.link q.role { cell with ack := some m } else s1
    s2.transmitAck q.link q.mac.toNat desc m

/-- The ACK of a withheld write of one octet that was executed: WRITE_BLOCK's count, and TRUNCATED where it brought more (R361). -/
def writtenAck (op : Nat) (q : GopRequest) : Ack :=
  { status := if op = 4 ∧ 1 < q.payload.length then 4 else 0, op := op, index := q.index.toNat, sub := q.sub.toNat,
    payload := if op = 4 then leBytes 4 1 else [] }

/-- The replies that a fence holds back are sent (R272). -/
def State.releaseFence (s : State) (id : Nat) : State :=
  let mine := fun (h : Held) => h.wait == .fence id
  let s1 : State := { s with book := { s.book with held := s.book.held.filter fun h => !mine h } }
  s1.forEach (l := s.book.held.filter mine) (p := fun s h =>
    if h.op = 0 then s else s.reply h.req h.desc (writtenAck h.op h.req))

end Sys2Proof.Machine
end

