-- ==== Sys2Proof/Machine/Journal.lean ====
section
/-! DEFINITION. The holder's journal: what is put into it and sent, and what waits for an acknowledgement (R345). -/

namespace Sys2Proof.Machine

/-- Octets of a journal entry (Table 14-5). -/
def entrySize : JEntry → Nat
  | .grant .. => 48 | .cancel .. => 40 | .seqRes .. => 40 | .mcRes .. => 8 | .record .. => 132 | .keygen .. => 16
  | .keyInvalid .. => 8

/-- The unit holds the lease and has a twin to journal to: HOLDER or HOLDER_SOLO (R338, R346). -/
def State.journals (s : State) : Bool := s.rdN Obj.BW_ROLE == 1 || s.rdN Obj.BW_ROLE == 4

/-- Entries wait for an acknowledgement: the unit is a holder with a twin; an unpaired one and HOLDER_SOLO go on at once
(R260, R346). -/
def State.awaits (s : State) : Bool := s.rdN Obj.BW_ROLE == 1

/-- The newest entries that fit 1 MiB, oldest first. -/
def journalFit : Nat → List (Nat × JEntry) → List (Nat × JEntry)
  | _, [] => []
  | room, e :: rest => if entrySize e.2 ≤ room then e :: journalFit (room - entrySize e.2) rest else []

/-- An applied entry goes to ring 24 at the standby: skipped without a descriptor (R381). -/
def State.exportJournal (s : State) (jseq : Nat) (e : JEntry) : State :=
  (s.toRing 24 (jseq % 2 ^ 32) s.stampNs (Config.journalOctets e)).1

/-- One entry is journalled: it takes the next JSEQ, stays in the 1 MiB buffer and is sent (R345). -/
def State.journal (s : State) (e : JEntry) : State :=
  if !s.journals then s
  else
    let jseq := s.rdN Obj.JR_TX + 1
    let b := s.bw
    let since := if s.awaits ∧ b.ackSince48.isNone then some s.up48 else b.ackSince48
    let s1 : State := { s with bw := { b with
      journal := (journalFit 1048576 (b.journal ++ [(jseq, e)]).reverse).reverse, ackSince48 := since } }
    (s1.wrN Obj.JR_TX jseq).causeway 0x10 jseq (Config.journalOctets e)

/-- The key of a multicast stream: port, profile, Sync or Announce. -/
def mcKey (port profile : Nat) (announce : Bool) : Nat := (port * 16 + profile) * 2 + if announce then 1 else 0

/-- A reservation takes effect (R260). -/
def State.reserved (s : State) (e : JEntry) : State :=
  match e with
  | .seqRes key type block => match s.lookup key with
    | some (r, _) => s.onRecord r fun x =>
      if type = Ptp.SYNC then { x with sync := { x.sync with res := block } }
      else { x with ann := { x.ann with res := block } }
    | none => s
  | .mcRes port profile type block =>
    let k := mcKey port profile (type == Ptp.ANNOUNCE)
    let m := SMap.get { seq := 0, res := 0 } s.tpe.multicast k
    { s with tpe := { s.tpe with multicast := SMap.ins k { m with res := block } s.tpe.multicast } }
  | _ => s

/-- A reservation is journalled, and takes effect at once where nothing acknowledges it (R260). -/
def State.reserveBlock (s : State) (e : JEntry) : State :=
  let s1 := s.journal e
  if s.awaits then s1
  else ({ s1 with bw := { s1.bw with effected := max s1.bw.effected (s1.rdN Obj.JR_TX) } } : State).reserved e

end Sys2Proof.Machine
end

