-- ==== Sys2Proof/Machine/Tpe.lean ====
section
/-! DEFINITION. What every passage of the timing protocol engine uses: profiles, addresses, the fields that messages
carry, SPP entries, and a frame's way from the schedule stage to its egress queue (R249 to R251, R256 to R258, R262 to
R266, R269 to R271). -/

namespace Sys2Proof.Machine

/-! In flight (R250). -/

/-- Passages of pipeline `pl` past its entry: held replies and frames. -/
def State.built (s : State) (pl : Nat) : Nat :=
  (s.tpe.frames.filter fun f => f.pl == pl).length + (s.tpe.replies.filter fun h => h.passage.pl == pl).length

/-- Passages that pipeline `pl` holds: at most 256, the rest wait at the dispatcher. -/
def State.inPipeline (s : State) (pl : Nat) : Nat :=
  min 256 (s.built pl + (s.tpe.waiting.filter fun w => w.pl == pl).length)

/-- `9010.05 TPE_INFLIGHT`. -/
def State.inflight (s : State) : Nat := ((List.range 4).map s.inPipeline).foldl (· + ·) 0

/-- The instant from which pipeline `pl` accepts its next passage: 25 ns after the one before (R249). -/
def State.freeFrom (s : State) (pl : Nat) : Nat :=
  match s.tpe.handed.find? fun e => e.1 == pl with
  | some (_, t) => t + 25 * ns48
  | none => 0

/-- Pipeline `pl` accepts a passage now. -/
def State.passageFree (s : State) (pl : Nat) : Bool := decide (s.freeFrom pl ≤ s.up48)

/-- Pipeline `pl` has taken a passage in this cycle. -/
def State.taken (s : State) (pl : Nat) : State := { s with tpe := { s.tpe with handed := SMap.ins pl s.up48 s.tpe.handed } }

/-- Octets of an NTS response's Authenticator with `n` cookies of 104 octets, sealed: header, lengths, nonce, SIV, fields. -/
def authSize (n : Nat) : Nat := 4 + 4 + 16 + 16 + 108 * n

/-- Octets that a lane is still to append to a frame's message (R263, R268). -/
def tagSize : Tag → Nat
  | .ready => 0
  | .icv _ _ _ _ _ => 16
  | .nts _ _ _ _ cookies _ => authSize cookies

/-- Octets of the egress buffer of port `p` that frames of the pipelines hold. -/
def State.timedOctets (s : State) (p : Nat) : Nat :=
  ((s.tpe.frames.filter fun f => f.port == p).map fun f => wireLength f.addr (f.msg.length + tagSize f.tag)).foldl (· + ·) 0

/-- Pipeline `pl` has room for a passage whose frame leaves by port `p`: fewer than 256 passages, a longest frame's octets in the
64 KiB that the port's egress buffer reserves for the pipelines (R237, R292; log entry 103), and the crypto lanes room for its
jobs (R250, R316); and data-class traffic runs (R397). -/
def State.roomFor (s : State) (pl p : Nat) : Bool :=
  decide (s.built pl < 256) && decide (s.timedOctets p + s.rdN (Obj.PORT_MTU p) ≤ 65536) && !s.jobsFull && s.rdB Obj.VD_DATA_EN

/-- Record `r` is in build: a GRANT reply of it waits for its acknowledgement (R272, Table 14-5). -/
def State.inBuild (s : State) (r : Nat) : Bool := s.tpe.replies.any fun h => h.record == some r

/-- A received message waits for its record, which another passage holds in build (R272). -/
def State.waitsForRecord (s : State) (w : Passage) : Bool :=
  let k := packetOf w.octets
  match (ptpPayload k).bind fun m => s.lookup (clientKey w.port k m) with
  | some (r, _) => s.inBuild r
  | none => false

/-- A passage has entered its pipeline, and leaves the waiting ones (R249). -/
def State.passed (s : State) (w : Passage) : State :=
  ({ s with tpe := { s.tpe with waiting := s.tpe.waiting.filter fun x => x.id != w.id } } : State).taken w.pl

/-- A number for a passage of the engine's own. -/
def State.newId (s : State) : State × Nat := ({ s with tpe := { s.tpe with nextId := s.tpe.nextId + 1 } }, s.tpe.nextId)

/-! Profiles (R258). -/

/-- PROF_CFG of profile `x`. -/
def State.profCfg (s : State) (x : Nat) : Nat := s.rdN (Obj.PROF_CFG x)

/-- Profile `x` is multicast. -/
def State.profMcast (s : State) (x : Nat) : Bool := bitOn (s.profCfg x) 13

/-- Profile `x` measures peer delay. -/
def State.profP2p (s : State) (x : Nat) : Bool := bitsAt (s.profCfg x) 16 2 == 1

/-- The bit of a transport in PROF_CFG. -/
def transportBit (transport : Nat) : Nat := match transport with | 0 => 8 | 1 => 9 | _ => 7

/-- Port `p` serves profile `x`. -/
def State.bound? (s : State) (p x : Nat) : Bool := s.rdB (Obj.PROF_EN x) && bitOn (s.rdN (Obj.PORT_PROFILES p)) x

/-- The profile of a message (R258). -/
def State.profileFor (s : State) (p transport domain : Nat) : Option Nat :=
  (List.range 16).find? fun x =>
    s.bound? p x && bitOn (s.profCfg x) (transportBit transport) && s.rdN (Obj.PROF_DOMAIN x) == domain

/-- One I8 of PROF_INTERVALS: 24 Announce, 16 Sync, 8 Delay_Req or Pdelay_Req. -/
def State.interval (s : State) (x lo : Nat) : Int := wrapSigned 8 (bitsAt (s.rdN (Obj.PROF_INTERVALS x)) lo 8)

/-- Where PROF_INTERVALS holds the interval of a message type. -/
def intervalLo (type : Nat) : Nat := if type = Ptp.ANNOUNCE then 24 else if type = Ptp.SYNC then 16 else 8

/-- 2^log s in nanoseconds, for logs from −7. -/
def periodNs (log : Int) : Nat := if 0 ≤ log then giga * 2 ^ log.toNat else giga / 2 ^ log.natAbs

/-- The same in 2^-48 ns. -/
def period48 (log : Int) : Nat := periodNs log * ns48

/-! What messages carry (R257, R169 to R172, Table 6-2, Table 11-4). -/

/-- The engine's portIdentity on port `p`. -/
def State.ownPort (s : State) (p : Nat) : Nat × Nat := (s.rdN Obj.TPE_CLOCK_ID, p + 1)

/-- The ten octets of a portIdentity: the context of R264. -/
def portIdentity (x : Nat × Nat) : List Octet := beBytes 8 x.1 ++ beBytes 2 x.2

/-- A pending leap of a kind is announced at an instant (Table 6-2). -/
def State.leapFlag (s : State) (kind t80 : Nat) : Bool :=
  s.rdN Obj.UTC_LEAP_PEND == kind &&
    decide (s.rdN Obj.UTC_LEAP_AT ≤ t80 + 43200 * giga ∧ t80 < s.rdN Obj.UTC_LEAP_AT)

/-- flagField of a message that leaves port `p` at an instant (R257). -/
def State.flagField (s : State) (p : Nat) (unicast : Bool) (dep80 : Nat) : Nat :=
  let traceable := s.rdB Obj.TS_VALID && s.portBound p != 0xFFFFFFFF
  (if unicast then 2 ^ 10 else 0) + (if s.leapFlag 1 dep80 then 1 else 0) + (if s.leapFlag 2 dep80 then 2 else 0) +
    (if s.rdB Obj.UTC_VALID then 4 else 0) + 8 + (if traceable then 48 else 0)

/-- clockClass by mode (Table 7-4). -/
def State.clockClass (s : State) : Nat :=
  match s.mode with
  | 5 => s.rdN Obj.TEB_CC_LOCKED
  | 4 => s.rdN Obj.TEB_CC_ACQUIRE
  | 6 => s.rdN Obj.TEB_CC_HOLD
  | 7 => s.rdN Obj.TEB_CC_DEGR
  | 3 => s.rdN Obj.TEB_CC_FREE
  | 8 => s.rdN Obj.TEB_CC_STBY
  | _ => s.rdN Obj.TEB_CC_FAULT

/-- The upper limits of clockAccuracy 0x17 to 0x30, in femtoseconds: 1 ps to 10 s (IEEE 1588-2019, R169). -/
def accuracyLimits : List Nat :=
  [1000, 2500, 10000, 25000, 100000, 250000] ++ ([1, 1000, 1000000].map fun u =>
    [1000000 * u, 2500000 * u, 10000000 * u, 25000000 * u, 100000000 * u, 250000000 * u]).flatten ++
    [1000000000000000, 10000000000000000]

/-- clockAccuracy of a bound in 2^-8 ns: the smallest enumeration whose limit is at least the bound; 0x31 beyond the last
limit, 0xFE while it is unbounded (R169). -/
def clockAccuracy (bound : Nat) : Nat :=
  if bound = 0xFFFFFFFF then 0xFE
  else 0x17 + ((accuracyLimits.findIdx? fun lim => decide (bound * 1000000 ≤ lim * 256)).getD 26)

/-- timeSource and NTP refid (Table 11-4). -/
def State.timeSource (s : State) : Nat × Nat :=
  if s.bound = 0xFFFFFFFF then (0xA0, 0x494E4954)
  else if s.mode = Mode.FREERUN ∧ (s.teb.model.map (·.hostSet)).getD false = true then (0x60, 0x48414E44)
  else match s.refsel with
    | 0x14 => (0x20, 0x474E5353)
    | 0x15 => (0x20, 0x474E5353)
    | 0x16 => match s.bw.twinState with
      | some t => (t.timeSource, t.refid)
      | none => (0xA0, 0x494E4954)
    | 0x17 => (0x39, 0x544F4400)
    | n => if n < 8 then (0x90, 0x50505300)
      else if 0x10 ≤ n ∧ n ≤ 0x13 then (0x40, 0x50545000)
      else (0xA0, if s.hd.timed80.isSome then 0x484F4C44 else 0x494E4954)

/-- GROWTH: the increase of the bound per second over the interval in force, in 2^-16 ns per second (R170); 0xFFFFFFFF while
the bound is unbounded, for which the rule states no value (log entry 85). -/
def State.growth (s : State) : Nat :=
  match (s.tebValue (s.teb.end48 - 15625000 * ns48)).1, (s.tebValue s.teb.end48).1 with
  | some a, some b => min 0xFFFFFFFF (ratMax 0 ((b - a) * 256 * 64)).ceil.toNat
  | _, _ => 0xFFFFFFFF

/-- The Bound TLV (Table 7-5). -/
def State.boundTlv (s : State) (p : Nat) : List Octet :=
  let governs := bitOn (s.rdN Obj.TEB_STATUS) 7
  let free := governs && (s.teb.model.map (·.free)).getD false
  let flags := (if governs then 1 else 0) + (if free then 2 else 0) + (if s.paired then 4 else 0) +
    (if s.rdB Obj.UTC_VALID then 8 else 0)
  tlv Tlv.ORGANIZATION ([0xA8, 0x36, 0x1D, 0, 0, 1, 1, oct flags, oct s.mode, oct (s.rdN Obj.TEB_K)] ++
    beBytes 4 (s.portBound p) ++ beBytes 4 s.growth)

/-- The IEEE_C37_238 TLV: grandmasterID and totalTimeInaccuracy in whole nanoseconds, rounded up (R172, R262; log entry
20). -/
def State.c37Tlv (s : State) (p : Nat) : List Octet :=
  let b := s.portBound p
  tlv Tlv.ORGANIZATION ([0x1C, 0x12, 0x9D, 0, 0, 2] ++ beBytes 2 (s.rdN Obj.TPE_GM_ID) ++ [0, 0, 0, 0] ++
    beBytes 4 (if b = 0xFFFFFFFF then b else ceilDiv b 256) ++ [0, 0])

/-- The ALTERNATE_TIME_OFFSET_INDICATOR TLV, from TPE_ATOI: its fields without the name's length field 16, then the name
(R262; log entry 27). -/
def State.atoiTlv (s : State) : List Octet :=
  let b := s.blob (List.replicate 32 0) Obj.TPE_ATOI
  let n := min 16 ((b.getD 15 0).toNat)
  let body := b.take 15 ++ [oct n] ++ slice b 16 n
  tlv Tlv.ATOI (padTo (2 * ceilDiv body.length 2) body)

/-- The TLVs of a Sync or an Announce of profile `x`. -/
def State.messageTlvs (s : State) (p x : Nat) (announce : Bool) : List Octet :=
  let w := s.profCfg x
  (if bitOn w (if announce then 20 else 21) then s.boundTlv p else []) ++
    (if announce && bitOn w 22 then s.c37Tlv p else []) ++ (if announce && bitOn w 23 then s.atoiTlv else [])

/-- UTC_OFFSET at an instant, by what is known now (R147, R148). -/
def State.offsetAtNs (s : State) (t80 : Nat) : Int :=
  let o := s.rd Obj.UTC_OFFSET
  if s.rdN Obj.UTC_LEAP_AT ≤ t80 then
    (match s.rdN Obj.UTC_LEAP_PEND with | 1 => o + 1 | 2 => o - 1 | _ => o)
  else o

/-- A Sync (R257, R270). -/
def State.syncMessage (s : State) (p x seq : Nat) (log : Int) (unicast : Bool) (dep48 : Nat) : List Octet :=
  let ns := dep48 / ns48
  ptpMessage Ptp.SYNC (s.rdN (Obj.PROF_DOMAIN x)) (s.flagField p unicast ns) (dep48 / 2 ^ 32 % 65536 : Nat) (s.ownPort p)
    seq log (ptpTimestamp ns ++ s.messageTlvs p x false)

/-- An Announce (R257, R270). -/
def State.announceMessage (s : State) (p x seq : Nat) (log : Int) (unicast : Bool) (dep48 : Nat) : List Octet :=
  let ns := dep48 / ns48
  let prio := s.rdN (Obj.PROF_PRIO x)
  ptpMessage Ptp.ANNOUNCE (s.rdN (Obj.PROF_DOMAIN x)) (s.flagField p unicast ns) 0 (s.ownPort p) seq log
    (ptpTimestamp ns ++ beInt 2 (s.offsetAtNs ns) ++ [0, oct (prio / 256), oct s.clockClass,
      oct (clockAccuracy (s.portBound p))] ++ beBytes 2 (s.rdN (Obj.PROF_OSLV x)) ++ [oct prio] ++
      beBytes 8 (s.rdN Obj.TPE_CLOCK_ID) ++ [0, 0, oct s.timeSource.1] ++ s.messageTlvs p x true)

/-! Addresses (R256, R262). -/

/-- The 802.1Q tag of a profile. -/
def State.profTci (s : State) (x : Nat) : Option Nat :=
  let w := s.rdN (Obj.PROF_VLAN x)
  if bitOn w 16 then some (w % 65536 - if bitOn w 12 then 4096 else 0) else none

/-- UDP port of an event or a general message. -/
def udpPortOf (event : Bool) : Nat := if event then 319 else 320

/-- The group addresses, MAC and IP, of a transport: the default ones, or those of peer delay. -/
def groupAddress (transport : Nat) (peer : Bool) : Nat × Nat :=
  match transport with
  | 0 => if peer then (0x01005E00006B, mapped 0xE000006B) else (0x01005E000181, mapped 0xE0000181)
  | 1 => if peer then (0x33330000006B, 0xFF02 * 2 ^ 112 + 0x6B)
    else (0x333300000181, (0xFF00 + Config.ipv6Scope % 16) * 2 ^ 112 + 0x181)
  | _ => if peer then (0x0180C200000E, 0) else (0x011B19000000, 0)

/-- Addresses of a multicast message of profile `x` on port `p`. -/
def State.multicastTo (s : State) (p x transport : Nat) (event peer : Bool) : Addressing :=
  let g := groupAddress transport peer
  { dst := g.1, src := s.rdN (Obj.PORT_MAC p), tci := s.profTci x, transport := transport,
    srcIp := Config.portAddress p transport, dstIp := g.2, srcUdp := udpPortOf event, dstUdp := udpPortOf event }

/-- Addresses of a message of profile `x` to a client that a record holds. -/
def State.clientTo (s : State) (r : FoldRecord) (event : Bool) : Addressing :=
  { dst := r.mac, src := s.rdN (Obj.PORT_MAC r.key.eport), tci := s.profTci r.profile, transport := r.key.transport,
    srcIp := Config.portAddress r.key.eport r.key.transport, dstIp := r.key.addr, srcUdp := udpPortOf event,
    dstUdp := udpPortOf event }

/-- The transport of a received frame. -/
def transportOf (k : Packet) : Nat := if k.ip = 4 then 0 else if k.ip = 6 then 1 else 2

/-- Addresses of a reply: those of the request, exchanged; where the request went to a group, the port's own. -/
def State.replyTo (s : State) (p : Nat) (tci : Option Nat) (k : Packet) (src dst : Nat) : Addressing :=
  let t := transportOf k
  { dst := k.src, src := s.rdN (Obj.PORT_MAC p), tci := tci, transport := t,
    srcIp := if bitOn k.dst 40 then Config.portAddress p t else k.dstIp, dstIp := k.srcIp, srcUdp := src, dstUdp := dst }

/-! SPP entries (R263, R265). -/

/-- The slots an entry names: CUR, NEXT, PREV. -/
def State.sppSlots (s : State) (e : Nat) : List Nat :=
  [s.rdN (Obj.SPP_CUR_SLOT e), s.rdN (Obj.SPP_NEXT_SLOT e), s.rdN (Obj.SPP_PREV_SLOT e)].filter (· != 0xFFFF)

/-- The slot of an egress tag of a frame that departs at D: NEXT from SPP_ROTATE_AT on, CUR before (R22, R265). -/
def State.egressSlot (s : State) (e dep48 : Nat) : Option Nat :=
  let next := s.rdN (Obj.SPP_NEXT_SLOT e)
  let k := if next ≠ 0xFFFF ∧ s.rdN (Obj.SPP_ROTATE_AT e) * ns48 ≤ dep48 then next else s.rdN (Obj.SPP_CUR_SLOT e)
  if s.rdB (Obj.SPP_EN e) ∧ k ≠ 0xFFFF then some k else none

/-- The keyID of a slot: the low 32 bits of its generation. -/
def State.keyId (s : State) (k : Nat) : Nat := (s.slotOf k).gen % 2 ^ 32

/-- ALG of an entry: 0 CMAC, 1 HMAC. -/
def State.sppAlg (s : State) (e : Nat) : Nat := bitsAt (s.rdN (Obj.SPP_CFG e)) 8 1

/-- CF_ZERO of an entry. -/
def State.sppCfZero (s : State) (e : Nat) : Bool := bitOn (s.rdN (Obj.SPP_CFG e)) 16

/-- A message with correctionField taken as zero where CF_ZERO says so. -/
def icvInput (cfZero : Bool) (m : List Octet) : List Octet := if cfZero then overlay m 8 (List.replicate 8 0) else m

/-! Discards. -/

/-- An egress tag has failed (R266). -/
def State.keyFail (s : State) : State := ((s.tpeCount 0x19).stick Obj.TPE_STATUS 6).raise Src.TPE_KEY_FAIL

/-- A frame that is not queued by its D (R25). -/
def State.lateFrame (s : State) (p : Nat) : State :=
  (((s.tpeCount 0x1A).stick Obj.TPE_STATUS 3).raise Src.TPE_LATE).launchDiscard p

/-- A frame leaves the engine's hands, and its reservation is released (R269). -/
def State.dropFrame (s : State) (f : Frame) : State :=
  ({ s with tpe := { s.tpe with frames := s.tpe.frames.filter fun x => x.id != f.id } } : State).unreserve f.port f.id

/-! From schedule to stamp (R24, R269 to R271). -/

/-- A frame before it has a departure instant: the passage's number, where it goes, its gate bit (9 SYNC, 8 TIMED), the
earliest D, the record whose order it keeps, and the SPP entry and context of its tag. -/
structure Draft where
  id : Nat
  port : Nat
  pl : Nat
  kind : FrameKind
  addr : Addressing
  bit : Nat
  from48 : Nat
  record : Option Nat
  auth : Option (Nat × List Octet)
  parts : Nat

/-- The block and D of a frame whose message has `n` octets (R24, R269, R271). -/
def State.departure (s : State) (d : Draft) (n : Nat) : Option (Nat × Nat) :=
  let after := match d.record.bind s.record with
    | some x => if x.ordered then (x.lastDep + 1) * ns48 else 0
    | none => 0
  if s.portState d.port ≠ 3 ∨ (s.port d.port).phase.isNone then none
  else (s.schedule d.port d.bit (wireLength d.addr (n + if d.auth.isSome then 26 else 0)) (max d.from48 after)).map fun k =>
    (k, s.blockTime d.port k)

/-- The frame takes its reservation and its place in the engine. -/
def State.queueFrame (s : State) (d : Draft) (k dep48 : Nat) (msg : List Octet) (extra : Nat) (tag : Tag) : State :=
  let f : Frame := { id := d.id, port := d.port, pl := d.pl, kind := d.kind, block := k, dep48 := dep48, addr := d.addr,
                     msg := msg, tag := tag }
  let s1 := s.reserve d.port k (wireLength d.addr (msg.length + extra)) d.id d.bit false
  let s2 : State := { s1 with tpe := { s1.tpe with frames := s1.tpe.frames ++ [f] } }
  match d.record with
  | some r => s2.onRecord r fun x => { x with lastDep := dep48 / ns48 }
  | none => s2

/-- A message with its departure instant written goes to its egress queue, by way of a lane where it carries a tag
(R263 to R266, R316). -/
def State.stampOut (s : State) (d : Draft) (k dep48 : Nat) (msg : List Octet) : State :=
  match d.auth with
  | none => s.queueFrame d k dep48 msg 0 .ready
  | some (e, context) => match s.egressSlot e dep48 with
    | none => s.keyFail
    | some slot =>
      let kdf := (s.slotOf slot).kdf
      let m := lengthened msg 26 ++ beBytes 2 Tlv.AUTHENTICATION ++ beBytes 2 22 ++
        [oct (s.rdN (Obj.SPP_CFG e)), 0] ++ beBytes 4 (s.keyId slot)
      let kind : JobKind := if s.sppAlg e = 1 ∨ kdf = 0 then .hmacGenerate else .cmacGenerate
      let r := s.startJob kind slot d.parts
      r.1.queueFrame d k dep48 m 16 (.icv r.2 (s.sppAlg e) (s.sppCfZero e) kdf context)

/-- A message of `n` octets is scheduled, stamped and queued; without a departure instant it is late. -/
def State.sendMessage (s : State) (d : Draft) (n : Nat) (build : Nat → List Octet) : State :=
  let s0 := s.prune d.port
  match s0.departure d n with
  | none => s0.lateFrame d.port
  | some (k, dep48) => s0.stampOut d k dep48 (build dep48)

/-! Sequence blocks (R260). -/

/-- The sequenceId lies in a block that is not reserved yet. -/
def seqHeld (seq res : Nat) : Bool := seq / 256 == (res + 1) % 256

/-- A message is not built for want of a reserved sequenceId. -/
def State.seqHold (s : State) : State := (s.tpeCount 0x18).raise Src.TPE_SEQ_HOLD

/-- A sequenceId is the first one of its reserved block. -/
def seqOpens (seq res : Nat) : Bool := seq % 256 == 0 && seq / 256 == res

end Sys2Proof.Machine
end

