-- ==== Sys2Proof/Machine/TpeCheck.lean ====
section
/-! DEFINITION. The drop checks of a received timing message, in the order of counters 05 to 0D of Table 11-9 (R251, R256 to
R258, R263 to R268, R276), and UNSUPPORTED_MESSAGE_RX. -/

namespace Sys2Proof.Machine

/-! Sessions as the checks see them (R274). -/

/-- Session `n`. -/
def State.session (s : State) (n : Nat) : Session := SMap.get Session.reset s.tpe.sessions n

/-- The state with session `n` replaced. -/
def State.setSession (s : State) (n : Nat) (x : Session) : State :=
  { s with tpe := { s.tpe with sessions := SMap.put Session.reset s.tpe.sessions n x } }

/-- PORT of a session. -/
def State.sesPort (s : State) (n : Nat) : Nat := bitsAt (s.rdN (Obj.SES_CFG n)) 8 3

/-- PROFILE of a session. -/
def State.sesProfile (s : State) (n : Nat) : Nat := bitsAt (s.rdN (Obj.SES_CFG n)) 20 4

/-- The SPP entry of a session's messages, with its context: the engine's own port identity (R264). -/
def State.sesAuth (s : State) (n : Nat) : Option (Nat × List Octet) :=
  let w := s.rdN (Obj.SES_CFG n)
  if bitOn w 15 then some (bitsAt w 16 4, portIdentity (s.ownPort (s.sesPort n))) else none

/-- The master's address. -/
def State.sesAddr (s : State) (n : Nat) : Nat := ofBe (padTo 16 (s.blob (List.replicate 16 0) (Obj.SES_MASTER_ADDR n)))

/-- The transport of a session: IPv4 for a mapped address, IEEE 802.3 for a bare MAC in a profile with L2, IPv6
otherwise. -/
def State.sesTransport (s : State) (n : Nat) : Nat :=
  let a := s.sesAddr n
  if a / 2 ^ 32 = 0xFFFF then 0 else if a < 2 ^ 48 ∧ bitOn (s.profCfg (s.sesProfile n)) 7 = true then 2 else 1

/-- Session `n` is running and a message of port `p` comes from its master. -/
def State.sesFrom (s : State) (p : Nat) (k : Packet) (m : List Octet) (n : Nat) : Bool :=
  let id := s.rdN (Obj.SES_MASTER_ID n)
  s.rdN (Obj.SES_STATE n) != 0 && s.sesPort n == p && s.sesTransport n == transportOf k &&
    (if transportOf k = 2 then k.src == s.sesAddr n % 2 ^ 48 else k.srcIp == s.sesAddr n) &&
    (id == 0 || id == (ptpSource m).1) && ptpDomain m == s.rdN (Obj.PROF_DOMAIN (s.sesProfile n))

/-- The session that a message is for. -/
def State.sesFor (s : State) (p : Nat) (k : Packet) (m : List Octet) : Option Nat := (List.range 4).find? (s.sesFrom p k m)

/-- Messages that sessions alone take: Sync, Follow_Up, Announce, Delay_Resp. -/
def sessionType (t : Nat) : Bool := t == Ptp.SYNC || t == Ptp.FOLLOW_UP || t == Ptp.ANNOUNCE || t == Ptp.DELAY_RESP

/-! Verdicts. -/

/-- What the checks up to UNSUPPORTED make of a passage: a drop under a counter; a PTP message with its profile, its
session where it is one's, its TLVs; an NTP request with its source port, with the extension fields, NTS or plain. -/
inductive Verdict
  | drop (xx : Nat)
  | ptp (profile : Nat) (session : Option Nat) (m : List Octet) (tlvs : List (Nat × List Octet))
  | ntp (src : Nat) (m : List Octet) (exts : List (Nat × List Octet)) (nts : Bool)

/-- The message has a TLV of a type. -/
def hasTlv (tlvs : List (Nat × List Octet)) (t : Nat) : Bool := tlvs.any fun x => x.1 == t

/-- A message type that a profile serves (Table 11-3). -/
def State.typeServed (s : State) (x : Nat) (ses : Option Nat) (type : Nat) (tlvs : List (Nat × List Octet)) : Bool :=
  if sessionType type then ses.isSome
  else if type = Ptp.DELAY_REQ then !s.profP2p x
  else if type = Ptp.PDELAY_REQ ∨ type = Ptp.PDELAY_RESP ∨ type = Ptp.PDELAY_RESP_FOLLOW_UP then s.profP2p x
  else if type = Ptp.SIGNALING then
    (ses.isSome && hasTlv tlvs Tlv.GRANT) ||
      (!s.profMcast x && (hasTlv tlvs Tlv.REQUEST || hasTlv tlvs Tlv.CANCEL || hasTlv tlvs Tlv.ACK_CANCEL))
  else false

/-- The checks of a PTP message, a session's too (R251; log entry 28). -/
def State.judgePtp (s : State) (p : Nat) (k : Packet) (payload : List Octet) : Verdict :=
  let ses := if 34 ≤ payload.length then s.sesFor p k payload else none
  if !s.tpeOn ∨ s.pktService ≠ 2 then .drop 5
  else match ptpParse payload with
    | none => .drop 6
    | some (m, tlvs) =>
      if field m 1 1 % 16 ≠ 2 ∨ 1 < field m 1 1 / 16 ∨ field m 0 1 / 16 ≠ 0 then .drop 7
      else match s.profileFor p (transportOf k) (ptpDomain m) with
        | none => .drop 8
        | some x => if s.typeServed x ses (ptpType m) tlvs then .ptp x ses m tlvs else .drop 9

/-- Extension fields of a type. -/
def extOf (exts : List (Nat × List Octet)) (t : Nat) : List (List Octet) := (exts.filter fun e => e.1 == t).map (·.2)

/-- The checks of an NTP request. -/
def State.judgeNtp (s : State) (src : Nat) (m : List Octet) : Verdict :=
  let rest := m.drop 48
  let mac := rest.length = 20 ∨ rest.length = 24
  let exts := if mac then some [] else extensionsOf (rest.length / 4 + 1) rest
  let first := field m 0 1
  if !s.tpeOn ∨ s.pktService ≠ 2 then .drop 5
  else match exts with
    | none => .drop 6
    | some e =>
      let cookies := (extOf e Ext.COOKIE).length
      if m.length < 48 ∨ 1 < cookies then .drop 6
      else if first / 8 % 8 ≠ 3 ∧ first / 8 % 8 ≠ 4 then .drop 7
      else if first % 8 ≠ 3 ∨ mac ∨ (cookies = 1 ∧ s.rdB Obj.NTS_EN = false) then .drop 9
      else .ntp src m e (cookies == 1)

/-- The checks up to UNSUPPORTED of a passage; another payload than PTP or NTP is a type that is not served. -/
def State.judge (s : State) (w : Passage) : Verdict :=
  let k := packetOf w.octets
  match ptpPayload k with
  | some payload => s.judgePtp w.port k payload
  | none => match ntpPayload k with
    | some (src, m) => s.judgeNtp src m
    | none => .drop (if s.tpeOn && s.pktService == 2 then 9 else 5)

/-- The checks of a message that come next run in a lane: its AUTHENTICATION TLV, or its NTS cookie (R265, R268). -/
def State.needsJob (s : State) (w : Passage) : Bool :=
  match s.judge w with
  | .ptp _ _ _ tlvs => (tlvs.getLast?.map (·.1)) == some Tlv.AUTHENTICATION
  | .ntp _ _ _ nts => nts
  | .drop _ => false

/-- The oldest message for pipeline `pl` that waits for no record, nor for a lane while Keystone's configuration is restored, where
the pipeline takes its next passage and has room for it (R250, R272, R328). -/
def State.nextPassage (s : State) (pl : Nat) : Option Passage :=
  if s.passageFree pl = false then none
  else match s.tpe.waiting.find? fun w =>
      w.pl == pl && !s.waitsForRecord w && !(s.unsafeBlock 14 && s.needsJob w) with
    | some w => if s.roomFor pl w.port then some w else none
    | none => none

/-- A passage is dropped under a counter, with the sticky bit and the source that go with it (Table 11-9, Table 11-12). -/
def State.dropPassage (s : State) (w : Passage) (xx : Nat) : State :=
  let s1 := (s.passed w).tpeCount xx
  if xx = 6 then (s1.stick Obj.TPE_STATUS 5).raise Src.TPE_MALFORMED
  else if 0xB ≤ xx ∧ xx ≤ 0xD then (s1.stick Obj.TPE_STATUS 4).raise Src.TPE_AUTH_FAIL
  else s1

/-- UNSUPPORTED_MESSAGE_RX: the oldest message of pipeline `pl` is dropped by the checks of counters 05 to 09 (R276). -/
def execUnsupportedMessageRx (pl : Fin 4) (s : State) : Host.Outcome State Fault Refusal :=
  match s.nextPassage pl with
  | none => .next s
  | some w => match s.judge w with
    | .drop xx => .next ((s.dropPassage w xx).watched s).settle
    | _ => .next s

/-! Authentication (R263 to R266). -/

/-- What authentication makes of a message: a drop under a counter, or the SPP entry it was authenticated with. -/
inductive Proof
  | bad (xx : Nat)
  | good (entry : Option Nat)

/-- An enabled SPP entry that carries an SPP value. -/
def State.sppEntry (s : State) (spp : Nat) : Option Nat :=
  (List.range 16).find? fun e => s.rdB (Obj.SPP_EN e) && bitsAt (s.rdN (Obj.SPP_CFG e)) 0 8 == spp

/-- The ICV of a message with its AUTHENTICATION TLV last, against the key of slot `k` (R263, R264). -/
def State.icvGood (s : State) (e k : Nat) (context m : List Octet) : Bool :=
  let key := clientKeyOf (s.slotOf k).kdf (s.slotOf k).value context
  icv (s.sppAlg e) key (icvInput (s.sppCfZero e) (m.take (m.length - 16))) == m.drop (m.length - 16)

/-- The authentication checks of a message: `required` where it must carry the TLV, the context of its key (R264 to R266).
A TLV with another lengthField than 22 cannot match. -/
def State.authenticate (s : State) (required : Bool) (context m : List Octet) (tlvs : List (Nat × List Octet)) :
    State × Proof :=
  match tlvs.getLast? with
  | none => (s, if required then .bad 0xA else .good none)
  | some (t, body) =>
    if t ≠ Tlv.AUTHENTICATION then (s, if required then .bad 0xA else .good none)
    else match s.sppEntry (field body 0 1) with
      | none => (s, .bad 0xB)
      | some e => match (s.sppSlots e).find? fun k => s.keyId k == field body 2 4 with
        | none => (s, .bad 0xC)
        | some k =>
          let status := s.jobStatus k 0 true (s.sppAlg e == 1 || (s.slotOf k).kdf == 0)
          if status ≠ Ks.OK then (s.jobsDone status 1, .bad 0xC)
          else if body.length = 22 ∧ s.icvGood e k context m = true then (s.jobsDone Ks.OK 2, .good (some e))
          else (s.jobsDone Ks.OK 2, .bad 0xD)

/-- The AUTH_FAIL field of a client's record goes up (R266). -/
def State.recordAuthFail (s : State) (key : ClientKey) : State :=
  match s.lookup key with
  | some (r, _) => s.onRecord r fun x => { x with authFail := satSucc 0xFFFF x.authFail }
  | none => s

/-- A client's message is checked: the passage is dropped, or goes on with the SPP entry it was authenticated with and
counts as PTP_RX at the end of its checks. -/
def State.clientProof (s : State) (x : Nat) (key : ClientKey) (m : List Octet) (tlvs : List (Nat × List Octet)) :
    State × Proof :=
  let r := s.authenticate (bitOn (s.profCfg x) 12) (portIdentity (key.clockId, key.portNum)) m tlvs
  match r.2 with
  | .bad _ => (r.1.recordAuthFail key, r.2)
  | .good _ => r

end Sys2Proof.Machine
end

