-- ==== Sys2Proof/Machine/Clients.lean ====
section
/-! DEFINITION. Clients: grants and their quotas, Delay_Req, peer delay, and the ends of grants and records (R253, R254, R259
to R262, R270, R286, R290). -/

namespace Sys2Proof.Machine

/-! The class of a client and its quota (R283, R290). -/

/-- The class of a request: the record's, or the rule's. -/
def classOf (rec : Option FoldRecord) (w : Passage) : Nat := match rec with | some x => x.cls | none => w.cls

/-- Rule 3 of R259: the request is refused for rate or client count (R290, R301). -/
def State.overQuota (s : State) (rec : Option FoldRecord) (c type : Nat) (log : Int) : Bool :=
  let rate := if type = Ptp.DELAY_RESP then 0 else rateUnits type log
  let live := (rec.map recordLive).getD false
  let old := match rec with
    | some x => if type = Ptp.DELAY_RESP ∨ (grantOf x type).exp = 0 then 0 else rateUnits type (grantOf x type).log
    | none => 0
  let limit := s.rdN (Obj.CLASS_RATE c) * 64
  let most := s.rdN (Obj.CLASS_CLIENTS_MAX c)
  if !s.rdB (Obj.CLASS_EN c) || s.drvUnsafe (128 + c) then true
  else if !live then decide (most ≤ s.clients c) || (decide (0 < rate) && decide (limit < s.committed c + rate))
  else decide (most < s.clients c) || (decide (old < rate) && decide (limit < s.committed c - old + rate))

/-! Grants (R259). -/

/-- The due time of the first message under a grant of a type (R286). -/
def State.firstDueNs (s : State) (key : ClientKey) (stamp16 : Nat) (log : Int) : Nat :=
  stamp16 / 65536 + 2000000 + s.hash key % 2 ^ 32 * periodNs log / 2 ^ 32

/-- A client's calendar entry for a type. -/
def clientEntry (r : Nat) (announce : Bool) (e : CalEntry) : Bool := e.owner == .client r announce

/-- The calendar entry that a live Sync or Announce grant has (R285, R286): a renewal does not move it. -/
def State.addEntry (s : State) (r type due : Nat) : State :=
  let announce := type == Ptp.ANNOUNCE
  if type = Ptp.DELAY_RESP ∨ s.tpe.calendar.any (clientEntry r announce) = true then s
  else { s with tpe := { s.tpe with
    calendar := s.tpe.calendar ++ [{ owner := .client r announce, due := due, elig16 := none, ready := false, rest := none }] } }

/-- A client's calendar entry for a type goes. -/
def State.dropEntry (s : State) (r type : Nat) : State :=
  if type = Ptp.DELAY_RESP then s
  else { s with tpe := { s.tpe with
    calendar := s.tpe.calendar.filter fun e => !clientEntry r (type == Ptp.ANNOUNCE) e } }

/-- A record as it is inserted at its first grant (R253, Table 11-2). -/
def State.newRecord (s : State) (key : ClientKey) (k : Packet) (w : Passage) (x : Nat) (entry : Option Nat) : FoldRecord :=
  { key := key, mac := k.src, ordered := false, auth := entry.isSome, profile := x,
    spp := entry.getD (s.rdN (Obj.PROF_SPP x) % 16), cls := w.cls, sync := noGrant, ann := noGrant, dresp := noGrant,
    dreqLastSeq := 0, dreqLastNs := none, exempt := false, sigSeq := 0, lastDep := 0, grantAt := s.clk.ts.sec,
    syncSent := 0, dreqRcvd := 0, authFail := 0, dreqExcess := 0, ended := none }

/-- Rule 5 of R259 for record `r`: the grant, its entry in the calendar, and its journal entry. -/
def State.grantTo (s : State) (r : Nat) (x : FoldRecord) (type : Nat) (log : Int) (exp : Nat) (stamp16 : Nat) : State :=
  let g : Grant := { grantOf x type with exp := exp, log := log }
  let x1 : FoldRecord := { withGrant x type g with ordered := bitOn (s.rdN (Obj.CLASS_ATTR x.cls)) 0,
                                                     exempt := x.exempt || type == Ptp.DELAY_RESP, ended := none }
  let s1 := ((s.setRecord r x1).addEntry r type (s.firstDueNs x.key stamp16 log)).tpeCount 0x14
  s1.journal (.grant x1.key x1.mac type log exp x1.cls x1.auth x1.ordered x1.profile x1.spp x1.sigSeq)

/-- The GRANT TLV (R259): the renewal-invited flag is always set. -/
def grantTlv (type : Nat) (log : Int) (dur : Nat) : List Octet :=
  tlv Tlv.GRANT ([oct (type * 16)] ++ beInt 1 log ++ beBytes 4 dur ++ [0, 1])

/-- What the TLVs of a Signaling message are judged against. -/
structure Request where
  w : Passage
  k : Packet
  key : ClientKey
  profile : Nat
  entry : Option Nat

/-- A QUOTA refusal (R290). -/
def State.quotaRefused (s : State) : State := ((s.stick Obj.DRV_STATUS 4).count 0x121 1 |>.raise Src.DRV_QUOTA).tpeCount 0x16

/-- A FOLD_FULL refusal (R253). -/
def State.foldFull (s : State) : State := ((s.tpeCount 0x17).stick Obj.TPE_STATUS 2).raise Src.TPE_FOLD_FULL

/-- One REQUEST_UNICAST_TRANSMISSION TLV by the rules of R259: the reply TLV, and whether it is granted. -/
def State.requestTlv (s : State) (q : Request) (body : List Octet) : State × List Octet × Bool :=
  let type := field body 0 1 / 16
  let log := fieldInt body 1 1
  let dur := field body 2 4
  let no := grantTlv type log 0
  let found := s.lookup q.key
  let known := found.map (·.2)
  if (type ≠ Ptp.ANNOUNCE ∧ type ≠ Ptp.SYNC ∧ type ≠ Ptp.DELAY_RESP) ∨ log < s.interval q.profile (intervalLo type) ∨
      6 < log ∨ dur = 0 then
    (s.tpeCount 0x15, no, false)
  else if s.overQuota known (classOf known q.w) type log then (s.quotaRefused, no, false)
  else
    let d := min dur (s.rdN (Obj.PROF_GRANT_MAXDUR q.profile))
    let exp := ceilDiv (q.w.stamp16 + d * giga * 65536) (giga * 65536)
    match found with
    | some (r, x) => (s.grantTo r { x with mac := q.k.src } type log exp q.w.stamp16, grantTlv type log d, true)
    | none => match s.place? q.key with
      | none => (s.foldFull, no, false)
      | some (s1, r) =>
        ((s1.count 0x122 1).grantTo r (s1.newRecord q.key q.k q.w q.profile q.entry) type log exp q.w.stamp16,
          grantTlv type log d, true)

/-- The last grant of a record has ended (R254). -/
def State.lastEnded (s : State) (r : Nat) : State :=
  s.onRecord r fun x => if recordLive x then x else { x with ended := some s.now80 }

/-- A grant of record `r` ends. -/
def State.endGrant (s : State) (r type : Nat) : State :=
  ((s.onRecord r fun x => withGrant x type { grantOf x type with exp := 0 }).dropEntry r type).lastEnded r

/-- One CANCEL_UNICAST_TRANSMISSION TLV (R259): the grant ends at once, and is acknowledged. -/
def State.cancelTlv (s : State) (q : Request) (body : List Octet) : State × List Octet × Bool :=
  let type := field body 0 1 / 16
  let ack := tlv Tlv.ACK_CANCEL [oct (type * 16), 0]
  match s.lookup q.key with
  | none => (s, ack, false)
  | some (r, x) =>
    if (type = Ptp.SYNC ∨ type = Ptp.ANNOUNCE ∨ type = Ptp.DELAY_RESP) ∧ (grantOf x type).exp ≠ 0 then
      ((s.endGrant r type).journal (.cancel q.key type), ack, false)
    else (s, ack, false)

/-- The TLVs of a Signaling message in their order: the reply's TLVs, and whether something was granted. -/
def State.signalTlvs (s : State) (q : Request) (tlvs : List (Nat × List Octet)) : State × List Octet × Bool :=
  tlvs.foldl (init := (s, [], false)) fun (acc : State × List Octet × Bool) t =>
    if t.1 = Tlv.REQUEST then
      let r := acc.1.requestTlv q t.2
      (r.1, acc.2.1 ++ r.2.1, acc.2.2 || r.2.2)
    else if t.1 = Tlv.CANCEL then
      let r := acc.1.cancelTlv q t.2
      (r.1, acc.2.1 ++ r.2.1, acc.2.2)
    else acc

/-- A Signaling reply is built: its sequenceId is the record's SIG_SEQ (R257, R260). -/
def State.signalReply (s : State) (h : HeldReply) : State :=
  let k := packetOf h.passage.octets
  let m := (ptpPayload k).getD []
  let p := h.passage.port
  let seq := match h.record.bind s.record with | some x => x.sigSeq | none => Config.signalingSeq h.passage.id % 65536
  let body := portIdentity (ptpSource m) ++ h.body
  let s1 := match h.record with
    | some r => s.onRecord r fun x => { x with sigSeq := (x.sigSeq + 1) % 65536 }
    | none => s
  let d : Draft := { id := h.passage.id, port := p, pl := h.passage.pl, kind := .ptp,
                     addr := s.replyTo p (s.profTci h.profile) k 320 320, bit := 8, from48 := 0, record := h.record,
                     auth := h.auth, parts := 1 }
  s1.sendMessage d (34 + body.length) fun dep48 =>
    ptpMessage Ptp.SIGNALING (ptpDomain m) (s.flagField p true (dep48 / ns48)) 0 (s.ownPort p) seq 127 body

/-- The tag of a reply to a client: a record with AUTH set, or a request that was authenticated (R266). -/
def replyAuth (rec : Option FoldRecord) (entry : Option Nat) (key : ClientKey) : Option (Nat × List Octet) :=
  let context := portIdentity (key.clockId, key.portNum)
  match rec with
  | some x => if x.auth then some (x.spp, context) else none
  | none => entry.map fun e => (e, context)

/-- The first due times of the entries that record `r` has, by type. -/
def State.entriesOf (s : State) (r : Nat) : List (Nat × Nat) :=
  ([Ptp.SYNC, Ptp.ANNOUNCE].filter fun t => s.tpe.calendar.any (clientEntry r (t == Ptp.ANNOUNCE))).map fun t =>
    (t, s.dueOf r (t == Ptp.ANNOUNCE))

/-- Record `r` and its calendar entries as they were before a passage that stays in build, in `old`; a record that the passage has
inserted keeps its place without a grant (R272). -/
def State.unwritten (s old : State) (r : Nat) (x : FoldRecord) : State :=
  let before := match old.record r with
    | some y => if y.key = x.key then y else { x with sync := noGrant, ann := noGrant, dresp := noGrant, ended := some s.now80 }
    | none => { x with sync := noGrant, ann := noGrant, dresp := noGrant, ended := some s.now80 }
  let mine := fun (e : CalEntry) => clientEntry r false e || clientEntry r true e
  let kept := if old.record r = some before then old.tpe.calendar.filter mine else []
  let s1 := s.setRecord r before
  { s1 with tpe := { s1.tpe with calendar := s1.tpe.calendar.filter (fun e => !mine e) ++ kept } }

/-- A passage that stayed in build writes its record and the entries of its grants (R272). -/
def State.writeHeld (s : State) (h : HeldReply) : State :=
  match h.record, h.write with
  | some r, some w =>
    (s.onRecord r fun x => writtenOver x w).forEach (l := [Ptp.SYNC, Ptp.ANNOUNCE]) (p := fun s t =>
      match h.due.find? fun d => d.1 == t with
      | some d => s.addEntry r t d.2
      | none => s.dropEntry r t)
  | _, _ => s

/-- The replies whose journal entries are acknowledged: each writes its record and is built, while Keystone can hold the job of its
tag (R272, R316, Table 14-5). -/
def State.sendReplies (s : State) : State :=
  s.forEach (l := s.tpe.replies) (p := fun s h =>
    if h.jseq ≠ 0 ∨ (s.jobsFull && h.auth.isSome) = true then s
    else ((({ s with tpe := { s.tpe with replies := s.tpe.replies.filter (· != h) } } : State).writeHeld h).signalReply h))

/-- A Signaling message that has passed its checks: TLV by TLV, and one reply for all of them. In a holder with a twin the passage
stays in build until its grants are acknowledged: its record is written and its reply built only then (R259, R272,
Table 14-5). -/
def State.signal? (s : State) (w : Passage) (x : Nat) (m : List Octet) (tlvs : List (Nat × List Octet)) : State :=
  let k := packetOf w.octets
  let key := clientKey w.port k m
  let r := s.clientProof x key m tlvs
  match r.2 with
  | .bad xx => r.1.dropPassage w xx
  | .good entry =>
    let q : Request := { w := w, k := k, key := key, profile := x, entry := entry }
    let s0 := (r.1.passed w).tpeCount 1
    let a := s0.signalTlvs q tlvs
    let found := a.1.lookup key
    let s1 := match found with | some (n, _) => a.1.touch n | none => a.1
    if a.2.1 = [] then s1
    else
      let h : HeldReply :=
        { jseq := s1.rdN Obj.JR_TX, record := found.map (·.1), write := none, due := [], passage := w, profile := x,
          body := a.2.1, auth := replyAuth (found.map (·.2)) entry key }
      match found, a.2.2 && s1.awaits with
      | some (n, y), true =>
        let h1 : HeldReply := { h with write := some y, due := s1.entriesOf n }
        let s2 := s1.unwritten s0 n y
        { s2 with tpe := { s2.tpe with replies := s2.tpe.replies ++ [h1] } }
      | _, _ => s1.signalReply h

/-- The oldest message of pipeline `pl` where it is a Signaling message of a client with, or without, a REQUEST TLV. -/
def State.nextSignal (s : State) (pl : Nat) (request : Bool) :
    Option (Passage × Nat × List Octet × List (Nat × List Octet)) :=
  match s.nextPassage pl with
  | none => none
  | some w => match s.judge w with
    | .ptp x _ m tlvs =>
      let asks := hasTlv tlvs Tlv.REQUEST
      if ptpType m = Ptp.SIGNALING ∧ asks = request ∧
          (asks || hasTlv tlvs Tlv.CANCEL || hasTlv tlvs Tlv.ACK_CANCEL) = true then some (w, x, m, tlvs) else none
    | _ => none

/-- SIGNALING_REQUEST (R253, R259, R260, R266, R271, R283, R286, R290). -/
def execSignalingRequest (pl : Fin 4) (s : State) : Host.Outcome State Fault Refusal :=
  match s.nextSignal pl true with
  | some (w, x, m, tlvs) => .next ((s.signal? w x m tlvs).watched s).settle
  | none => .next s

/-- SIGNALING_CANCEL (R254, R259, R272). -/
def execSignalingCancel (pl : Fin 4) (s : State) : Host.Outcome State Fault Refusal :=
  match s.nextSignal pl false with
  | some (w, x, m, tlvs) => .next ((s.signal? w x m tlvs).watched s).settle
  | none => .next s

/-! Delay_Req (R261, R270). -/

/-- The oldest message of pipeline `pl` where it is a PTP message of a type that `p` admits. -/
def State.nextPtp (s : State) (pl : Nat) (p : Nat → Bool) :
    Option (Passage × Nat × Option Nat × List Octet × List (Nat × List Octet)) :=
  match s.nextPassage pl with
  | none => none
  | some w => match s.judge w with
    | .ptp x ses m tlvs => if p (ptpType m) then some (w, x, ses, m, tlvs) else none
    | _ => none

/-- The checks of a Delay_Req against its record: the counter of the first that fails (R261). -/
def dreqDrop (rec : Option FoldRecord) (stamp16 seq : Nat) : Option Nat :=
  match rec with
  | none => some 0xE
  | some x =>
    let ns := stamp16 / 65536
    let back := (seq + 65536 - x.dreqLastSeq) % 65536
    if x.dresp.exp = 0 ∨ x.dresp.exp * giga * 65536 ≤ stamp16 then some 0xE
    else if x.auth ∧ x.exempt = false ∧ (back = 0 ∨ 32768 ≤ back) then some 0xF
    else match x.dreqLastNs with
      | some last => if (2 * (ns : Int) - 2 * last) < periodNs x.dresp.log then some 0x10 else none
      | none => none

/-- The Delay_Resp to a Delay_Req (R257, R270). -/
def State.delayResp (s : State) (w : Passage) (x r : Nat) (rec : FoldRecord) (k : Packet) (m : List Octet) : State :=
  let body := ptpTimestamp (w.stamp16 / 65536) ++ portIdentity (ptpSource m)
  let d : Draft := { id := w.id, port := w.port, pl := w.pl, kind := .ptp,
                     addr := s.replyTo w.port (s.profTci x) k 320 320, bit := 8, from48 := 0, record := some r,
                     auth := replyAuth (some rec) none rec.key, parts := 1 }
  s.sendMessage d 54 fun dep48 =>
    ptpMessage Ptp.DELAY_RESP (ptpDomain m) (s.flagField w.port true (dep48 / ns48))
      (ptpCorrection m - (w.stamp16 % 65536 : Nat)) (s.ownPort w.port) (ptpSeq m) (s.interval x 8) body

/-- A Delay_Req that has passed the checks of its message. -/
def State.delayReq (s : State) (w : Passage) (x : Nat) (m : List Octet) (tlvs : List (Nat × List Octet)) : State :=
  let k := packetOf w.octets
  let key := clientKey w.port k m
  let a := s.clientProof x key m tlvs
  match a.2 with
  | .bad xx => a.1.dropPassage w xx
  | .good _ =>
    let found := a.1.lookup key
    match dreqDrop (found.map (·.2)) w.stamp16 (ptpSeq m), found with
    | none, some (r, rec) =>
      let rec1 : FoldRecord := { rec with mac := k.src, dreqLastSeq := ptpSeq m, dreqLastNs := some (w.stamp16 / 65536),
                                          exempt := false, dreqRcvd := wrapSucc rec.dreqRcvd }
      ((((a.1.touch r).setRecord r rec1).passed w).tpeCount 1).delayResp w x r rec1 k m
    | some xx, some (r, _) =>
      (a.1.dropPassage w xx).when (decide (0xF ≤ xx)) fun s =>
        s.onRecord r fun y => { y with dreqExcess := satSucc 0xFFFF y.dreqExcess }
    | _, none => a.1.dropPassage w 0xE

/-- DELAY_REQ_RX (R261). -/
def execDelayReqRx (pl : Fin 4) (s : State) : Host.Outcome State Fault Refusal :=
  match s.nextPtp pl (· == Ptp.DELAY_REQ) with
  | some (w, x, _, m, tlvs) => .next ((s.delayReq w x m tlvs).watched s).settle
  | none => .next s

/-! Peer delay (R262). -/

/-- The exchange of profile `x` on port `p`. -/
def peerKey (p x : Nat) : Nat := p * 16 + x

/-- An exchange that has not begun. -/
def noPeer : Peer := { seq := 0, t1 := none, t4 := none, sent48 := 0 }

/-- A peer-delay exchange. -/
def State.peer (s : State) (n : Nat) : Peer := SMap.get noPeer s.tpe.peers n

/-- The state with an exchange replaced. -/
def State.setPeer (s : State) (n : Nat) (x : Peer) : State := { s with tpe := { s.tpe with peers := SMap.put noPeer s.tpe.peers n x } }

/-- The Pdelay_Resp to a Pdelay_Req (R270). -/
def State.pdelayReply (s : State) (w : Passage) (x : Nat) (entry : Option Nat) (m : List Octet) : State :=
  let k := packetOf w.octets
  let unicast := !bitOn k.dst 40
  let addr := if unicast then s.replyTo w.port (s.profTci x) k 319 319
    else s.multicastTo w.port x (transportOf k) true true
  let d : Draft := { id := w.id, port := w.port, pl := w.pl, kind := .ptp, addr := addr, bit := 8, from48 := 0,
                     record := none, auth := entry.map fun e => (e, portIdentity (ptpSource m)), parts := 1 }
  ((s.passed w).tpeCount 1).sendMessage d 54 fun dep48 =>
    ptpMessage Ptp.PDELAY_RESP (ptpDomain m) (s.flagField w.port unicast (dep48 / ns48))
      (ptpCorrection m + ((dep48 / 2 ^ 32 : Nat) - w.stamp16)) (s.ownPort w.port) (ptpSeq m) (s.interval x 8)
      (List.replicate 10 0 ++ portIdentity (ptpSource m))

/-- PDELAY_REQ_RX: a Pdelay_Req in a P2P profile is answered (R262). -/
def execPdelayReqRx (pl : Fin 4) (s : State) : Host.Outcome State Fault Refusal :=
  match s.nextPtp pl (· == Ptp.PDELAY_REQ) with
  | some (w, x, _, m, tlvs) =>
    let a := s.clientProof x (clientKey w.port (packetOf w.octets) m) m tlvs
    match a.2 with
    | .bad xx => .next ((a.1.dropPassage w xx).watched s).settle
    | .good entry => .next ((a.1.pdelayReply w x entry m).watched s).settle
  | none => .next s

/-- A Pdelay_Resp, or its Follow_Up, for the exchange that is out: the mean link delay to the neighbour. Corrections and
instants are in 2^-16 ns (R262). -/
def State.pdelayResp (s : State) (w : Passage) (x : Nat) (m : List Octet) : State :=
  let n := peerKey w.port x
  let e := s.peer n
  let mine := slice m 44 10 == portIdentity (s.ownPort w.port) && ptpSeq m == e.seq
  let stamp : Int := (timestampOf (slice m 34 10) * 65536 : Nat)
  let report := fun (d : Int) => (s.wr (Obj.TPE_PEER_DELAY w.port) (truncDiv d 2)).setPeer n { e with t1 := none, t4 := none }
  match mine, e.t1 with
  | true, some t1 =>
    if ptpType m = Ptp.PDELAY_RESP then
      if ptpTwoStep m then s.setPeer n { e with t4 := some ((w.stamp16 : Int), ptpCorrection m - stamp) }
      else report ((w.stamp16 : Int) - t1 - ptpCorrection m)
    else match e.t4 with
      | some (t4, c) => report (t4 - t1 - stamp - ptpCorrection m - c)
      | none => s
  | _, _ => s

/-- PDELAY_RESP_RX (R262). -/
def execPdelayRespRx (pl : Fin 4) (s : State) : Host.Outcome State Fault Refusal :=
  match s.nextPtp pl fun t => t == Ptp.PDELAY_RESP || t == Ptp.PDELAY_RESP_FOLLOW_UP with
  | some (w, x, _, m, tlvs) =>
    let a := s.clientProof x (clientKey w.port (packetOf w.octets) m) m tlvs
    match a.2 with
    | .bad xx => .next ((a.1.dropPassage w xx).watched s).settle
    | .good _ => .next ((((a.1.passed w).tpeCount 1).pdelayResp w x m).watched s).settle
  | none => .next s

/-- PDELAY_REQ_SEND: profile `x` of port `p` sends its Pdelay_Req when its interval has passed and its pipeline takes it (R249,
R250, R262); none is built without packet service (R251). -/
def execPdelayReqSend (port : Fin 8) (x : Fin 16) (s : State) : Host.Outcome State Fault Refusal :=
  let n := peerKey port x
  if s.bound? port x = false ∨ s.profP2p x = false then .next s
  else match s.runTo (max ((s.peer n).sent48 + period48 (s.interval x 8)) (s.freeFrom (port % 4))) with
    | none => .next s
    | some s1 =>
      let e := s1.peer n
      if !s1.tpeOn ∨ s1.pktService ≠ 2 then .next (s1.setPeer n { e with sent48 := s1.up48 }).settle
      else if !s1.roomFor (port % 4) port then .next s1.settle
      else
        let seq := (e.seq + 1) % 65536
        let a := ((s1.taken (port % 4)).setPeer n { seq := seq, t1 := none, t4 := none, sent48 := s1.up48 }).newId
        let t := ((List.range 3).find? fun t => bitOn (s1.profCfg x) (transportBit t)).getD 2
        let spp := s1.rdN (Obj.PROF_SPP x)
        let d : Draft := { id := a.2, port := port, pl := port % 4, kind := .pdelayReq n seq,
                           addr := s1.multicastTo port x t true true, bit := 8, from48 := 0, record := none,
                           auth := if spp = 0xFF then none else some (spp, portIdentity (s1.ownPort port)), parts := 2 }
        let s2 := a.1.sendMessage d 54 fun dep48 =>
          ptpMessage Ptp.PDELAY_REQ (s1.rdN (Obj.PROF_DOMAIN x)) (s1.flagField port false (dep48 / ns48)) 0
            (s1.ownPort port) seq (s1.interval x 8) (ptpTimestamp (Config.pdelayOrigin a.2) ++ List.replicate 10 0)
        .next (s2.watched s).settle

/-! The ends of grants and records (R254). -/

/-- The first of the live grants to expire: record, type, second. -/
def State.nextExpiry (s : State) : Option (Nat × Nat × Nat) :=
  (s.tpe.fold.map fun e => (grantTypes.map fun t => (e.1, t, (grantOf e.2 t).exp)).filter fun g => g.2.2 != 0).flatten.foldl
    (init := none) fun (best : Option (Nat × Nat × Nat)) g =>
      match best with
      | some b => if g.2.2 < b.2.2 then some g else best
      | none => some g

/-- GRANT_EXPIRY: the first grant to expire reaches its second on the timeline and ends, in every mode (R251, R254). -/
def execGrantExpiry (s : State) : Host.Outcome State Fault Refusal :=
  match s.nextExpiry with
  | none => .next s
  | some (r, type, exp) => match s.reach (exp * giga) with
    | none => .next s
    | some s1 => .next (s1.endGrant r type).settle

/-- The record that has waited longest without a grant, and since when. -/
def State.nextFree (s : State) : Option (Nat × Nat) :=
  s.tpe.fold.foldl (init := none) fun (best : Option (Nat × Nat)) e =>
    match e.2.ended, best with
    | some t, some b => if t < b.2 then some (e.1, t) else best
    | some t, none => some (e.1, t)
    | none, _ => best

/-- FOLD_RECORD_FREE: 60 s after its last grant ended a record is freed (R254). -/
def execFoldRecordFree (s : State) : Host.Outcome State Fault Refusal :=
  match s.nextFree with
  | none => .next s
  | some (r, t) => match s.reach (t + 60 * giga) with
    | none => .next s
    | some s1 => .next ({ s1 with tpe := { s1.tpe with fold := SMap.del r s1.tpe.fold } } : State).settle

end Sys2Proof.Machine
end

