-- ==== Sys2Proof/Machine/Calendar.lean ====
section
/-! DEFINITION. Drover's calendar: due times, pacers, hand-over, and the Sync and Announce messages that it brings (R260,
R261, R285 to R289). -/

namespace Sys2Proof.Machine

/-- The slots of the wheel are 1,024 ns wide (R285): the first instant of the slot that holds `ns`. -/
def slotStart (ns : Nat) : Nat := ns / 1024 * 1024

/-- The type of an entry's messages. -/
def ownerType (o : CalOwner) : Nat := if (match o with | .client _ a => a | .multicast _ _ a => a) then Ptp.ANNOUNCE else Ptp.SYNC

/-- The grant behind a client's entry. -/
def State.ownerGrant (s : State) (o : CalOwner) : Grant :=
  match o with
  | .client r _ => ((s.record r).map fun x => grantOf x (ownerType o)).getD noGrant
  | .multicast .. => noGrant

/-- The period of an entry in nanoseconds. -/
def State.ownerPeriod (s : State) (o : CalOwner) : Nat :=
  match o with
  | .client .. => periodNs (s.ownerGrant o).log
  | .multicast _ x _ => periodNs (s.interval x (intervalLo (ownerType o)))

/-- The pipeline of an entry (R249). -/
def State.ownerPipeline (s : State) (o : CalOwner) : Nat :=
  match o with
  | .client r _ => ((s.record r).map fun x => pipelineOf (s.hash x.key)).getD 0
  | .multicast p _ _ => p % 4

/-- The order among equal eligible times: the record number, then the multicast entries. -/
def ownerNumber (o : CalOwner) : Nat :=
  match o with | .client r _ => r | .multicast p x a => 1048576 + (p * 16 + x) * 2 + if a then 1 else 0

/-- The entry of an owner replaced. -/
def State.setEntry (s : State) (e : CalEntry) : State :=
  { s with tpe := { s.tpe with calendar := s.tpe.calendar.map fun x => if x.owner = e.owner then e else x } }

/-- The entry's next due time, a period on: it was handed over or skipped (R286). -/
def State.advance (s : State) (e : CalEntry) : State :=
  s.setEntry { e with due := e.due + s.ownerPeriod e.owner, elig16 := none, ready := false, rest := none }

/-- Messages of the entry's type are served now (R251, R412). -/
def State.generates (s : State) (o : CalOwner) : Bool :=
  s.tpeOn && (s.pktService == 2 || (s.pktService == 1 && ownerType o == Ptp.ANNOUNCE))

/-! The wheel (R285, R287). -/

/-- When the wheel reaches an entry: the slot of its due time, or the one that the pacer moved it to. -/
def wheelNs (e : CalEntry) : Nat := slotStart (match e.elig16 with | some t => t / 65536 | none => e.due)

/-- The entry that the wheel reaches next. -/
def State.nextEntry (s : State) : Option CalEntry :=
  s.tpe.calendar.foldl (init := none) fun (best : Option CalEntry) e =>
    if e.ready then best
    else match best with
      | some b => if wheelNs e < wheelNs b ∨ (wheelNs e = wheelNs b ∧ e.due < b.due) then some e else best
      | none => some e

/-- The pacer of class `c` in pipeline `pl`. -/
def State.pacer (s : State) (pl c : Nat) : Pacer := SMap.get { at16 := 0, rem := 0 } s.tpe.pacers (pl * 64 + c)

/-- The class instant after an eligible time, with the spacing 4 × 10^9 / CLASS_RATE; what lies below 2^-16 ns is carried, also
across a change of the rate (R183, R287). -/
def State.pace (s : State) (pl c e16 : Nat) : State :=
  let exact : Rat := ((4 * giga * 65536 : Nat) : Rat) / (s.rdN (Obj.CLASS_RATE c) : Nat) + (s.pacer pl c).rem
  let x : Pacer := { at16 := e16 + exact.floor.toNat, rem := exact - exact.floor }
  { s with tpe := { s.tpe with pacers := SMap.ins (pl * 64 + c) x s.tpe.pacers } }

/-- A message skipped by its pacer, or at a late hand-over: the class's count, PACE_SKIP_SEEN and the event (R287). -/
def State.skipped (s : State) (e : CalEntry) : State :=
  let s1 := match e.owner with
    | .client r _ => match s.record r with | some x => s.bump (Obj.CLASS_PACE_SKIP x.cls) | none => s
    | .multicast .. => s
  ((s1.stick Obj.DRV_STATUS 3).count 0x120 1 |>.raise Src.DRV_PACE_SKIP).advance e

/-- The wheel reaches the slot of an entry's due time (R287); a multicast entry takes its due time as eligible time. -/
def State.entryDue (s : State) (e : CalEntry) : State :=
  let u16 := e.due * 65536
  if !s.generates e.owner then s.advance e
  else match e.owner with
    | .multicast .. => s.setEntry { e with elig16 := some u16, ready := true }
    | .client r _ => match s.record r with
      | none => s
      | some x =>
        let pl := s.ownerPipeline e.owner
        let e16 := max u16 (s.pacer pl x.cls).at16
        let s1 := s.pace pl x.cls e16
        if s.ownerPeriod e.owner * 65536 ≤ e16 - u16 then s1.skipped e
        else s1.setEntry { e with elig16 := some e16, ready := slotStart (e16 / 65536) == slotStart e.due }

/-- CALENDAR_ENTRY_DUE: the wheel reaches the next entry's slot (R251, R285 to R287, R291). -/
def execCalendarEntryDue (s : State) : Host.Outcome State Fault Refusal :=
  match s.nextEntry with
  | none => .next s
  | some e => match s.reach (wheelNs e) with
    | none => .next s
    | some s1 => match e.elig16 with
      | none => .next (s1.entryDue e).settle
      | some _ => .next (s1.setEntry { e with ready := true }).settle

/-! Hand-over (R288). -/

/-- The entry's record is in build (R272). -/
def State.ownerInBuild (s : State) (o : CalOwner) : Bool :=
  match o with | .client r _ => s.inBuild r | .multicast .. => false

/-- The port of an entry's messages. -/
def State.ownerPort (s : State) (o : CalOwner) : Nat :=
  match o with
  | .client r _ => ((s.record r).map fun x => x.key.eport).getD 0
  | .multicast p _ _ => p

/-- The entry that pipeline `pl` takes next: the smallest eligible time, then the smallest number; one whose record is in build
waits (R272). -/
def State.nextReady (s : State) (pl : Nat) : Option CalEntry :=
  s.tpe.calendar.foldl (init := none) fun (best : Option CalEntry) e =>
    if !e.ready || s.ownerPipeline e.owner != pl || s.ownerInBuild e.owner then best
    else match best with
      | some b =>
        let a := e.elig16.getD 0
        let c := b.elig16.getD 0
        if a < c ∨ (a = c ∧ ownerNumber e.owner < ownerNumber b.owner) then some e else best
      | none => some e

/-- The next sequenceId of a record's grant is taken; the first one of its reserved block reserves the next (R260). -/
def State.takeSeq (s : State) (r type : Nat) (x : FoldRecord) : State :=
  let g := grantOf x type
  (s.setRecord r (withGrant x type { g with seq := (g.seq + 1) % 65536 })).when (seqOpens g.seq g.res)
    (·.reserveBlock (.seqRes x.key type ((g.res + 1) % 256)))

/-- A client's Sync or Announce is built: only with a reserved sequenceId, and with D before the expiry of its grant
(R260, R261). -/
def State.buildClient (s : State) (r : Nat) (x : FoldRecord) (type elig16 : Nat) : State :=
  let g := grantOf x type
  let announce := type == Ptp.ANNOUNCE
  let p := x.key.eport
  let a := (s.touch r).newId
  let d : Draft := { id := a.2, port := p, pl := pipelineOf (s.hash x.key), kind := if announce then .announce else .sync (some r),
                     addr := s.clientTo x (!announce), bit := if announce then 8 else 9, from48 := elig16 * 2 ^ 32,
                     record := some r, auth := replyAuth (some x) none x.key, parts := 2 }
  let n := (if announce then 64 else 44) + (s.messageTlvs p x.profile announce).length
  let s1 := a.1.prune p
  if seqHeld g.seq g.res then s1.seqHold
  else match s1.departure d n with
    | none => s1.lateFrame p
    | some (k, dep48) =>
      if g.exp * giga * ns48 ≤ dep48 then s1
      else
        let msg := if announce then s1.announceMessage p x.profile g.seq g.log true dep48
          else s1.syncMessage p x.profile g.seq g.log true dep48
        (s1.takeSeq r type x).stampOut d k dep48 msg

/-- The sequenceId of the next multicast message of a stream is taken; the first one of its reserved block reserves the next
(R260). -/
def State.takeMcSeq (s : State) (p x : Nat) (announce : Bool) (m : McSeq) : State :=
  let m1 : McSeq := { m with seq := (m.seq + 1) % 65536 }
  ({ s with tpe := { s.tpe with multicast := SMap.ins (mcKey p x announce) m1 s.tpe.multicast } } : State).when
    (seqOpens m.seq m.res) (·.reserveBlock (.mcRes p x (if announce then Ptp.ANNOUNCE else Ptp.SYNC) ((m.res + 1) % 256)))

/-- A multicast Sync or Announce of profile `x` is built for transport `t` (R256, R260). -/
def State.sendMulticast (s : State) (p x : Nat) (announce : Bool) (elig16 seq t : Nat) : State :=
  let log := s.interval x (intervalLo (if announce then Ptp.ANNOUNCE else Ptp.SYNC))
  let spp := s.rdN (Obj.PROF_SPP x)
  let n := (if announce then 64 else 44) + (s.messageTlvs p x announce).length
  let a := s.newId
  let d : Draft := { id := a.2, port := p, pl := p % 4, kind := if announce then .announce else .sync none,
                     addr := s.multicastTo p x t (!announce) false, bit := if announce then 8 else 9,
                     from48 := elig16 * 2 ^ 32, record := none,
                     auth := if spp = 0xFF then none else some (spp, portIdentity (s.ownPort p)), parts := 2 }
  a.1.sendMessage d n fun dep48 =>
    if announce then s.announceMessage p x seq log false dep48 else s.syncMessage p x seq log false dep48

/-- A multicast entry after one of its passages: it waits with the transports that are left, or advances. -/
def State.restOf (s : State) (e : CalEntry) (seq : Nat) (rest : List Nat) : State :=
  if rest = [] then s.advance e else s.setEntry { e with rest := some (seq, rest) }

/-- One passage of a multicast entry: the message for the next of its profile's transports. All of them carry one sequenceId, and
the entry advances with the last (R250, R260; log entry 29). -/
def State.buildMulticast (s : State) (e : CalEntry) (p x : Nat) (announce : Bool) (elig16 : Nat) : State :=
  match e.rest with
  | some (seq, t :: rest) =>
    (s.sendMulticast p x announce elig16 seq t).restOf e seq rest
  | some (_, []) => s.advance e
  | none =>
    let m := SMap.get { seq := 0, res := 0 } s.tpe.multicast (mcKey p x announce)
    if seqHeld m.seq m.res then s.seqHold.advance e
    else
      let s1 := s.takeMcSeq p x announce m
      match (List.range 3).filter fun t => bitOn (s.profCfg x) (transportBit t) with
      | [] => s1.advance e
      | t :: rest =>
        (s1.sendMulticast p x announce elig16 m.seq t).restOf e m.seq rest

/-- An entry is handed to its pipeline (R288): removed where its grant ends first, skipped where it is a full period late or
its class waits for its configuration (R301), built otherwise. -/
def State.handOver (s : State) (pl : Nat) (e : CalEntry) : State :=
  let g := s.ownerGrant e.owner
  let elig := e.elig16.getD 0
  let now16 := s.now48 / 2 ^ 32
  let s1 := s.taken pl
  if !s.generates e.owner then s.advance e
  else if e.rest.isNone ∧ elig < now16 ∧ s.ownerPeriod e.owner * 65536 ≤ now16 - e.due * 65536 then s1.skipped e
  else match e.owner with
    | .multicast p x a => s1.buildMulticast e p x a elig
    | .client r _ => match s.record r with
      | none => s1
      | some x =>
        if s.drvUnsafe (128 + x.cls) then s1.skipped e
        else if g.exp * giga ≤ e.due then
          { s1 with tpe := { s1.tpe with calendar := s1.tpe.calendar.filter fun y => y.owner != e.owner } }
        else (s1.advance e).buildClient r x (ownerType e.owner) elig

/-- CALENDAR_HANDOVER: pipeline `pl` takes its next eligible entry, 25 ns after the one before, where it has room (R249,
R250, R288). -/
def execCalendarHandover (pl : Fin 4) (s : State) : Host.Outcome State Fault Refusal :=
  match s.nextReady pl with
  | none => .next s
  | some e =>
    if !s.roomFor pl (s.ownerPort e.owner) then .next s
    else match s.runTo (s.freeFrom pl) with
      | none => .next s
      | some s1 => .next ((s1.handOver pl e).watched s).settle

/-! Multicast entries and steps (R285, R286, R289). -/

/-- The first S + jP that is not earlier than `ns`, S being a whole TAI second (R286). -/
def multicastDue (ns period : Nat) : Nat :=
  if giga ≤ period then ceilDiv ns giga * giga else ns / giga * giga + ceilDiv (ns % giga) period * period

/-- Profile `x` gains or loses its multicast entries on port `p`, by what now holds of both. -/
def State.multicastEntries (s : State) (p x : Nat) : State :=
  let want := s.bound? p x && s.profMcast x
  s.forEach (l := [false, true]) (p := fun s a =>
    let o : CalOwner := .multicast p x a
    let has := s.tpe.calendar.any fun e => e.owner == o
    if want && !has then
      { s with tpe := { s.tpe with calendar := s.tpe.calendar ++
        [{ owner := o, due := multicastDue s.now80 (s.ownerPeriod o), elig16 := none, ready := false,
           rest := none }] } }
    else if !want && has then { s with tpe := { s.tpe with calendar := s.tpe.calendar.filter fun e => e.owner != o } }
    else s)

/-- A step of the timescale from `old` ns to the present reading: every entry with an instance in the interval between takes
its first due time from the present one on, also one that it had before (R142; log entry 91), and the class instants start
again (R289). -/
def State.calendarStep (s : State) (old : Nat) : State :=
  let new := s.now80
  let move := fun (e : CalEntry) =>
    let period := s.ownerPeriod e.owner
    if old ≤ e.due ∧ e.due < new then
      { e with due := e.due + ceilDiv (new - e.due) period * period, elig16 := none, ready := false, rest := none }
    else if new < old ∧ new ≤ e.due then
      { e with due := e.due - (e.due - new) / period * period, elig16 := none, ready := false, rest := none }
    else e
  { s with tpe := { s.tpe with calendar := s.tpe.calendar.map move,
                               pacers := s.tpe.pacers.map fun x => (x.1, { x.2 with at16 := new * 65536 }) } }

end Sys2Proof.Machine
end

