-- ==== Sys2Proof/Machine/Ntp.lean ====
section
/-! DEFINITION. NTP and NTS (R147, R173, R267, R268). -/

namespace Sys2Proof.Machine

/-! The header (R267). -/

/-- The octets of an NTP timestamp of a TAI instant in 2^-16 ns: UTC seconds from 1900, repeated in an inserted second,
and the fraction truncated (R147). -/
def State.ntpTimestamp (s : State) (t16 : Nat) : List Octet :=
  let ns := t16 / 65536
  let leap := s.rdN Obj.UTC_LEAP_PEND
  let at80 := s.rdN Obj.UTC_LEAP_AT
  let o := s.rd Obj.UTC_OFFSET
  let o' : Int := if leap = 1 ∧ at80 ≤ ns + giga then o + 1 else if leap = 2 ∧ at80 ≤ ns then o - 1 else o
  beInt 4 ((ns / giga : Nat) - o' + 2208988800) ++ beBytes 4 (t16 % (giga * 65536) * 2 ^ 32 / (giga * 65536))

/-- The leap indicator of a response that departs at an instant (Table 6-2): from the start of the UTC day that ends with
the leap. -/
def State.leapIndicator (s : State) (t80 : Nat) : Nat :=
  let at80 := s.rdN Obj.UTC_LEAP_AT
  if !s.rdB Obj.UTC_VALID then 3
  else match s.rdN Obj.UTC_LEAP_PEND with
    | 1 => if at80 ≤ t80 + 86401 * giga ∧ t80 < at80 then 1 else 0
    | 2 => if at80 ≤ t80 + 86399 * giga ∧ t80 < at80 then 2 else 0
    | _ => 0

/-- The 48 octets of a response on port `p`; `nak` for the stratum and refid of an NTS NAK (R173, R267, R268). -/
def State.ntpHeader (s : State) (w : Passage) (m : List Octet) (nak : Bool) (dep48 : Nat) : List Octet :=
  let b := s.portBound w.port
  let free := b == 0xFFFFFFFF
  let stratum := if nak then 0 else if free then 16 else 1
  let dispersion := if free then 0x100000 else min 0xFFFFFFFF (ceilDiv (b * 256) giga)
  let refid := if nak then 0x4E54534E else s.timeSource.2
  let reference := match s.hd.timed80 with | some t => s.ntpTimestamp (t * 65536) | none => List.replicate 8 0
  [oct (s.leapIndicator (dep48 / ns48) * 64 + field m 0 1 / 8 % 8 * 8 + 4), oct stratum, oct (field m 2 1)] ++
    beInt 1 (s.rd Obj.NTP_PRECISION) ++ beBytes 4 0 ++ beBytes 4 dispersion ++ beBytes 4 refid ++ reference ++
    slice m 40 8 ++ s.ntpTimestamp w.stamp16 ++ s.ntpTimestamp (dep48 / 2 ^ 32)

/-- The draft of a response: to the requester's UDP port. -/
def State.ntpDraft (s : State) (w : Passage) (src : Nat) : Draft :=
  { id := w.id, port := w.port, pl := w.pl, kind := .ntp, addr := s.replyTo w.port none (packetOf w.octets) 123 src,
    bit := 8, from48 := 0, record := none, auth := none, parts := 0 }

/-- The oldest message of pipeline `pl` where it is an NTP request, NTS or plain. -/
def State.nextNtp (s : State) (pl : Nat) (nts : Bool) : Option (Passage × Nat × List Octet × List (Nat × List Octet)) :=
  match s.nextPassage pl with
  | none => none
  | some w => match s.judge w with
    | .ntp src m exts isNts => if isNts = nts then some (w, src, m, exts) else none
    | _ => none

/-- NTP_REQUEST: a plain request is answered without extension fields, or dropped as NTP_PLAIN_OFF (R267). -/
def execNtpRequest (pl : Fin 4) (s : State) : Host.Outcome State Fault Refusal :=
  match s.nextNtp pl false with
  | none => .next s
  | some (w, src, m, _) =>
    if !s.rdB Obj.NTP_PLAIN_EN then .next ((s.dropPassage w 0x13).watched s).settle
    else .next ((((s.passed w).tpeCount 3).sendMessage (s.ntpDraft w src) 48 fun dep48 => s.ntpHeader w m false dep48).watched s).settle

/-! NTS (R268). -/

/-- The master slots: CUR, NEXT, PREV. -/
def State.ntsSlots (s : State) : List Nat :=
  [s.rdN Obj.NTS_MASTER_CUR, s.rdN Obj.NTS_MASTER_NEXT, s.rdN Obj.NTS_MASTER_PREV].filter (· != 0xFFFF)

/-- The master slot in force at D (R265, R268). -/
def State.ntsSlot (s : State) (dep48 : Nat) : Option Nat :=
  let next := s.rdN Obj.NTS_MASTER_NEXT
  let k := if next ≠ 0xFFFF ∧ s.rdN Obj.NTS_ROTATE_AT * ns48 ≤ dep48 then next else s.rdN Obj.NTS_MASTER_CUR
  if k = 0xFFFF then none else some k

/-- What becomes of a cookie: no master slot has its keyID; the slot fails the job, with a status; the job opens it to a plaintext
with the AEAD identifier 15, or does not, with the job's status. -/
inductive Cookie
  | unknown
  | keyFailed (status : Nat)
  | bad (status : Nat)
  | opened (text : List Octet)

/-- A cookie is opened (R268, Table 11-7). -/
def State.unseal (s : State) (cookie : List Octet) : Cookie :=
  match s.ntsSlots.find? fun k => s.keyId k == field cookie 0 4 with
  | none => .unknown
  | some k =>
    let status := s.jobStatus k 1 true false
    if status ≠ Ks.OK then .keyFailed status
    else match Config.sivOpen (s.slotOf k).value [cookie.take 4, slice cookie 4 16] (cookie.drop 20) with
      | some text => if field text 0 2 = 15 then .opened text else .bad Ks.OK
      | none => .bad Ks.VERIFY_FAIL

/-- The octets of a packet before its Authenticator field. -/
def beforeAuth : Nat → List Octet → List Octet
  | 0, _ => []
  | f + 1, bs =>
    if field bs 0 2 = Ext.AUTHENTICATOR ∨ bs = [] then [] else bs.take (field bs 2 2) ++ beforeAuth f (bs.drop (field bs 2 2))

/-- The Authenticator of a request under the C2S key, over the packet before it (R268, RFC 8915). -/
def authGood (c2s : List Octet) (m body : List Octet) : Bool :=
  let nonceLen := field body 0 2
  let textLen := field body 2 2
  let nonce := slice body 4 nonceLen
  let text := slice body (4 + 4 * ceilDiv nonceLen 4) textLen
  (Config.sivOpen (keyOf c2s) [m.take 48 ++ beforeAuth m.length (m.drop 48), nonce] text).isSome

/-- The NTS NAK (R268). -/
def State.nak (s : State) (w : Passage) (src : Nat) (m uid : List Octet) : State :=
  let ext := extension Ext.UNIQUE_ID uid
  ((s.passed w).tpeCount 0x12).sendMessage (s.ntpDraft w src) (48 + ext.length) fun dep48 =>
    s.ntpHeader w m true dep48 ++ ext

/-- The response to an NTS request: its cookies and its Authenticator are sealed in a lane (R268, R316). -/
def State.ntsReply (s : State) (w : Passage) (src : Nat) (m uid text : List Octet) (cookies : Nat) : State :=
  let ext := extension Ext.UNIQUE_ID uid
  let d := s.ntpDraft w src
  let s1 := (((s.jobsDone Ks.OK 2).passed w).tpeCount 3).prune w.port
  let n := 48 + ext.length + authSize cookies
  match s1.departure d n with
  | none => s1.lateFrame w.port
  | some (k, dep48) => match s1.ntsSlot dep48, s1.entropy with
    | some slot, true =>
      let a := s1.draw (cookies + 1)
      let r := a.1.startJob .sivSeal slot (cookies + 1)
      r.1.queueFrame d k dep48 (s.ntpHeader w m false dep48 ++ ext) (authSize cookies)
        (.nts r.2 (s1.keyId slot) (slice text 4 32) (slice text 36 32) cookies a.2)
    | _, _ => s1.keyFail

/-- An NTS request in the order of R268; a master slot that fails the job is a key failure (R315). -/
def State.nts (s : State) (w : Passage) (src : Nat) (m : List Octet) (exts : List (Nat × List Octet)) : State :=
  let cookie := ((extOf exts Ext.COOKIE).head?).getD []
  match extOf exts Ext.UNIQUE_ID, extOf exts Ext.AUTHENTICATOR with
  | [uid], body :: _ =>
    if uid.length < 32 then s.dropPassage w 0x11
    else match s.unseal cookie with
      | .unknown => s.nak w src m uid
      | .keyFailed status => (s.jobsDone status 1).dropPassage w 0xC
      | .bad status => (s.jobsDone status 1).nak w src m uid
      | .opened text =>
        if !authGood (slice text 4 32) m body then (s.jobsDone Ks.OK 2).dropPassage w 0x11
        else
          let asked := ((extOf exts Ext.PLACEHOLDER).filter fun b => b.length == cookie.length).length
          s.ntsReply w src m uid text (min (1 + asked) (s.rdN Obj.NTS_MAX_COOKIES))
  | _, _ => s.dropPassage w 0x11

/-- NTS_REQUEST (R268). -/
def execNtsRequest (pl : Fin 4) (s : State) : Host.Outcome State Fault Refusal :=
  match s.nextNtp pl true with
  | none => .next s
  | some (w, src, m, exts) => .next ((s.nts w src m exts).watched s).settle

/-! What a lane computes (R263, R264, R268, R316). -/

/-- A cookie sealed under a master slot: keyID, nonce, SIV and ciphertext of AEAD identifier, zero, C2S and S2C keys
(Table 11-7). -/
def sealCookie (keyId : Nat) (master : BitVec 256) (c2s s2c : List Octet) (draw : Nat) : List Octet :=
  let nonce := random16 draw
  beBytes 4 keyId ++ nonce ++ Config.sivSeal master [beBytes 4 keyId, nonce] ([0, 15, 0, 0] ++ c2s ++ s2c)

/-- What is appended to a frame's message when its job is complete. -/
def tagOctets (key : BitVec 256) (msg : List Octet) : Tag → List Octet
  | .ready => []
  | .icv _ alg cfZero kdf context => icv alg (clientKeyOf kdf key context) (icvInput cfZero msg)
  | .nts _ keyId c2s s2c cookies draw =>
    let fields := ((List.range cookies).map fun i =>
      extension Ext.COOKIE (sealCookie keyId key c2s s2c (draw + 1 + i))).flatten
    let nonce := random16 draw
    let text := Config.sivSeal (keyOf s2c) [msg, nonce] fields
    extension Ext.AUTHENTICATOR (beBytes 2 16 ++ beBytes 2 text.length ++ nonce ++ text)

/-- The job that a frame waits for. -/
def tagJob : Tag → Option Nat
  | .ready => none | .icv job _ _ _ _ => some job | .nts job _ _ _ _ _ => some job

/-- A job is complete: its frame gets its tag, or is dropped as KEY_FAIL, and the waiting jobs are admitted. -/
def State.jobComplete (s : State) (j : Job) : State :=
  let s1 := ((({ s with ks := { s.ks with jobs := s.ks.jobs.filter fun x => x.id != j.id } } : State).jobsDone j.status
    j.parts).keyJobDone j.id).admitJobs
  match s1.tpe.frames.find? fun f => tagJob f.tag == some j.id with
  | none => s1
  | some f =>
    if j.status ≠ Ks.OK then (s1.dropFrame f).keyFail
    else
      let f1 : Frame := { f with msg := f.msg ++ tagOctets j.key f.msg f.tag, tag := .ready }
      { s1 with tpe := { s1.tpe with frames := s1.tpe.frames.map fun x => if x.id = f.id then f1 else x } }

/-- CRYPTO_JOB_COMPLETE: lane `lane` completes its oldest job; 8 stands for the jobs that no lane could take (R316). -/
def execCryptoJobComplete (lane : Fin 9) (s : State) : Host.Outcome State Fault Refusal :=
  match s.ks.jobs.find? fun j => j.lane == some lane.val with
  | none => .next s
  | some j => .next ((s.jobComplete j).sendReplies.watched s).settle

end Sys2Proof.Machine
end

