-- ==== Sys2Proof/Machine/TpeControl.lean ====
section
/-! DEFINITION. Launch, fences, the enables of the engine and of its profiles, and key rotation (R25, R251, R252, R258, R265,
R272, R273). -/

namespace Sys2Proof.Machine

/-! Launch (R25). -/

/-- The timed frame of port `p` that departs first. -/
def State.nextFrame (s : State) (p : Nat) : Option Frame :=
  s.tpe.frames.foldl (init := none) fun (best : Option Frame) f =>
    if f.port ≠ p then best
    else match best with
      | some b => if f.dep48 < b.dep48 then some f else best
      | none => some f

/-- What a departure does beyond the wire: counters, SYNC_SENT, t3 of a session, t1 of a peer-delay exchange. -/
def State.departed (s : State) (f : Frame) : State :=
  let t16 : Int := (f.dep48 / 2 ^ 32 : Nat)
  match f.kind with
  | .ntp => s.tpeCount 4
  | .announce => s.tpeCount 2
  | .ptp => s.tpeCount 2
  | .sync r => match r with
    | some n => (s.tpeCount 2).onRecord n fun x => { x with syncSent := wrapSucc x.syncSent }
    | none => s.tpeCount 2
  | .delayReq n seq =>
    let x := s.session n
    (s.tpeCount 2).setSession n (if x.request = some (seq, none) then { x with request := some (seq, some t16) } else x)
  | .pdelayReq n seq =>
    let e := s.peer n
    (s.tpeCount 2).setPeer n (if e.seq = seq then { e with t1 := some t16 } else e)

/-- The frame starts at D (R25): its octets on the wire, its events, and its reservation, which lasts until it has left. -/
def State.onAir (s : State) (f : Frame) : State :=
  let body := encapsulate f.addr f.msg
  let octets := padTo (max 60 body.length) body
  let s1 := ((s.portEvent f.port 2 1).portEvent f.port 3 (octets.length + 4)).launchAt f.port f.dep48 octets
  (({ s1 with tpe := { s1.tpe with frames := s1.tpe.frames.filter fun x => x.id != f.id } } : State).onWire f.port
    f.id).departed f

/-- At D: SVC_OFF where service is off by then, LATE where the frame is not ready, its port holds it or the matrix admits no
data-class request, and otherwise the launch (R23, R25, R229, R239, R251, R397). -/
def State.launch (s : State) (f : Frame) : State :=
  let announce := match f.kind with | .announce => true | _ => false
  let served := s.pktService == 2 || (announce && s.pktService == 1)
  let s1 := s.dropFrame f
  if !s.tpeOn || !served then s1.tpeCount 5
  else if !s.portSends f.port || (s.port f.port).held48.isSome || (tagJob f.tag).isSome || !s.rdB Obj.VD_DATA_EN then
    s1.lateFrame f.port
  else s.onAir f

/-- FRAME_LAUNCH: the first departure instant of port `p` is reached (R20, R23, R25). -/
def execFrameLaunch (port : Fin 8) (s : State) : Host.Outcome State Fault Refusal :=
  match s.nextFrame port with
  | none => .next s
  | some f => match s.reach (f.dep48 / ns48) with
    | none => .next s
    | some s1 => .next (((s1.prune port).launch f).watched s).settle

/-! Everything in flight goes (R251, R273, R45). -/

/-- Every passage in flight is discarded under a counter. -/
def State.discardAll (s : State) (xx : Nat) : State :=
  let n := s.tpe.waiting.length + s.tpe.replies.length + s.tpe.frames.length
  let s1 := s.forEach (l := s.tpe.frames) (p := State.dropFrame)
  ({ s1 with tpe := { s1.tpe with waiting := [], replies := [] } } : State).forEach (l := List.replicate n xx)
    (p := State.tpeCount)

/-- A step of the timescale: frames whose D was fixed before it, and received messages that have not left build, are
discarded (R25, R273); measurements of sessions and peers that span it are dropped. -/
def State.tpeStep (s : State) : State :=
  let s1 := (s.discardAll 0x1B).watched s
  let ses := s1.tpe.sessions.map fun e =>
    (e.1, { e.2 with waiting := none, last := none, request := none, path := none })
  let peers := s1.tpe.peers.map fun e => (e.1, { e.2 with t1 := none, t4 := none })
  { s1 with tpe := { s1.tpe with sessions := ses, peers := peers } }

/-! TPE_ENABLE (R251, R252). -/

/-- The Fold region lies inside the installed DRAM, below what firmware keeps (R252, R399). -/
def State.foldGood (s : State) : Bool :=
  let base := s.rdN Obj.FOLD_BASE
  base % 2 ^ 27 == 0 && decide (base + 2 ^ 27 ≤ s.rdN Obj.DRAM_FW_BASE)

/-- A write of TPE_ENABLE. -/
def State.setTpeEnable (s : State) (v : Bool) : State :=
  if !v then (s.wrN Obj.TPE_ENABLE 0).when (s.rdB Obj.TPE_ENABLE) (fun t => (t.discardAll 5).watched t)
  else if s.rdB Obj.TPE_ENABLE then s
  else if s.foldGood then s.wrN Obj.TPE_ENABLE 1
  else s.rangeReject 12 Obj.TPE_ENABLE.key

/-- TPE_ENABLE_WRITE (R251, R252). -/
def execTpeEnableWrite (v : Bool) (s : State) : Host.Outcome State Fault Refusal :=
  s.orHeld 12 .custodian .pcie Obj.TPE_ENABLE [flag8 v] [] <|
    .next (s.setTpeEnable v).settle

/-! Fences (R272). -/

/-- A write of 1 to TPE_FENCE: everything admitted before it must complete. -/
def State.fence (s : State) : State := { s with tpe := { s.tpe with fences := s.tpe.fences ++ [s.tpe.nextId] } }

/-- TPE_FENCE (R272). -/
def execTpeFence (s : State) : Host.Outcome State Fault Refusal :=
  s.orHeld 12 .custodian .pcie Obj.TPE_FENCE [1] [] <|
    .next s.fence.settle

/-- Every passage admitted before number `id` has completed. -/
def State.fenceOver (s : State) (id : Nat) : Bool :=
  s.tpe.waiting.all (fun w => decide (id ≤ w.id)) && s.tpe.frames.all (fun f => decide (id ≤ f.id)) &&
    s.tpe.replies.all fun h => decide (id ≤ h.passage.id)

/-- TPE_FENCE_COMPLETE: the passages before the oldest fence have completed, and its reply is sent (R272). -/
def execTpeFenceComplete (s : State) : Host.Outcome State Fault Refusal :=
  match s.tpe.fences with
  | [] => .next s
  | id :: rest =>
    if !s.fenceOver id then .next s
    else .next (({ s with tpe := { s.tpe with fences := rest } } : State).releaseFence id).settle

/-! Profiles (R258). -/

/-- Two profiles share a transport and a domain and are bound to a common port. -/
def State.profClash (s : State) (x y : Nat) : Bool :=
  s.rdB (Obj.PROF_EN y) && x != y && bitsAt (s.profCfg x &&& s.profCfg y) 7 3 != 0 &&
    s.rdN (Obj.PROF_DOMAIN x) == s.rdN (Obj.PROF_DOMAIN y) &&
    (List.range 8).any fun p => bitOn (s.rdN (Obj.PORT_PROFILES p)) x && bitOn (s.rdN (Obj.PORT_PROFILES p)) y

/-- An interval of PROF_INTERVALS lies within −7 to 6, and announceReceiptTimeout within 2–255. -/
def State.intervalsGood (s : State) (x : Nat) : Bool :=
  ([24, 16, 8].all fun lo => decide (-7 ≤ s.interval x lo ∧ s.interval x lo ≤ 6)) &&
    decide (2 ≤ bitsAt (s.rdN (Obj.PROF_INTERVALS x)) 0 8)

/-- PROF_EN 0→1 is accepted (R258); DELAY 1x is out of range. -/
def State.profGood (s : State) (x : Nat) : Bool :=
  decide (bitsAt (s.profCfg x) 16 2 ≤ 1) && !(s.profP2p x && !s.profMcast x) && s.intervalsGood x &&
    !(List.range 16).any (s.profClash x)

/-- A write of PROF_EN: the multicast entries of the profile follow (R285). -/
def State.setProfEn (s : State) (x : Nat) (v : Bool) : State :=
  let entries := fun (s : State) => s.forEach (l := List.range 8) (p := fun s p => s.multicastEntries p x)
  if !v then entries (s.wrN (Obj.PROF_EN x) 0)
  else if s.rdB (Obj.PROF_EN x) then s
  else if s.profGood x then entries (s.wrN (Obj.PROF_EN x) 1)
  else s.rangeReject 12 (Obj.PROF_EN x).key

/-- PROF_EN_WRITE (R258, R286). -/
def execProfEnWrite (profile : Fin 16) (v : Bool) (s : State) : Host.Outcome State Fault Refusal :=
  s.orHeld 12 .custodian .pcie (Obj.PROF_EN profile) [flag8 v] [] <|
    .next (s.setProfEn profile v).settle

/-! Key rotation (R265, R268). -/

/-- The objects of rotation `e`: an SPP entry, or 16 for the NTS master: CUR, NEXT, PREV and the instant. -/
def rotation (e : Nat) : Reg × Reg × Reg × Reg :=
  if e < 16 then (Obj.SPP_CUR_SLOT e, Obj.SPP_NEXT_SLOT e, Obj.SPP_PREV_SLOT e, Obj.SPP_ROTATE_AT e)
  else (Obj.NTS_MASTER_CUR, Obj.NTS_MASTER_NEXT, Obj.NTS_MASTER_PREV, Obj.NTS_ROTATE_AT)

/-- The generation of the key at one position of an entry is journalled (Table 14-5): 0 CUR, 1 NEXT, 2 PREV. -/
def State.journalKey (s : State) (e position : Nat) : State :=
  let r := rotation e
  let k := s.rdN (match position with | 0 => r.1 | 1 => r.2.1 | _ => r.2.2.1)
  if k = 0xFFFF then s else s.journal (.keygen e position (s.slotOf k).gen)

/-- PREV takes CUR, CUR takes NEXT, and NEXT becomes 0xFFFF, where NEXT names a slot; what the host has written in this very
cycle stands (R366). -/
def State.rotate (s : State) (e : Nat) : State :=
  let r := rotation e
  if s.rdN r.2.1 = 0xFFFF then s
  else ((((s.hw r.2.2.1 (s.rdN r.1)).hw r.1 (s.rdN r.2.1)).hw r.2.1 0xFFFF).journalKey e 0).journalKey e 2

/-- KEY_ROTATION: the rotation instant of entry `e` is reached on the timeline (R21, R265, R268). -/
def execKeyRotation (entry : Fin 17) (s : State) : Host.Outcome State Fault Refusal :=
  let r := rotation entry
  if s.rdN r.2.1 = 0xFFFF then .next s
  else match s.reach (s.rdN r.2.2.2) with
    | none => .next s
    | some s1 => .next (s1.rotate entry).settle

end Sys2Proof.Machine
end

