-- ==== Sys2Proof/Machine/Keystone.lean ====
section
/-! DEFINITION. Keystone: key commands and their records, the lanes' tests, the entropy source, the public-key unit,
provisioning, firmware update, tamper and zeroisation (R302 to R328). -/

namespace Sys2Proof.Machine

/-- The non-volatile write inhibit is in force (R48). -/
def State.inhibited (s : State) : Bool := s.ctl.supply.vddauxLow || (s.ctl.supply.vbatLow && !s.ctl.supply.vbatAbsent)

/-- Lock bit `n` of 1E00, counted from 1, acts as set: by its value, and all of them while block 1 fails its parity
(R47, R359). -/
def State.locked (s : State) (n : Nat) : Bool := s.rdB (Obj.LOCK (n - 1)) || s.unsafeBlock 1

/-! Key commands (R306 to R314). -/

/-- The slots as they are once every record in writing has been committed. -/
def State.keysAhead (s : State) : State :=
  let slots := s.ks.cells.foldl (fun (m : List (Nat × KeySlot)) op => match op.commit with
    | .slot _ k _ x => SMap.put KeySlot.none m k x
    | _ => m) s.ks.slots
  { s with ks := { s.ks with slots := slots } }

/-- The slot and its state allow the command (Table 13-1, Table 13-6). -/
def keyAdmits (slot cmd state : Nat) : Bool :=
  decide (4 ≤ slot) && match cmd with
    | 1 => (state == Key.EMPTY && slot != 7) || (state == Key.ACTIVE && decide (slot ≤ 7))
    | 2 => state == Key.EMPTY && decide (8 ≤ slot)
    | 3 => state == Key.ACTIVE && slot != 7
    | 4 => state == Key.RETIRING && slot != 7
    | 5 => (state == Key.ACTIVE || state == Key.RETIRING) && slot != 7
    | _ => (state == Key.INVALID || state == Key.ORPHANED) && slot != 7

/-- The generation that an IMPORT or DERIVE assigns: none where the named one does not exceed KS_GEN_HIGH, or 48 bits do
not hold it (R309). -/
def State.nextGen (s : State) (req : Nat) : Option Nat :=
  let g := if req = 0 then s.rdN Obj.KS_GEN_HIGH + 1 else req
  if s.rdN Obj.KS_GEN_HIGH < g ∧ g < 2 ^ 48 then some g else none

/-- The staged key and label of a link. -/
def State.stagedKey (s : State) (l : Link) (slot : Nat) : BitVec 256 :=
  keyOf (s.blob (List.replicate 32 0) (Obj.KEY_VALUE (linkCode l) slot))
def State.stagedLabel (s : State) (l : Link) (slot : Nat) : List Octet := s.blob [] (Obj.KEY_LABEL (linkCode l) slot)

/-- What the parent of a DERIVE gives: its status, and the child's key and depth (R308, R312 step 5). -/
def State.parentStatus (s : State) (parent : Nat) : Nat :=
  let p := s.slotOf parent
  match s.keyState parent with
  | 0 => Ks.KEY_EMPTY
  | 2 => Ks.KEY_RETIRING
  | 3 => Ks.KEY_ORPHANED
  | 4 => Ks.KEY_INVALID
  | _ => if !bitOn p.usage 3 then Ks.KEY_USAGE else if 8 ≤ p.depth then Ks.RANGE else Ks.OK

/-- The child that DERIVE places (R308). -/
def deriveKey (p : KeySlot) (label : List Octet) : BitVec 256 := derive p.kdf p.value 0x44 label

/-- The outcome of a key command by the guards of R312 in their order, and the record it writes. The wrap of a new value, and the
derivation of a child, need a lane (R305, R317). -/
def State.keyPlan (s : State) (l : Link) (slot cmd : Nat) : Nat × KeySlot :=
  let a := s.keysAhead
  let old := a.slotOf slot
  let lk := linkCode l
  let usage := s.rdN (Obj.KEY_USAGE lk slot)
  let kdf := s.rdN (Obj.KEY_KDF lk slot)
  let parent := s.rdN (Obj.KEY_PARENT lk slot)
  let label := s.stagedLabel l slot
  let gen := s.nextGen (s.rdN (Obj.KEY_GEN_REQ lk slot))
  let p := a.slotOf parent
  let up := { old with recordGen := old.recordGen + 1 }
  let fail := fun (n : Nat) => (n, old)
  if s.ksMode ≠ Ks.OK then fail s.ksMode
  else if s.unsafeBlock 14 || !keyAdmits slot cmd (a.keyState slot) then fail Ks.STATE
  else match cmd with
    | 1 =>
      if s.locked 4 then fail Ks.LOCKED
      else if 32 ≤ usage ∨ 1 < kdf then fail Ks.RANGE
      else match gen with
        | none => fail Ks.RANGE
        | some g =>
          if s.inhibited then fail Ks.BROWNOUT
          else if (s.lanesFor false).isEmpty then fail Ks.LANE_FAULT
          else (Ks.OK, { up with state := .active, value := s.stagedKey l slot, usage := usage, kdf := kdf, origin := 1,
                                 depth := 0, gen := g, parent := none })
    | 2 =>
      if 32 ≤ usage ∨ 1 < kdf ∨ 1023 < parent ∨ label.length = 0 then fail Ks.RANGE
      else match gen with
        | none => fail Ks.RANGE
        | some g =>
          if a.parentStatus parent ≠ Ks.OK then fail (a.parentStatus parent)
          else if s.inhibited then fail Ks.BROWNOUT
          else if (s.lanesFor (p.kdf == 0)).isEmpty then fail Ks.LANE_FAULT
          else (Ks.OK, { up with state := .active, value := deriveKey p label, usage := usage, kdf := kdf, origin := 2,
                                 depth := p.depth + 1, gen := g, parent := some (parent, p.gen) })
    | 3 => (Ks.OK, { up with state := .retiring })
    | 4 => (Ks.OK, { up with state := .active })
    | 5 => (Ks.OK, { up with state := .invalid })
    | _ => (Ks.OK, { KeySlot.none with recordGen := up.recordGen })

/-- The jobs of a key command have completed: the wrap of an imported value; the derivation and the wrap of a child (R305, R308,
R316). -/
def State.keyJobs (s : State) (cmd status : Nat) : State :=
  s.when ((cmd == 1 || cmd == 2) && (status == Ks.OK || status == Ks.LANE_FAULT)) (·.jobsDone status cmd)

/-- A key command is committed: KEY_VALUE is cleared; a failing one leaves its status in KEY_RESULT and changes nothing;
otherwise its record write starts, and a new generation is taken (R309, R312). -/
def State.keyCommand (s : State) (l : Link) (slot cmd : Nat) : State :=
  let r := s.keyPlan l slot cmd
  let s1 := (s.wrBlob (List.replicate 32 0) (Obj.KEY_VALUE (linkCode l) slot) (List.replicate 32 0)).keyJobs cmd r.1
  if r.1 ≠ Ks.OK then s1.wrN (Obj.KEY_RESULT (linkCode l) slot) r.1
  else
    let op : CellOp := { recordsLeft := 1, commit := .slot (some l) slot cmd r.2 }
    ({ s1 with ks := { s1.ks with cells := s1.ks.cells ++ [op] } } : State).when (cmd == 1 || cmd == 2)
      (·.wrN Obj.KS_GEN_HIGH r.2.gen)

/-- KEY_IMPORT (R312). -/
def execKeyImport (link : Link) (slot : Fin 1024) (s : State) : Host.Outcome State Fault Refusal :=
  s.orHeld 14 .custodian link (Obj.KEY_CMD slot) [1] [] <|
    .next (s.keyCommand link slot 1).settle
/-- KEY_DERIVE (R308). -/
def execKeyDerive (link : Link) (slot : Fin 1024) (s : State) : Host.Outcome State Fault Refusal :=
  s.orHeld 14 .custodian link (Obj.KEY_CMD slot) [2] [] <|
    .next (s.keyCommand link slot 2).settle
/-- KEY_RETIRE (R312). -/
def execKeyRetire (link : Link) (slot : Fin 1024) (s : State) : Host.Outcome State Fault Refusal :=
  s.orHeld 14 .custodian link (Obj.KEY_CMD slot) [3] [] <|
    .next (s.keyCommand link slot 3).settle
/-- KEY_REACTIVATE (R312). -/
def execKeyReactivate (link : Link) (slot : Fin 1024) (s : State) : Host.Outcome State Fault Refusal :=
  s.orHeld 14 .custodian link (Obj.KEY_CMD slot) [4] [] <|
    .next (s.keyCommand link slot 4).settle
/-- KEY_INVALIDATE (R314). -/
def execKeyInvalidate (link : Link) (slot : Fin 1024) (s : State) : Host.Outcome State Fault Refusal :=
  s.orHeld 14 .custodian link (Obj.KEY_CMD slot) [5] [] <|
    .next (s.keyCommand link slot 5).settle
/-- KEY_DELETE (R312). -/
def execKeyDelete (link : Link) (slot : Fin 1024) (s : State) : Host.Outcome State Fault Refusal :=
  s.orHeld 14 .custodian link (Obj.KEY_CMD slot) [6] [] <|
    .next (s.keyCommand link slot 6).settle

/-- The role of a role key's slot. -/
def slotRole : Nat → Option Role
  | 4 => some .observer | 5 => some .operator | 6 => some .engineer | 7 => some .custodian | _ => none

/-- The subscriptions of a role are removed (R365). -/
def State.dropRole (s : State) (r : Role) : State :=
  { s with book := { s.book with subs := s.book.subs.filter fun x => x.role ≠ r } }

/-- The entries that name slot `k` journal its new generation (R347, Table 14-5). -/
def State.journalSlot (s : State) (k : Nat) : State :=
  s.forEach (l := List.range 17) (p := fun s e =>
    s.forEach (l := [0, 1, 2]) (p := fun s pos =>
      let r := rotation e
      let named := s.rdN (match pos with | 0 => r.1 | 1 => r.2.1 | _ => r.2.2.1)
      if named = k then s.journalKey e pos else s))

/-- A slot's record is written over the older of its two copies (R50). -/
def Keystone.place (k : Keystone) (slot : Nat) (x : KeySlot) : Keystone :=
  { k with slots := SMap.put KeySlot.none k.slots slot x
           older := SMap.put KeySlot.none k.older slot (SMap.get KeySlot.none k.slots slot)
           genHigh := max k.genHigh x.gen }

/-- The root's record is written over the older of its two copies (R50, R302, R304). -/
def Keystone.placeRoot (k : Keystone) (r : RootRecord) : Keystone :=
  { k with root := some r, rootOlder := k.root, zeroised := false }

/-- Slot 7 holds the Custodian key: ACTIVE, provisioned, with usage ROLE (R320). -/
def Keystone.placeCustodian (k : Keystone) (key : BitVec 256) (gen : Nat) : Keystone :=
  k.place 7 { KeySlot.none with
    state := .active, value := key, usage := 4, origin := 3, gen := gen, recordGen := (SMap.get KeySlot.none k.slots 7).recordGen + 1 }

/-- A key command's record is written, and takes effect in this cycle (R312, R314, R365). -/
def State.commitKey (s : State) (l : Option Link) (slot cmd : Nat) (x : KeySlot) : State :=
  let old := s.slotOf slot
  let before := s.orphans
  let s1 : State := { s with ks := s.ks.place slot x }
  let lost := cmd == 5 || cmd == 6
  let s2 := if lost then match slotRole slot with
      | some r => s1.dropRole r
      | none => s1
    else s1
  let s3 := (s2.when (cmd == 5) (·.journal (.keyInvalid old.gen))).when (cmd == 1 || cmd == 2) (·.journalSlot slot)
  let w : KeyWait :=
    { link := l, slot := slot, cmd := cmd, state := s3.keyState slot, gen := if cmd = 6 then old.gen else x.gen,
      orphaned := if lost then (s3.orphans.filter fun k => !before.contains k).length else 0,
      jobs := if cmd = 5 then (s3.ks.jobs.filter fun j => j.lane.isSome && s3.descends 10 j.slot slot).map (·.id) else [] }
  if w.jobs.isEmpty then s3.keyDone w else { s3 with ks := { s3.ks with waits := s3.ks.waits ++ [w] } }

/-- The invalidation of a slot that the twin's journal brings, never inhibited (R347). -/
def State.invalidateGen (s : State) (gen : Nat) : State :=
  let a := s.keysAhead
  let hit := a.keySlots.filter fun k =>
    decide (4 ≤ k ∧ k ≠ 7 ∧ (a.slotOf k).gen = gen) && ((a.slotOf k).state == .active || (a.slotOf k).state == .retiring)
  s.forEach (l := hit) (p := fun s k =>
    let x := { a.slotOf k with state := .invalid, recordGen := (a.slotOf k).recordGen + 1 }
    { s with ks := { s.ks with cells := s.ks.cells ++ [{ recordsLeft := 1, commit := .slot none k 5 x }] } })

/-- The key commands in progress complete with ZEROISED (Table 13-11, R325). -/
def State.keysAborted (s : State) : State :=
  let result := fun (s : State) (l : Option Link) (k : Nat) => match l with
    | some l => s.wrN (Obj.KEY_RESULT (linkCode l) k) Ks.ZEROISED
    | none => s
  let s1 := s.forEach (l := s.ks.cells) (p := fun s op => match op.commit with
    | .slot l k _ _ => result s l k
    | _ => s)
  let s2 := s1.forEach (l := s.ks.waits) (p := fun s w => result s w.link w.slot)
  let lost := s.ks.cells.filter fun op => match op.commit with | .provision _ _ => true | _ => false
  { s2 with ks := { s2.ks with cells := [], waits := [], installs := s2.ks.installs ++ lost.map fun _ => Ks.ZEROISED } }

/-- The inhibit keeps such an operation from starting: a placement of a key, the root, the helper data (R49). -/
def CellOp.inhibitable (op : CellOp) : Bool :=
  match op.commit with
  | .slot _ _ cmd _ => cmd == 1 || cmd == 2
  | _ => true

/-- The generation that an operation's record places. -/
def CellOp.gen (op : CellOp) : Nat :=
  match op.commit with
  | .slot _ _ cmd x => if cmd = 1 ∨ cmd = 2 then x.gen else 0
  | .provision _ g => g
  | _ => 0

/-- An operation ends with a status and changes nothing: KS_GEN_HIGH is again the highest generation of what is committed and of
what still waits, `rest` (R49, R50, R309). -/
def State.stopped (s : State) (op : CellOp) (rest : List CellOp) (status : Nat) : State :=
  let s1 := match op.commit with
    | .slot (some l) k _ _ => s.wrN (Obj.KEY_RESULT (linkCode l) k) status
    | .helper _ => { s with ks := { s.ks with enrolStatus := some status } }
    | .provision _ _ => { s with ks := { s.ks with installs := s.ks.installs ++ [status] } }
    | _ => s
  s1.when (op.gen != 0) (·.wrN Obj.KS_GEN_HIGH ((rest.map CellOp.gen).foldl max s.ks.genHigh))

/-- An operation that the inhibit stopped completes with BROWNOUT. -/
def State.brownedOut (s : State) (op : CellOp) (rest : List CellOp) : State := s.stopped op rest Ks.BROWNOUT

/-- A key command as it begins, judged by the slots as they are now: what an operation before it has not changed (R49) cannot be
built on. Its status, and its record over what the slot holds. -/
def State.replan (s : State) (slot cmd : Nat) (x : KeySlot) : Nat × KeySlot :=
  let old := s.slotOf slot
  let up := { old with recordGen := old.recordGen + 1 }
  if !keyAdmits slot cmd (s.keyState slot) then (Ks.STATE, x)
  else match cmd with
    | 1 => (Ks.OK, { x with recordGen := up.recordGen })
    | 2 => match x.parent with
      | some (p, g) =>
        if s.parentStatus p ≠ Ks.OK then (s.parentStatus p, x)
        else if (s.slotOf p).gen ≠ g then (Ks.KEY_ORPHANED, x)
        else (Ks.OK, { x with recordGen := up.recordGen })
      | none => (Ks.RANGE, x)
    | 6 => (Ks.OK, { x with recordGen := up.recordGen })
    | _ => (Ks.OK, { up with state := x.state })

/-- The first record of the operation that is now at the front is begun. Under the inhibit those that it concerns complete with
BROWNOUT instead, and a key command that the slots do not admit any more with its status, one after another (R49, R50). -/
def State.cellsBegin : List CellOp → State → State
  | [], s => { s with ks := { s.ks with cells := [] } }
  | op :: rest, s =>
    if s.inhibited && op.inhibitable then State.cellsBegin rest (s.brownedOut op rest)
    else match op.commit with
      | .slot l k cmd x =>
        let r := s.replan k cmd x
        if r.1 ≠ Ks.OK then State.cellsBegin rest (s.stopped op rest r.1)
        else { s with ks := { s.ks with cells := { op with commit := .slot l k cmd r.2 } :: rest } }
      | _ => { s with ks := { s.ks with cells := op :: rest } }

/-- An operation on the key cells is handed in: begun where none is in progress, the inhibit permitting. -/
def State.cellsAppend (s : State) (op : CellOp) : State :=
  if s.ks.cells.isEmpty && s.inhibited && op.inhibitable then s.brownedOut op []
  else { s with ks := { s.ks with cells := s.ks.cells ++ [op] } }

/-- The operation at the front has ended, and the next one begins. -/
def State.cellsGoOn (s : State) : State := s.cellsBegin s.ks.cells

/-- KEY_CELL_WRITE_COMPLETE: the record in writing is complete. A further record of its operation is not begun under the
inhibit, and the content before stays in force; the last record commits (R50). During a zeroisation nothing commits. -/
def execKeyCellWriteComplete (s : State) : Host.Outcome State Fault Refusal :=
  match s.ks.cells with
  | [] => .next s
  | op :: rest =>
    let s1 : State := { s with ks := { s.ks with cells := rest } }
    if s.ks.zeroising then .next s
    else if 1 < op.recordsLeft then
      if s.inhibited then .next ((s1.brownedOut op rest).cellsGoOn).settle
      else .next ({ s with ks := { s.ks with cells := { op with recordsLeft := op.recordsLeft - 1 } :: rest } } : State).settle
    else match op.commit with
      | .slot l k cmd x => .next ((s1.commitKey l k cmd x).cellsGoOn).settle
      | .root r =>
        let boot := s1.ctl.boot
        .next ({ s1 with
          ks := { s1.ks.placeRoot r with rootKey := r.unwrapped }
          ctl := { s1.ctl with boot := if boot.step = 5 then { boot with step := 6 } else boot } } : State).cellsGoOn
      | .helper r =>
        .next (({ s1 with ks := { s1.ks.placeRoot r with puf := some r.helper, enrolStatus := some Ks.OK } } :
          State).cellsGoOn).settle
      | .provision key gen =>
        let k := s1.ks.placeCustodian key gen
        .next (({ s1 with ks := { k with installs := k.installs ++ [Ks.OK] } } : State).cellsGoOn).settle

/-! Lanes and the entropy source (R317, R318). -/

/-- A lane leaves service: its admitted jobs complete with LANE_FAULT, and KS_LANE_FAIL is raised (R317). -/
def State.laneFails (s : State) (n : Nat) : State :=
  let s1 := (s.wrN Obj.KS_LANES (putBit (s.rdN Obj.KS_LANES) n false)).stick Obj.KS_STATUS 3
  let jobs := s1.ks.jobs.map fun j => if j.lane = some n then { j with status := Ks.LANE_FAULT } else j
  let s2 : State := { s1 with ks := { s1.ks with jobs := jobs } }
  if s2.active Src.KS_LANE_FAIL then s2.raise Src.KS_LANE_FAIL else s2.cond Src.KS_LANE_FAIL true

/-- LANE_SELF_TEST: every 100 ms the lanes in service run their known-answer tests (R317). -/
def execLaneSelfTest (failing : BitVec 8) (s : State) : Host.Outcome State Fault Refusal :=
  .next (s.forEach (l := (List.range 8).filter fun n => failing.getLsbD n && s.laneUp n) (p := State.laneFails)).admitJobs.settle

/-- TRNG_HEALTH_FAIL: reseeding stops, and the DRBG serves on (R318). -/
def execTrngHealthFail (s : State) : Host.Outcome State Fault Refusal :=
  let s1 : State := { s with ks := { s.ks with trngFailed := true, passes := 0 } }
  .next ((s1.stick Obj.KS_STATUS 2).cond Src.KS_TRNG_FAIL true).settle

/-- TRNG_RETEST: after 64 consecutive passes reseeding resumes (R318). -/
def execTrngRetest (passed : Bool) (s : State) : Host.Outcome State Fault Refusal :=
  if !s.ks.trngFailed then .next s
  else if !passed then .next ({ s with ks := { s.ks with passes := 0 } } : State).settle
  else if s.ks.passes + 1 < 64 then .next ({ s with ks := { s.ks with passes := s.ks.passes + 1 } } : State).settle
  else .next (({ s with ks := { s.seeded.ks with trngFailed := false, passes := 0 } } : State).cond
    Src.KS_TRNG_FAIL false).settle

/-- DRBG_RESEED: a second has passed since the last reseed, or 2^20 requests (R318). -/
def execDrbgReseed (s : State) : Host.Outcome State Fault Refusal :=
  if s.ks.trngFailed then .next s else .next s.seeded.settle

/-- What `B900.01 TRNG_STATE` reads (R318). -/
def State.trngState (s : State) : Nat := if !s.ks.trngFailed then 0 else if s.entropy then 1 else 2

/-! The public-key unit and provisioning (R319, R320). -/

/-- The identity key: slot 0, while Keystone holds one. -/
def State.identity (s : State) : Option (BitVec 256) :=
  if !s.ksClosed ∧ s.keyState 0 = Key.ACTIVE then some (s.slotOf 0).value else none

/-- An operation for the public-key unit, after those that wait (R319). -/
def State.pkuStart (s : State) (op : PkuOp) : State := { s with ks := { s.ks with pku := s.ks.pku ++ [op] } }

/-- A write of ID_CSR_SUBJECT starts CSR generation (R319). -/
def State.writeSubject (s : State) (subject : List Octet) : State :=
  let v := subject.take 64
  if s.identity.isNone then s
  else if v.isEmpty then s.rangeReject 1 Obj.ID_CSR_SUBJECT.key
  else (s.wrBlob [] Obj.ID_CSR_SUBJECT v).pkuStart (.csr v)

/-- A write of ID_CHALLENGE starts the signature over challenge ‖ MODE ‖ KS_BOOT_NONCE ‖ SVN (R319). -/
def State.writeChallenge (s : State) (challenge : List Octet) : State :=
  let zeros := List.replicate 32 (0 : Octet)
  let v := (overlay (s.blob zeros Obj.ID_CHALLENGE) 0 challenge).take 32
  if s.identity.isNone then s
  else (s.wrBlob zeros Obj.ID_CHALLENGE v).pkuStart (.attest (v ++ [oct s.mode] ++
    s.blob (List.replicate 16 0) Obj.KS_BOOT_NONCE ++ beBytes 4 (s.rdN Obj.FW_RUN)))

/-- ID_CSR_SUBJECT_WRITE (R319). -/
def execIdCsrSubjectWrite (subject : List Octet) (s : State) : Host.Outcome State Fault Refusal :=
  s.orHeld 1 (if s.mode = Mode.UNPROVISIONED then .anonymous else .custodian) .pcie Obj.ID_CSR_SUBJECT subject [] <|
    .next (s.writeSubject subject).settle

/-- ID_CHALLENGE_WRITE (R319). -/
def execIdChallengeWrite (challenge : List Octet) (s : State) : Host.Outcome State Fault Refusal :=
  s.orHeld 1 .anonymous .pcie Obj.ID_CHALLENGE challenge [] <|
    .next (s.writeChallenge challenge).settle

/-- What an INSTALL's exchange gives once the ECDH is done: its status so far, and the Custodian key (R320). Its HKDF runs in lanes
0 to 3, its unwrap in any (R316, R317). -/
def State.installKey (s : State) : Nat × BitVec 256 :=
  match s.identity with
  | none => (Ks.ZEROISED, 0)
  | some d =>
    match Config.ecdh d (s.blob (List.replicate 64 0) Obj.PROV_EPHEM) with
    | none => (Ks.RANGE, 0)
    | some z =>
      if (s.lanesFor true).isEmpty then (Ks.LANE_FAULT, 0) else
      let salt := keyOf (padTo 32 (s.blob (List.replicate 16 0) Obj.KS_BOOT_NONCE))
      let kek := keyOf (hkdfExpand (Config.hmac salt z) [0x50, 0x52, 0x4F, 0x56] 32)
      match Config.unwrap kek (s.blob (List.replicate 40 0) Obj.PROV_WRAPPED) with
      | none => (Ks.UNWRAP_FAIL, 0)
      | some k => (Ks.OK, k)

/-- The exchange of an INSTALL is done: a failure completes it; otherwise its key-cell record, under the next generation, is
handed in (R49, R50, R309, R320). -/
def State.installRecord (s : State) : State :=
  let done := fun (n : Nat) => ({ s with ks := { s.ks with installs := s.ks.installs ++ [n] } } : State)
  let r := s.installKey
  if s.ksClosed then done Ks.ZEROISED
  else if s.mode ≠ Mode.UNPROVISIONED ∨ s.unsafeBlock 14 = true then done Ks.STATE
  else if r.1 ≠ Ks.OK then ((done r.1).when (r.1 == Ks.UNWRAP_FAIL) (·.jobsDone Ks.OK 1)).when
    (r.1 == Ks.UNWRAP_FAIL || r.1 == Ks.LANE_FAULT) (·.jobsDone r.1 1)
  else match s.nextGen 0 with
    | none => done Ks.RANGE
    | some g => ((s.jobsDone Ks.OK 3).wrN Obj.KS_GEN_HIGH g).cellsAppend { recordsLeft := 1, commit := .provision r.2 g }

/-- Transitions 6 and 8: FAULTSAFE where a source with one of its reactions is ACTIVE, every such source among the causes;
otherwise STANDBY or what the evaluation gives (Table 2-3, R411). -/
def State.enterService (s : State) (num : Nat) : State :=
  let hot := (List.range 704).filter fun n => s.active n && (s.reaction n == 3 || s.reaction n == 4)
  if hot.isEmpty then s.leaveTo num else (s.forEach (l := hot) (p := State.causes)).enterFaultsafe num

/-- PROV_CMD INSTALL in UNPROVISIONED (R320); refused with STATE while Keystone's configuration is restored (R328). -/
def State.install (s : State) : State :=
  if s.mode ≠ Mode.UNPROVISIONED then s
  else if s.unsafeBlock 14 then { s with ks := { s.ks with installs := s.ks.installs ++ [Ks.STATE] } }
  else s.pkuStart .install

/-- PROV_INSTALL (R320). -/
def execProvInstall (s : State) : Host.Outcome State Fault Refusal :=
  s.orHeld 1 .anonymous .pcie Obj.PROV_CMD [1] [] <|
    .next s.install.settle

/-- The reply to the oldest PROV_CMD write that waits for its INSTALL (R320). -/
def State.releaseInstall (s : State) : State :=
  match s.book.held.find? fun h => h.wait == .install with
  | none => s
  | some h =>
    let s1 : State := { s with book := { s.book with held := s.book.held.erase h } }
    if h.op = 0 then s1 else s1.reply h.req h.desc (writtenAck h.op h.req)

/-- The link over which the reply to INSTALL goes. -/
def State.installLink (s : State) : Option Link := (s.book.held.find? fun h => h.wait == .install).map (·.req.link)

/-- Transition 8 comes in the cycle after the reply to INSTALL has been sent (R320). -/
def State.installed (s : State) : State :=
  if s.mode = Mode.UNPROVISIONED then (s.close.runCycles 1).enterService 8 else s

/-- Transition 8 waits for the reply's transmission on its field port; over PCIe the reply is with the host already. -/
def State.afterInstall (s : State) (l : Option Link) : State :=
  match l with
  | some .fp0 => if (s.fp 0).tx = [] then s.installed else s.afterReply 0 .serve
  | some .fp1 => if (s.fp 1).tx = [] then s.installed else s.afterReply 1 .serve
  | _ => s.installed

/-- PROV_INSTALL_COMPLETE: an INSTALL has failed, or its record is written: PROV_RESULT, the reply, and after a success
transition 8 (R320). -/
def execProvInstallComplete (s : State) : Host.Outcome State Fault Refusal :=
  match s.ks.installs with
  | [] => .next s
  | status :: rest =>
    let s1 := ({ s with ks := { s.ks with installs := rest } } : State).wrN Obj.PROV_RESULT status
    if status ≠ Ks.OK ∨ s.mode ≠ Mode.UNPROVISIONED then .next s1.releaseInstall.settle
    else .next (s1.releaseInstall.afterInstall s.installLink).settle

/-! Firmware update (R322). -/

/-- The status that bars the update path: the mode, a lock, a sag (R49, R322, R326). -/
def State.fwBar (s : State) : Nat :=
  if s.ksMode ≠ Ks.OK then s.ksMode
  else if s.unsafeBlock 14 then Ks.STATE
  else if s.locked 7 then Ks.LOCKED
  else if s.inhibited then Ks.BROWNOUT
  else Ks.OK

/-- A completion of the update path. -/
def State.fwResult (s : State) (status : Nat) : State := s.wrN Obj.FW_UPD_RESULT status

/-- BEGIN: the bank that is not running is written from its start. -/
def State.fwBegin (s : State) : State :=
  if s.locked 7 then s
  else if s.fwBar ≠ Ks.OK then s.fwResult s.fwBar
  else ({ s with ks := { s.ks with fwUpdate := { active := true, image := [] } } } : State).fwResult Ks.OK

/-- A block of at most 4 KiB follows the octets already written. -/
def State.fwData (s : State) (block : List Octet) : State :=
  if s.locked 7 then s
  else if s.fwBar ≠ Ks.OK then s.fwResult s.fwBar
  else if !s.ks.fwUpdate.active then s.fwResult Ks.STATE
  else ({ s with ks := { s.ks with fwUpdate := { s.ks.fwUpdate with image := s.ks.fwUpdate.image ++ block.take 4096 } } } :
    State).fwResult Ks.OK

/-- The image is accepted (R321). -/
def State.accepts (s : State) (i : FwImage) : Bool :=
  i.signatureOk && i.lengthOk && decide (s.rdN Obj.FW_MIN_SVN ≤ i.svn)

/-- COMMIT: the image is verified, and only then FW_BOOT_BANK names its bank; a failure raises KS_FW_REJECT. -/
def State.fwCommit (s : State) : State :=
  if s.fwBar ≠ Ks.OK then s.fwResult s.fwBar
  else if !s.ks.fwUpdate.active then s.fwResult Ks.STATE
  else
    let s1 : State := { s with ks := { s.ks with fwUpdate := { active := false, image := [] } } }
    if s.accepts (Config.image s.ks.fwUpdate.image) then
      (s1.wrN Obj.FW_BOOT_BANK (1 - bitsAt (s.rdN Obj.FW_RUN) 32 1)).fwResult Ks.OK
    else (s1.fwResult Ks.VERIFY_FAIL).raise Src.KS_FW_REJECT

/-- ABORT: the partial image is discarded. -/
def State.fwAbort (s : State) : State :=
  if s.locked 7 then s
  else if s.fwBar ≠ Ks.OK then s.fwResult s.fwBar
  else ({ s with ks := { s.ks with fwUpdate := { active := false, image := [] } } } : State).fwResult Ks.OK

/-- FW_SVN_COMMIT: FW_MIN_SVN rises to the running SVN. -/
def State.fwSvn (s : State) : State :=
  if s.fwBar ≠ Ks.OK then s.fwResult s.fwBar
  else (s.wrN Obj.FW_MIN_SVN (max (s.rdN Obj.FW_MIN_SVN) (bitsAt (s.rdN Obj.FW_RUN) 0 32))).fwResult Ks.OK

/-- FW_UPD_BEGIN (R322). -/
def execFwUpdBegin (s : State) : Host.Outcome State Fault Refusal :=
  s.orHeld 14 .custodian .pcie Obj.FW_UPD_CMD [1] [] <|
    .next s.fwBegin.settle
/-- FW_UPD_DATA (R322). -/
def execFwUpdData (block : List Octet) (s : State) : Host.Outcome State Fault Refusal :=
  s.orHeld 14 .custodian .pcie Obj.FW_UPD_DATA block [] <|
    .next (s.fwData block).settle
/-- FW_UPD_COMMIT (R322). -/
def execFwUpdCommit (s : State) : Host.Outcome State Fault Refusal :=
  s.orHeld 14 .custodian .pcie Obj.FW_UPD_CMD [2] [] <|
    .next s.fwCommit.settle
/-- FW_UPD_ABORT (R322). -/
def execFwUpdAbort (s : State) : Host.Outcome State Fault Refusal :=
  s.orHeld 14 .custodian .pcie Obj.FW_UPD_CMD [3] [] <|
    .next s.fwAbort.settle
/-- FW_SVN_COMMIT (R322). -/
def execFwSvnCommit (s : State) : Host.Outcome State Fault Refusal :=
  s.orHeld 14 .custodian .pcie Obj.FW_SVN_COMMIT [1] [] <|
    .next s.fwSvn.settle

/-! Tamper and zeroisation (R323 to R325). -/

/-- An entry of the always-on log, with what the always-on counter reads (R53, R324). -/
def State.logAlwaysOn (s : State) (kind mode : Nat) : State :=
  let e : AlwaysOnEntry := { kind := kind, mode := mode, counter := Config.alwaysOn s.aon.reads }
  { s with aon := { s.aon with log := s.aon.log ++ [e], reads := s.aon.reads + 1 } }

/-- A write of KS_ZEROISE_CMD: 0x5A17_0000 alone asserts ZEROISE (R324). -/
def State.zeroiseCmd (s : State) (v : Nat) : State := if v = 0x5A170000 then s.zeroise 9 else s

/-- KS_ZEROISE_CMD (R324). -/
def execKsZeroiseCmd (value : BitVec 32) (s : State) : Host.Outcome State Fault Refusal :=
  s.orHeld 14 .custodian .pcie Obj.KS_ZEROISE_CMD (leBytes 4 value.toNat) [] <|
    .next (s.zeroiseCmd value.toNat).settle

/-- TAMPER_EVENT: a source detects. The voltage and clock sources do not run in COLD, and the voltage source is armed from
transition 1 until power-on reset; a source whose policy is DISABLED does nothing, LOG raises its source, and ZEROISE
asserts the line (R323, Table 13-10). In COLD the always-on domain acts alone (R325). -/
def execTamperEvent (source : Fin 9) (s : State) : Host.Outcome State Fault Refusal :=
  let n := source.val
  let policy := s.rdN (Obj.TAMP_POLICY n)
  let cold := s.mode == Mode.COLD
  if (n = 5 ∧ s.ks.voltageArmed = false) ∨ (cold ∧ (n = 5 ∨ n = 7)) ∨ policy = 0 then .next s
  else if cold then
    if policy = 2 then .next (s.zeroise n).settle else .next (s.logAlwaysOn n s.mode).settle
  else .next ((s.when (policy == 1) (·.stick Obj.KS_STATUS 4)).raise (Src.TAMPER n)).settle

/-- What the erasure leaves: no record, root, helper data, PUF key or KS_GEN_HIGH; the identity objects read as zero; no
subscription's role has a key; the operations of the public-key unit are aborted, every INSTALL with ZEROISED. What the storage
key sealed in flash stays there, and opens under no later root (R324, R325). -/
def State.erased (s : State) : State :=
  let s0 := s.keysAborted
  let aborted := (s0.ks.pku.filter fun op => op == .install).length
  let s1 := (((s0.wrN Obj.KS_GEN_HIGH 0).wrBlob [] Obj.ID_CSR []).wrBlob (List.replicate 64 0) Obj.ID_ATTEST
    (List.replicate 64 0)).logAlwaysOn s.ks.cause s.ks.causeMode
  { s1 with ks := { s1.ks with
      slots := [], older := [], genHigh := 0, root := none, rootOlder := none, puf := none, rootKey := none, pku := [],
      zeroising := false, zeroised := true,
      installs := (s1.ks.installs.map fun _ => Ks.ZEROISED) ++ List.replicate aborted Ks.ZEROISED } }

end Sys2Proof.Machine
end

