-- ==== Sys2Proof/Machine/Bellwether.lean ====
section
/-! DEFINITION. Bellwether: the lease, Causeway frames, the journal on both sides, and the pair record (R329 to R354). -/

namespace Sys2Proof.Machine

/-- Block 15's own state replaced. -/
def State.setBw (s : State) (f : Bellwether → Bellwether) : State := { s with bw := f s.bw }

/-- The lease replaced. -/
def State.setLease (s : State) (f : Lease → Lease) : State :=
  { s with ctl := { s.ctl with lease := f s.ctl.lease } }

/-- This unit is unit B (R329). -/
def State.unitB (s : State) : Bool := s.ctl.boot.cwrole == 2

/-- BW_LEASE and BW_GUARD in 2^-48 ns. -/
def State.lease48 (s : State) : Nat := us48 (s.rdN Obj.BW_LEASE)
def State.guard48 (s : State) : Nat := us48 (s.rdN Obj.BW_GUARD)

/-! What stands against a takeover (R339). -/

/-- BW_SPLIT and BW_CW_DARK as they are now at a unit without the lease: LEASE_IN HIGH after E + BW_GUARD; OPEN with both
lanes down. -/
def State.lineFaults (s : State) : State :=
  let line := s.rdN Obj.CW_LEASE_IN
  let late := match s.bw.heldUntil48 with | some e => decide (e + s.guard48 ≤ s.now48) | none => false
  let split := !s.ctl.lease.current && late && line == 3
  let s1 := s.when (split && !s.active Src.BW_SPLIT) (·.stick Obj.BW_STATUS 4)
  ((s1.cond Src.BW_SPLIT split).cond Src.BW_CW_DARK
    (!s.ctl.lease.current && line == 0 && s.rdN Obj.CW_LANE_STATE == 0)).when (s.ctl.lease.current || line == 3 || late)
      (·.cond Src.BW_LEASE_LINE false)

/-! Frames that arrive (R334, R335). -/

/-- Causeway carries frames to this unit: it is paired, past BOOT, and a lane is UP. -/
def State.cwHears (s : State) : Bool := s.paired && s.open && s.rdN Obj.CW_LANE_STATE != 0

/-- A frame is discarded: its key job fails, or finds a mismatch (R334). -/
def State.cwAuthFail (s : State) : State := ((s.jobsDone Ks.VERIFY_FAIL 1).stick Obj.BW_STATUS 2).raise Src.BW_AUTH_FAIL

/-- The highest epoch seen becomes `e` where that is higher; E of an older epoch no longer counts (R335, R339). -/
def State.seeEpoch (s : State) (e : Nat) : State :=
  if e ≤ s.rdN Obj.BW_EPOCH then s
  else
    let s1 := s.wrN Obj.BW_EPOCH e
    if s.ctl.lease.current then s1
    else (s1.setLease fun l => { l with epoch := e }).setBw fun b => { b with heldUntil48 := none, readyAtRenew := false }

/-- A valid frame of the twin with its epoch: a RENEW or TAKE of a higher epoch ends the lease at once, any other makes
the end of the lease pending (R335, R336, R337). What the frame itself brings follows. -/
def State.cwFrame (s : State) (epoch : Nat) (claims : Bool) (effect : State → State) : State :=
  if !s.cwHears then s
  else if s.jobStatus (s.rdN Obj.CW_KEY_SLOT) 4 true false ≠ Ks.OK then s.cwAuthFail
  else
    let s1 := (s.jobsDone Ks.OK 1).seeEpoch epoch
    if s.ctl.lease.current ∧ s.ctl.lease.epoch < epoch then
      if claims then (s1.raise Src.BW_SUPERSEDED).dropLease 2 3 true
      else effect (s1.setBw fun b => { b with releasing := true })
    else effect s1

/-- The unit has seen a holder: CONTENDING ends (R340). -/
def State.sawHolder (s : State) : State :=
  (s.setBw fun b => { b with holderSeen := true }).when (s.rdN Obj.BW_ROLE == 3) (·.wrN Obj.BW_ROLE 2)

/-- RESYNC_REQ: the standby's Fold starts anew (R345; log entry 31). -/
def State.resyncRequest (s : State) : State :=
  let s1 : State := { s with tpe := { s.tpe with fold := [], cache := [], calendar := s.tpe.calendar.filter fun e =>
    match e.owner with | .client _ _ => false | .multicast _ _ _ => true } }
  ((((s1.setBw fun b => { b with nextJseq := 0, gap := false, synced := false, keygens := [] }).wrN Obj.JR_RESYNC 1).causeway
    0x12 0 []).raise Src.BW_JOURNAL_GAP)

/-- A standby whose Fold is not the holder's asks for a resync, once (R345). -/
def State.wantsResync (s : State) : State :=
  s.when (!s.ctl.lease.current && s.mode == Mode.STANDBY && !s.bw.synced && s.rdN Obj.JR_RESYNC != 1 &&
    s.rdB Obj.TPE_ENABLE) State.resyncRequest

/-- HELLO_RX: role, READY and the identity checks of the twin (R335, R342). -/
def execHelloRx (epoch : BitVec 32) (hello : Hello) (s : State) : Host.Outcome State Fault Refusal :=
  .next (s.cwFrame (max epoch.toNat hello.epochSeen.toNat) false fun s =>
    let s1 := s.setBw fun b => { b with twin := some hello }
    s1.when (hello.role == 1 || hello.role == 4) State.wantsResync).close

/-- RENEW_RX: the standby's E, with READY as it stands now; BW_LEASE_LINE where LEASE_IN is not HIGH (R335, R339, R340). -/
def execRenewRx (epoch : BitVec 32) (sec : BitVec 48) (ns : Fin 1000000000) (s : State) :
    Host.Outcome State Fault Refusal :=
  .next (s.cwFrame epoch.toNat true fun s =>
    if s.ctl.lease.current ∨ epoch.toNat < s.rdN Obj.BW_EPOCH then s
    else
      let t := (sec.toNat * giga + ns.val) * ns48
      let e := match s.bw.heldUntil48 with | some x => max x t | none => t
      let s1 := (s.setBw fun b => { b with heldUntil48 := some e, readyAtRenew := b.ready }).sawHolder
      s1.lineFaults.cond Src.BW_LEASE_LINE (s1.rdN Obj.CW_LEASE_IN != 3)).close

/-- RELEASE_RX: renewals stop; E stays as it is (R334, R351). -/
def execReleaseRx (epoch : BitVec 32) (s : State) : Host.Outcome State Fault Refusal :=
  .next (s.cwFrame epoch.toNat false id).close

/-- TAKE_RX: the twin has acquired (R335). -/
def execTakeRx (epoch : BitVec 32) (s : State) : Host.Outcome State Fault Refusal :=
  .next (s.cwFrame epoch.toNat true fun s => s.setBw fun b => { b with holderSeen := true }).close

/-- STATE_RX: class and uncertainty of slot 22, whose raw information is the twin's class (log entry 80), the twin's UTC
values and what it sends as its source (R144, R160, Table 4-4). -/
def execStateRx (epoch : BitVec 32) (state : TwinState) (s : State) : Host.Outcome State Fault Refusal :=
  .next (s.cwFrame epoch.toNat false fun s =>
    let s1 := s.setBw fun b => { b with twinState := some state }
    if s1.slotState 22 = Sl.DISABLED then s1
    else
      let cls := if 4 ≤ state.mode ∧ state.mode ≤ 7 then state.cls.val else 15
      let info : QlInfo := { raw := state.cls.val, unc := state.bound.toNat, cls := some cls, growth := 0, at48 := s.up48 }
      (s1.setSlot 22 { s1.slot 22 with
        info := some info, utc := if state.utcValid then some (state.utcOffset, state.leap.val) else none }).utcHeard).close

/-- CAUSEWAY_AUTH_FAIL: a frame whose tag fails (R334). -/
def execCausewayAuthFail (s : State) : Host.Outcome State Fault Refusal :=
  if s.cwHears then .next s.cwAuthFail.settle else .next s

/-- HELLO_SEND: every 1 ms (Table 14-1). -/
def execHelloSend (s : State) : Host.Outcome State Fault Refusal :=
  if !s.paired || !s.open then .next s
  else match s.runTo (s.bw.hello48 + us48 1000) with
    | none => .next s
    | some s1 =>
      let k := s1.rdN Obj.CW_KEY_SLOT
      let s2 := s1.setBw fun b => { b with hello48 := s1.up48 }
      .next (s2.causeway 1 0 ([oct (s1.rdN Obj.BW_UNIT), oct (s1.rdN Obj.BW_ROLE), oct (if s1.bw.ready then 1 else 0)] ++
        beBytes 4 (s1.rdN Obj.BW_EPOCH) ++ beBytes 8 (s1.rdN Obj.TPE_CLOCK_ID) ++ beBytes 4 (s1.rdN Obj.BW_LEASE) ++
        beBytes 4 (s1.rdN Obj.BW_GUARD) ++ beBytes 6 (if k < 1024 then (s1.slotOf k).gen else 0))).settle

/-! The holder's lease (R336, R337). -/

/-- LEASE_RENEWAL: the next renewal instant; the lease is re-armed and RENEW sent only where every condition of R336 holds
and block 15 is not being restored (R354). `readback` is what the LEASE_OUT ball reads. -/
def execLeaseRenewal (readback : Bool) (s : State) : Host.Outcome State Fault Refusal :=
  let l := s.ctl.lease
  let r48 := l.acquired48 + (l.renewals + 1) * (s.lease48 / 4)
  if !s.paired || !l.current || decide (l.end48 < r48) then .next s
  else match s.liveTo r48 with
    | none => .next s
    | some s1 =>
      let s2 := s1.setLease fun l => { l with renewals := l.renewals + 1 }
      let arms := s1.mode != Mode.FAULTSAFE && readback && !(s1.unitB && s1.rdN Obj.CW_LEASE_IN == 3) &&
        s1.rdB Obj.BW_ENABLE && !s1.bw.releasing && decide (s1.rdN Obj.BW_EPOCH ≤ l.epoch) && !s1.unsafeBlock 15
      if !arms then .next s2.settle
      else
        let t := (s1.now48 + s1.lease48) / ns48
        .next ((s2.setLease fun l => { l with end48 := r48 + s1.lease48 }).causeway 2 0
          (time80Net t)).settle

/-- LEASE_EXPIRY: a lease that was not re-armed ends, and the holder mutes itself (R336). -/
def execLeaseExpiry (s : State) : Host.Outcome State Fault Refusal :=
  if !s.paired || !s.ctl.lease.current then .next s
  else match s.liveTo s.ctl.lease.end48 with
    | none => .next s
    | some s1 => .next (s1.dropLease 1 1 false).close

/-- LEASE_RELEASE: within 5 µs of its cause the holder ends its lease (R337, R351). -/
def execLeaseRelease (s : State) : Host.Outcome State Fault Refusal :=
  if !s.paired || !s.ctl.lease.current || !s.bw.releasing then .next s
  else
    .next (s.dropLease 1 2 true).close

/-! Acquisition (R335, R339, R340). -/

/-- The pair record, sealed with the storage key, goes to flash, or waits for the end of the inhibit (R49, R305, R348). -/
def State.persist (s : State) : State :=
  if s.inhibited then s.setBw fun b => { b with persistDue := true, persist48 := s.up48 }
  else s.setBw fun b => { b with
    pairRecord := match s.ks.root with
      | some r => some { epoch := s.rdN Obj.BW_EPOCH, twin := if s.unitB then 0 else 1, under := r.number }
      | none => b.pairRecord
    persistDue := false, persist48 := s.up48 }

/-- A grant's counters at a takeover: the block after the highest reservation received (R260). -/
def takenOver (g : Grant) : Grant := { g with seq := (g.res + 1) % 256 * 256, res := (g.res + 1) % 256 }

/-- Every client and multicast stream starts at the block after its highest reservation (R260). -/
def State.takeSequences (s : State) : State :=
  let fold := s.tpe.fold.map fun e => (e.1, { e.2 with sync := takenOver e.2.sync, ann := takenOver e.2.ann })
  let mc := s.tpe.multicast.map fun e => (e.1, { e.2 with seq := (e.2.res + 1) % 256 * 256, res := (e.2.res + 1) % 256 })
  { s with tpe := { s.tpe with fold := fold, multicast := mc } }

/-- The lease is acquired: its epoch, LEASE_OUT, TAKE, the pair record, and every bound anew (R335, R339, R158). `takeover` is
whether it was a holder's. -/
def State.acquire (s : State) (takeover : Bool) : State :=
  let e := (s.rdN Obj.BW_EPOCH + 1) % 2 ^ 32
  let l : Lease := { current := true, epoch := e, acquired48 := s.live48, end48 := s.live48 + s.lease48, renewals := 0 }
  let s1 := ((s.setLease fun _ => l).wrN Obj.BW_EPOCH e).wrN Obj.BW_ROLE 1
  let s2 := s1.setBw fun b => { b with
    heldUntil48 := none, readyAtRenew := false, synced := false, gap := false, journal := [], ackSince48 := none
    effected := s1.rdN Obj.JR_TX, twinState := none, releasing := false }
  let s3 := (s2.wrN Obj.JR_ACKED (s2.rdN Obj.JR_TX)).takeSequences.lineFaults
  let s4 := (s3.causeway 4 0 (beBytes 6 s.clk.ts.sec ++ beBytes 4 s.clk.ts.ns)).persist.leaseNotice 0
  let s5 := s4.when takeover fun s => (s.stick Obj.BW_STATUS 5).raise Src.BW_TAKEOVER
  s5.tebAcquire

/-- An acquisition with the rest of its cycle: what it raises comes first, and where the unit is still in STANDBY the service
evaluation of transition 18 decides by the bound just computed; the unit's launches and outputs then have their bounds (R35,
R158, R339). -/
def State.takeOver (s : State) (takeover : Bool) : State :=
  let s1 := (s.acquire takeover).settle
  if s1.mode = Mode.STANDBY ∧ s1.leaseCurrent = true then (s1.leaveTo 18).tebPublish.close else s1

/-- What every acquisition needs: LEASE_IN neither HIGH nor OPEN, BW_FORCE not HOLD_OFF, BW_ENABLE 1, and STANDBY (R339;
log entry 32). -/
def State.mayAcquire (s : State) : Bool :=
  s.paired && !s.ctl.lease.current && s.mode == Mode.STANDBY && s.rdB Obj.BW_ENABLE && s.rdN Obj.BW_FORCE != 2 &&
    (s.rdN Obj.CW_LEASE_IN == 1 || s.rdN Obj.CW_LEASE_IN == 2)

/-- LEASE_ACQUIRE: the first instant at or after E + BW_GUARD at which LEASE_IN has been LOW or OFF for BW_GUARD; what
stands against it then shows (R339). -/
def execLeaseAcquire (s : State) : Host.Outcome State Fault Refusal :=
  match s.bw.heldUntil48 with
  | none => .next s
  | some e =>
    if s.ctl.lease.current then .next s
    else match s.reach (ceilDiv (e + s.guard48) ns48) with
      | none => .next s
      | some s1 => match s1.bw.quiet48 with
        | none => .next s1.lineFaults.settle
        | some q => match s1.liveTo (q + s1.guard48) with
          | none => .next s1.lineFaults.settle
          | some s2 =>
            if s2.mayAcquire && s2.rdN Obj.BW_ROLE == 2 && s2.bw.readyAtRenew then .next (s2.takeOver true)
            else .next s2.lineFaults.settle

/-- CONTEND_HOLD_EXPIRY: the initial hold, 1 ms longer at unit B, ends without a holder (R340). -/
def execContendHoldExpiry (s : State) : Host.Outcome State Fault Refusal :=
  if s.rdN Obj.BW_ROLE ≠ 3 then .next s
  else match s.liveTo (s.bw.contending48 + s.lease48 + s.guard48 + if s.unitB then us48 1000 else 0) with
    | none => .next s
    | some s1 => if s1.mayAcquire then .next (s1.takeOver false) else .next s1.lineFaults.settle

/-! The lease line and the lanes (R330, R331, R341). -/

/-- The code of a state of LEASE_IN. -/
def lineCode : LeaseLine → Nat
  | .open => 0 | .off => 1 | .low => 2 | .high => 3

/-- LEASE_IN_CHANGE: a state that has held for 2 µs is declared (R331, R340). -/
def execLeaseInChange (line : LeaseLine) (s : State) : Host.Outcome State Fault Refusal :=
  if !s.paired then .next s
  else
    let n := lineCode line
    let from48 := s.live48 - us48 2
    let quiet := n == 1 || n == 2
    let s1 := (s.wrN Obj.CW_LEASE_IN n).setBw fun b => { b with
      quiet48 := if quiet then some (b.quiet48.getD from48) else none,
      high48 := if n = 3 then some (b.high48.getD from48) else none }
    .next ((s1.when (n == 3 && !s.ctl.lease.current) State.sawHolder).lineFaults).close

/-- SPLIT_DETECT: a holder has seen LEASE_IN HIGH for BW_GUARD; unit B ends its lease (R341). -/
def execSplitDetect (s : State) : Host.Outcome State Fault Refusal :=
  match s.bw.high48 with
  | none => .next s
  | some h =>
    if !s.paired || !s.ctl.lease.current then .next s
    else match s.liveTo (h + s.guard48) with
      | none => .next s
      | some s1 =>
        if s1.unitB then .next (((s1.stick Obj.BW_STATUS 4).raise Src.BW_SPLIT).dropLease 1 4 true).close else .next s1.settle

/-- CW_LANE_CHANGE: a lane gains block lock, or has been without it for 1 µs (R330). -/
def execCwLaneChange (lane : Fin 2) (up : Bool) (s : State) : Host.Outcome State Fault Refusal :=
  if !s.paired || (s.mode == Mode.BOOT && decide (s.ctl.boot.step < 9)) then .next s
  else .next ((((s.wrN Obj.CW_LANE_STATE (putBit (s.rdN Obj.CW_LANE_STATE) lane.val up)).cond (Src.BW_LANE_DOWN lane)
    (!up)).when s.open State.lineFaults)).settle

/-! The journal at the standby (R345, R347). -/

/-- A GRANT is applied: its record is changed or inserted; none where it cannot be. -/
def State.applyGrant (s : State) (key : ClientKey) (type : Nat) (change : FoldRecord → FoldRecord) (due : Nat) :
    Option State :=
  let put := fun (s : State) (r : Nat) (x : FoldRecord) => (s.setRecord r (change x)).addEntry r type due
  match s.lookup key with
  | some (r, x) => some (put s r x)
  | none => (s.place? key).map fun a => put (a.1.count 0x122 1) a.2
    { key := key, mac := 0, ordered := false, auth := false, profile := 0, spp := 0, cls := 0, sync := noGrant, ann := noGrant,
      dresp := noGrant, dreqLastSeq := 0, dreqLastNs := none, exempt := false, sigSeq := 0, lastDep := 0,
      grantAt := s.clk.ts.sec, syncSent := 0, dreqRcvd := 0, authFail := 0, dreqExcess := 0, ended := none }

/-- One entry is applied to the standby's own Fold; none where an insertion fails. -/
def State.applyEntry (s : State) (e : JEntry) : Option State :=
  match e with
  | .grant key mac type log exp cls auth ordered profile spp sigSeq =>
    s.applyGrant key type (fun x =>
      { withGrant x type { grantOf x type with exp := exp, log := log } with
        mac := mac, cls := cls, auth := auth, ordered := ordered, profile := profile, spp := spp, sigSeq := sigSeq,
        exempt := x.exempt || type == Ptp.DELAY_RESP, ended := none })
      (s.firstDueNs key (s.now80 * 65536) log)
  | .cancel key type => match s.lookup key with
    | some (r, _) => some (s.endGrant r type)
    | none => some s
  | .record x sync ann =>
    let entry := fun (s : State) (g : Grant) (type due : Nat) => match s.lookup x.key with
      | some (r, _) => if g.exp = 0 then s else s.addEntry r type due
      | none => s
    match s.lookup x.key with
    | some (r, _) => some (entry (entry (s.setRecord r x) x.sync Ptp.SYNC sync) x.ann Ptp.ANNOUNCE ann)
    | none => (s.place? x.key).map fun a =>
      entry (entry ((a.1.count 0x122 1).setRecord a.2 x) x.sync Ptp.SYNC sync) x.ann Ptp.ANNOUNCE ann
  | .keygen entry position gen =>
    let s1 := s.setBw fun b => { b with
      keygens := (b.keygens.filter fun k => !(k.1 == entry && k.2.1 == position)) ++ [(entry, position, gen)] }
    some (if s.holdsGen entry gen then s1 else s1.raise Src.BW_KEYGEN_MISMATCH)
  | .keyInvalid gen => some (s.invalidateGen gen)
  | e => some (s.reserved e)

/-- The entries from JSEQ `jseq` on, in order; those already applied are passed over, and an insertion that fails asks for
a resync. -/
def State.applyEntries : List JEntry → Nat → State → State
  | [], _, s => s
  | e :: rest, jseq, s =>
    if s.rdN Obj.JR_RESYNC = 1 ∧ s.bw.nextJseq = 0 then s
    else if jseq < s.bw.nextJseq then State.applyEntries rest (jseq + 1) s
    else match s.applyEntry e with
      | none => s.resyncRequest
      | some s1 => State.applyEntries rest (jseq + 1)
        (((s1.setBw fun b => { b with nextJseq := jseq + 1 }).wrN Obj.JR_TX jseq).exportJournal jseq e)

/-- The standby's ACK: the highest JSEQ applied in order, and NACK while entries are missing after it (Table 14-1). -/
def State.journalAck (s : State) : State :=
  s.causeway 0x11 0 (beBytes 8 (s.rdN Obj.JR_TX) ++ [oct (if s.bw.gap then 1 else 0)])

/-- JOURNAL_RX: entries in order are applied and acknowledged. A frame beyond a gap is answered with NACK; a second one
shows that the missing entries no longer come, and RESYNC_REQ is sent (R345; log entry 33). -/
def execJournalRx (epoch : BitVec 32) (jseq : BitVec 64) (entries : List JEntry) (s : State) :
    Host.Outcome State Fault Refusal :=
  .next (s.cwFrame epoch.toNat false fun s =>
    let j := jseq.toNat
    if s.ctl.lease.current then s
    else
      let s0 := s.when (s.bw.nextJseq == 0) fun s => s.setBw fun b => { b with nextJseq := j }
      if s0.bw.nextJseq < j then
        if s0.bw.gap then s0.resyncRequest else (s0.setBw fun b => { b with gap := true }).journalAck
      else
        let s1 := State.applyEntries entries j s0
        (s1.setBw fun b => { b with gap := if s1.bw.nextJseq < j + entries.length then b.gap else false }).journalAck).settle

/-! The journal at the holder (R345, R346). -/

/-- The reservations of the entries up to JSEQ `hi` take effect, each once, and the passages that waited for them write their
records and send their replies (R272, R346, Table 14-5). -/
def State.acknowledged (s : State) (hi : Nat) : State :=
  let s0 := s.setBw fun b => { b with effected := max b.effected hi }
  let s1 := s0.forEach (l := s.bw.journal.filter fun e => decide (s.bw.effected < e.1 ∧ e.1 ≤ hi)) (p := fun s e => s.reserved e.2)
  let replies := s1.tpe.replies.map fun h => if h.jseq ≤ hi then { h with jseq := 0 } else h
  (({ s1 with tpe := { s1.tpe with replies := replies } } : State).sendReplies).watched s

/-- JOURNAL_ACK_RX: what waited up to that JSEQ takes effect; a NACK brings the entries after it again from the buffer
(R345). -/
def execJournalAckRx (epoch : BitVec 32) (jseq : BitVec 64) (nack : Bool) (s : State) : Host.Outcome State Fault Refusal :=
  .next (s.cwFrame epoch.toNat false fun s =>
    if !s.ctl.lease.current then s
    else
      let hi := min jseq.toNat (s.rdN Obj.JR_TX)
      let lo := s.rdN Obj.JR_ACKED
      let s1 := (s.wrN Obj.JR_ACKED (max lo hi)).acknowledged hi
      let waiting := s1.awaits && decide (s1.rdN Obj.JR_ACKED < s1.rdN Obj.JR_TX)
      let s2 := s1.setBw fun b => { b with ackSince48 := if waiting then some s1.up48 else none }
      if !nack then s2
      else s2.forEach (l := s2.bw.journal.filter fun e => decide (hi < e.1)) (p := fun s e =>
        s.causeway 0x10 e.1 (Config.journalOctets e.2))).settle

/-- RESYNC_REQ_RX: every valid Fold record, the multicast reservations and the KEYGEN set are streamed (R345). -/
def execResyncReqRx (epoch : BitVec 32) (s : State) : Host.Outcome State Fault Refusal :=
  .next (s.cwFrame epoch.toNat false fun s =>
    if !s.ctl.lease.current then s
    else
      let s1 := s.wrN Obj.JR_RESYNC 1
      let s2 := s1.forEach (l := s1.tpe.fold) (p := fun s e =>
        s.journal (.record e.2 (s.dueOf e.1 false) (s.dueOf e.1 true)))
      let s3 := s2.forEach (l := s2.tpe.multicast) (p := fun s e =>
        s.journal (.mcRes (e.1 / 2 / 16) (e.1 / 2 % 16) (if e.1 % 2 = 1 then Ptp.ANNOUNCE else Ptp.SYNC) e.2.res))
      s3.forEach (l := List.range 17) (p := fun s e => s.forEach (l := [0, 1, 2]) (p := fun s pos => s.journalKey e pos))).settle

/-- RESYNC_COMPLETE: the stream has been applied; the standby's Fold is the holder's, and the holder leaves HOLDER_SOLO
(R345, R346). -/
def execResyncComplete (s : State) : Host.Outcome State Fault Refusal :=
  if !s.paired ∨ s.rdN Obj.JR_RESYNC ≠ 1 then .next s
  else
    let s1 := s.wrN Obj.JR_RESYNC 2
    if !s.ctl.lease.current then .next (s1.setBw fun b => { b with synced := true }).settle
    else if s.rdN Obj.BW_ROLE ≠ 4 then .next s1.settle
    else .next (((s1.wrN Obj.BW_ROLE 1).cond Src.BW_SOLO false).leaseNotice 4).settle

/-- JOURNAL_ACK_TIMEOUT: the holder goes on alone, and every waiting entry takes effect at once (R346). -/
def execJournalAckTimeout (s : State) : Host.Outcome State Fault Refusal :=
  match s.bw.ackSince48 with
  | none => .next s
  | some t =>
    if !s.awaits then .next s
    else match s.runTo (t + us48 (s.rdN Obj.BW_ACK_TIMEOUT)) with
      | none => .next s
      | some s1 =>
        let s2 := ((s1.wrN Obj.BW_ROLE 4).setBw fun b => { b with ackSince48 := none }).cond Src.BW_SOLO true
        .next ((s2.leaseNotice 3).acknowledged (s2.rdN Obj.JR_TX)).settle

/-! The pair record (R348). -/

/-- PAIR_RECORD_PERSIST: 60 s after the last record (R348). -/
def execPairRecordPersist (s : State) : Host.Outcome State Fault Refusal :=
  if !s.paired || !s.open then .next s
  else match s.runTo (s.bw.persist48 + 60 * sec48) with
    | none => .next s
    | some s1 => .next s1.persist.settle

/-- JOURNAL_PERSIST_RETRY: 10 ms after the release of the inhibit (R49). -/
def execJournalPersistRetry (s : State) : Host.Outcome State Fault Refusal :=
  if !s.bw.persistDue || s.inhibited then .next s
  else match s.runTo (s.ctl.supply.released48 + us48 10000) with
    | none => .next s
    | some s1 => .next s1.persist.settle

/-! Forced role changes (R351). -/

/-- BW_FORCE RELEASE: accepted at a holder whose twin is READY, refused elsewhere. -/
def State.forceRelease (s : State) : State :=
  if s.paired && s.ctl.lease.current && (s.bw.twin.map (·.ready)) == some true then
    (s.wrN Obj.BW_FORCE 1).setBw fun b => { b with releasing := true }
  else (s.stick Obj.BW_STATUS 3).wrN Obj.BW_FORCE 0

/-- A write of BW_FORCE; LOCK_CWROLE freezes it (Table 15-9). -/
def State.writeForce (s : State) (v : Nat) : State :=
  if s.locked 6 then s else (if v = 1 then s.forceRelease else s.wrN Obj.BW_FORCE v).byHost .pcie Obj.BW_FORCE

/-- BW_FORCE_RELEASE (R351). -/
def execBwForceRelease (s : State) : Host.Outcome State Fault Refusal :=
  s.orHeld 15 .custodian .pcie Obj.BW_FORCE [1] [] <|
    .next (s.writeForce 1).settle
/-- BW_FORCE_HOLD_OFF (R351). -/
def execBwForceHoldOff (s : State) : Host.Outcome State Fault Refusal :=
  s.orHeld 15 .custodian .pcie Obj.BW_FORCE [2] [] <|
    .next (s.writeForce 2).settle

/-- A write of BW_ENABLE: 0 at a holder ends its lease (R351). -/
def State.setBwEnable (s : State) (v : Bool) : State :=
  (s.wrN Obj.BW_ENABLE (if v then 1 else 0)).when (!v && s.paired && s.ctl.lease.current) fun s =>
    s.setBw fun b => { b with releasing := true }

/-- BW_ENABLE_WRITE (R351). -/
def execBwEnableWrite (value : Bool) (s : State) : Host.Outcome State Fault Refusal :=
  s.orHeld 15 .custodian .pcie Obj.BW_ENABLE [flag8 value] [] <|
    .next (s.setBwEnable value).settle

end Sys2Proof.Machine
end

