-- ==== Sys2Proof/Machine/Lo.lean ====
section
/-! DEFINITION. Local oscillators, the analog PLLs, the freeze, LO-A tuning and the software servo's commit (R111 to R116,
R126, R127, R143, R178 to R182, R438). LO-A is 0, LO-B is 1, and no base is 3. -/

namespace Sys2Proof.Machine

/-- An LO's number. -/
def loNum : Lo → Nat
  | .a => 0 | .b => 1

/-- What the engine knows of an LO. -/
def State.lo (s : State) (lo : Nat) : LoState := if lo = 0 then s.hd.loA else s.hd.loB

/-- The state with an LO replaced. -/
def State.setLo (s : State) (lo : Nat) (x : LoState) : State :=
  if lo = 0 then { s with hd := { s.hd with loA := x } } else { s with hd := { s.hd with loB := x } }

/-- LO_STATE bits 5:0 (Table 5-8): flags, service, and the freeze of a filter whose LO is out of service or whose
channel is not in RUN (R112). -/
def State.loStateWord (s : State) : Nat :=
  let frozen := fun lo => !s.loServing lo || (s.channel (8 + lo)).state != .run
  maskOf (fun b => match b with
    | 0 => s.hd.loA.warm
    | 1 => s.hd.loB.warm
    | 2 => s.hd.loA.serving
    | 3 => s.hd.loB.serving
    | 4 => frozen 0
    | _ => frozen 1) 6

/-! The freeze (R143). -/

/-- The timescale freezes: the counter holds its value, Herd uses nothing measured before, the slots lose their signal,
and nothing bounds the timescale (R34, R115, R143, R166). holdover_ready is lost with every freeze, also one that leads to no entry
of FAULTSAFE (log entry 96). -/
def State.freeze (s : State) : State :=
  if !s.clk.running || s.clk.frozen then s
  else
    let h := s.hd
    let s1 : State := { s with
      clk := { s.clk with frozen := true },
      ctl := { s.ctl with eval := { s.ctl.eval with holdoverReady := false, withinRun := none } } }
    let s2 := (s1.endAmbiguity.cond Src.TS_FROZEN true).slotsFreeze
    let s3 : State := { s2 with hd := { s2.hd with
      filters := [], timeSet := [], freqSet := [], dominant := none, ensemble := none, model := none, heldModel := none, varY := 0, varD := 0, history := [],
      effect := none, assist := none, path := { h.path with hasPhase := false, since48 := [] } } }
    let s4 := s3.forEach (l := List.range 24) (p := fun s n => (s.wrN (Obj.HD_W_TIME n) 0).wrN (Obj.HD_W_FREQ n) 0)
    (s4.tebFreeze.when (!h.timeSet.isEmpty) (·.tebLog 3)).cutPulses

/-- The freeze ends: the counter resumes from its frozen value with no step (R143). -/
def State.unfreeze (s : State) : State :=
  if !s.clk.frozen then s
  else ({ s with clk := { s.clk with frozen := false } } : State).cond Src.TS_FROZEN false

/-! Analog PLLs (R177 to R182). -/

/-- APLL-A goes out of lock: the timescale freezes (Table 1-6). -/
def State.apllAOut (s : State) (state : Nat) : State := ((s.wrN Obj.APLLA_STATE state).freeze)

/-- APLL-B goes out of lock: what runs from it is squelched and its launches stop (Table 1-6, R180). -/
def State.apllBOut (s : State) (state : Nat) : State :=
  ((s.wrN Obj.APLLB_STATE state).cond Src.APLLB_LOL true).cutPulses

/-- An APLL loses lock, or is restarted; without an LO it holds its VCO. -/
def State.apllOut (s : State) (which : Apll) : State :=
  let state := if s.base = 3 then 2 else 0
  match which with
  | .a => (s.cond Src.APLLA_LOL true).apllAOut state
  | .b => s.apllBOut state

/-- The bandwidth, lock window and lock count objects of an APLL, with their ranges (Table 8-6). -/
def apllField (which : Apll) (field : Fin 3) : Reg × Nat × Nat :=
  match which, field with
  | .a, 0 => (Obj.APLLA_BW, 0, 3)
  | .a, 1 => (Obj.APLLA_LOCK_WIN, 10, 10000)
  | .a, 2 => (Obj.APLLA_LOCK_CNT, 1, 65535)
  | .b, 0 => (Obj.APLLB_BW, 0, 3)
  | .b, 1 => (Obj.APLLB_LOCK_WIN, 10, 10000)
  | .b, 2 => (Obj.APLLB_LOCK_CNT, 1, 65535)

/-- A write to an APLL's configuration restarts its acquisition, even with the value held (R181). -/
def State.apllConfig (s : State) (which : Apll) (field : Fin 3) (value : Nat) : State :=
  let r := apllField which field
  if value < r.2.1 ∨ r.2.2 < value then s.rangeReject 5 r.1.key else (s.wrN r.1 value).apllOut which

/-- APLL_CONFIG_WRITE (R181). -/
def execApllConfigWrite (which : Apll) (field : Fin 3) (value : Nat) (s : State) : Host.Outcome State Fault Refusal :=
  s.orHeld 5 .custodian .pcie (apllField which field).1 (leBytes (if field = 0 then 1 else 4) value) [] <|
    .next (s.apllConfig which field value).settle

/-- The control cores start firmware at step 8 (Table 2-4, Table 16-11). -/
def State.coresRun (s : State) : State := s.forEach (l := List.range 4) (p := fun s c => s.wrN (Obj.CORE_STATE c) 1)

/-- The BOOT steps that a lock ends: step 7 with APLL-A, after which the timescale runs from 0 s and step 8 follows at
once; step 9 with APLL-B, after which every channel acquires and calibrates (Table 2-4). -/
def State.bootLock (s : State) (which : Apll) : State :=
  let atStep := fun (s : State) (n : Nat) =>
    ({ s with ctl := { s.ctl with boot := { s.ctl.boot with step := n } } } : State)
  if s.mode ≠ Mode.BOOT then s
  else match which with
    | .a => if s.ctl.boot.step = 7 then atStep { s with clk := { s.clk with running := true }, gn := { s.gn with fe := some (s.feCompute 0) } } 9 |>.coresRun |>.unlockKeystone else s
    | .b => if s.ctl.boot.step = 9 then (atStep s 10).forEach (l := List.range 48) (p := fun s c => s.channelAcquire c) else s

/-- APLL_LOCK: lock is declared in an APLL that acquires (R179); with APLL-A's the timescale resumes. -/
def execApllLock (which : Apll) (s : State) : Host.Outcome State Fault Refusal :=
  match which with
  | .a =>
    if s.rdN Obj.APLLA_STATE ≠ 0 ∨ s.base = 3 ∨ s.ctl.boot.step < 7 then .next s
    else .next ((((s.wrN Obj.APLLA_STATE 1).cond Src.APLLA_LOL false).unfreeze).bootLock .a).settle
  | .b =>
    if s.rdN Obj.APLLB_STATE ≠ 0 ∨ s.base = 3 ∨ s.ctl.boot.step < 9 then .next s
    else .next (((s.wrN Obj.APLLB_STATE 1).cond Src.APLLB_LOL false).bootLock .b).settle

/-- APLL_LOSS_OF_LOCK: in an APLL that is locked (R179, Table 1-6). -/
def execApllLossOfLock (which : Apll) (s : State) : Host.Outcome State Fault Refusal :=
  let locked := match which with | .a => s.apllA | .b => s.apllB
  if locked then .next (s.apllOut which).settle else .next s

/-! The base (R111 to R115). -/

/-- An estimate carried to another base at `at48`: its frequency and drift less the new base's (R113). -/
def LoModel.rebase (m : LoModel) (at48 : Int) (y d : Rat) : LoModel :=
  { t48 := at48, x := m.phase at48, y := m.freq at48 - y, d := m.d - d }

/-- The rebase on LO `new` (R113): every estimate, the rate word and the frequency-path word (log entry 111) change by the new LO's
frequency and drift as its filter holds them; the old LO's filter becomes its inverse; the two deviations go to
Time-error bound. An LO whose filter has measured nothing carries the deviations a filter starts from (R102). -/
def State.rebase (sIn : State) (new : Nat) : State :=
  let s := sIn.pathAdvance
  let at48 : Int := s.base48
  let old := s.base
  let f := s.predicted (24 + new) at48
  let known := decide (2 ≤ f.taken)
  let y := if known then f.y else 0
  let d := if known then f.d else 0
  let sx := if known then sqrtUp f.pxx else phaseOfNs 1000
  let sy := if known then sqrtUp f.pyy else s.freqTol (24 + new)
  let s1 := s.forEach (l := List.range 24) (p := fun s n =>
    let g := s.predicted n at48
    s.when (decide (2 ≤ g.taken)) (·.setFilter n { g with y := g.y - y, d := g.d - d }))
  let oldFilter : Filter := { f with at48 := at48, last48 := at48, x := 0, y := -y, d := -d, waiting := [], coming := [], fit := none }
  let s2 := (s1.setFilter (24 + new) Filter.reset).when (decide (old < 2) && known) (·.setFilter (24 + old) oldFilter)
  let rate := s2.ctl.slew.rateWord - ratTrunc y
  let word := s2.rd Obj.FP_WORD - ratTrunc y
  let eff := s2.hd.effect.map fun (e : HerdEffect) =>
    { e with rate := e.rate.map (· - ratTrunc y), fpWord := e.fpWord - ratTrunc y, switched := true }
  let s3 : State := { s2 with
    ctl := { s2.ctl with slew := { s2.ctl.slew with rateWord := rate } },
    hd := { s2.hd with
      model := s2.hd.model.map fun m => m.rebase at48 y d,
      heldModel := s2.hd.heldModel.map fun m => m.rebase at48 y d,
      ensemble := s2.hd.ensemble.map fun m => m.rebase at48 y d,
      history := s2.hd.history.map fun m => { m with x := m.x - y, y := m.y - y, d := m.d - d },
      effect := eff, switchTerm := some (s.up48, sx, sy), switched := true } }
  (((s3.wr Obj.SV_RATE rate).wr Obj.FP_WORD word).wrN Obj.LO_SEL new).tebSwitch.fosFollowAll.tebLog 4

/-- The source of an LO that is out of service (Table 5-10). -/
def loOutSource (lo : Nat) : Nat := if lo = 0 then Src.LOA_OUT else Src.LOB_OUT

/-- No LO is in service any more: both APLLs hold their VCOs, APLL-B counts as out of lock, and the timescale freezes
(R115, R179, Table 1-6). -/
def State.bothOut (s : State) : State :=
  (((s.wrN Obj.LO_SEL 3).cond Src.LO_BOTH_OUT true).apllAOut 2).apllBOut 2

/-- An LO leaves service, and must be measured again before it returns (R112, R178); the base passes to the other, or
there is none. -/
def State.loOut (s : State) (lo : Nat) : State :=
  let x := s.lo lo
  let s1 := s.setLo lo { x with measured := false, seen := false, serving := false }
  if !x.serving then s1
  else
    let s2 := s1.cond (loOutSource lo) true
    if s.base ≠ lo then s2
    else if s.loServing (1 - lo) then s2.rebase (1 - lo)
    else s2.bothOut

/-- LO_WARM_CHANGE: the filtered warm-up flag of an LO changes (R111, R112). -/
def execLoWarmChange (lo : Lo) (level : Bool) (s : State) : Host.Outcome State Fault Refusal :=
  let n := loNum lo
  let x := s.lo n
  if x.warm = level then .next s
  else
    let s1 := s.setLo n { x with warm := level, ready48 := s.live48 }
    .next (s1.when (!level) (·.loOut n)).settle

/-- LO_LOSS: the input monitor declares an LO lost (R112). -/
def execLoLoss (lo : Lo) (s : State) : Host.Outcome State Fault Refusal := .next (s.loOut (loNum lo)).settle

/-- An LO enters service; where there was no base it becomes the base, and the APLLs acquire (R112, R179). -/
def State.loIn (s : State) (lo : Nat) : State :=
  let s1 := (s.setLo lo { s.lo lo with serving := true, since48 := s.up48 }).cond (loOutSource lo) false
  if s1.base ≠ 3 then s1
  else (((s1.wrN Obj.LO_SEL lo).cond Src.LO_BOTH_OUT false).wrN Obj.APLLA_STATE 0).wrN Obj.APLLB_STATE 0

/-- LO_RETURN: an LO's flag has been high and the monitor has seen it for 1 s (R112). -/
def execLoReturn (lo : Lo) (s : State) : Host.Outcome State Fault Refusal :=
  let n := loNum lo
  let x := s.lo n
  if x.serving ∨ x.warm = false ∨ x.seen = false ∨ s.ctl.boot.step < 7 then .next s
  else .next (((s.liveTo (x.ready48 + sec48)).getD s).loIn n).settle

/-- LO_FREQ_MEASUREMENT: a measurement of an input that is not in service and has not been measured since it was last lost,
left service or lost its warm-up flag (R178): within 15 % of 10 MHz or of 100 MHz sets its bit, and the monitor sees it from
then on. In COLD the boot oscillator does not run. -/
def execLoFreqMeasurement (lo : Lo) (hz : Nat) (s : State) : Host.Outcome State Fault Refusal :=
  let n := loNum lo
  let x := s.lo n
  if x.serving || x.measured || s.mode == Mode.COLD then .next s
  else
    let ten := decide (8500000 ≤ hz ∧ hz ≤ 11500000)
    let hundred := decide (85000000 ≤ hz ∧ hz ≤ 115000000)
    let seen := ten || hundred
    let s1 := s.setLo n { x with measured := true, seen := seen, ready48 := s.live48 }
    .next (s1.when seen (·.wrN Obj.LO_FREQ (putBit (s1.rdN Obj.LO_FREQ) n hundred))).settle

/-! LO-A tuning (R116, R438). -/

/-- The state with the tuning record replaced. -/
def State.setTune (s : State) (t : Tuning) : State := { s with hd := { s.hd with tune := t } }

/-- The frame of a word: a two's-complement I32, most significant bit first (R438). -/
def tuneFrame (word : Int) : List Bool := (List.range 32).map fun i => (BitVec.ofInt 32 word).getLsbD (31 - i)

/-- A word for the tuning port: sent at once, or in the frame after the one being sent; only the latest one waits. -/
def State.tuneSend (s : State) (word : Int) : State :=
  let t := s.hd.tune
  let s1 := s.wr Obj.LOA_TUNE_WORD word
  if t.sending then s1.setTune { t with queued := some word }
  else (s1.setTune { t with sending := true }).emit (.tuning (tuneFrame word))

/-- The modes in which the tuning port is driven: BOOT, UNPROVISIONED and FACTORY are none of them (Table 5-5). -/
def State.tunePort (s : State) : Bool := decide (3 ≤ s.mode) && s.mode != Mode.FACTORY

/-- The port is driven for the first time, with LOA_TUNE_INIT (R116). -/
def State.tuneDrive (s : State) : State :=
  if s.hd.tune.driven || !s.tunePort || !s.rdB Obj.LOA_TUNE_EN then s
  else (s.setTune { s.hd.tune with driven := true }).tuneSend (s.rd Obj.LOA_TUNE_INIT)

/-- A write of LOA_TUNE_EN: the first 1 drives the port with LOA_TUNE_INIT, in a mode that drives it; the interval counts
from the enable. -/
def State.setTuneEn (s : State) (v : Bool) : State :=
  let rise := v && !s.rdB Obj.LOA_TUNE_EN
  let s1 := s.wr Obj.LOA_TUNE_EN (flag v)
  if !rise then s1
  else (s1.setTune { s.hd.tune with since48 := s.up48, rateSum := 0, rateCount := 0 }).tuneDrive

/-- LOA_TUNE_EN_WRITE (R116). -/
def execLoaTuneEnWrite (v : Bool) (s : State) : Host.Outcome State Fault Refusal :=
  s.orHeld 4 .custodian .pcie Obj.LOA_TUNE_EN [flag8 v] [] <|
    .next (s.setTuneEn v).settle

/-- The rate units of one tuning LSB (R116). -/
def State.tuneGain (s : State) : Rat := rateOf ((s.rd Obj.LOA_TUNE_GAIN : Rat) / 10 ^ 18)

/-- One tuning step (R116): computed from the mean rate word of the interval, clamped, held at a limit; its word and its
frequency are issued by the next update and take effect with it. -/
def State.tuneStep (s : State) : State :=
  let t := s.hd.tune
  let mean : Rat := if t.rateCount = 0 then (s.ctl.slew.rateWord : Rat) else (t.rateSum : Rat) / (t.rateCount : Rat)
  let m := (s.rdN Obj.LOA_TUNE_STEP_MAX : Int)
  let dw := clampAbs m (ratTrunc ((s.rdN Obj.LOA_TUNE_FRAC : Rat) / 256 * mean / s.tuneGain))
  let word := s.rd Obj.LOA_TUNE_WORD
  let lo := s.rd Obj.LOA_TUNE_MIN
  let hi := s.rd Obj.LOA_TUNE_MAX
  let beyond := decide (word + dw < lo ∨ hi < word + dw)
  let dw1 := if word + dw < lo then lo - word else if hi < word + dw then hi - word else dw
  let send := if dw1 = 0 then none else some (dw1, (dw1 : Rat) * s.tuneGain)
  (s.setTune { t with since48 := s.up48, rateSum := 0, rateCount := 0, toSend := send }).when beyond
    (·.raise Src.HD_TUNE_LIMIT)

/-- LOA_TUNE_STEP: LOA_TUNE_INTERVAL has elapsed (R116). -/
def execLoaTuneStep (s : State) : Host.Outcome State Fault Refusal :=
  if !s.rdB Obj.LOA_TUNE_EN then .next s
  else match s.runTo (s.hd.tune.since48 + s.rdN Obj.LOA_TUNE_INTERVAL * sec48) with
    | none => .next s
    | some s1 =>
      if s1.tunes s1.hd.timeSet then .next s1.tuneStep.settle
      else .next (s1.setTune { s1.hd.tune with since48 := s1.up48, rateSum := 0, rateCount := 0 }).settle

/-- LOA_TUNE_FRAME_END: a frame ends; the latest word that fell due meanwhile follows (R438). -/
def execLoaTuneFrameEnd (s : State) : Host.Outcome State Fault Refusal :=
  let t := s.hd.tune
  if !t.sending then .next s
  else match t.queued with
    | some w => .next ((s.setTune { t with queued := none }).emit (.tuning (tuneFrame w))).settle
    | none => .next (s.setTune { t with sending := false }).settle

/-- The rate word of an update takes effect: it was computed with the ramps as they were booked then, and gives up what they
have booked since (R116, R135). -/
def State.rateEffect (s : State) (rate : Option Int) : State :=
  match rate with
  | none => s
  | some v =>
    let t := s.hd.tune
    let s1 : State := { s with
      ctl := { s.ctl with slew := { s.ctl.slew with rateWord := v } },
      hd := { s.hd with tune := { t with ramps := t.ramps.map fun r => { r with rated := ratTrunc r.booked } } } }
    s1.rampRate

/-- At an effect instant: the ramps so far, the rate word counted into the interval's mean (log entry 98), and the step of the
update sent while the conditions of R116 hold, which starts a ramp of its own. A port that was enabled in a mode that does not
drive it is driven at the first effect instant in one that does (log entry 82). -/
def State.tuneEffect (s : State) (step : Option (Int × Rat)) : State :=
  let s1 := s.tuneDrive.bookRamp
  let t := s1.hd.tune
  let s2 := s1.setTune { t with rateSum := t.rateSum + s1.ctl.slew.rateWord, rateCount := t.rateCount + 1 }
  match step with
  | none => s2
  | some (dw, dy) =>
    if !s2.tunes s2.hd.timeSet then s2
    else
      let s3 := s2.tuneSend (s2.rd Obj.LOA_TUNE_WORD + dw)
      let ramp : Ramp :=
        { dy := dy, start48 := s.base48, len48 := ms48 (s.rdN Obj.LOA_TUNE_SETTLE), booked := 0, rated := 0 }
      let s4 := s3.setTune { s3.hd.tune with ramps := s3.hd.tune.ramps ++ [ramp] }
      ({ s4 with hd := { s4.hd with lastTune := some (s.up48, dy) } } : State).rampRate.bookRamp

/-! The software servo's commit (R126, R127). -/

/-- A write of SWL_TAG commits SWL_RATE where the tag is recent. -/
def State.commitTag (s : State) (tag : Nat) : State :=
  let s1 := s.wrN Obj.SWL_TAG tag
  let now := s.rdN Obj.HD_UPDATE
  if (now + 2 ^ 32 - tag) % 2 ^ 32 ≤ 63 then
    { s1 with hd := { s1.hd with swl :=
      { s1.hd.swl with rate := some (s.rd Obj.SWL_RATE), at48 := s.up48, fresh := true, tag := tag } } }
  else s1.stick Obj.HD_STATUS 2

/-- SWL_TAG (R126). -/
def execSwlTag (tag : BitVec 32) (s : State) : Host.Outcome State Fault Refusal := .next (s.commitTag tag.toNat).settle

/-- The hardware loop is to close at the next update (R127). -/
def State.loopCloses (s : State) : State :=
  s.when (s.rdN Obj.HD_LOOP_MODE == 1) fun s => { s with hd := { s.hd with swl := { s.hd.swl with closing := true } } }

/-- SWL_TIMEOUT: no correction has been accepted for SWL_TIMEOUT (R127). -/
def execSwlTimeout (s : State) : Host.Outcome State Fault Refusal :=
  if s.rdN Obj.HD_LOOP_MODE ≠ 1 ∨ s.hd.swl.closing = true then .next s
  else match s.runTo (s.hd.swl.at48 + ms48 (s.rdN Obj.SWL_TIMEOUT)) with
    | none => .next s
    | some s1 => .next s1.loopCloses.settle

/-- A write of HD_LOOP_MODE: 1 opens the loop anew, 0 closes it as R127 closes it (R126, R127). -/
def State.setLoopMode (s : State) (v : Nat) : State :=
  let old := s.rdN Obj.HD_LOOP_MODE
  let s1 := s.wrN Obj.HD_LOOP_MODE v
  if v = old then s1
  else if v = 1 then
    { s1 with hd := { s1.hd with swl := { rate := none, at48 := s.up48, fresh := false, tag := s.hd.swl.tag, closing := false } } }
  else { s1 with hd := { s1.hd with swl := { s1.hd.swl with closing := true } } }

end Sys2Proof.Machine
end

