-- ==== Sys2Proof/Machine/TrestleCommands.lean ====
section
/-! DEFINITION. The commands of Trestle (R57 to R77), with what the slots behind its channels make of them. -/

namespace Sys2Proof.Machine

/-- PAIR_TIMEOUT: no stop stamp by S + PAIR_TIMEOUT + 40 ns (R71). -/
def execPairTimeout (pair : Fin 32) (s : State) : Host.Outcome State Fault Refusal :=
  match (s.pair pair).armed with
  | none => .next s
  | some a =>
    match s.runTo (a.up48 + ((s.rdN (Obj.PAIR_TIMEOUT pair) + 40) * ns48 : Nat)).toNat with
    | none => .next s
    | some s1 => .next ((s1.pairRecord pair a.t22 (2 ^ 12 + stepFlag a.steps s1.tr.steps) (s1.pairStart pair) a.fine 0 s1.up48).count 0x042 1).settle

/-- TR_RING_FLUSH: the flush time after the first record of the open buffer (R74); a pause of ring DMA holds it back
(R379, R397). -/
def execTrRingFlush (s : State) : Host.Outcome State Fault Refusal :=
  if s.tr.buffer.isEmpty || s.dmaPaused then .next s
  else match s.runTo (s.tr.bufferSince48 + us48 (s.rdN Obj.TR_RING_FLUSH)) with
    | none => .next s
    | some s1 => .next s1.closeBuffer.settle

/-- The DLLs run: in every mode from BOOT step 10 on (R57). -/
def State.dllRuns (s : State) : Bool := s.open || (s.mode == Mode.BOOT && decide (10 ≤ s.ctl.boot.step))

/-- DLL_LOCK: the DLL is locked; a channel in DLL_ACQ passes to CAL, and so does one that a loss of lock put in FAULT, by the
row of FAULT in Table 3-2 (R57; log entry 72). A channel in its parity safe state waits for firmware (R77). -/
def execDllLock (ch : Fin 48) (s : State) : Host.Outcome State Fault Refusal :=
  let lost := s.active (Src.TR_DLL_LOSS ch)
  let x := (s.channel ch).state
  let s1 := s.cond (Src.TR_DLL_LOSS ch) false
  .next (s1.when ((x == .dllAcq || (x == .fault && lost)) && !s.unsafeElement 3 ch) (·.channelCal ch)).settle

/-- DLL_LOSS: raised whatever state the channel is in; from CAL and RUN it goes to FAULT and records nothing from this cycle
on (R57, R64, Table 3-2). -/
def execDllLoss (ch : Fin 48) (s : State) : Host.Outcome State Fault Refusal :=
  let x := (s.channel ch).state
  if !s.dllRuns then .next s
  else
    let s1 := s.cond (Src.TR_DLL_LOSS ch) true
    if x = .off ∨ x = .dllAcq then .next s1.settle
    else .next ((s1.channelFault ch).bootStep10.leftRun s).close

/-- Channel 47's first table is the copy of every channel that was calibrated while there was none (R62; log entry 73). -/
def State.firstMonitor (s : State) (counts : List Nat) : State :=
  s.forEach (l := List.range 48) (p := fun s c =>
    let x := s.channel c
    s.when (!x.hist.isEmpty && x.monitor.isEmpty) (·.setChannel c { x with monitor := counts }))

/-- CODE_DENSITY_COMPLETE: a histogram with 2^22 hits, accepted or rejected (R59, R62). A channel that is calibrated before
channel 47 has any table gets its copy with the first one (log entry 73). -/
def execCodeDensityComplete (ch : Fin 48) (counts : List Nat) (s : State) : Host.Outcome State Fault Refusal :=
  let x := s.channel ch
  if x.state ≠ .cal ∨ counts.length ≠ 1024 ∨ counts.sum ≠ 2 ^ 22 then .next s
  else if histogramGood counts then
    let monitor := if ch.val = 47 then counts else (s.channel 47).hist
    let s0 := s.channelTo ch .run
    let s1 := s0.setChannel ch { s0.channel ch with hist := counts, monitor := monitor, skip := 0, retries := 0 }
    let s2 := (s1.wrN (Obj.CH_TABGEN ch) ((s.rdN (Obj.CH_TABGEN ch) + 1) % 256)).wrN (Obj.CH_CAL_AT ch) s.now80
    .next ((if ch.val = 47 then (s2.firstMonitor counts).refreshDrifts else s2.refreshDrift ch).bootStep10).settle
  else .next ((s.calFail ch).bootStep10).settle

/-- CODE_DENSITY_TIMEOUT: 120 ms of CAL without 2^22 hits (R58). -/
def execCodeDensityTimeout (ch : Fin 48) (s : State) : Host.Outcome State Fault Refusal :=
  if (s.channel ch).state ≠ .cal then .next s
  else match s.runTo ((s.channel ch).calStart48 + ms48 120) with
    | none => .next s
    | some s1 => .next ((s1.calFail ch).bootStep10).settle

/-- CAL_FAIL_RETRY: 1 s after the failure, at most three times (R59); not while firmware restores the channel (R77). -/
def execCalFailRetry (ch : Fin 48) (s : State) : Host.Outcome State Fault Refusal :=
  let x := s.channel ch
  if x.state ≠ .fault ∨ 3 ≤ x.retries ∨ s.active (Src.TR_DLL_LOSS ch) = true ∨ x.failed48 = 0 ∨
      s.unsafeElement 3 ch = true then .next s
  else match s.runTo (x.failed48 + sec48) with
    | none => .next s
    | some s1 => .next ((s1.setChannel ch { x with retries := x.retries + 1 }).channelCal ch).settle

/-- TABLE_MONITOR_UPDATE: channel 47's next histogram (R62), accepted by R59. It is no calibration (R63): the channel's own
copy stays the one of its calibration, and CH_TABGEN advances while CH_CAL_AT stays (log entry 74). -/
def execTableMonitorUpdate (counts : List Nat) (s : State) : Host.Outcome State Fault Refusal :=
  let x := s.channel 47
  if x.state ≠ .run ∨ counts.length ≠ 1024 ∨ counts.sum ≠ 2 ^ 22 then .next s
  else if histogramGood counts then
    let s1 := (s.setChannel 47 { x with hist := counts }).wrN (Obj.CH_TABGEN 47)
      ((s.rdN (Obj.CH_TABGEN 47) + 1) % 256)
    .next s1.refreshDrifts.settle
  else .next ((s.calFail 47).leftRun s).close

/-- The effect of a 1 written to CH_RECAL (R63): in FACTORY, and from FREERUN to FAULTSAFE; a channel in RUN, in CAL
or left in FAULT by a failed calibration begins a calibration. -/
def State.recal (s : State) (c : Nat) : State :=
  let x := s.channel c
  let allowed := s.mode == Mode.FACTORY || (decide (3 ≤ s.mode) && decide (s.mode ≤ 9))
  let able := x.state == .run || x.state == .cal || (x.state == .fault && !s.active (Src.TR_DLL_LOSS c))
  s.when (allowed && able && !s.unsafeElement 3 c) fun s => (s.setChannel c { x with retries := 0 }).channelCal c

/-- CH_RECAL: a write of 1 (R63). -/
def execChRecal (ch : Fin 48) (s : State) : Host.Outcome State Fault Refusal :=
  s.orHeld 3 .custodian .pcie (Obj.CH_RECAL ch) [1] [] <|
    .next ((s.recal ch).leftRun s).close

/-- The effect of a write of CH_EN (R64, Table 3-2). -/
def State.setChEn (s : State) (c : Nat) (v : Bool) : State :=
  let s1 := s.wr (Obj.CH_EN c) (flag v)
  if v then s1.channelStart c else s1.channelOff c

/-- CH_EN_WRITE (R63, R64). -/
def execChEnWrite (ch : Fin 48) (v : Bool) (s : State) : Host.Outcome State Fault Refusal :=
  s.orHeld 3 .custodian .pcie (Obj.CH_EN ch) [flag8 v] [] <|
    .next ((s.setChEn ch v).leftRun s).close

/-- The effect of a write of TR_ENABLE (R63). -/
def State.setTrEnable (s : State) (v : Bool) : State :=
  let s1 := s.wr Obj.TR_ENABLE (flag v)
  s1.forEach (l := List.range 48) (p := if v then State.channelStart else State.channelOff)

/-- TR_ENABLE_WRITE (R63). -/
def execTrEnableWrite (v : Bool) (s : State) : Host.Outcome State Fault Refusal :=
  s.orHeld 3 .custodian .pcie Obj.TR_ENABLE [flag8 v] [] <|
    .next ((s.setTrEnable v).leftRun s).close

end Sys2Proof.Machine
end

