-- ==== Sys2Proof/Machine/HostLink.lean ====
section
/-! DEFINITION. The host link, the descriptor rings and their interrupts, Viaduct, SRAM, DRAM and the control cores (R377 to
R402). -/

namespace Sys2Proof.Machine

/-- The rings of Table 16-3: 25 to 31 do not exist (R381). -/
def ringExists (k : Nat) : Bool := decide (k < 25) || decide (32 ≤ k ∧ k < 64)

/-- The host-to-engine rings (Table 16-3). -/
def h2eRing (k : Nat) : Bool := k == 0 || decide (11 ≤ k ∧ k ≤ 18)

/-! Posting (R383). -/

/-- A descriptor that the host has not posted. -/
def Posted.unowned : Posted :=
  { addr := 0, cookie := 0, aux := 0, length := 0, own := false, interrupt := false, fence := false, ordered := false }

/-- Trestle's part of ring 20's end: the open buffer completes, the waiting records find the ring OFF. -/
def State.recordsOff (s : State) : State :=
  let s1 := s.closeBuffer.dropRecords s.tr.store
  { s1 with tr := { s1.tr with store := [] } }

/-- What waits for descriptors goes on: Trestle's records (R75), and the taking of commands and frames (R383). -/
def State.ringsGoOn (s : State) (k : Nat) : State :=
  if k = 20 ∧ s.rdN (Obj.RING_STATE 20) = 1 then
    if s.rdB (Obj.RING_EN 20) && !(s.ring 20).restart then State.pump (2 * (s.tr.store.length + 2)) s
    else if s.dmaPaused then s else s.recordsOff.ringDrained 20
  else if h2eRing k then s.ahead k else s

/-- What a pause of ring DMA has held up on a ring is written: the write-backs in their order, the trailer, and then the interrupt
where HOLDOFF has elapsed (R379, R385, R386, R397). -/
def State.ringResumes (s : State) (k : Nat) : State :=
  let x := s.ring k
  let s1 := (s.setRing k { x with finished := [] }).forEach (l := x.finished) (p := fun s f => s.finishNow k f)
  let s2 := s1.when (s1.ring k).trailerDue (·.trailer k)
  s2.when ((s2.ring k).irqWaiting && s2.holdoffOver k) (·.signal k)

/-- The same for every ring that a pause or a restoration has held up. -/
def State.allRingsGoOn (s : State) : State :=
  (s.when (!s.dmaPaused) fun s => s.forEach (l := List.range 64) (p := State.ringResumes)).forEach
    (l := [20, 0, 11, 12, 13, 14, 15, 16, 17, 18]) (p := State.ringsGoOn)

/-- A write of RING_DB: the count of descriptors posted, clamped at 2^RING_LOG2 beyond DONE. `descs` are the descriptors
as the engine reads them from HEAD on; one that it does not find has OWN = 0. -/
def State.doorbell (s : State) (k count : Nat) (descs : List Posted) : State :=
  if !ringExists k || s.rdN (Obj.RING_STATE k) != 1 || !s.rdB (Obj.RING_EN k) then s
  else
    let size := 2 ^ s.rdN (Obj.RING_LOG2 k)
    let done := s.rdN (Obj.RING_DONE k)
    let ahead := (count + 2 ^ 32 - done) % 2 ^ 32
    let taken := (s.rdN (Obj.RING_HEAD k) + 2 ^ 32 - done) % 2 ^ 32
    let n := min ahead size - taken
    let seen := descs.take n
    let posted := if seen.length < n then seen ++ [Posted.unowned] else seen
    let s1 := s.setRing k { s.ring k with posted := posted, doorbell := (done + min ahead size) % 2 ^ 32 }
    (s1.when (decide (size < ahead)) (·.stick Obj.HL_STATUS 5)).ringsGoOn k

/-- RING_DB (R383). -/
def execRingDb (ring : Fin 64) (count : BitVec 32) (descs : List Posted) (s : State) : Host.Outcome State Fault Refusal :=
  s.orHeld 19 .custodian .pcie (Obj.RING_DB ring) (leBytes 4 count.toNat) descs <|
    .next (s.doorbell ring count.toNat descs).settle

/-- RING_OWN_GAP: the engine reads the descriptor at its count with OWN = 0 and stops there (R383). -/
def execRingOwnGap (ring : Fin 64) (s : State) : Host.Outcome State Fault Refusal :=
  match (s.ring ring).posted with
  | [] => .next s
  | d :: _ => if d.own || !s.takes ring then .next s else .next (s.ownGap ring).settle

/-! Enabling and disabling (R387). -/

/-- The descriptors taken and not started are written back FLUSHED. -/
def State.flushTaken (s : State) (k : Nat) : State :=
  s.forEach (l := (s.ring k).taken) (p := fun s t => s.when (!t.started) (·.finishUnsent k t.count 4))

/-- A ring is disabled: it takes nothing more, flushes what has not started, and is OFF once what has started is written
back. -/
def State.ringOff (s : State) (k : Nat) : State :=
  let s1 := (s.wrN (Obj.RING_EN k) 0).setRing k { s.ring k with posted := [], restart := false }
  let s2 := (s1.when (k == 20 && !(s.dmaPaused && !s.tr.buffer.isEmpty)) State.recordsOff).when (h2eRing k) (·.flushTaken k)
  s2.when ((s2.ring k).taken.isEmpty && s2.rdN (Obj.RING_STATE k) != 0) (·.ringDrained k)

/-- A write of RING_EN. An enable that finds descriptors still to complete takes effect after them (log entry 107). -/
def State.setRingEn (s : State) (k : Nat) (v : Bool) : State :=
  if !ringExists k || v == s.rdB (Obj.RING_EN k) then s
  else if !v then s.ringOff k
  else if s.rdN (Obj.RING_BASE k) % 4096 ≠ 0 then s.rangeReject 19 (Obj.RING_EN k).key
  else if (s.ring k).taken.isEmpty then s.ringOn k
  else (s.wrN (Obj.RING_EN k) 1).setRing k { s.ring k with restart := true }

/-- RING_EN_WRITE (R387). -/
def execRingEnWrite (ring : Fin 64) (v : Bool) (s : State) : Host.Outcome State Fault Refusal :=
  s.orHeld 19 .custodian .pcie (Obj.RING_EN ring) [flag8 v] [] <|
    .next (s.setRingEn ring v).settle

/-- RING_DMA_ERROR: a descriptor fetch fails, and the ring is in ERROR until it is disabled and enabled (R387). -/
def execRingDmaError (ring : Fin 64) (s : State) : Host.Outcome State Fault Refusal :=
  if !s.takes ring then .next s
  else .next (((s.wrN (Obj.RING_STATE ring) 2).stick Obj.HL_STATUS 3).raise Src.HL_DMA_ERROR).settle

/-- The status with which a taken command or frame is written back before anything is executed or sent (Table 16-6). -/
def State.earlyStatus (s : State) (k : Nat) (d : Posted) (dmaError : Bool) : Option Nat :=
  if k = 0 then
    if d.length = 0 then some 2 else if 4140 < d.length then some 1 else if dmaError then some 5 else none
  else s.slowStatus (k - 11) d (if dmaError then none else some [])

/-- RING_DESCRIPTOR_WRITEBACK: the descriptor that may start next on a host-to-engine ring is written back at once, where
its length is invalid, its buffer could not be read or its port is down; any other is written back by the command or frame
that it carries (R384, R389). -/
def execRingDescriptorWriteback (ring : Fin 64) (dmaError : Bool) (s : State) : Host.Outcome State Fault Refusal :=
  if !h2eRing ring then .next s
  else
    let s0 := s.ahead ring
    match s0.nextTaken ring with
    | none => .next s0.settle
    | some t => match s0.earlyStatus ring t.desc dmaError with
      | none => .next s0.settle
      | some status =>
        .next ((s0.takeStart ring t).finishUnsent ring t.count status).settle

/-- IRQ_HOLDOFF_EXPIRY: HOLDOFF has elapsed, and the message held back is sent (R386). -/
def execIrqHoldoffExpiry (ring : Fin 64) (s : State) : Host.Outcome State Fault Refusal :=
  let x := s.ring ring
  if !x.irqWaiting || s.dmaPaused then .next s
  else match s.runTo (x.lastIrq48.getD 0 + us48 (bitsAt (s.rdN (Obj.RING_IRQ ring)) 16 16)) with
    | none => .next s
    | some s1 => .next (s1.signal ring).settle

/-! The link (R379). -/

/-- Every ring is disabled, and what was taken is abandoned without write-back. -/
def State.ringsLost (s : State) : State :=
  let s1 := s.forEach (l := List.range 64) (p := fun s k =>
    ((s.wrN (Obj.RING_EN k) 0).wrN (Obj.RING_STATE k) 0).setRing k { Ring.reset with lastIrq48 := (s.ring k).lastIrq48 })
  let s2 := s1.dropRecords (s.tr.buffer ++ s.tr.store)
  { s2 with tr := { s2.tr with buffer := [], store := [] } }

/-- An FLR or PERST# resets the configuration space and the MSI-X table; the subsystem IDs are the image's. -/
def State.configReset (s : State) : State :=
  let pci := { PciConfig.reset with subsystem := s.book.pci.subsystem, d3hot := s.book.pci.d3hot }
  let s1 : State := { s with book := { s.book with msix := [], msixPending := 0, pci := pci } }
  s1.wrN Obj.HL_LINK (clearBit (s.rdN Obj.HL_LINK) 9)

/-- The function enters or leaves D3hot (R379). -/
def State.setD3hot (s : State) (v : Bool) : State :=
  { s with book := { s.book with pci := { s.book.pci with d3hot := v } } }

/-- HOST_LINK_LOSS (R379): the rings, the status and the source; the software servo's loop closes (R127), and what was
staged over the link is gone (R312). -/
def execHostLinkLoss (cause : LinkLossCause) (s : State) : Host.Outcome State Fault Refusal :=
  let s1 := (s.when (cause == .flr || cause == .perst) State.configReset).setD3hot (cause == .d3hot)
  if !bitOn (s.rdN Obj.HL_LINK) 8 then .next s1.settle
  else
    let w := s1.rdN Obj.HL_LINK
    let s2 := s1.wrN Obj.HL_LINK (clearBit (if cause = .dlDown ∨ cause = .perst then w / 256 * 256 else w) 8)
    .next ((((s2.ringsLost.stick Obj.HL_STATUS 2).cond Src.HL_LINK_LOST true).loopCloses).endSession .pcie).settle

/-- HOST_LINK_UP: the link trains at a generation and width; every ring stays disabled (R379). -/
def execHostLinkUp (gen : Fin 4) (lanes : Fin 3) (s : State) : Host.Outcome State Fault Refusal :=
  let bme := if bitOn (s.rdN Obj.HL_LINK) 9 then 2 ^ 9 else 0
  .next (((s.setD3hot false).wrN Obj.HL_LINK (gen.val + 1 + 16 * 2 ^ lanes.val + 2 ^ 8 + bme)).cond Src.HL_LINK_LOST false).settle

/-- BUS_MASTER_ENABLE_CHANGE: ring DMA pauses or goes on (R379). -/
def execBusMasterEnableChange (on : Bool) (s : State) : Host.Outcome State Fault Refusal :=
  let s1 := s.wrN Obj.HL_LINK (putBit (s.rdN Obj.HL_LINK) 9 on)
  .next s1.allRingsGoOn.settle

/-! Viaduct and the memories (R397 to R399, R402). -/

/-- A write of VD_DATA_EN: data-class requests are admitted or not (R397). -/
def State.setDataEn (s : State) (v : Bool) : State := (s.wr Obj.VD_DATA_EN (flag v)).admitJobs.allRingsGoOn

/-- VD_DATA_EN_WRITE (R397). -/
def execVdDataEnWrite (v : Bool) (s : State) : Host.Outcome State Fault Refusal :=
  s.orHeld 18 .custodian .pcie Obj.VD_DATA_EN [flag8 v] [] <|
    .next (s.setDataEn v).settle

/-- TEMP_BYPASS_REVOKE: above 110 °C every bypassed pier is put back in (R397). -/
def execTempBypassRevoke (s : State) : Host.Outcome State Fault Refusal :=
  .next ((s.wrN Obj.VD_STATUS (setBit (s.rdN Obj.VD_STATUS) 8)).cond Src.VD_BYPASS_REVOKED true).settle

/-- TEMP_BYPASS_RESTORE: below 100 °C the piers are bypassed again (R397). -/
def execTempBypassRestore (s : State) : Host.Outcome State Fault Refusal :=
  .next ((s.wrN Obj.VD_STATUS (clearBit (s.rdN Obj.VD_STATUS) 8)).cond Src.VD_BYPASS_REVOKED false).settle

/-- What an uncorrectable error in SRAM destroys and raises (R398, Table 16-13). -/
def State.sramLost (s : State) : SramRegion → State
  | .foldClean record =>
    let line := (SMap.get [] s.tpe.cache (record % 16384)).filter (· != record)
    { s with tpe := { s.tpe with cache := SMap.put [] s.tpe.cache (record % 16384) line } }
  | .foldDirty => s.raise Src.SRAM_UE_FOLD
  | .calendar => s.raise Src.SRAM_UE_CAL
  | .ingress passage =>
    let s1 : State := { s with tpe := { s.tpe with waiting := s.tpe.waiting.filter fun w => w.id != passage } }
    (s1.watched s).raise Src.SRAM_UE_PKT
  | .egress port count =>
    let s1 := s.forEach (l := List.range 8) (p := fun s q =>
      s.setQueue port q ((s.queue port q).filter fun f => f.count != count))
    (s1.finishUnsent (11 + port) count 0).raise Src.SRAM_UE_PKT
  | .core => s.raise Src.SRAM_UE_CORE
  | .journal jseq =>
    ({ s with bw := { s.bw with journal := s.bw.journal.filter fun e => e.1 != jseq } } : State).raise Src.SRAM_UE_SHARED
  | .recordStore =>
    match s.tr.store with
    | [] => s.raise Src.SRAM_UE_SHARED
    | r :: rest => (({ s with tr := { s.tr with store := rest } } : State).markLost r true).raise Src.SRAM_UE_SHARED
  | .shared => s.raise Src.SRAM_UE_SHARED

/-- SRAM_ECC_ERROR: corrected, flagged and counted; or raised for its region (R398). -/
def execSramEccError (region : SramRegion) (correctable : Bool) (s : State) : Host.Outcome State Fault Refusal :=
  if correctable then
    .next ((((s.stick Obj.VD_STATUS 3).count 0x1FD 1).bump Obj.SRAM_CE_CNT).raise Src.SRAM_CE).settle
  else .next (s.sramLost region).settle

/-- DRAM_ECC_ERROR: an uncorrectable error stops packet service at once (R399, Table 1-6). -/
def execDramEccError (correctable : Bool) (s : State) : Host.Outcome State Fault Refusal :=
  if correctable then .next (((s.stick Obj.VD_STATUS 4).count 0x1FC 1).raise Src.DRAM_CE).settle
  else .next (({ s with tpe := { s.tpe with dramLost := true } } : State).raise Src.DRAM_UE).settle

/-- CORE_WDOG: the core's watchdog expires; it is halted (Table 16-13; log entry 37). -/
def execCoreWdog (core : Fin 4) (s : State) : Host.Outcome State Fault Refusal :=
  .next ((s.wrN (Obj.CORE_STATE core) 2).raise (Src.CORE_WDOG core)).settle

end Sys2Proof.Machine
end

