-- ==== Sys2Proof/Machine/Gnss.lean ====
section
/-! DEFINITION. The GNSS baseband: streams, detections, tracking channels, epochs, solutions and pulses (R203 to R226).
Receiver A is 0 and B is 1; the bands are 0 FE-A upper, 1 FE-A lower, 2 FE-B upper, 3 FE-B lower. -/

namespace Sys2Proof.Machine

/-- A receiver. -/
def State.rx (s : State) (r : Nat) : Receiver := if r = 0 then s.gn.rxA else s.gn.rxB

/-- The state with a receiver replaced. -/
def State.setRx (s : State) (r : Nat) (x : Receiver) : State :=
  if r = 0 then { s with gn := { s.gn with rxA := x } } else { s with gn := { s.gn with rxB := x } }

/-- What channel `c` holds beyond its objects. -/
def State.tracker (s : State) (c : Nat) : Tracker := SMap.get Tracker.reset s.gn.trackers c

/-- The state with channel `c` replaced. -/
def State.setTracker (s : State) (c : Nat) (x : Tracker) : State :=
  { s with gn := { s.gn with trackers := SMap.put Tracker.reset s.gn.trackers c x } }

/-- TRK_STATE: 0 IDLE, 1 PULL_IN, 2 TRACK, 3 COAST (Table 9-3). -/
def State.trkState (s : State) (c : Nat) : Nat := s.rdN (Obj.TRK_STATE c)

/-- The receiver that channel `c` is assigned to: its PORT. -/
def State.trkRx (s : State) (c : Nat) : Nat := bitsAt (s.rdN (Obj.TRK_ASSIGN c)) 1 1

/-- The band of channel `c`. -/
def State.trkBand (s : State) (c : Nat) : Nat := 2 * s.trkRx c + bitsAt (s.rdN (Obj.TRK_ASSIGN c)) 0 1

/-- FE_STATE: 0 OFF, 1 WAIT, 2 RUN, 3 LOST. -/
def State.feState (s : State) (b : Nat) : Nat := s.rdN (Obj.FE_STATE b)

/-- The carrier of a signal in Hz; for GLONASS by the frequency slot (Table 9-2). -/
def carrierHz (g sv : Nat) : Int :=
  match g with
  | 3 => 1561098000
  | 5 => 1602000000 + 562500 * ((sv : Int) - 8)
  | 6 | 7 | 8 => 1176450000
  | _ => 1575420000

/-- A signal's primary code: its chips and its period in ms (Table 9-2). -/
def signalCode (g : Nat) : Nat × Nat :=
  match g with
  | 0 | 1 => (1023, 1) | 2 => (4092, 4) | 3 => (2046, 1) | 4 => (10230, 10) | 5 => (511, 1) | _ => (10230, 1)

/-- The chips of a signal's primary code in one second. -/
def chipRate (g : Nat) : Nat := (signalCode g).1 * 1000 / (signalCode g).2

/-- A place in the primary code and the whole periods before it. -/
def wrapCode (g : Nat) (chips : Rat) : Rat × Nat :=
  let len : Rat := (signalCode g).1
  let n := (chips / len).floor
  (chips - n * len, n.toNat)

/-- The oscillators propagated to an instant on their Doppler (R211; log entry 100). -/
def Oscillators.propagate (x : Oscillators) (g sv to48 : Nat) : Oscillators :=
  let sec : Rat := (to48 - x.at48 : Nat) / (sec48 : Rat)
  let hz : Rat := (x.doppler : Rat) / 1000
  let code := wrapCode g (x.code + (chipRate g : Rat) * (1 + hz / carrierHz g sv) * sec)
  { x with code := code.1, periods := x.periods + code.2, carrier := x.carrier + hz * sec, at48 := to48 }

/-- The code phase and Doppler of one signal scaled to another of the same satellite (R209; log entry 100). -/
def Oscillators.scaled (x : Oscillators) (g g' sv : Nat) : Oscillators :=
  { x with code := (wrapCode g' (x.code * chipRate g' / chipRate g)).1, periods := 0, carrier := 0, mpDisc := 0,
           doppler := ((x.doppler : Rat) * carrierHz g' sv / carrierHz g sv).floor }

/-- FE_CLK as it leaves the block: low before BOOT step 7 and while APLL-A is not locked, otherwise its divider word (R206). -/
def State.feClk (s : State) : Option Int := if s.apllA then s.gn.fe.map (·.word) else none

/-- One part of a sample as FORMAT reads it from D[3:0]: 4-bit two's complement, or 2-bit sign and magnitude (R204). -/
def fePart (signMagnitude : Bool) (d : BitVec 4) : Int :=
  if signMagnitude then (if d.getLsbD 1 then -1 else 1) * (if d.getLsbD 0 then 1 else 0) else d.toInt

/-- The complex sample of band `b` from what its data lines carry at the two captures: INVERT negates Q (R204). -/
def State.feSample (s : State) (b : Nat) (i q : BitVec 4) : Int × Int :=
  let cfg := s.rdN (Obj.FE_CFG b)
  let part := fePart (bitOn cfg 0)
  (part i, if bitOn cfg 2 then -part q else part q)

/-- When band `b` captures a part, after its edge of FE_CLK, in ps (R204). -/
def State.captureDelay (s : State) (b : Nat) : Nat := 100 * bitsAt (s.rdN (Obj.FE_CFG b)) 3 6

/-- The correlators of a channel, in 0.001 chip from prompt: early, prompt, late, and the two of the multipath
discriminator (R210). -/
def State.correlators (s : State) : List Rat :=
  let el : Rat := (s.rdN Obj.TRK_EL_SPACING : Rat) / 2
  let mp : Rat := s.rdN Obj.TRK_MP_SPACING
  [-el, 0, el, -mp, mp]

/-- Receiver `r` is enabled in an enabled block. -/
def State.rxOn (s : State) (r : Nat) : Bool := s.rdB Obj.GN_ENABLE && s.rdB (Obj.RX_EN r)

/-- The receiver's configuration, or that of its bands, is being restored (R226): elements 0–3 are bands, 4 and 5
receivers. -/
def State.rxUnsafe (s : State) (r : Nat) : Bool :=
  s.unsafeElement 7 (2 * r) || s.unsafeElement 7 (2 * r + 1) || s.unsafeElement 7 (4 + r)

/-- The configuration of band `b` or of its receiver is being restored: its channels coast (R226). -/
def State.bandUnsafe (s : State) (b : Nat) : Bool := s.unsafeElement 7 b || s.unsafeElement 7 (4 + b / 2)

/-- The channels of receiver `r` that are not IDLE. -/
def State.rxChannels (s : State) (r : Nat) : List Nat :=
  (List.range 192).filter fun c => s.trkState c != 0 && s.trkRx c == r

/-- RX_STATE while the receiver has no time solution: TRACKING with a channel in TRACK, otherwise ACQUIRING (R218). -/
def State.rxTracking (s : State) (r : Nat) : State :=
  if !s.rxOn r || decide (3 ≤ s.rdN (Obj.RX_STATE r)) then s
  else s.wrN (Obj.RX_STATE r) (if (s.rxChannels r).any fun c => s.trkState c == 2 then 2 else 1)

/-- Channel `c` takes a state (Table 9-3). -/
def State.trkTo (s : State) (c st : Nat) : State :=
  let x := s.tracker c
  let r := s.trkRx c
  let s1 := if st = 0 then ((s.setTracker c Tracker.reset).wrN (Obj.TRK_ASSIGN c) 0).wrN (Obj.TRK_CN0 c) 0
    else s.setTracker c { x with since48 := s.up48, trackSince48 := if st = 2 then s.up48 else x.trackSince48,
                                 slipDue := x.slipDue || st == 3 }
  (s1.wrN (Obj.TRK_STATE c) st).rxTracking r

/-! Streams (R207, R222). -/

/-- Band `b` may be searched from now on. -/
def State.bandSearch (s : State) (b : Nat) : State :=
  { s with gn := { s.gn with streams := SMap.put 0 s.gn.streams b s.up48 } }

/-- The channels of a band that pull in or track go to COAST (R222). -/
def State.bandCoast (s : State) (b : Nat) : State :=
  s.forEach (l := List.range 192) (p := fun s c =>
    s.when ((s.trkState c == 1 || s.trkState c == 2) && s.trkBand c == b) (·.trkTo c 3))

/-- FE_STREAM_LOSS: the stream of a running band is lost (R207). -/
def execFeStreamLoss (band : Fin 4) (s : State) : Host.Outcome State Fault Refusal :=
  if s.feState band ≠ 2 then .next s
  else .next (((s.wrN (Obj.FE_STATE band) 3).stick Obj.GN_STATUS 3).cond (Src.GN_STREAM_LOSS band) true
    |>.bandCoast band).settle

/-- FE_STREAM_RETURN: no loss condition has held for 10 ms (R207). -/
def execFeStreamReturn (band : Fin 4) (s : State) : Host.Outcome State Fault Refusal :=
  if s.feState band = 0 ∨ s.feState band = 2 ∨ s.apllA = false then .next s
  else
    .next (((s.bandSearch band).wrN (Obj.FE_STATE band) 2).cond (Src.GN_STREAM_LOSS band) false).settle

/-- A write of FE_EN: 0 turns the band OFF, 1 lets it wait for its stream. -/
def State.setFeEn (s : State) (b : Nat) (v : Bool) : State :=
  let s1 := s.wr (Obj.FE_EN b) (flag v)
  if v == s.rdB (Obj.FE_EN b) then s1
  else if v then s1.wrN (Obj.FE_STATE b) 1
  else ((s1.wrN (Obj.FE_STATE b) 0).cond (Src.GN_STREAM_LOSS b) false).bandCoast b

/-! Acquisition (R205, R208). -/

/-- The band of a signal: 0 upper, 1 lower (Table 9-2). -/
def signalBand (g : Nat) : Nat := if g < 6 then 0 else 1

/-- The intermediate frequency lies within ±55 MHz (R205). -/
def State.ifGood (s : State) (b g sv : Nat) : Bool :=
  let den : Int := s.rdN (Obj.FE_LO_DEN b)
  decide ((carrierHz g sv * den - 122880000 * s.rdN (Obj.FE_LO_NUM b)).natAbs ≤ (55000000 * den).toNat)

/-- Receiver `r` may search or be handed the signal: enabled, its band used and its stream in RUN. -/
def State.maySearch (s : State) (r g sv : Nat) : Bool :=
  let band := signalBand g
  let b := 2 * r + band
  s.rxOn r && s.feState b == 2 && bitOn (s.rdN (Obj.RX_BANDS r)) band && s.ifGood b g sv && !s.bandUnsafe b

/-- The free channel that a detection of receiver `r` is handed to: the lowest one, within the quota (R208, R210; log
entry 19). -/
def State.freeChannel (s : State) (r : Nat) : Option Nat :=
  if (s.rxChannels r).length < s.rdN (Obj.RX_CH_QUOTA r) then (List.range 192).find? fun c => s.trkState c == 0
  else none

/-- A detection is handed to a channel with its cell's code phase and Doppler: PULL_IN. -/
def State.assign (s : State) (c r g sv : Nat) (x : Oscillators) : State :=
  ((s.wrN (Obj.TRK_ASSIGN c) (sv % 256 * 256 + g * 16 + r * 2 + signalBand g)).setTracker c
    { s.tracker c with osc := x.propagate g sv s.up48 }).trkTo c 1

/-- Detections that wait are handed over, the oldest first, while their receivers have a free channel. -/
def State.assignWaiting (s : State) : State :=
  s.forEach (l := s.gn.waiting) (p := fun s d =>
    match s.freeChannel d.rx with
    | some c => ({ s with gn := { s.gn with waiting := s.gn.waiting.erase d } } : State).assign c d.rx d.signal d.sv d.osc
    | none => s)

/-- Channel `c` goes to IDLE, and a waiting detection takes it. -/
def State.trkIdle (s : State) (c : Nat) : State := (s.trkTo c 0).assignWaiting

/-- The almanac's age in seconds: RX_ALM_AGE (Table 9-6). -/
def State.almAge (s : State) (r : Nat) : Nat :=
  match (s.rx r).almanac with
  | some (age, at48) => min 0xFFFFFFFF (age + (s.up48 - at48) / sec48)
  | none => 0xFFFFFFFF

/-- The almanac's age exceeds RX_ALM_MAXAGE. -/
def State.almStale (s : State) (r : Nat) : Bool := decide (s.rdN (Obj.RX_ALM_MAXAGE r) * 86400 < s.almAge r)

/-- A signal's satellite system by its bit in RX_CONST_EN: GPS, Galileo, BeiDou, GLONASS, SBAS (Tables 9-2, 9-6). -/
def signalSystem (g : Nat) : Nat :=
  match g with
  | 1 => 4 | 2 | 7 => 1 | 3 | 4 | 8 => 2 | 5 => 3 | _ => 0

/-- T_coh in ms: ACQ_COH_MS in whole primary code periods (R208). -/
def State.cohMs (s : State) (g : Nat) : Nat := ceilDiv (s.rdN Obj.ACQ_COH_MS) (signalCode g).2 * (signalCode g).2

/-- A search of receiver `r` is aided (R209). -/
def State.aided (s : State) (r : Nat) : Bool := !s.almStale r && s.rdB (Obj.RX_POS_VALID r) && s.rdB Obj.TS_VALID

/-- k·σ_y as a fractional frequency: of the base filter, or F while a model governs (R209). -/
def State.freqSpread (s : State) : Rat :=
  let units := match s.teb.model with
    | some m => if (s.tebValue s.up48).2 then s.teb.freqTerm m else s.teb.k * boundOfPhase (sqrtUp s.hd.varY * phasePerRate)
    | none => s.teb.k * boundOfPhase (sqrtUp s.hd.varY * phasePerRate)
  units / 256000000000

/-- W, the Doppler window's half-width in Hz (R209). -/
def State.dopplerWindow (s : State) (r g sv : Nat) : Rat :=
  if s.aided r then (s.rdN Obj.ACQ_AID_FMARGIN : Rat) + (carrierHz g sv : Rat) * s.freqSpread else s.rdN Obj.ACQ_COLD_WIN

/-- H, the half-chip hypotheses of the code window: the full code, or on either side of the prediction what ACQ_AID_RMARGIN and the
bound reach (R208, R209). -/
def State.hypotheses (s : State) (r g : Nat) : Nat :=
  let code := signalCode g
  let full := 2 * code.1
  if s.aided r && decide (s.bound < 256000000) then
    let ns : Rat := (s.rdN Obj.ACQ_AID_RMARGIN : Rat) * 1000000000 / 299792458 + (s.bound : Rat) / 256
    min full (4 * (ns * (code.1 : Rat) / ((code.2 : Rat) * 1000000))).ceil.toNat
  else full

/-- The cell that an aided search of a signal is centred on: its Doppler in mHz and its place in the code in 2^-32 chip, predicted
from the almanac, the position and the timescale (R209). -/
def State.predictedCell (s : State) (r g sv : Nat) : Int × Nat :=
  Config.predictedCell (s.blob (List.replicate 16384 0) (Obj.RX_ALMANAC r)) (s.blob (List.replicate 24 0) (Obj.RX_POS r)) s.now80 g sv

/-- The cell lies in the search's windows: bins on either side of the predicted Doppler, or of zero in a cold search, and the code
window about the predicted code phase (R208, R209). -/
def State.inWindow (s : State) (r g sv : Nat) (doppler : Int) (code : Nat) : Bool :=
  let p := s.predictedCell r g sv
  let bin : Rat := 1000 / (2 * s.cohMs g : Nat)
  let half := (s.dopplerWindow r g sv / bin).ceil * bin * 1000
  let centre : Int := if s.aided r then p.1 else 0
  let len := (signalCode g).1 * 2 ^ 32
  let away := (code + len - p.2 % len) % len
  decide (((doppler - centre).natAbs : Rat) ≤ half) &&
    (s.hypotheses r g == 2 * (signalCode g).1 || decide (4 * min away (len - away) ≤ s.hypotheses r g * 2 ^ 32))

/-- T, how long a search takes, in ms (R208). -/
def State.searchMs (s : State) (r g sv : Nat) : Nat :=
  let bins := 2 * (s.dopplerWindow r g sv * (2 * s.cohMs g : Nat) / 1000).ceil.toNat + 1
  bins * ceilDiv (s.hypotheses r g) 4096 * s.cohMs g * s.rdN Obj.ACQ_NONCOH

/-- The instant at which the search engine that has been free longest ends such a search, begun as soon as it was free and the
band could be searched (R208). -/
def State.searchEnd (s : State) (r g sv : Nat) : Nat :=
  let free := s.gn.engines.foldl min (s.gn.engines.headD 0)
  max free (SMap.get 0 s.gn.streams (2 * r + signalBand g)) + ms48 (s.searchMs r g sv)

/-- That engine is free again. -/
def State.engineDone (s : State) : State :=
  let free := s.gn.engines.foldl min (s.gn.engines.headD 0)
  { s with gn := { s.gn with engines := s.gn.engines.erase free ++ [s.up48] } }

/-- What another channel of the receiver that tracks the satellite on the other band hands over without a search: its code phase
and Doppler, scaled (R209). -/
def State.handover (s : State) (r g sv : Nat) : Option Oscillators :=
  let other := (s.rxChannels r).find? fun c =>
    let a := s.rdN (Obj.TRK_ASSIGN c)
    s.trkState c == 2 && bitsAt a 8 8 == sv && signalSystem (bitsAt a 4 4) == signalSystem g && bitsAt a 0 1 != signalBand g
  other.map fun c =>
    let g' := bitsAt (s.rdN (Obj.TRK_ASSIGN c)) 4 4
    ((s.tracker c).osc.propagate g' sv s.up48).scaled g' g sv

/-- A detection is handed to a free channel, or waits for one (R208). -/
def State.detected (s : State) (r g sv : Nat) (x : Oscillators) : State :=
  match s.freeChannel r with
  | some c => s.assign c r g sv x
  | none => { s with gn := { s.gn with waiting := s.gn.waiting ++ [{ rx := r, signal := g, sv := sv, at48 := s.up48, osc := x }] } }

/-- A search's strongest cell is a detection: above ACQ_THRESH, in the windows, and confirmed by the second dwell (R208). -/
def State.detects (s : State) (r g sv : Nat) (x : SearchEnd) : Bool :=
  x.confirmed && decide (s.rdN Obj.ACQ_THRESH < x.power) && s.inWindow r g sv x.doppler x.code

/-- The oscillators of a cell found now. -/
def State.cellFound (s : State) (g : Nat) (x : SearchEnd) : Oscillators :=
  { code := (wrapCode g (x.code / 2 ^ 32)).1, periods := 0, carrier := 0, doppler := x.doppler, mpDisc := 0, at48 := s.up48 }

/-- ACQ_SEARCH_COMPLETE: a search of receiver `rx` ends; a strongest cell above
ACQ_THRESH that the second dwell confirms is a detection (R208). A signal handed over from the other band needs no search
(R209). -/
def execAcqSearchComplete (rx : Fin 2) (signal : Fin 9) (sv : BitVec 8) (found : SearchEnd) (s : State) :
    Host.Outcome State Fault Refusal :=
  if !s.maySearch rx signal sv.toNat then .next s
  else match s.handover rx signal sv.toNat with
    | some x => .next (s.detected rx signal sv.toNat x).settle
    | none => match s.runTo (s.searchEnd rx signal sv.toNat) with
      | none => .next s
      | some s1 => .next (s1.engineDone.when (s1.detects rx signal sv.toNat found)
          fun s => s.detected rx signal sv.toNat (s.cellFound signal found)).settle

/-- ACQ_DETECTION_EXPIRE: the oldest waiting detection has found no channel within 1 s (R208). -/
def execAcqDetectionExpire (s : State) : Host.Outcome State Fault Refusal :=
  match s.gn.waiting with
  | [] => .next s
  | d :: rest => match s.runTo (d.at48 + sec48) with
    | none => .next s
    | some s1 => .next ({ s1 with gn := { s1.gn with waiting := rest } } : State).settle

/-! Tracking (Table 9-3). -/

/-- TRK_PULL_IN_SUCCESS: the conditions have held for 500 ms. -/
def execTrkPullInSuccess (ch : Fin 192) (s : State) : Host.Outcome State Fault Refusal :=
  if s.trkState ch ≠ 1 then .next s
  else match s.runTo ((s.tracker ch).since48 + ms48 500) with
    | none => .next s
    | some s1 => .next (s1.trkTo ch 2).settle

/-- TRK_PULL_IN_TIMEOUT: 2 s in PULL_IN without success. -/
def execTrkPullInTimeout (ch : Fin 192) (s : State) : Host.Outcome State Fault Refusal :=
  if s.trkState ch ≠ 1 then .next s
  else match s.runTo ((s.tracker ch).since48 + 2 * sec48) with
    | none => .next s
    | some s1 => .next (s1.trkIdle ch).settle

/-- TRK_SIGNAL_LOSS: C/N0 low for 1 s, or phase lock lost. -/
def execTrkSignalLoss (ch : Fin 192) (s : State) : Host.Outcome State Fault Refusal :=
  if s.trkState ch = 2 then .next (s.trkTo ch 3).settle else .next s

/-- TRK_COAST_RECOVER: the cause has cleared within 2 s of the entry to COAST. -/
def execTrkCoastRecover (ch : Fin 192) (s : State) : Host.Outcome State Fault Refusal :=
  if s.trkState ch = 3 ∧ s.up48 ≤ (s.tracker ch).since48 + 2 * sec48 ∧ s.feState (s.trkBand ch) = 2 ∧
      s.bandUnsafe (s.trkBand ch) = false then .next (s.trkTo ch 1).settle
  else .next s

/-- TRK_COAST_EXPIRY: 2 s in COAST. -/
def execTrkCoastExpiry (ch : Fin 192) (s : State) : Host.Outcome State Fault Refusal :=
  if s.trkState ch ≠ 3 then .next s
  else match s.runTo ((s.tracker ch).since48 + 2 * sec48) with
    | none => .next s
    | some s1 => .next (s1.trkIdle ch).settle

/-! Epochs (R212 to R214, R218). -/

/-- The entry of channel `c` is valid (R213). -/
def State.entryValid (s : State) (entries : List (Nat × TrkMeas)) (c : Nat) : Option TrkMeas :=
  match entries.find? fun e => e.1 == c with
  | some (_, m) => if s.trkState c = 2 ∧ m.delivered = true ∧ s.feState (s.trkBand c) = 2 then some m else none
  | none => none

/-- Bits 255:64 of an entry from what they say (Table 9-5). -/
def entryHigh (codePhase codeCnt : Nat) (carrier doppler : Int) (cn0 lock : Nat) (mpDisc : Int) : Nat :=
  codePhase % 2 ^ 48 * 2 ^ 144 + codeCnt % 2 ^ 16 * 2 ^ 128 + (carrier % 2 ^ 48).toNat * 2 ^ 80 + (doppler % 2 ^ 32).toNat * 2 ^ 48 +
    cn0 % 2 ^ 16 * 2 ^ 32 + min 65535 lock * 2 ^ 16 + (mpDisc % 2 ^ 16).toNat

/-- The 32 octets of one entry, latched at `at48` (Table 9-5): measured; propagated by a channel in TRACK or COAST (R211; log entry
100); free in PULL_IN, where the loops still pull. -/
def State.entryOctets (s : State) (c at48 : Nat) (valid : Option TrkMeas) (draw : Nat) : List Octet :=
  let st := s.trkState c
  let x := s.tracker c
  let a := s.rdN (Obj.TRK_ASSIGN c)
  let lock := ((if st = 3 then x.since48 else s.up48) - x.trackSince48) / ms48 10
  let high := match valid with
    | some m => entryHigh m.codePhase m.codeCnt m.carrier m.doppler m.cn0 lock m.mpDisc
    | none =>
      let o := x.osc.propagate (bitsAt a 4 4) (bitsAt a 8 8) at48
      if st = 1 then (Config.propagatedEntry draw).toNat
      else entryHigh (o.code * 2 ^ 32).floor.toNat o.periods (o.carrier * 65536).floor o.doppler (s.rdN (Obj.TRK_CN0 c)) lock o.mpDisc
  let flags := match valid with
    | some m => 128 + (if m.halfCycle then 64 else 0) + (if m.slip || x.slipDue then 32 else 0)
    | none => 0
  leBytes 32 (high * 2 ^ 64 + (flags + (if st = 3 then 16 else 0) + (if st = 1 then 8 else 0)) * 2 ^ 56 +
    bitsAt a 8 8 * 2 ^ 48 + bitsAt a 4 4 * 2 ^ 44 + bitsAt a 1 1 * 2 ^ 43 + bitsAt a 0 1 * 2 ^ 42 + c * 2 ^ 24)

/-- The instant of an epoch's latch edge, `resid` after the epoch's own instant, on the timeline's progress (R212). -/
def State.latch48 (s : State) (resid t80 : Nat) : Nat := s.up48 - (s.now48 - t80 * ns48) + resid * 2 ^ 32

/-- The oscillators of a channel as its loops measured them at the latch (R210). -/
def measuredOsc (m : TrkMeas) (at48 : Nat) : Oscillators :=
  { code := (m.codePhase : Rat) / 2 ^ 32, periods := m.codeCnt, carrier := (m.carrier : Rat) / 65536, doppler := m.doppler,
    mpDisc := m.mpDisc, at48 := at48 }

/-- The block of an epoch (Table 9-4, Table 9-5). -/
def State.epochBlock (s : State) (resid t80 : Nat) (latched : List Nat) (entries : List (Nat × TrkMeas)) : List Octet :=
  let gen := s.rdN Obj.TS_STEP_GEN
  let stream := maskOf (fun k => s.feState (3 - k) == 2) 4
  let head := leBytes 4 (t80 % 2 ^ 32) ++ leBytes 4 s.bound ++
    leBytes 8 (s.rdN Obj.EP_RATE * 2 ^ 8 + gen % 2 ^ 16 * 2 ^ 16 + stream * 2 ^ 42 +
      (if s.gn.lastGen = gen then 0 else 2 ^ 46) + (if s.gn.lostBefore then 2 ^ 47 else 0) + latched.length * 2 ^ 48) ++
    leBytesInt 8 s.rateTotal ++ leBytes 4 resid ++ leBytes 4 (s.gn.epochSeq % 2 ^ 32)
  head ++ ((List.zip latched (List.range latched.length)).map fun e =>
    s.entryOctets e.1 (s.latch48 resid t80) (s.entryValid entries e.1) (s.gn.propagated + e.2)).flatten

/-- The block goes to ring 19, or is discarded (R214). -/
def State.epochToRing (s : State) (block : List Octet) : State :=
  let r := s.toRing 19 0 s.stampNs block
  let mark := fun (s : State) (lost : Bool) =>
    ({ s with gn := { s.gn with lastGen := s.rdN Obj.TS_STEP_GEN, lostBefore := lost } } : State)
  match r.2 with
  | .off => r.1
  | .written _ => mark r.1 false
  | .full => (((mark r.1 true).bump Obj.GN_RING19_LOST).stick Obj.GN_STATUS 2).count 0x1B1 1 |>.raise Src.GN_RING19_LOST

/-- New quality information for the receiver's slot (Table 4-4). -/
def State.rxInfo (s : State) (r cls unc : Nat) : State :=
  let n := 20 + r
  if s.slotState n = Sl.DISABLED then s
  else s.setSlot n { s.slot n with
    info := some { raw := s.rdN (Obj.RX_STATE r), unc := unc, cls := some cls, growth := 0, at48 := s.up48 } }

/-- The receiver has no time solution any longer. -/
def State.rxNoSolution (s : State) (r : Nat) : State :=
  let s1 := ((s.setRx r { s.rx r with pulse := none, dual := false }).wrN (Obj.RX_TRAIM_STATE r) 0).wrN (Obj.RX_NSV r) 0
  (s1.cond (Src.GN_TRAIM_FAIL r) false).rxInfo r 15 (s.rdN (Obj.RX_TUNC r))

/-- Loss is declared: the slot goes to LOS (R218). -/
def State.rxLoss (s : State) (r : Nat) : State :=
  let s1 := (s.setRx r { s.rx r with used48 := none }).wrN (Obj.RX_STATE r) 1
  ((s1.rxTracking r).rxNoSolution r).cond (Src.GN_RX_LOSS r) true |>.slotLos (20 + r)

/-- One receiver at an epoch instant: loss 2 s after the last epoch that entered a solution; a whole second with a
valid entry can give a solution. Both go by the epoch's own instant. -/
def State.rxEpoch (t80 : Nat) (valid : List Nat) (s : State) (r : Nat) : State :=
  let x := s.rx r
  let at48 := s.up48 - (s.now48 - t80 * ns48)
  let s1 := match x.used48 with
    | some t => s.when (decide (t + 2 * sec48 ≤ at48)) (·.rxLoss r)
    | none => s
  let own := valid.filter fun c => s.trkRx c == r
  s1.when (decide (t80 % giga = 0) && !own.isEmpty && s.rxOn r)
    fun s => s.setRx r { s.rx r with
      epochSec := some (t80 / giga), epoch48 := at48, lead48 := s.lead48,
      entries := own.map fun c => (c, s.rdN (Obj.TRK_ASSIGN c), s.rdN (Obj.TRK_CN0 c)) }

/-- One epoch at instant `t80`. -/
def State.epoch (s : State) (t80 resid : Nat) (entries : List (Nat × TrkMeas)) : State :=
  let latched := (List.range 192).filter fun c => s.trkState c != 0
  let valid := latched.filter fun c => (s.entryValid entries c).isSome
  let s1 : State := { s with gn := { s.gn with epochSeq := s.gn.epochSeq + 1 } }
  let s2 := (s1.count 0x1B0 1).when (s.rdB Obj.EP_RING_EN) (·.epochToRing (s1.epochBlock resid t80 latched entries))
  let s3 : State := { s2 with gn := { s2.gn with propagated := s2.gn.propagated + latched.length } }
  let s4 := s3.forEach (l := valid) (p := fun s c =>
    match s.entryValid entries c with
    | some m => (s.setTracker c { s.tracker c with slipDue := false, osc := measuredOsc m (s.latch48 resid t80) }).wrN
        (Obj.TRK_CN0 c) (m.cn0 % 2 ^ 16)
    | none => s)
  s4.forEach (l := [0, 1]) (p := State.rxEpoch t80 valid)

/-- The next epoch instant: this cycle's where it has not been executed (R142, R212). -/
def State.nextEpoch (s : State) : Nat := s.nextPeriodic (giga / s.rdN Obj.EP_RATE) s.clk.epoch80

/-- The epoch of `t80` is past. -/
def State.epochDone (s : State) (t80 : Nat) : State := { s with clk := { s.clk with epoch80 := some t80 } }

/-- MEASUREMENT_EPOCH: the latch edge lies `resid` (2^-16 ns) after the next epoch instant (R212). -/
def execMeasurementEpoch (resid : Fin 533333) (entries : List (Nat × TrkMeas)) (s : State) :
    Host.Outcome State Fault Refusal :=
  if !s.rdB Obj.GN_ENABLE then .next s
  else match s.reach s.nextEpoch with
    | none => .next s
    | some s1 => .next ((s1.epochDone s.nextEpoch).epoch s.nextEpoch resid entries).close

/-! Solutions (R215 to R218). -/

/-- The age in seconds of the ephemeris that the receiver holds for a satellite. -/
def State.ephemerisAge (s : State) (r sys sv : Nat) : Option Nat :=
  ((s.rx r).ephemerides.lookup (sys, sv)).map fun e => e.1 + (s.up48 - e.2) / sec48

/-- An ephemeris decoded from a channel's prompt symbols replaces the one held for its satellite (R210, R223). -/
def State.hearEphemeris (s : State) (r : Nat) (x : SatUse) : State :=
  match x.decoded, (s.rx r).entries.find? fun e => e.1 == x.chan with
  | some age, some (_, a, _) =>
    let k := (signalSystem (bitsAt a 4 4), bitsAt a 8 8)
    s.setRx r { s.rx r with ephemerides := (k, (age, s.up48)) :: (s.rx r).ephemerides.filter fun e => e.1 != k }
  | _, _ => s

/-- What a second's solutions decoded. -/
def State.hearEphemerides (s : State) (r : Nat) (l : List TimeSol) : State :=
  s.forEach (l := (l.map (·.sats)).flatten) (p := fun s x => s.hearEphemeris r x)

/-- The entry enters solutions (R215, R223): valid at the epoch, of a system in use, healthy, with an ephemeris of at most 4 h, and
above both masks. -/
def State.satUsable (s : State) (r : Nat) (x : SatUse) : Bool :=
  match (s.rx r).entries.find? fun e => e.1 == x.chan with
  | none => false
  | some (_, a, cn0) =>
    bitOn (s.rdN (Obj.RX_CONST_EN r)) (signalSystem (bitsAt a 4 4)) && x.healthy &&
      decide ((s.ephemerisAge r (signalSystem (bitsAt a 4 4)) (bitsAt a 8 8)).getD 14401 ≤ 14400) &&
      decide ((s.rdN (Obj.RX_ELEV_MASK r) * 100 : Int) < x.elevation) && decide (s.rdN (Obj.RX_CN0_MASK r) * 100 ≤ cn0)

/-- The satellites of a solution, a pair for each of their bands: system and number, and the band. -/
def State.satsOf (s : State) (r : Nat) (x : TimeSol) : List ((Nat × Nat) × Nat) :=
  (x.sats.filter (s.satUsable r)).map fun u =>
    let a := ((s.rx r).entries.find? fun e => e.1 == u.chan).elim 0 (·.2.1)
    ((signalSystem (bitsAt a 4 4), bitsAt a 8 8), bitsAt a 0 1)

/-- How many satellites a solution uses. -/
def satCount (l : List ((Nat × Nat) × Nat)) : Nat := (l.map (·.1)).eraseDups.length

/-- The solution uses band `b`. -/
def usesBand (l : List ((Nat × Nat) × Nat)) (b : Nat) : Bool := l.any fun e => e.2 == b

/-- Every satellite of a solution is on both bands. -/
def allDual (l : List ((Nat × Nat) × Nat)) : Bool := l.all fun e => l.contains (e.1, 1 - e.2)

/-- The lead over TAI in the realisation that RX_TIMEREF selects, before the receiver delays (R215). -/
def State.leadBy (s : State) (r : Nat) (l : Leads) : Int :=
  let sec : Int := giga * 65536
  match s.rdN (Obj.RX_TIMEREF r) with
  | 0 => l.gps - 19 * sec
  | 1 => l.galileo - 19 * sec
  | 2 => l.beidou - 33 * sec
  | 4 => l.utcGalileo - s.rd Obj.UTC_OFFSET * sec
  | _ => l.utcGps - s.rd Obj.UTC_OFFSET * sec

/-- b as the receiver realises it: each band in use moves it earlier by that band's delay (R221; log entry 89). -/
def State.leadOf (s : State) (r : Nat) (x : TimeSol) : Int :=
  let l := s.satsOf r x
  s.leadBy r x.leads - (if usesBand l 0 then s.rd (Obj.RX_DELAY_U r) else 0) - (if usesBand l 1 then s.rd (Obj.RX_DELAY_L r) else 0)

/-- A satellite's residual exceeds RX_TRAIM_LIMIT (R217). -/
def State.residHigh (s : State) (r : Nat) (x : TimeSol) : Bool :=
  decide (s.rdN (Obj.RX_TRAIM_LIMIT r) * 65536 < x.maxResid16)

/-- The solution that stands: the first with every residual within the limit, after at most 3 exclusions, each of which is
followed by the next solution of the list; otherwise the last of them (R217). -/
def State.afterExclusions (s : State) (r : Nat) (l : List TimeSol) : Option TimeSol :=
  match (l.take 4).find? fun x => !s.residHigh r x with
  | some x => some x
  | none => (l.take 4).getLast?

/-- T-RAIM's result (R217); a residual over the limit decides before the number of satellites (log entry 19). -/
def State.traim (s : State) (r : Nat) (x : TimeSol) (survey : Bool) : Nat :=
  let both := s.feState (2 * r) == 2 && s.feState (2 * r + 1) == 2 && s.rdN (Obj.RX_BANDS r) == 3
  if s.residHigh r x then 4
  else if satCount (s.satsOf r x) < s.rdN (Obj.RX_TRAIM_MIN r) + (if survey then 3 else 0) then 3
  else if allDual (s.satsOf r x) && both then 1 else 2

/-- The class of a slot by T-RAIM's result (Table 4-4). -/
def traimClass : Nat → Nat
  | 1 => 0 | 2 => 1 | 3 => 2 | _ => 15

/-- The 24 octets of RX_POS. -/
def posOctets (x y z : Int) : List Octet := leBytesInt 8 x ++ leBytesInt 8 y ++ leBytesInt 8 z

/-- RX_POS takes a position, and RX_POS_VALID is 1 (R216). -/
def State.setRxPos (s : State) (r : Nat) (octets : List Octet) : State :=
  (s.wrBlob (List.replicate 24 0) (Obj.RX_POS r) octets).wrN (Obj.RX_POS_VALID r) 1

/-- A solution of receiver `r` for the second of its last epoch (R215 to R219). A survey's time counts from the epoch of its first
solution (R216; log entry 116). -/
def State.solve (s : State) (r : Nat) (x : TimeSol) (sec : Nat) : State :=
  let g := s.rx r
  let start := g.survey48.getD g.epoch48
  let hold := s.rdN (Obj.RX_MODE r) == 1 || g.held
  let ends := !hold && decide (start + s.rdN (Obj.RX_SURVEY_TIME r) * sec48 ≤ s.up48) &&
    decide (x.positionSigma ≤ s.rdN (Obj.RX_SURVEY_SIGMA r))
  let code := s.traim r x (!hold)
  let tunc := boundUnits (3 * (x.sigma16 : Rat) / 256 + (s.rdN (Obj.RX_DELAY_UNC r) : Rat))
  let pulse : Option Pulse :=
    if code = 4 then none else some { second := sec + 1, b16 := s.leadOf r x, qerr16 := clampAbs 266731 x.qerr16, lead48 := g.lead48 }
  let s1 := s.setRx r { g with used48 := some g.epoch48, survey48 := some start, held := g.held || ends, pulse := pulse,
                               dual := usesBand (s.satsOf r x) 0 && usesBand (s.satsOf r x) 1 }
  let s2 := s1.when (ends && !s1.hostWrote (Obj.RX_POS r)) (·.setRxPos r (posOctets x.position.1 x.position.2.1 x.position.2.2))
  let s3 := (((s2.wrN (Obj.RX_STATE r) (if hold || ends then 4 else 3)).wrN (Obj.RX_TRAIM_STATE r) code).wrN
    (Obj.RX_TUNC r) tunc).wrN (Obj.RX_NSV r) (satCount (s.satsOf r x))
  let s4 := ((s3.cond (Src.GN_RX_LOSS r) false).cond (Src.GN_TRAIM_FAIL r) (code == 4)).when (code == 4)
    (·.stick Obj.GN_STATUS 4)
  let s5 := s4.rxInfo r (traimClass code) tunc
  match x.utc with
  | some (o, leap) =>
    (s5.when (s5.slotState (20 + r) != Sl.DISABLED) fun s =>
      s.setSlot (20 + r) { s.slot (20 + r) with utc := some (o, leap.val) }).utcHeard
  | none => s5

/-- TIME_SOLUTION: the solution of a receiver for the present second and its recomputations after each exclusion, formed from the
epoch at its start; none where the epoch gave none, no entry may enter it, or it is not complete by n + 400 ms (R215, R217). -/
def execTimeSolution (rx : Fin 2) (solutions : List TimeSol) (s : State) : Host.Outcome State Fault Refusal :=
  if !s.rxOn rx then .next s
  else
    let s := s.hearEphemerides rx solutions
    match s.afterExclusions rx solutions with
    | some x =>
      if (s.satsOf rx x).isEmpty = true ∨ (s.rx rx).epochSec ≠ some s.clk.ts.sec ∨ 400000000 < s.clk.ts.ns then
        .next (s.rxNoSolution rx).settle
      else .next (s.solve rx x s.clk.ts.sec).settle
    | none => .next (s.rxNoSolution rx).settle

/-! Pulses and notices (R219, R220). -/

/-- RECEIVER_PPS: the scheduled pulse on the FE_CLK edge nearest its instant, stamped on channel 10 or 11; Herd adds
qErr (R219), and takes out what the timescale and FE_CLK were steered by since the epoch that b was found for (R19). -/
def execReceiverPps (rx : Fin 2) (tap vernier : Fin 32) (s : State) : Host.Outcome State Fault Refusal :=
  let r := rx.val
  match (s.rx r).pulse with
  | none => .next s
  | some p =>
    let edge16 : Int := (p.second * giga * 65536 : Nat) + p.b16 - p.qerr16
    match s.reach (edge16 / 65536).toNat with
    | none => .next s
    | some s1 =>
      let s2 := s1.setRx r { s1.rx r with pulse := none }
      if s1.rxUnsafe r || !s1.apllA then .next s2.settle
      else
        let n := 20 + r
        let s3 := (s2.count (0x1B2 + r) 1).when (s2.slotState n != Sl.DISABLED) fun s =>
          s.setSlot n { s.slot n with named := some ((s.slot n).pulses + 1, p.second) }
        .next (s3.trestleEdge (10 + r) tap vernier false false (p.qerr16 * 64 + (s3.lead48 - p.lead48) / 2 ^ 26)).close

/-- The payload of a GNSS-second notice (Table 9-7). -/
def State.secondBody (s : State) (r second : Nat) (pulse : Option Pulse) : List Octet :=
  let invalid := pulse.isNone
  let q := match pulse with | some p => p.qerr16 | none => 0
  leBytes 4 ((if r = 0 then 0 else 256) + (if (s.rx r).dual then 2 ^ 22 else 0) + (if invalid then 2 ^ 23 else 0) +
      s.rdN (Obj.RX_TRAIM_STATE r) * 2 ^ 24) ++
    [oct (s.rdN (Obj.RX_STATE r)), oct (s.rdN (Obj.RX_NSV r))] ++ leBytesInt 4 q ++
    leBytes 4 (s.rdN (Obj.RX_TUNC r)) ++ leBytes 6 second

/-- The instant of receiver `r`'s next notice, n + 500 ms: this cycle's where it has not been executed (R142, R220). -/
def State.nextNotice (s : State) (r : Nat) : Nat :=
  let c := (s.now80 + 500000000) / giga * giga
  if giga ≤ c ∧ s.clk.before48 < (c - 500000000) * ns48 ∧ (s.rx r).notice80 ≠ some (c - 500000000) then c - 500000000
  else c + 500000000

/-- GNSS_SECOND_NOTICE: n + 500 ms (R220). -/
def execGnssSecondNotice (rx : Fin 2) (s : State) : Host.Outcome State Fault Refusal :=
  let r := rx.val
  if !s.rdB (Obj.RX_EN r) then .next s
  else match s.reach (s.nextNotice r) with
    | none => .next s
    | some s0 =>
      let s1 := s0.setRx r { s0.rx r with notice80 := some (s.nextNotice r) }
      let sec := s1.clk.ts.sec + 1
      let pulse := if s1.rxUnsafe r then none
        else match (s1.rx r).pulse with
          | some p => if p.second = sec then some p else none
          | none => none
      let q := match pulse with | some p => p.qerr16 | none => 0
      .next ((s1.wr (Obj.RX_QERR r) q).notice 3 0x7563 (r + 1) (s1.secondBody r sec pulse)).settle

/-! Enables. -/

/-- A receiver stops: its channels go to IDLE, and it reports nothing (R218, R224). -/
def State.rxStop (s : State) (r : Nat) : State :=
  let s1 : State := { s with gn := { s.gn with waiting := s.gn.waiting.filter fun d => d.rx != r } }
  let s2 := s1.forEach (l := s1.rxChannels r) (p := fun s c => s.trkTo c 0)
  let s3 := s2.setRx r { Receiver.reset with
    almanac := (s.rx r).almanac, ephemerides := (s.rx r).ephemerides, notice80 := (s.rx r).notice80 }
  let s4 := (((((s3.wrN (Obj.RX_STATE r) 0).wrN (Obj.RX_TRAIM_STATE r) 0).wrN (Obj.RX_TUNC r) 0xFFFFFFFF).wr
    (Obj.RX_QERR r) 0).wrN (Obj.RX_NSV r) 0).cond (Src.GN_TRAIM_FAIL r) false
  (s4.rxInfo r 15 0xFFFFFFFF).assignWaiting

/-- A write of RX_EN (R210, R216). -/
def State.setRxEn (s : State) (r : Nat) (v : Bool) : State :=
  if !v then (s.wr (Obj.RX_EN r) 0).when (s.rdB (Obj.RX_EN r)) (·.rxStop r)
  else if s.rdB (Obj.RX_EN r) then s
  else
    let other := if s.rdB (Obj.RX_EN (1 - r)) then s.rdN (Obj.RX_CH_QUOTA (1 - r)) else 0
    if 192 < s.rdN (Obj.RX_CH_QUOTA r) + other ∨ (s.rdN (Obj.RX_MODE r) = 1 ∧ s.rdB (Obj.RX_POS_VALID r) = false) then
      s.rangeReject 7 (Obj.RX_EN r).key
    else (((s.wr (Obj.RX_EN r) 1).bandSearch (2 * r)).bandSearch (2 * r + 1)).rxTracking r

/-- RX_EN_WRITE (R210). -/
def execRxEnWrite (rx : Fin 2) (v : Bool) (s : State) : Host.Outcome State Fault Refusal :=
  s.orHeld 7 .custodian .pcie (Obj.RX_EN rx) [flag8 v] [] <|
    .next (s.setRxEn rx v).settle

/-- RX_POS_WRITE (R216). -/
def execRxPosWrite (rx : Fin 2) (x y z : Int) (s : State) : Host.Outcome State Fault Refusal :=
  s.orHeld 7 .custodian .pcie (Obj.RX_POS rx) (posOctets x y z) [] <|
    .next ((s.setRxPos rx (posOctets x y z)).byHost .pcie (Obj.RX_POS rx)).settle

/-- A write of GN_ENABLE (R224). -/
def State.setGnEnable (s : State) (v : Bool) : State :=
  let s1 := s.wr Obj.GN_ENABLE (flag v)
  if v then
    if s.rdB Obj.GN_ENABLE then s
    else ((({ s1 with gn := { s1.gn with epochSeq := 0 } } : State).forEach (l := List.range 4) (p := State.bandSearch)).rxTracking 0
      ).rxTracking 1
  else (s1.rxStop 0).rxStop 1

/-- GN_ENABLE_WRITE (R224). -/
def execGnEnableWrite (v : Bool) (s : State) : Host.Outcome State Fault Refusal :=
  s.orHeld 7 .custodian .pcie Obj.GN_ENABLE [flag8 v] [] <|
    .next (s.setGnEnable v).settle

/-! The almanac (R209, R226). -/

/-- A write of RX_ALMANAC. -/
def State.setAlmanac (s : State) (r : Nat) (octets : List Octet) : State :=
  let s1 := (s.wrBlob (List.replicate 16384 0) (Obj.RX_ALMANAC r) octets).setRx r
    { s.rx r with almanac := some (Config.almanacAge octets, s.up48) }
  s1.when (!s1.almStale 0 || !s1.almStale 1) fun s =>
    s.cond Src.GN_ALM_STALE (s.active Src.GN_ALM_STALE && (s.almStale r || s.almStale (1 - r)))

/-- ALMANAC_STALE: the age of an almanac passes RX_ALM_MAXAGE; with none held RX_ALM_AGE is above it all along (R226). -/
def execAlmanacStale (rx : Fin 2) (s : State) : Host.Outcome State Fault Refusal :=
  match (s.rx rx).almanac with
  | none => .next (s.cond Src.GN_ALM_STALE true).settle
  | some (age, at48) =>
    match s.runTo (at48 + (s.rdN (Obj.RX_ALM_MAXAGE rx) * 86400 + 1 - age) * sec48) with
    | none => .next s
    | some s1 => .next (s1.cond Src.GN_ALM_STALE true).settle

/-- A step: the pulses not yet generated are suppressed, and the next solution schedules again (R219). -/
def State.gnssStep (s : State) : State :=
  (s.setRx 0 { s.rx 0 with pulse := none, notice80 := none }).setRx 1 { s.rx 1 with pulse := none, notice80 := none }

end Sys2Proof.Machine
end

