-- ==== Sys2Proof/Machine/Sessions.lean ====
section
/-! DEFINITION. Packet-reference sessions: grants, measurements, Announce fields, and timeout (R171, R274, R275). -/

namespace Sys2Proof.Machine

/-- UNICAST of a session. -/
def State.sesUnicast (s : State) (n : Nat) : Bool := bitOn (s.rdN (Obj.SES_CFG n)) 14

/-- The session exchanges messages at all: it is not OFF. -/
def State.sesOn (s : State) (n : Nat) : Bool := s.rdN (Obj.SES_STATE n) != 0

/-! Sending. -/

/-- Addresses of a session's message: to its master, or to the group of its transport while it listens to multicast. -/
def State.sesTo (s : State) (n : Nat) (event : Bool) : Addressing :=
  let p := s.sesPort n
  let x := s.sesProfile n
  let t := s.sesTransport n
  if !s.sesUnicast n then s.multicastTo p x t event false
  else
    let a := s.sesAddr n
    { dst := if t = 2 then a % 2 ^ 48 else Config.neighbourMac p a, src := s.rdN (Obj.PORT_MAC p), tci := s.profTci x,
      transport := t, srcIp := Config.portAddress p t, dstIp := a, srcUdp := udpPortOf event, dstUdp := udpPortOf event }

/-- The pipeline of a session's own messages: their client key is the session's own portIdentity, so it is its port's (R249). -/
def State.sesPipeline (s : State) (n : Nat) : Nat := s.sesPort n % 4

/-- Messages of session `n` are built: the engine is on and packet service is (R251; log entry 28). -/
def State.sesServed (s : State) : Bool := s.tpeOn && s.pktService == 2

/-- The pipeline of session `n` takes a message now (R249, R250). -/
def State.sesRoom (s : State) (n : Nat) : Bool := s.passageFree (s.sesPipeline n) && s.roomFor (s.sesPipeline n) (s.sesPort n)

/-- A message of a session enters its pipeline and is built. -/
def State.sesSend (s : State) (n : Nat) (kind : FrameKind) (event : Bool) (len : Nat) (build : Nat → List Octet) : State :=
  let p := s.sesPort n
  let a := (s.taken (s.sesPipeline n)).newId
  let d : Draft := { id := a.2, port := p, pl := s.sesPipeline n, kind := kind, addr := s.sesTo n event, bit := 8, from48 := 0,
                     record := none, auth := s.sesAuth n, parts := 2 }
  a.1.sendMessage d len build

/-- An instant for each of the types listed, over those of others. -/
def stampAll (l : List (Nat × Nat)) (types : List Nat) (t : Nat) : List (Nat × Nat) := types.foldl (fun l y => SMap.ins y t l) l

/-- A list without the types listed. -/
def without (l : List (Nat × Nat)) (types : List Nat) : List (Nat × Nat) := l.filter fun e => !types.contains e.1

/-- Requests for grants of the types listed, at the profile's intervals and for SES_DURATION, each of which waits for its own
reply (R274). Without packet service none is built; where the pipeline cannot take the message now, the retry is due at once
(R249 to R251; log entry 30). -/
def State.sesRequest (s : State) (n : Nat) (types : List Nat) : State :=
  let x := s.session n
  let p := s.sesPort n
  let prof := s.sesProfile n
  let master := s.rdN (Obj.SES_MASTER_ID n)
  let target := if master = 0 then List.replicate 10 0xFF else beBytes 8 master ++ [0xFF, 0xFF]
  let body := target ++ (types.map fun t => tlv Tlv.REQUEST ([oct (t * 16)] ++ beInt 1 (s.interval prof (intervalLo t)) ++
    beBytes 4 (s.rdN (Obj.SES_DURATION n)))).flatten
  let asked : Session := { x with asked48 := stampAll x.asked48 types s.up48, retry48 := without x.retry48 types }
  if !s.sesServed then s.setSession n asked
  else if !s.sesRoom n then s.setSession n { x with retry48 := stampAll x.retry48 types s.up48 }
  else (s.setSession n { asked with sigSeq := (x.sigSeq + 1) % 65536 }).sesSend n .ptp false (34 + body.length) fun dep48 =>
    ptpMessage Ptp.SIGNALING (s.rdN (Obj.PROF_DOMAIN prof)) (s.flagField p true (dep48 / ns48)) 0 (s.ownPort p) x.sigSeq 127
      body

/-- The three grants of a session: Announce, Sync, Delay_Resp. -/
def sesTypes : List Nat := [Ptp.ANNOUNCE, Ptp.SYNC, Ptp.DELAY_RESP]

/-- The session goes to NEGOTIATING with its requests, or listens to multicast, which SES_STATE shows by the same code
(log entry 30). -/
def State.sesStart (s : State) (n : Nat) : State :=
  let x := s.session n
  let x1 : Session := { x with
    measured48 := s.up48, announced48 := s.up48, asked48 := [], retry48 := [], announceLog := s.interval (s.sesProfile n) 24 }
  let s1 := (s.wrN (Obj.SES_STATE n) 1).setSession n x1
  s1.when (s.sesUnicast n) (·.sesRequest n sesTypes)

/-- A write of SES_EN: a P2P profile is out of range (Table 11-8); a session that stops takes its slot to LOS. -/
def State.setSesEn (s : State) (n : Nat) (v : Bool) : State :=
  if !v then
    ((((s.wrN (Obj.SES_EN n) 0).wrN (Obj.SES_STATE n) 0).setSession n Session.reset).cond (Src.SES_TIMEOUT n) false).slotLos
      (16 + n)
  else if s.rdB (Obj.SES_EN n) then s
  else if s.profP2p (s.sesProfile n) then s.rangeReject 12 (Obj.SES_EN n).key
  else (s.wrN (Obj.SES_EN n) 1).sesStart n

/-- SES_EN_WRITE (R274). -/
def execSesEnWrite (session : Fin 4) (v : Bool) (s : State) : Host.Outcome State Fault Refusal :=
  s.orHeld 12 .custodian .pcie (Obj.SES_EN session) [flag8 v] [] <|
    .next (s.setSesEn session v).close

/-! Receiving. -/

/-- The oldest message of pipeline `pl` where it is one of a session, of a type that `p` admits. -/
def State.nextSes (s : State) (pl : Nat) (p : Nat → List (Nat × List Octet) → Bool) :
    Option (Passage × Nat × List Octet × List (Nat × List Octet)) :=
  match s.nextPassage pl with
  | none => none
  | some w => match s.judge w with
    | .ptp _ (some n) m tlvs => if p (ptpType m) tlvs then some (w, n, m, tlvs) else none
    | _ => none

/-- A session's message is authenticated where AUTH is set or its profile requires it, with the session's context; what
it does follows its checks. A first message of a multicast session ends its TIMEOUT, and both its timers start again. -/
def State.sesMessage (s : State) (w : Passage) (n : Nat) (m : List Octet) (tlvs : List (Nat × List Octet))
    (act : State → State) : State :=
  let required := (s.sesAuth n).isSome || bitOn (s.profCfg (s.sesProfile n)) 12
  let r := s.authenticate required (portIdentity (s.ownPort (s.sesPort n))) m tlvs
  match r.2 with
  | .bad xx => r.1.dropPassage w xx
  | .good _ =>
    let s1 := (r.1.passed w).tpeCount 1
    act (s1.when (s1.rdN (Obj.SES_STATE n) == 3 && !s1.sesUnicast n) fun s =>
      (s.wrN (Obj.SES_STATE n) 1).setSession n { s.session n with measured48 := s.up48, announced48 := s.up48 })

/-- Session established: RUN at a measurement; its slot leaves LOS (R275, Table 4-7 transition 4). -/
def State.sesRun (s : State) (n : Nat) : State :=
  let s1 := ((s.wrN (Obj.SES_STATE n) 2).setSession n { s.session n with measured48 := s.up48 }).cond (Src.SES_TIMEOUT n)
    false
  if s1.slotState (16 + n) = Sl.LOS then s1.slotQualifying (16 + n) none else s1

/-- A path delay that is recent enough: its exchange completed within SES_DELAY_MAXAGE (R275). -/
def State.recentPath (s : State) (n : Nat) : Option Int :=
  match (s.session n).path with
  | some (d, at48) => if s.up48 ≤ at48 + ms48 (s.rdN (Obj.SES_DELAY_MAXAGE n)) then some d else none
  | none => none

/-- A complete Sync: t1 with its corrections and t2, in 2^-16 ns (R274). With a recent path delay it gives a measurement
of the master's lead at t2 (R101, R275). -/
def State.sesSync (s : State) (n : Nat) (t1 t2 : Int) : State :=
  let s1 := s.setSession n { s.session n with last := some (t1, t2), waiting := none }
  match s1.recentPath n with
  | none => s1
  | some path =>
    let offset := t2 - t1 - path - s1.rd (Obj.SES_ASYM n)
    let s2 := (s1.wr (Obj.SES_OFFSET n) offset).sesRun n
    let base48 : Int := t2 * 2 ^ 32 - s2.lead48
    s2.measure (16 + n) { base48 := base48, ready48 := s2.base48, phase48 := ((-offset * 2 ^ 32 : Int) : Rat) + s2.lead48 }

/-- A Sync or a Follow_Up of a session's master (R274). -/
def State.sesSyncMessage (w : Passage) (n : Nat) (m : List Octet) (s : State) : State :=
  let x := s.session n
  let stamp : Int := (timestampOf (slice m 34 10) * 65536 : Nat)
  if ptpType m = Ptp.SYNC then
    let y : WaitingSync := { seq := ptpSeq m, correction16 := ptpCorrection m, t2 := w.stamp16, at48 := s.up48 }
    if ptpTwoStep m then s.setSession n { x with waiting := some y }
    else s.sesSync n (stamp + ptpCorrection m) w.stamp16
  else match x.waiting with
    | some y =>
      if y.seq = ptpSeq m ∧ s.up48 ≤ y.at48 + sec48 then s.sesSync n (stamp + y.correction16 + ptpCorrection m) y.t2 else s
    | none => s

/-- SESSION_SYNC_RX (R101, R274, R275). -/
def execSessionSyncRx (pl : Fin 4) (s : State) : Host.Outcome State Fault Refusal :=
  match s.nextSes pl fun t _ => t == Ptp.SYNC || t == Ptp.FOLLOW_UP with
  | some (w, n, m, tlvs) => .next ((s.sesMessage w n m tlvs (State.sesSyncMessage w n m)).watched s).close
  | none => .next s

/-- A Delay_Resp to the session's own Delay_Req: meanPathDelay (R274). -/
def State.sesDelayResp (n : Nat) (m : List Octet) (s : State) : State :=
  let x := s.session n
  let t4 : Int := (timestampOf (slice m 34 10) * 65536 : Nat) - ptpCorrection m
  let mine := slice m 44 10 == portIdentity (s.ownPort (s.sesPort n))
  match mine, x.request, x.last with
  | true, some (seq, some t3), some (t1, t2) =>
    if seq = ptpSeq m then
      let path := truncDiv (t2 - t1 + (t4 - t3)) 2
      (s.wr (Obj.SES_PATH_DELAY n) path).setSession n { x with request := none, path := some (path, s.up48) }
    else s
  | _, _, _ => s

/-- SESSION_DELAY_RESP_RX (R274). -/
def execSessionDelayRespRx (pl : Fin 4) (s : State) : Host.Outcome State Fault Refusal :=
  match s.nextSes pl fun t _ => t == Ptp.DELAY_RESP with
  | some (w, n, m, tlvs) => .next ((s.sesMessage w n m tlvs (State.sesDelayResp n m)).watched s).settle
  | none => .next s

/-- A Bound TLV of the version the engine knows: BOUND and GROWTH (R171). -/
def boundOf (tlvs : List (Nat × List Octet)) : Option (Nat × Nat) :=
  tlvs.findSome? fun t =>
    if t.1 = Tlv.ORGANIZATION ∧ t.2.length = 18 ∧ t.2.take 7 = [0xA8, 0x36, 0x1D, 0, 0, 1, 1] then
      some (field t.2 10 4, field t.2 14 4)
    else none

/-- Quality information of an Announce (Table 4-4, R171): clockClass, clockAccuracy and variance, and the uncertainty: the
Bound TLV's, or the upper limit of clockAccuracy; with any other accuracy, or a bound of 0xFFFFFFFF, the uncertainty is unbounded and
the class 15. -/
def State.announceInfo (s : State) (m : List Octet) (tlvs : List (Nat × List Octet)) : QlInfo :=
  let cls := field m 48 1
  let acc := field m 49 1
  let limit := if 0x17 ≤ acc ∧ acc ≤ 0x30 then
      (match accuracyLimits[acc - 0x17]? with
       | some fs => boundUnits ((fs : Rat) * 256 / 1000000)
       | none => 0xFFFFFFFF)
    else 0xFFFFFFFF
  let raw := cls + acc * 2 ^ 8 + field m 50 2 * 2 ^ 16
  match boundOf tlvs with
  | some (bound, growth) =>
    { raw := raw, unc := bound, cls := if bound = 0xFFFFFFFF then some 15 else none, growth := growth, at48 := s.up48 }
  | none => { raw := raw, unc := limit, cls := if 0x17 ≤ acc ∧ acc ≤ 0x30 then none else some 15, growth := 0, at48 := s.up48 }

/-- An Announce of a session's master: its fields reach the slot, where that is enabled (R86, R144, R274, Table 4-4). -/
def State.sesAnnounce (n : Nat) (m : List Octet) (tlvs : List (Nat × List Octet)) (s : State) : State :=
  let x := s.session n
  let granted := (x.grants.find? fun g => g.1 == Ptp.ANNOUNCE).map (·.2.log)
  let log := if s.sesUnicast n then granted.getD (ptpLog m) else s.interval (s.sesProfile n) 24
  let flags := ptpFlags m
  let utc := if bitOn flags 2 then some (fieldInt m 44 2, if bitOn flags 0 then 1 else if bitOn flags 1 then 2 else 0)
    else none
  let s1 := s.setSession n { x with announced48 := s.up48, announceLog := log }
  let slot := s1.slot (16 + n)
  if s1.slotState (16 + n) = Sl.DISABLED then s1
  else (s1.setSlot (16 + n) { slot with info := some (s1.announceInfo m tlvs), utc := utc }).utcHeard

/-- SESSION_ANNOUNCE_RX (R144, R145, R171, R274). -/
def execSessionAnnounceRx (pl : Fin 4) (s : State) : Host.Outcome State Fault Refusal :=
  match s.nextSes pl fun t _ => t == Ptp.ANNOUNCE with
  | some (w, n, m, tlvs) => .next ((s.sesMessage w n m tlvs (State.sesAnnounce n m tlvs)).watched s).close
  | none => .next s

/-- The GRANT TLVs of a reply: each grant runs for its duration, with its renewal at 3/4; a refusal is tried again after
10 s (R274). -/
def State.sesGrants (n : Nat) (tlvs : List (Nat × List Octet)) (s : State) : State :=
  (tlvs.filter fun t => t.1 == Tlv.GRANT).foldl (init := s) fun (s : State) t =>
    let type := field t.2 0 1 / 16
    let x : Session := { s.session n with asked48 := without (s.session n).asked48 [type] }
    let dur := field t.2 2 4
    if dur = 0 then s.setSession n { x with retry48 := stampAll x.retry48 [type] (s.up48 + 10 * sec48) }
    else
      let g : SesGrant := { end48 := s.up48 + dur * sec48, log := fieldInt t.2 1 1, renew48 := s.up48 + dur * sec48 * 3 / 4 }
      s.setSession n { x with grants := SMap.ins type g x.grants, retry48 := without x.retry48 [type] }

/-- SESSION_GRANT_RX (R274). -/
def execSessionGrantRx (pl : Fin 4) (s : State) : Host.Outcome State Fault Refusal :=
  match s.nextSes pl fun t tlvs => t == Ptp.SIGNALING && hasTlv tlvs Tlv.GRANT with
  | some (w, n, m, tlvs) => .next ((s.sesMessage w n m tlvs (State.sesGrants n tlvs)).watched s).settle
  | none => .next s

/-! Timers (R274, R275). -/

/-- The grant whose renewal is due first, of those still running. -/
def State.nextRenewal (s : State) (n : Nat) : Option (Nat × SesGrant) :=
  ((s.session n).grants.filter fun g => decide (s.up48 < g.2.end48)).foldl (init := none)
    fun (best : Option (Nat × SesGrant)) g =>
      match best with
      | some b => if g.2.renew48 < b.2.renew48 then some g else best
      | none => some g

/-- The first of the instants of a list. -/
def earliest (l : List (Nat × Nat)) : Option Nat :=
  l.foldl (init := none) fun (best : Option Nat) e => match best with | some t => some (min t e.2) | none => some e.2

/-- The types of a list whose instants are `t` or earlier. -/
def typesBy (l : List (Nat × Nat)) (t : Nat) : List Nat := (l.filter fun e => decide (e.2 ≤ t)).map (·.1)

/-- SES_GRANT_RENEW: 3/4 of a grant has elapsed, and its renewal is requested (R274). -/
def execSesGrantRenew (session : Fin 4) (s : State) : Host.Outcome State Fault Refusal :=
  if !s.sesOn session || !s.sesUnicast session then .next s
  else match s.nextRenewal session with
    | none => .next s
    | some (type, g) => match s.runTo g.renew48 with
      | none => .next s
      | some s1 =>
        let x := s1.session session
        let g1 : SesGrant := { g with renew48 := g.end48 }
        .next (((s1.setSession session { x with grants := SMap.ins type g1 x.grants }).sesRequest session [type]).watched s).settle

/-- SES_RETRY: the first retry is due, and the types whose retries are due by then are requested again; a session in TIMEOUT
negotiates anew (R274, R275). -/
def execSesRetry (session : Fin 4) (s : State) : Host.Outcome State Fault Refusal :=
  match earliest (s.session session).retry48 with
  | none => .next s
  | some t => match s.runTo (max t (s.freeFrom (s.sesPipeline session))) with
    | none => .next s
    | some s1 =>
      if !s1.sesOn session || !s1.sesUnicast session then .next s1.settle
      else
        let x := s1.session session
        let s2 := s1.when (s1.rdN (Obj.SES_STATE session) == 3) fun s =>
          (s.wrN (Obj.SES_STATE session) 1).setSession session { x with measured48 := s.up48, announced48 := s.up48 }
        .next ((s2.sesRequest session (typesBy x.retry48 s1.up48)).watched s).settle

/-- SES_REPLY_TIMEOUT: a request without a reply within 1 s; its types are tried again after 10 s (R274). -/
def execSesReplyTimeout (session : Fin 4) (s : State) : Host.Outcome State Fault Refusal :=
  match earliest (s.session session).asked48 with
  | none => .next s
  | some t => match s.runTo (t + sec48) with
    | none => .next s
    | some s1 =>
      let x := s1.session session
      let types := typesBy x.asked48 (s1.up48 - sec48)
      .next (s1.setSession session { x with
        asked48 := without x.asked48 types, retry48 := stampAll x.retry48 types (s1.up48 + 10 * sec48) }).settle

/-- SES_FOLLOW_UP_TIMEOUT: a two-step Sync without its Follow_Up is discarded after 1 s (R274). -/
def execSesFollowUpTimeout (session : Fin 4) (s : State) : Host.Outcome State Fault Refusal :=
  match (s.session session).waiting with
  | none => .next s
  | some y => match s.runTo (y.at48 + sec48) with
    | none => .next s
    | some s1 => .next (s1.setSession session { s1.session session with waiting := none }).settle

/-- The period of a session's Delay_Req: the granted one, or the profile's; none without a live grant (R274). -/
def State.sesDelayLog (s : State) (n : Nat) : Option Int :=
  if !s.sesOn n then none
  else if !s.sesUnicast n then some (s.interval (s.sesProfile n) 8)
  else match (s.session n).grants.find? fun g => g.1 == Ptp.DELAY_RESP with
    | some (_, g) => if s.up48 < g.end48 then some g.log else none
    | none => none

/-- SES_DELAY_REQ_SEND: a period has passed, and the session sends a pre-stamped Delay_Req when its pipeline takes it; without
packet service none is built (R249 to R251, R257, R270, R274). -/
def execSesDelayReqSend (session : Fin 4) (s : State) : Host.Outcome State Fault Refusal :=
  match s.sesDelayLog session with
  | none => .next s
  | some log => match s.runTo (max ((s.session session).dreqAt48 + period48 log) (s.freeFrom (s.sesPipeline session))) with
    | none => .next s
    | some s1 =>
      let x := s1.session session
      let p := s1.sesPort session
      let seq := (x.dreqSeq + 1) % 65536
      if !s1.sesServed then .next (s1.setSession session { x with dreqAt48 := s1.up48 }).settle
      else if !s1.sesRoom session then .next s1.settle
      else
        let s2 := s1.setSession session { x with dreqAt48 := s1.up48, dreqSeq := seq, request := some (seq, none) }
        let s3 := s2.sesSend session (.delayReq session seq) true 44 fun dep48 =>
          ptpMessage Ptp.DELAY_REQ (s1.rdN (Obj.PROF_DOMAIN (s1.sesProfile session)))
            (s1.flagField p (s1.sesUnicast session) (dep48 / ns48)) 0 (s1.ownPort p) seq log
            (ptpTimestamp (dep48 / ns48))
        .next (s3.watched s).settle

/-- When a session times out: SES_TIMEOUT after its last measurement, or announceReceiptTimeout intervals after its last
Announce (R275). -/
def State.sesTimeoutAt (s : State) (n : Nat) : Nat :=
  let x := s.session n
  min (x.measured48 + ms48 (s.rdN (Obj.SES_TIMEOUT n)))
    (x.announced48 + bitsAt (s.rdN (Obj.PROF_INTERVALS (s.sesProfile n))) 0 8 * period48 x.announceLog)

/-- SES_TIMEOUT: TIMEOUT, the source, and LOS of the slot; a unicast session negotiates again (R85, R275). -/
def execSesTimeout (session : Fin 4) (s : State) : Host.Outcome State Fault Refusal :=
  if !s.sesOn session ∨ s.rdN (Obj.SES_STATE session) = 3 then .next s
  else match s.runTo (s.sesTimeoutAt session) with
    | none => .next s
    | some s1 =>
      let x := s1.session session
      let retry := if s1.sesUnicast session && x.retry48.isEmpty then stampAll [] sesTypes s1.up48 else x.retry48
      .next ((((s1.wrN (Obj.SES_STATE session) 3).setSession session { x with retry48 := retry }).cond
        (Src.SES_TIMEOUT session) true).slotLos (16 + session)).close

end Sys2Proof.Machine
end

