-- ==== Sys2Proof/Machine/Snapshot.lean ====
section
/-! DEFINITION. The snapshot: what schedules it, and the copy into the holding objects (R151, R152). -/

namespace Sys2Proof.Machine

/-- The next second boundary, in TAI ns: this cycle's where its housekeeping has not been done (R142). -/
def State.nextSecond (s : State) : Nat := s.nextPeriodic giga s.clk.second80

/-- A write of 1 to SNAP_NOW: the snapshot is taken in the next cycle (R151). -/
def State.snapNow (s : State) : State := { s with snap := { s.snap with nowPending := true } }

/-- A write to SNAP_AT: a new instant replaces the one pending; one less than 10 µs ahead is refused (R151). -/
def State.setSnapAt (s : State) (at80 : Nat) : State :=
  if at80 * ns48 < s.now48 + us48 10 then s.stick Obj.SNAP_STATUS 0
  else ({ s with snap := { s.snap with atPending := some at80 } } : State).wrN Obj.SNAP_AT at80

/-- SNAP_NOW (R151). -/
def execSnapNow (s : State) : Host.Outcome State Fault Refusal :=
  s.orHeld 10 .custodian .pcie Obj.SNAP_NOW [1] [] <|
    .next s.snapNow.settle

/-- SNAP_AT_WRITE (R151). -/
def execSnapAtWrite (sec : BitVec 48) (ns : Fin 1000000000) (s : State) : Host.Outcome State Fault Refusal :=
  s.orHeld 10 .custodian .pcie Obj.SNAP_AT (time80Bytes (sec.toNat * giga + ns)) [] <|
    .next (s.setSnapAt (sec.toNat * giga + ns)).settle

/-- What a scalar object held when the present cycle began (R21). -/
def State.atStart (s : State) (r : Reg) : Int := SMap.get r.reset s.snap.base r.key

/-- Each object of a family of `n` is copied into its holding object, as it stood when the cycle began. -/
def State.copyAll (s : State) (n : Nat) (src dst : Nat → Reg) : State :=
  s.forEach (l := List.range n) (p := fun s i => s.wr (dst i) (s.atStart (src i)))

/-- Every counter and sticky set, without what this cycle has counted, and every bound goes to its holding object (R21,
R152); Trestle's counts have no such object, and are kept in the copy itself (log entry 46). -/
def State.copyHeld (s0 : State) : State :=
  let s : State := { s0 with snap := { s0.snap with
    heldDrop := (List.range 48).map fun c => (s0.atStart (Obj.CH_DROP c)).toNat,
    heldLost := (s0.atStart Obj.TR_RING_LOST).toNat } }
  let s1 := (((s.copyAll 128 Obj.CTR_VALUE Obj.SNAP_CTR).copyAll 8 Obj.PORT_STICKY Obj.SNAP_PORT_STICKY).copyAll 2
    Obj.FP_STICKY Obj.SNAP_FP_STICKY).copyAll 28 Obj.TPE_CNT Obj.SNAP_TPE_CNT
  let s2 := s1.wrN Obj.SNAP_TEB_TS s1.bound
  let s3 := s2.forEach (l := List.range 8) (p := fun s p => s.wrN (Obj.SNAP_TEB_PORT p) (s.portBound p))
  s3.forEach (l := List.range 16) (p := fun s n =>
    (s.wrN (Obj.SNAP_TEB_OUT n) (s.outBound n)).wrN (Obj.SNAP_TEB_EVT n) (s.evtBound n))

/-- A snapshot falls in the present cycle; it is missed where the one before lies less than 4 µs back (R151). `stepped` is
whether this is a step cycle. -/
def State.snapshot (s : State) (stepped : Bool) : State :=
  let left := match s.snap.atPending with | some t => if t * ns48 ≤ s.now48 then none else some t | none => none
  let x : Snapshot := { s.snap with nowPending := false, atPending := left, tried48 := some s.now48 }
  let missed := match x.lastAt48 with | some t => decide (t ≤ s.now48 ∧ s.now48 < t + us48 4) | none => false
  if missed then (({ s with snap := x } : State).stick Obj.SNAP_STATUS 1).raise Src.SNAP_MISSED
  else
    let taken : Snapshot := { x with lastAt48 := some s.now48, copying := true }
    let s1 : State := { s with snap := taken }
    (s1.copyHeld.wrN Obj.SNAP_STATUS (putBit (s.rdN Obj.SNAP_STATUS) 3 stepped)).count 0x004 1

/-- The present cycle is that of a placement or step. -/
def State.inStepCycle (s : State) : Bool := s.clk.stepCycle == some (s.clk.cycles + s.clk.frozenCycles)

/-- The next snapshot by SNAP_EVERY: the second boundary of this cycle, where none fell in it yet, or the next one. -/
def State.everyAt (s : State) : Nat :=
  s.nextPeriodic giga (if s.snap.tried48 = some s.now48 then some (s.now80 / giga * giga) else none)

/-- SNAPSHOT: the next instant of R151 is reached: the first cycle after a SNAP_NOW, SNAP_AT, or a second boundary. The last
two are held while the timescale is frozen (Table 6-1). -/
def execSnapshot (s : State) : Host.Outcome State Fault Refusal :=
  if !s.clk.running then .next s
  else if s.snap.nowPending then .next ((s.runCycles 1).snapshot (s.runCycles 1).inStepCycle).settle
  else
    let due := match s.snap.atPending, s.rdB Obj.SNAP_EVERY with
      | some t, true => some (min t s.everyAt)
      | some t, false => some t
      | none, true => some s.everyAt
      | none, false => none
    match due with
    | none => .next s
    | some t => match s.reach t with
      | none => .next s
      | some s1 => .next (s1.snapshot s1.inStepCycle).settle

end Sys2Proof.Machine
end

