-- ==== Sys2Proof/Machine/Placement.lean ====
section
/-! DEFINITION. Placements and steps of the timescale (R137 to R142), host sets (R140), the slew engine (R136),
second-boundary housekeeping (R21), and the effect instant of a Herd update (R98). -/

namespace Sys2Proof.Machine

/-! Second-boundary housekeeping (R21, R149, R174, R233). -/

/-- Every ring's epoch word: TS_STEP_GEN above the seconds, and the trailer of a ring that is not OFF (R149, R385). -/
def State.epochWords (s : State) : State :=
  s.forEach (l := List.range 64) (p := fun s k =>
    (s.wrN (Obj.RING_EPOCH k) (s.rdN Obj.TS_STEP_GEN * 2 ^ 48 + s.clk.ts.sec % 2 ^ 48)).when (s.rdN (Obj.RING_STATE k) != 0)
      (·.trailer k))

/-- PORT_GRID_PHASE: from the second to the first block boundary at or after it, in 2^-16 ns, of a port whose PCS runs
(R233). -/
def State.gridPhase (s : State) (p : Nat) : State :=
  if (s.port p).phase.isNone then s
  else
    let sec := s.now48 / sec48 * sec48
    s.wrN (Obj.PORT_GRID_PHASE p) ((s.blockTime p (s.firstBlock p sec) - sec) / 2 ^ 32)

/-- Second-boundary housekeeping: epoch words, and UTC offset and leap (R21, R149). -/
def State.housekeeping (s : State) : State := s.epochWords.utcBoundary

/-- A second boundary is in the present cycle: its event, the alignment of the synthesisers, ring 22, the ports' grids (R174,
R188, R233). -/
def State.secondWork (s : State) : State :=
  let s1 := s.count 0x002 1
  let s2 := s1.forEach (l := List.range 8) (p := State.fosBoundary)
  (s2.tebLog 0).forEach (l := List.range 8) (p := State.gridPhase)

/-- Second boundary `t80` has been executed in this pass (R142). -/
def State.secondDone (s : State) (t80 : Nat) : State := { s with clk := { s.clk with second80 := some t80 } }

/-- SECOND_BOUNDARY: the timescale reaches the next whole second (R21). -/
def execSecondBoundary (s : State) : Host.Outcome State Fault Refusal :=
  match s.reach s.nextSecond with
  | none => .next s
  | some s1 => .next ((s1.secondDone s.nextSecond).housekeeping.secondWork).settle

/-! Placement and step (R141, R142). -/

/-- Every channel marks its first edge after the step, and an interval across it is known by the count of steps (R71,
R141). -/
def State.trestleStep (s : State) : State :=
  let s1 := s.forEach (l := List.range 48) (p := fun s c => s.setChannel c { s.channel c with stepMark := true })
  { s1 with tr := { s1.tr with steps := s1.tr.steps + 1 } }

/-- The key rotations whose instants a forward step passes over (Table 6-1). -/
def State.rotationsStep (s : State) : State :=
  s.forEach (l := List.range 17) (p := fun s e =>
    if s.rdN (rotation e).2.2.2 ≤ s.now80 then s.rotate e else s)

/-- The discontinuity by `d48`, a placement where TS_VALID is 0: the counter reads the new time from the start of this cycle,
and every pending action is treated as Table 6-1 states, in the order of R21. A new pass of the timescale begins, in which the
housekeeping has been done; a second boundary that is the new time has its other work in this cycle too. -/
def State.applyStep (s : State) (d48 : Int) : State :=
  let old48 := s.now48
  let new48 := (((old48 : Int) + d48) % ((2 ^ 48 * sec48 : Nat) : Int)).toNat
  let old80 := s.now80
  let whole := decide (new48 % sec48 = 0)
  let clk : Clock := { s.clk with
    ts := TsCount.of48 new48, before48 := new48 - 1, second80 := if whole then some (new48 / ns48) else none,
    update80 := none, epoch80 := none, stepCycle := some (s.clk.cycles + s.clk.frozenCycles) }
  let hd : Herd := { s.hd with acc := 0, limited := false, stepped := true }
  let s1 : State := { s with clk := clk, hd := hd, syn := { s.syn with gate80 := none } }
  let s2 := ((((s1.wrN Obj.TS_STEP_FROM (old48 / 2 ^ 16)).wrN Obj.TS_STEP_TO (new48 / 2 ^ 16)).wrN Obj.TS_STEP_GEN
    ((s.rdN Obj.TS_STEP_GEN + 1) % 2 ^ 16)).wrN Obj.SV_INTEG 0).wrN Obj.TS_VALID 1
  let s3 := ((s2.stick Obj.TS_STATUS 4).raise Src.TS_STEP).trestleStep.utcUndo.housekeeping.when whole State.secondWork
  let passed := match s3.snap.atPending with | some t => decide (t * ns48 ≤ new48) | none => false
  let s4 := ((s3.when passed (·.snapshot true)).when (decide (old48 < new48)) State.rotationsStep).tebStep d48
  ((((s4.fosStep d48).tpeStep).calendarStep old80).gatesStep.eventsStep old48).gnssStep

/-! Host sets (R140). -/

/-- The step policy allows a step; it does not while block 10 is being restored (R138, R154). -/
def State.stepAllowed (s : State) : Bool := s.rdB Obj.TS_STEP_ALLOWED && !s.unsafeBlock 10

/-- The offset of a request, in 2^-48 ns. -/
def SetRequest.offset48 (r : SetRequest) : Int := (r.val112 : Int) * 2 ^ 16 - (r.at80 : Int) * ns48

/-- The state with the held request replaced. -/
def State.setRequest (s : State) (r : Option SetRequest) : State :=
  { s with ctl := { s.ctl with slew := { s.ctl.slew with request := r } } }

/-- A commit of STEP or SLEW, settled by the first rule of R140 that applies. -/
def State.tsSet (s : State) (slew : Bool) : State :=
  let r : SetRequest :=
    { slew := slew, at80 := s.rdN Obj.TS_SET_AT, val112 := s.rdN Obj.TS_SET_VAL, unc := s.rdN Obj.TS_SET_UNC }
  if s.mode ≠ Mode.FREERUN then s.stick Obj.TS_STATUS 3
  else if r.at80 % giga ≠ 0 then s.stick Obj.TS_STATUS 1
  else if r.at80 * ns48 < s.now48 + ms48 1 then s.stick Obj.TS_STATUS 2
  else if s.rdB Obj.TS_VALID && !slew && !s.stepAllowed then s.stick Obj.TS_STATUS 3
  else if s.rdB Obj.TS_VALID && slew && decide (sec48 < r.offset48.natAbs) then s.stick Obj.TS_STATUS 1
  else s.setRequest (some r)

/-- A write to TS_SET_CMD (R140); CANCEL is refused by no rule. -/
def State.tsSetCmd (s : State) (cmd : Nat) : State :=
  match cmd with
  | 1 => s.tsSet false
  | 2 => s.tsSet true
  | _ => s.setRequest none

/-- TS_SET_STEP (R140). -/
def execTsSetStep (s : State) : Host.Outcome State Fault Refusal :=
  s.orHeld 10 .custodian .pcie Obj.TS_SET_CMD [1] [] <|
    .next (s.tsSetCmd 1).settle

/-- TS_SET_SLEW (R140). -/
def execTsSetSlew (s : State) : Host.Outcome State Fault Refusal :=
  s.orHeld 10 .custodian .pcie Obj.TS_SET_CMD [2] [] <|
    .next (s.tsSetCmd 2).settle

/-- TS_SET_CANCEL (R140). -/
def execTsSetCancel (s : State) : Host.Outcome State Fault Refusal :=
  s.orHeld 10 .custodian .pcie Obj.TS_SET_CMD [3] [] <|
    .next (s.tsSetCmd 3).settle

/-- The held request at its instant: a placement, a step as the policy now allows, or the load of a slew (R137, R140,
R162). -/
def State.tsApply (s : State) (r : SetRequest) : State :=
  let s1 := s.setRequest none
  if s.rdB Obj.TS_VALID && r.slew then
    let s2 := s1.tebHostSet r.unc r.offset48 true
    let x : Slew := { s2.ctl.slew with pend48 := r.offset48, lastInterval := false, sinceCycle := s2.clk.cycles }
    (({ s2 with ctl := { s2.ctl with slew := x } } : State).tebLog 5).tebCoefLog s
  else if s.rdB Obj.TS_VALID && !s.stepAllowed then s1.stick Obj.TS_STATUS 3
  else ((s1.tebHostSet r.unc r.offset48 false).applyStep r.offset48).tebCoefLog s

/-- TS_SET_APPLY: TS_SET_AT is reached (R140). -/
def execTsSetApply (s : State) : Host.Outcome State Fault Refusal :=
  match s.ctl.slew.request with
  | none => .next s
  | some r => match s.reach r.at80 with
    | none => .next s
    | some s1 => .next (s1.tsApply r).settle

/-! The slew engine (R136). -/

/-- The slew engine at an effect instant: what the last interval applied is taken from the pending offset; then the end of
the slew, a full interval at TS_SLEW_MAX, or the last interval. -/
def State.slewTick (s : State) : State :=
  let x := s.ctl.slew
  let left := x.pend48 - x.term * ((s.clk.cycles - x.sinceCycle : Nat) : Int)
  let full := s.slewMax.floor
  let limit : Rat := (s.rdN Obj.TS_SLEW_MAX : Rat) / 100 * (15625 / 1000000) * (ns48 : Nat)
  let next : Slew :=
    if x.lastInterval then { x with term := 0, pend48 := 0, lastInterval := false, sinceCycle := s.clk.cycles }
    else if left = 0 then { x with term := 0, pend48 := 0, sinceCycle := s.clk.cycles }
    else if limit ≤ ((left.natAbs : Nat) : Rat) then
      { x with term := if left < 0 then -full else full, pend48 := left, sinceCycle := s.clk.cycles }
    else { x with term := truncDiv left 15625000, pend48 := left, lastInterval := true, sinceCycle := s.clk.cycles }
  { s with ctl := { s.ctl with slew := next } }

/-! The effect instant of a Herd update (R98). -/

/-- The weights of the sets in force; a slot that has left QUALIFIED keeps weight 0 (R89). -/
def State.effectWeights (s : State) (eff : HerdEffect) : State :=
  s.forEach (l := List.range 24) (p := fun s n =>
    let on := s.slotState n == Sl.QUALIFIED
    (s.wrN (Obj.HD_W_TIME n) (if on then weightWord (entry eff.wTime n) else 0)).wrN (Obj.HD_W_FREQ n)
      (if on then weightWord (entry eff.wFreq n) else 0))

/-- The rate word takes effect, none holding it, and then LO-A's tuning (R116, R135); while block 4 is being restored every
word of Herd is held (R131). -/
def State.effectRate (s : State) (eff : HerdEffect) : State :=
  let held := s.unsafeBlock 4
  let s1 := ((s.rateEffect (if held then none else eff.rate)).tuneEffect eff.tune).slewTick.pathAdvance
  (s1.wr Obj.SV_RATE s1.ctl.slew.rateWord).when (!held) (·.wr Obj.FP_WORD eff.fpWord)

/-- The base returns to LO-A where every condition of R114 held at the update, and LO-A is still in service. The update's own
record has reported the rebase (Table 5-7). -/
def State.effectRevert (s : State) (eff : HerdEffect) : State :=
  if eff.revert && s.base == 1 && s.hd.loA.serving then
    let s1 := s.rebase 0
    ({ s1 with hd := { s1.hd with switched := s.hd.switched } } : State).raise Src.HD_LO_REVERT
  else s

/-- The placement or the one automatic step of an ACQUIRE episode (R137, R139). -/
def State.effectStep (s : State) (eff : HerdEffect) : State :=
  match eff.step48 with
  | none => s
  | some d =>
    if s.mode ≠ Mode.ACQUIRE then s
    else if !s.rdB Obj.TS_VALID then s.applyStep d
    else if !s.stepAllowed then s
    else
      let eval : EvalState := { s.ctl.eval with autoStepped := true }
      ({ s with ctl := { s.ctl with eval := eval } } : State).applyStep d

/-- The holder's STATE frame (Table 14-1). -/
def State.sendState (s : State) : State :=
  let cls := match s.dominant with | some n => s.slotClass n | none => 15
  let src := s.timeSource
  if s.ctl.lease.current then
    s.causeway 5 0 ([oct s.mode, oct cls] ++ beBytes 4 s.bound ++ beInt 2 (s.rd Obj.UTC_OFFSET) ++
      [oct (s.rdN Obj.UTC_LEAP_PEND), oct (s.rdN Obj.UTC_VALID), oct src.1] ++ beBytes 4 src.2)
  else s

/-- What an update hands over takes effect: sets, weights, rate and tuning words, slew term, bounds, the frequency path,
the step that the update called for. -/
def State.takeEffect (s : State) (eff : HerdEffect) : State :=
  let before := s.dominant
  let changed := s.hd.timeSet != eff.timeSet
  let s1 : State := { s with hd := { s.hd with timeSet := eff.timeSet, freqSet := eff.freqSet, effect := none } }
  let s1 := s1.effectWeights eff
  let s1 : State := { s1 with hd := { s1.hd with dominant := s1.heaviest } }
  let s2 := ((s1.effectRate eff).fosFollowAll.tebEffect eff).effectRevert eff
  let s3 := (s2.when changed (·.tebLog 3)).effectStep eff
  (if s3.dominant = before then s3 else s3.utcDominant).sendState

/-- HERD_EFFECT: 1 ms after the update (R98); held while the timescale is frozen (R115). -/
def execHerdEffect (s : State) : Host.Outcome State Fault Refusal :=
  match s.hd.effect with
  | none => .next s
  | some eff => match s.runTo eff.due48 with
    | none => .next s
    | some s1 => .next (s1.takeEffect eff).settle

end Sys2Proof.Machine
end

