-- ==== Sys2Proof/Machine/Sheepdog.lean ====
section
/-! DEFINITION. Parity and restoration (R368), the way out of FAULTSAFE (R412 to R414), test raises (R415), the event
counters' own commands (R419, R420), and the test access port (R440). -/

namespace Sys2Proof.Machine

/-! Parity (R368). -/

/-- The elements of a block that have a safe state of their own: slots; Trestle channels and then pairs; FOS; event
generators; GNSS bands 0–3 and receivers 4 and 5; ports; field ports; rules, policers from 64 on, classes from 128 on and gate lists from 200 on;
counters (R77, R96, R200, R226, R248, R301, R423). -/
def guardedElement (b i : Nat) : Bool :=
  match b with
  | 2 => decide (i < 24)
  | 3 => decide (i < 80)
  | 5 => decide (i < 8)
  | 6 => decide (i < 16)
  | 7 => decide (i < 6)
  | 8 => decide (i < 8)
  | 9 => decide (i < 2)
  | 13 => decide (i < 192) || decide (200 ≤ i ∧ i < 208)
  | 17 => decide (i < 128)
  | _ => false

/-- The blocks whose safe state is the whole block's. A word of any other block that belongs to no such element has none:
the words of the APLLs are restored without an effect (R181). -/
def wholeBlock (b : Nat) : Bool := !([2, 3, 5, 6, 7, 8, 9, 13, 17].contains b)

/-- The safe state an element takes at once: a QUALIFIED slot is SUSPENDED (R96), a channel goes to FAULT, but for one in OFF (log
entry 97), and a pair is disarmed (R77), a generator's pulse is cut (R193), a band's or receiver's channels coast (R226). The other elements act on it whenever they are used. -/
def State.elementSafe (s : State) (b i : Nat) : State :=
  match b with
  | 2 =>
    let n := if s.composite i then 23 else i
    s.when (s.slotState n == Sl.QUALIFIED) (·.slotSuspend n .host)
  | 3 =>
    if i < 48 then
      s.when ((s.channel i).state != .off) fun x => ((x.channelFault i).bootStep10).leftRun x
    else s.disarm (i - 48)
  | 6 => s.cutPulses
  | 7 => if i < 4 then s.bandCoast i else (s.bandCoast (2 * (i - 4))).bandCoast (2 * (i - 4) + 1)
  | _ => s

/-- The safe state a block takes at once: Herd's words are held with the effect of R125 (R131), a held set request is discarded (R154), every bound becomes
unbounded (R175). The others act on it whenever they are used. -/
def State.blockSafe (s : State) (b : Nat) : State :=
  match b with
  | 4 => s.herdHeld
  | 10 => s.setRequest none
  | 11 => s.tebPublish
  | _ => s

/-- The parity source of a block, with the failing word in its entry (Table 17-5). -/
def State.parityRaise (s : State) (b word : Nat) : State :=
  let n := 0x040 + b
  let s1 : State := { s with book := { s.book with guard := { s.book.guard with words := SMap.put 0 s.book.guard.words b word } } }
  if s1.active n then s1
  else (s1.wrN (Obj.SRC_STATE n) (setBit (s1.rdN (Obj.SRC_STATE n)) 2)).put
    { source := n, ends := false, detail := word, injected := false }

/-- PARITY_MISMATCH: a word of a block's configuration fails, `element` being the part of the block it belongs to where
that part has a safe state of its own (R368). -/
def execParityMismatch (block : Fin 20) (element : Option Nat) (index : BitVec 16) (sub : BitVec 8) (s : State) :
    Host.Outcome State Fault Refusal :=
  if s.mode = Mode.COLD then .next s
  else
    let g := s.book.guard
    let word := index.toNat * 2 ^ 16 + sub.toNat * 2 ^ 8
    let restoring := setBit g.restoring block
    match element with
    | none =>
      let safe := if wholeBlock block then setBit g.safe block else g.safe
      let s1 : State := { s with book := { s.book with guard := { g with restoring := restoring, safe := safe } } }
      .next ((s1.blockSafe block).parityRaise block word).close
    | some i =>
      if !guardedElement block i then .next s
      else
        let elements := if g.elements.contains (block.val, i) then g.elements else g.elements ++ [(block.val, i)]
        let s1 : State := { s with book := { s.book with guard := { g with restoring := restoring, elements := elements } } }
        .next ((s1.elementSafe block i).parityRaise block word).close

/-- Block `b` leaves its safe state: nothing of it stands in one any longer, and its parity source ends. -/
def State.guardOff (s : State) (b : Nat) : State :=
  let g := s.book.guard
  let n := 0x040 + b
  let s1 : State := { s with book := { s.book with guard :=
    { g with safe := clearBit g.safe b, failed := clearBit g.failed b, elements := g.elements.filter fun e => e.1 != b, words := SMap.put 0 g.words b 0 } } }
  if !s1.active n then s1
  else (s1.wrN (Obj.SRC_STATE n) (clearBit (s1.rdN (Obj.SRC_STATE n)) 2)).put
    { source := n, ends := true, detail := SMap.get 0 g.words b, injected := false }

/-- What an element does when its configuration has been rewritten: a slot suspended for it is qualified again (Table 4-7,
transition 9); a channel in FAULT passes to DLL_ACQ, or to OFF where it is not enabled (Table 3-2); a band may be searched again
(R226). -/
def State.elementBack (s : State) (b i : Nat) : State :=
  match b with
  | 2 =>
    let n := if s.composite i then 23 else i
    s.when (s.slotState n == Sl.SUSPENDED && s.slotReason n == slotReasonCode .host) (·.slotQualifying n none)
  | 3 => s.when (decide (i < 48) && (s.channel i).state == .fault) fun s => (s.channelOff i).channelStart i
  | 7 => if i < 4 then s.bandSearch i else (s.bandSearch (2 * (i - 4))).bandSearch (2 * (i - 4) + 1)
  | _ => s

/-- The end of a restoration (R368): the block returns, or stays in its safe state where a shadow word fails too, from which no
later restoration brings it back. TEB's bounds wait for the next update (R175); the rings and Trestle's records go on (R402). -/
def State.restored (s : State) (b : Nat) (ok : Bool) : State :=
  let g := s.book.guard
  let failed := if ok then g.failed else setBit g.failed b
  let s1 : State := { s with book := { s.book with guard := { g with restoring := clearBit g.restoring b, failed := failed } } }
  if !ok then s1.raise Src.OD_SHADOW_FAIL
  else if bitOn failed b then s1
  else
    let back := g.elements.filter fun e => e.1 == b
    let s2 := (s1.guardOff b).forEach (l := back) (p := fun s e => s.elementBack e.1 e.2)
    let s3 : State := if b = 11 then { s2 with teb := { s2.teb with blocked := true } } else s2
    s3.when (b == 19) State.allRingsGoOn

/-! FAULTSAFE (R412 to R414). -/

/-- The instant at which FS_QUIET has elapsed (R413). -/
def State.quietEnd (s : State) : Nat := s.ctl.fs.disturbed48 + ms48 (s.rdN Obj.FS_QUIET)

/-- Transition 20: one more exit, and what the mode becomes (R413, R414). -/
def State.leaveFaultsafe (s : State) : State :=
  let s1 := s.bump Obj.FS_RECOV_CNT
  let fs := { s1.ctl.fs with exits48 := s1.recentExits ++ [s1.live48] }
  ((({ s1 with ctl := { s1.ctl with fs := fs } } : State).noCauses).leaveTo 20).logFs 3

/-- R413 applies, and no causing source is ACTIVE. -/
def State.mayLeave (s : State) : Bool :=
  s.mode == Mode.FAULTSAFE && !s.rdB Obj.FS_LATCHED && s.causing.all fun n => !s.active n

/-- FAULTSAFE_EXIT (R413). -/
def execFaultsafeExit (s : State) : Host.Outcome State Fault Refusal :=
  if !s.mayLeave then .next s
  else match s.liveTo s.quietEnd with
    | none => .next s
    | some s1 => .next s1.leaveFaultsafe.close

/-- FS_ANN_HOLD_EXPIRY: the time for which ANNOUNCE continues has passed; from here on `pktService` gives none (R412). -/
def execFsAnnHoldExpiry (s : State) : Host.Outcome State Fault Refusal :=
  if s.mode ≠ Mode.FAULTSAFE then .next s
  else match s.liveTo (s.ctl.fs.entered48 + s.rdN Obj.FS_ANN_HOLD * sec48) with
    | none => .next s
    | some s1 => .next s1.settle

/-- The effect of a 1 written to FS_RELEASE (R414). -/
def State.fsRelease (s : State) : State :=
  if !s.rdB Obj.FS_LATCHED then s
  else
    let s1 := (s.wrN Obj.FS_LATCHED 0).cond Src.FS_LATCHED false
    let s2 := ({ s1 with ctl := { s1.ctl with fs := { s1.ctl.fs with exits48 := [] } } } : State).logFs 5
    if s2.mayLeave && decide (s2.quietEnd ≤ s2.live48) then s2.leaveFaultsafe else s2

/-- FS_RELEASE (R414). -/
def execFsRelease (s : State) : Host.Outcome State Fault Refusal :=
  s.orHeld 16 .custodian .pcie Obj.FS_RELEASE [1] [] <|
    .next s.fsRelease.close

/-- The effect of a write of SD_INJECT: an assigned source raises once, as an event source, in FACTORY alone (R415). -/
def State.inject (s : State) (n : Nat) : State :=
  s.when (s.mode == Mode.FACTORY && (sourceRow? n).isSome) (·.put { source := n, ends := false, detail := 0, injected := true })

/-- SD_INJECT (R415). -/
def execSdInject (source : BitVec 16) (s : State) : Host.Outcome State Fault Refusal :=
  s.orHeld 16 .custodian .pcie Obj.SD_INJECT (leBytes 2 source.toNat) [] <|
    .next (s.inject source.toNat).settle

/-! Event counters (R419, R420). -/

/-- CTR_FREEZE_WRITE (R419). -/
def execCtrFreezeWrite (v : Bool) (s : State) : Host.Outcome State Fault Refusal :=
  s.orHeld 17 .custodian .pcie Obj.CTR_FREEZE [flag8 v] [] <|
    .next (s.wr Obj.CTR_FREEZE (flag v)).settle

/-- The effect of a write of CTR_VALUE; `lost` is the increment of the same cycle, which it overrides, and a carry that this
increment would have given is dropped (R420). -/
def State.setCounter (s : State) (n v lost : Nat) : State :=
  let wraps := s.chained n && s.rdB (Obj.CTR_EN n) && !s.unsafeElement 17 n && !s.rdB Obj.CTR_FREEZE && decide (2 ^ 32 ≤ s.rdN (Obj.CTR_VALUE n) + lost)
  (s.when wraps (·.dropCarry n)).wrN (Obj.CTR_VALUE n) v

/-- CTR_VALUE_WRITE (R420). -/
def execCtrValueWrite (counter : Fin 128) (value : BitVec 32) (coincident : Fin 9221) (s : State) :
    Host.Outcome State Fault Refusal :=
  s.orHeld 17 .custodian .pcie (Obj.CTR_VALUE counter) (leBytes 4 value.toNat) [] <|
    .next (s.setCounter counter value.toNat coincident).settle

/-! The test access port (R440). -/

/-- What IDCODE reads: version 1, part 0x4810, manufacturer code 0x11D (R440). -/
def idcode : BitVec 32 := 0x1481023B

/-- The data register that the loaded instruction shifts out after its capture: IDCODE's word, least significant bit first, or
the single 0 of BYPASS; the boundary register of the other two holds what the balls carry, which is not the engine's state. -/
def State.tapCapture (s : State) : Option (List Bool) :=
  match s.jtag.instruction with
  | .idcode => some ((List.range 32).map fun i => idcode.getLsbD i)
  | .bypass => some [false]
  | _ => none

/-- JTAG_INSTRUCTION_LOAD: EXTEST takes the balls; any instruction beyond the four acts as BYPASS outside FACTORY (R440). -/
def execJtagInstructionLoad (instruction : Jtag) (s : State) : Host.Outcome State Fault Refusal :=
  let i := if instruction = .other ∧ s.mode ≠ Mode.FACTORY then .bypass else instruction
  .next ({ s with jtag := { instruction := i, extest := i == .extest } } : State).settle

end Sys2Proof.Machine
end

