-- ==== Sys2Proof/Machine/Boot.lean ====
section
/-! DEFINITION. Resets, start-up and the supplies (R38 to R53, R302 to R304, R321, R358). -/

namespace Sys2Proof.Machine

/-! What a reset keeps and clears (Table 2-6). -/

/-- The objects in non-volatile memory, which every reset keeps (R309, R321). -/
def keptKeys : List Nat := [Obj.KS_GEN_HIGH.key, Obj.FW_MIN_SVN.key, Obj.FW_BOOT_BANK.key]

/-- Those that a soft reset keeps besides: the lock bits, the first-fault record and the log's numbering, and the PCIe
link. -/
def softKeys : List Nat :=
  [Obj.FF_STATUS.key, Obj.FF_SOURCE.key, Obj.FF_SEVERITY.key, Obj.FF_TIME.key, Obj.FF_MODE.key, Obj.FLOG_NEXT.key,
    Obj.HL_LINK.key] ++ (List.range 7).map fun i => (Obj.LOCK i).key

/-- The key cells as a reset leaves them: a zeroisation runs to its end (R51), and the record in writing completes, which
commits an operation whose last record it is (R50). -/
def State.cellsSettled (s : State) : Keystone :=
  let k := if s.ks.zeroising then s.erased.ks else s.ks
  match k.cells with
  | [] => k
  | op :: _ =>
    if 1 < op.recordsLeft then k
    else match op.commit with
      | .slot _ n _ x => k.place n x
      | .root r => k.placeRoot r
      | .helper r => k.placeRoot r
      | .provision key gen => k.placeCustodian key gen

/-- The block with everything cleared that a reset clears: kept are the key cells, the flash, the always-on domain, the levels
at the pins, and after a soft reset what Table 2-6 adds. The counts of values drawn are the model's own and go on. -/
def State.wiped (s : State) (soft : Bool) : State :=
  let k := s.cellsSettled
  let e := if s.ks.zeroising then s.erased else s
  let objs := e.book.objs.filter fun x => keptKeys.contains x.1 || (soft && softKeys.contains x.1)
  let boot := { Ctl.reset.boot with factoryEn := s.ctl.boot.factoryEn, cwrole := s.ctl.boot.cwrole }
  { State.reset with
    pending := s.pending,
    book := { Book.reset with
      objs := objs, out := s.book.out,
      flog := if soft then s.book.flog else [],
      msix := if soft then s.book.msix else [],
      msixPending := if soft then s.book.msixPending else 0,
      pci := if soft then s.book.pci else PciConfig.reset },
    ctl := { Ctl.reset with boot := boot, supply := { s.ctl.supply with released48 := 0 } },
    aon := e.aon,
    jtag := s.jtag,
    ks := { Keystone.reset with
      slots := k.slots, older := k.older, genHigh := e.rdN Obj.KS_GEN_HIGH, root := k.root, rootOlder := k.rootOlder,
      enrolments := k.enrolments, seeds := k.seeds, draws := k.draws, cause := k.cause, causeMode := k.causeMode,
      zeroised := k.zeroised, bootCount := k.bootCount, voltageArmed := k.voltageArmed },
    hd := { Herd.reset with
      loA := { Herd.reset.loA with warm := s.hd.loA.warm }, loB := { Herd.reset.loB with warm := s.hd.loB.warm } },
    gn := { Gnss.reset with propagated := s.gn.propagated },
    net := { Net.reset with
      phases := s.net.phases,
      fps := s.net.fps.foldl (fun (m : List (Nat × FieldPort)) f =>
        SMap.put FieldPort.reset m f.1 { FieldPort.reset with draws := f.2.draws }) [] },
    bw := { Bellwether.reset with pairRecord := e.bw.pairRecord } }

/-- The inhibit of a rail shows: its bits in SAG_STATUS, and its source (R53, Tables 2-9 and 2-11). -/
def State.sagShow (s : State) (rail : SagRail) : State :=
  let n := match rail with | .vddaux => 0 | .vbat => 1
  ((s.wrN Obj.SAG_STATUS (setBit (s.rdN Obj.SAG_STATUS) n)).stick Obj.SAG_STATUS (2 + n)).cond
    (match rail with | .vddaux => Src.SAG_VDDAUX | .vbat => Src.SAG_VBAT) true

/-- SAG_STATUS of a block that has been reset, from the conditions that hold. -/
def State.sagAgain (s : State) : State :=
  let s1 := s.when s.ctl.supply.vbatAbsent (·.wrN Obj.SAG_STATUS (setBit (s.rdN Obj.SAG_STATUS) 4))
  (s1.when s.ctl.supply.vddauxLow (·.sagShow .vddaux)).when (s.ctl.supply.vbatLow && !s.ctl.supply.vbatAbsent) (·.sagShow .vbat)

/-- The block in COLD, entered from mode `old` by transition `num`. -/
def State.coldFrom (s : State) (old num : Nat) : State :=
  let s1 := s.wiped false
  let s2 : State := { s1 with ctl := { s1.ctl with boot := { s1.ctl.boot with step := 0 } } }
  ((s2.wrN Obj.MODE_CURRENT Mode.COLD).wrN Obj.MODE_PREVIOUS old).wrN Obj.MODE_REASON num

/-- Transition 2 (Table 2-3). -/
def State.toCold (s : State) : State := s.coldFrom s.mode 2

/-- BOOT begins, by transition 1 or 3: steps 1 and 2, and the wait for the images (Table 2-4). A paired unit is no holder
(R338); the boot count goes up (R305); what the always-on log holds is reported (R53). -/
def State.toBoot (s : State) (num old : Nat) : State :=
  let boot := { s.ctl.boot with step := 3, firstStart := s.ks.root.isNone }
  let s1 : State := { s with
    ctl := { s.ctl with boot := boot, lease := { s.ctl.lease with current := !s.paired } },
    ks := { s.ks with bootCount := s.ks.bootCount + 1 },
    aon := { s.aon with reported := s.aon.log.length } }
  let s2 := ((s1.wrN Obj.MODE_CURRENT Mode.BOOT).wrN Obj.MODE_PREVIOUS old).wrN Obj.MODE_REASON num
  (s2.when s2.paired fun s =>
    ((s.wrN Obj.BW_PAIRED 1).wrN Obj.BW_UNIT (s.ctl.boot.cwrole - 1)).wrN Obj.BW_ROLE 2).sagAgain

/-- The straps as sampled (R433). -/
def State.strapped (s : State) (factoryEn : Bool) (cwrole : Nat) : State :=
  { s with ctl := { s.ctl with boot := { s.ctl.boot with factoryEn := factoryEn, cwrole := cwrole } } }

/-- HRST_N as the engine sees it. -/
def State.hrstTo (s : State) (low : Bool) : State :=
  { s with ctl := { s.ctl with supply := { s.ctl.supply with hrstLow := low } } }

/-- POWER_ON_RESET_RELEASE: whether VBAT is absent is decided here, and the voltage source is armed; with HRST_N high,
transition 1, else the block stays in COLD (R32, R44, R48, R323). -/
def execPowerOnResetRelease (factoryEn : Bool) (cwrole : Fin 4) (vbatPresent : Bool) (s : State) :
    Host.Outcome State Fault Refusal :=
  if s.mode ≠ Mode.COLD ∨ s.ks.voltageArmed = true then .next s
  else
    let s1 := s.coldFrom (s.rdN Obj.MODE_PREVIOUS) (s.rdN Obj.MODE_REASON)
    let supply := { s1.ctl.supply with vbatAbsent := !vbatPresent, vbatLow := s1.ctl.supply.vbatLow && vbatPresent }
    let s2 : State := { s1 with ctl := { s1.ctl with supply := supply }, ks := { s1.ks with voltageArmed := true } }
    .next (if s.ctl.supply.hrstLow then s2 else (s2.strapped factoryEn cwrole).toBoot 1 Mode.COLD).settle

/-- VDD_BELOW_THRESHOLD: power-on reset asserts, and the always-on log keeps the event (R48, R53). -/
def execVddBelowThreshold (s : State) : Host.Outcome State Fault Refusal :=
  let s1 := if s.mode = Mode.COLD then s else s.toCold
  let s2 : State := { s1 with ks := { s1.ks with voltageArmed := false }, jtag := TestPort.reset }
  .next (if s.ks.voltageArmed then s2.logAlwaysOn 16 s.mode else s2).settle

/-- HRST_N_LOW: a hard reset (R44). -/
def execHrstNLow (s : State) : Host.Outcome State Fault Refusal :=
  .next ((if s.mode = Mode.COLD then s else s.toCold).hrstTo true).settle

/-- HRST_N_RELEASE: HRST_N is high again; with the rails up and power-on reset released, transition 1 (R32, R44). -/
def execHrstNRelease (factoryEn : Bool) (cwrole : Fin 4) (s : State) : Host.Outcome State Fault Refusal :=
  let s1 := s.hrstTo false
  if s.mode ≠ Mode.COLD ∨ s.ks.voltageArmed = false then .next s1
  else .next (((s1.wiped false).strapped factoryEn cwrole).toBoot 1 Mode.COLD).settle

/-- The effect of a write of SOFT_RESET: a holder first ends its lease and mutes; then transition 3 (R44, R46). -/
def State.softReset (s : State) (v : Nat) : State :=
  if v ≠ 0x5A17 ∨ s.open = false then s else ((s.dropLease 1 1 true).wiped true).toBoot 3 s.mode

/-- SOFT_RESET (R46). -/
def execSoftReset (value : BitVec 32) (s : State) : Host.Outcome State Fault Refusal :=
  s.orHeld 1 .custodian .pcie Obj.SOFT_RESET (leBytes 4 value.toNat) [] <|
    .next (s.softReset value.toNat).settle

/-! Block reset (R45, Table 15-3). -/

/-- Herd's part: nothing estimated is left, and the words are held (R125). -/
def State.herdDiscard (s : State) : State :=
  { s with hd := { s.hd with
      filters := [], timeSet := [], freqSet := [], dominant := none, ensemble := none, model := none, heldModel := none, varY := 0, varD := 0, history := [],
      effect := none, assist := none, path := { s.hd.path with hasPhase := false, since48 := [] } } }

/-- The effect of a block reset on one block. -/
def State.resetBlock (b : Nat) (s : State) : State :=
  match b with
  | 2 => (s.setSlEnable false).forEach (l := List.range 24) (p := State.filterRestart)
  | 3 => (s.setTrEnable false).leftRun s
  | 4 => (s.setHdEnable false).herdDiscard
  | 5 =>
    let s1 := s.forEach (l := List.range 8) (p := fun s f => s.when (s.fosState f != 0) (·.fosStart f))
    s1.forEach (l := List.range 16) (p := State.outCleared)
  | 6 =>
    let s1 := (s.wr Obj.EV_ENABLE 0).forEach (l := List.range 4) (p := fun s g => s.setGrpEn g false)
    s1.forEach (l := List.range 16) (p := State.evtStop)
  | 7 => s.setGnEnable false
  | 8 => s.setEthEnable false
  | 9 => s.forEach (l := [0, 1]) (p := fun s f => s.when (s.rdB (Obj.FP_EN f)) fun s => (s.setFpEn f false).setFpEn f true)
  | 11 => ({ s with teb := { s.teb with blocked := true } } : State).tebPublish
  | 12 =>
    let s1 := ((s.wrN Obj.TPE_ENABLE 0).discardAll 0x1C).watched s
    let calendar := s1.tpe.calendar.filter fun e => match e.owner with | .client _ _ => false | _ => true
    ({ s1 with tpe := { s1.tpe with fold := [], cache := [], calendar := calendar } } : State).setBw fun x =>
      { x with synced := false }
  | 13 => { s with
      tpe := { s.tpe with calendar := s.tpe.calendar.map fun e => { e with elig16 := none, ready := false, rest := none }, pacers := [] },
      net := { s.net with buckets := [] } }
  | 15 => (s.setBwEnable false).setBw fun x => { x with journal := [], ackSince48 := none, synced := false, gap := false }
  | 17 => s.forEach (l := List.range 128) (p := fun s n => s.wrN (Obj.CTR_VALUE n) 0)
  | _ => s

/-- The blocks that a block reset resets (Table 15-3). -/
def resettable (b : Nat) : Bool := [2, 3, 4, 5, 6, 7, 8, 9, 11, 12, 13, 15, 17].contains b

/-- A block reset: each selected block in turn, which thereby leaves a safe state that its shadow copy could not end
(R368). -/
def State.blockReset (s : State) (mask : Nat) : State :=
  s.forEach (l := (List.range 20).filter fun b => bitOn mask b && resettable b) (p := fun s b =>
    let s1 := s.resetBlock b
    let g := s1.book.guard
    if !bitOn g.restoring b then s1.guardOff b
    else { s1 with book := { s1.book with guard := { g with failed := clearBit g.failed b } } })

/-- BLOCK_RESET (R45). -/
def execBlockReset (mask : BitVec 32) (s : State) : Host.Outcome State Fault Refusal :=
  s.orHeld 1 .custodian .pcie Obj.BLOCK_RESET (leBytes 4 mask.toNat) [] <|
    .next (if s.open then (s.blockReset mask.toNat).close else s).settle

/-! BOOT (Table 2-4). -/

/-- BOOT goes on with step `n`. -/
def State.bootTo (s : State) (n : Nat) : State := { s with ctl := { s.ctl with boot := { s.ctl.boot with step := n } } }

/-- FIRMWARE_VERIFY_COMPLETE: the bank that FW_BOOT_BANK names, then the other; each rejected image is raised; without one
BOOT stays here (R39, R321). The image's boot configuration block is read at step 11 (R399). -/
def execFirmwareVerifyComplete (image0 image1 : FwImage) (s : State) : Host.Outcome State Fault Refusal :=
  if s.mode ≠ Mode.BOOT ∨ s.ctl.boot.step ≠ 3 ∨ s.ctl.boot.noImage = true then .next s
  else
    let bank := bitsAt (s.rdN Obj.FW_BOOT_BANK) 0 1
    let at? := fun (b : Nat) => if b = 0 then image0 else image1
    let run := fun (s : State) (b : Nat) =>
      let s1 := s.wrN Obj.FW_RUN (b * 2 ^ 32 + (at? b).svn % 2 ^ 32)
      ({ s1 with ctl := { s1.ctl with boot := { s1.ctl.boot with config := some (at? b).config } } } : State).bootTo 4
    if s.accepts (at? bank) then .next (run s bank).settle
    else
      let s1 := s.raise Src.KS_FW_REJECT
      if s1.accepts (at? (1 - bank)) then .next (run s1 (1 - bank)).settle
      else
        let s2 := s1.raise Src.KS_FW_REJECT
        .next ({ s2 with ctl := { s2.ctl with boot := { s2.ctl.boot with noImage := true } } } : State).settle

/-- The PUF is enrolled: its present response gives new helper data, and with it the PUF key of a new number. -/
def State.enrol (s : State) : State × Nat :=
  let n := s.ks.enrolments
  ({ s with ks := { s.ks with enrolments := n + 1, puf := some n } }, n)

/-- Re-enrolment: new helper data, with the root wrapped under its PUF key, is handed in as one update of two records; under the
inhibit it completes with BROWNOUT, and the PUF key stays what it was (R304). -/
def State.reenrol (s : State) (r : RootRecord) : State :=
  let n := s.ks.enrolments
  let x : RootRecord := { r with helper := n, under := n, recordGen := r.recordGen + 1 }
  ({ s with ks := { s.ks with enrolments := n + 1 } } : State).cellsAppend { recordsLeft := 2, commit := .helper x }

/-- PUF_REGENERATION: enrolment at a first start; otherwise the array's response, corrected by the helper data, gives the PUF key
and the root is unwrapped, in `failures` + 1 attempts, with a re-enrolment above 8 %; eight failures assert ZEROISE (R42, R303,
R304). After a tamper alarm in this BOOT neither a root is unwrapped nor one made. -/
def execPufRegeneration (failures : Fin 9) (ber : Fin 10001) (s : State) : Host.Outcome State Fault Refusal :=
  if s.mode ≠ Mode.BOOT ∨ s.ctl.boot.step ≠ 4 then .next s
  else if s.ctl.boot.zeroised then .next (s.bootTo 6).settle
  else match s.ks.root with
    | none => .next (s.enrol.1.bootTo 5).settle
    | some r => match r.unwrapped with
      | none => .next (((s.raise Src.KS_PUF_FAIL).zeroise 10).bootTo 6).settle
      | some root =>
        if failures.val = 8 then .next (((s.raise Src.KS_PUF_FAIL).zeroise 10).bootTo 6).settle
        else
          let s1 := (({ s with ks := { s.ks with puf := some r.helper, rootKey := some root } } : State).wrN Obj.PUF_BER ber).bootTo 6
          if ber.val ≤ 800 then .next s1.settle else .next ((s1.raise Src.KS_PUF_MARGIN).reenrol r).settle

/-- ROOT_GENERATION: the DRBG is instantiated from 512 bits of entropy, the root is drawn, and its record, wrapped under the PUF
key, and the helper data are to be written (R302); under an inhibit or
without entropy BOOT waits here and tries again (R41). -/
def execRootGeneration (s : State) : Host.Outcome State Fault Refusal :=
  if s.mode ≠ Mode.BOOT ∨ s.ctl.boot.step ≠ 5 then .next s
  else if s.ctl.boot.zeroised then .next (s.bootTo 6).settle
  else if s.inhibited || s.ks.trngFailed || !s.ks.cells.isEmpty then .next s
  else
    let d := s.seeded.draw 1
    let n := s.ks.puf.getD 0
    let r : RootRecord :=
      { number := d.2, helper := n, under := n, value := (Config.random d.2).extractLsb' 0 256, recordGen := 1 }
    .next (d.1.cellsAppend { recordsLeft := 2, commit := .root r }).settle

/-- LO_ELIGIBLE: an LO whose flag is high and whose frequency was measured within a window is taken, LO-A before LO-B, and
each such LO is in service (R40, R178). -/
def execLoEligible (s : State) : Host.Outcome State Fault Refusal :=
  let a := s.hd.loA.warm && s.hd.loA.seen
  let b := s.hd.loB.warm && s.hd.loB.seen
  if s.mode ≠ Mode.BOOT ∨ s.ctl.boot.step ≠ 6 ∨ (a || b) = false then .next s
  else
    let hd := { s.hd with loA := { s.hd.loA with serving := a }, loB := { s.hd.loB with serving := b } }
    .next ((({ s with hd := hd } : State).wrN Obj.LO_SEL (if a then 0 else 1)).bootTo 7).settle

/-- DRAM_TRAINING_COMPLETE: step 11, and step 12, which clears SRAM; a failure leads to FAULTSAFE at the end of BOOT (R41). The
key of the Fold's hash is drawn (R253). -/
def execDramTrainingComplete (ok : Bool) (s : State) : Host.Outcome State Fault Refusal :=
  if s.mode ≠ Mode.BOOT ∨ s.ctl.boot.step ≠ 11 then .next s
  else
    let d := s.draw 1
    let s1 : State := { d.1 with tpe := { d.1.tpe with hashDraw := d.2, cache := [] } }
    let s2 := (s1.wrN Obj.DRAM_STATE (if ok then 2 else 3)).bootTo 13
    .next (s2.when (!ok) (·.raise Src.DRAM_TRAIN_FAIL)).settle

/-- Transition 7, in the cycle after transition 5 and where it is allowed, zeroises Keystone (R37, Table 2-3). -/
def State.toFactory (s : State) : State :=
  if s.mode = Mode.UNPROVISIONED ∧ (s.ctl.boot.factoryEn && !s.locked 1) = true then
    (((s.runCycles 1).modeTo 7 Mode.FACTORY).zeroise 11).settle
  else s

/-- What leaves BOOT: ZEROISED after an alarm, FAULTSAFE after a fault with that reaction, UNPROVISIONED without a Custodian
credential, otherwise service (R35, Table 2-3). -/
def State.bootExit (s : State) : State :=
  if s.ctl.boot.zeroised then s.modeTo 4 Mode.ZEROISED
  else if s.ctl.boot.fault then s.enterFaultsafe 19
  else if s.keyState 7 = Key.ACTIVE ∨ s.keyState 7 = Key.RETIRING then s.enterService 6
  else s.modeTo 5 Mode.UNPROVISIONED

/-- BOOT_COMPLETE: step 13 ends; the field ports, rings and dictionary are open, and the slots start (R38, R43). -/
def execBootComplete (s : State) : Host.Outcome State Fault Refusal :=
  if s.mode ≠ Mode.BOOT ∨ s.ctl.boot.step ≠ 13 then .next s
  else
    let s1 := (s.bootTo 14).forEach (l := [0, 1]) (p := fun s f => s.when (s.rdB (Obj.FP_EN f)) (·.wrN (Obj.FP_STATE f) 1))
    let s2 := s1.bootExit
    .next ((s2.when s2.monitorsRun State.slotsStart).close).toFactory

/-! Lock bits and supplies. -/

/-- LOCK_BIT_SET (R47). -/
def execLockBitSet (bit : Fin 7) (s : State) : Host.Outcome State Fault Refusal :=
  s.orHeld 1 .custodian .pcie (Obj.LOCK bit) [1] [] <|
    .next (s.wrN (Obj.LOCK bit) 1).settle

/-- SUPPLY_INHIBIT_ASSERT: a rail stays below its threshold for 1 µs. An absent VBAT has no condition; with the main supplies
off the always-on log keeps the event (R48, R53). -/
def execSupplyInhibitAssert (rail : SagRail) (s : State) : Host.Outcome State Fault Refusal :=
  let x := s.ctl.supply
  let held := match rail with | .vddaux => x.vddauxLow | .vbat => x.vbatLow || x.vbatAbsent
  if held then .next s
  else
    let supply := match rail with | .vddaux => { x with vddauxLow := true } | .vbat => { x with vbatLow := true }
    let s1 : State := { s with ctl := { s.ctl with supply := supply } }
    if s.mode ≠ Mode.COLD then .next (s1.sagShow rail).settle
    else if s.ks.voltageArmed then .next s1.settle
    else .next (s1.logAlwaysOn (match rail with | .vddaux => 17 | .vbat => 18) s.mode).settle

/-- SUPPLY_INHIBIT_RELEASE: the rail has stayed above its release level for 10 ms (R48). -/
def execSupplyInhibitRelease (rail : SagRail) (s : State) : Host.Outcome State Fault Refusal :=
  let x := s.ctl.supply
  let held := match rail with | .vddaux => x.vddauxLow | .vbat => x.vbatLow && !x.vbatAbsent
  if !held then .next s
  else
    let y := match rail with | .vddaux => { x with vddauxLow := false } | .vbat => { x with vbatLow := false }
    let s1 : State := { s with ctl := { s.ctl with supply := { y with released48 := s.up48 } } }
    let n := match rail with | .vddaux => 0 | .vbat => 1
    if s.mode = Mode.COLD then .next s1.settle
    else .next ((s1.wrN Obj.SAG_STATUS (clearBit (s1.rdN Obj.SAG_STATUS) n)).cond
      (match rail with | .vddaux => Src.SAG_VDDAUX | .vbat => Src.SAG_VBAT) false).settle

end Sys2Proof.Machine
end

