-- ==== Sys2Proof/Machine/FieldTx.lean ====
section
/-! DEFINITION. The transmissions of a field port: their ends, collisions and the PHY link, with what waits for a reply to
have been sent (R243, R244, R246, R358). -/

namespace Sys2Proof.Machine

/-- What waited for a reply on field port `f` is done: the port stops, blocks are reset, or an installed unit enters service
(R246, R320, R358). -/
def State.nowAfter (s : State) (f : Nat) (a : AfterReply) : State :=
  match a with
  | .stop => s.setFpEn f false
  | .reset mask => s.blockReset mask
  | .serve => s.installed

/-- Everything on field port `f` whose reply has left is done, in the order in which it was asked for. -/
def State.replied (s : State) (f : Nat) : State :=
  let due := ((s.fp f).after.filter fun a => a.1 == 0).map (·.2)
  let s1 := s.setFp f { s.fp f with after := (s.fp f).after.filter fun a => a.1 != 0 }
  if due = [] then s1 else (s1.forEach (l := due) (p := fun s a => s.nowAfter f a)).close

/-- The frame at the head of field port `f` is done with, and what waited for it happens. -/
def State.fpDone (s : State) (f : Nat) : State := (s.fpNext f).replied f

/-- FP_DEFERRAL_END: CRS has fallen, which also ends the port's own transmission, and after the interframe gap the next
frame starts (R243). -/
def execFpDeferralEnd (fp : Fin 2) (s : State) : Host.Outcome State Fault Refusal :=
  let s1 := s.setFp fp { s.fp fp with idle := true }
  match (s.fp fp).phase with
  | .sending => .next ((s1.fpDone fp).fpSend fp).settle
  | .deferring => .next (s1.fpSend fp).settle
  | .backoff _ => .next s1

/-- FP_COLLISION: the frame backs off, or is discarded at its 16th collision or on a late one (R244). -/
def execFpCollision (fp : Fin 2) (late : Bool) (s : State) : Host.Outcome State Fault Refusal :=
  if (s.fp fp).phase ≠ .sending then .next s
  else
    let s1 := s.count (0x1EA + fp) 1
    let x := s1.fp fp
    let n := x.collisions + 1
    if late then .next ((s1.fpStick fp 1).fpDone fp).settle
    else if 16 ≤ n then .next (((s1.fpStick fp 0).raise (Src.FP_EXCESS_COLL fp)).fpDone fp).settle
    else
      let due := s1.up48 + backoffSlots x.draws n * 51200 * ns48
      .next (s1.setFp fp { x with collisions := n, draws := x.draws + 1, phase := .backoff due }).settle

/-- FP_LINK_POLL: the PHY's link status. A link that goes down discards what was to be sent; the port still stops, and an
installed unit still enters service, where the reply was among that, and a block reset whose reply cannot be sent is not
made (R246, R320, R358; log entry 23). -/
def execFpLinkPoll (fp : Fin 2) (up : Bool) (s : State) : Host.Outcome State Fault Refusal :=
  if s.rdB (Obj.FP_EN fp) = false ∨ s.open = false then .next s
  else if up then .next ((s.wrN (Obj.FP_STATE fp) 2).cond (Src.FP_LINK_DOWN fp) false).settle
  else if s.rdN (Obj.FP_STATE fp) = 2 then
    let s0 := s.endSession (if fp = 0 then .fp0 else .fp1)
    let s1 := (((s0.wrN (Obj.FP_STATE fp) 1).fpEmpty fp).fpStick fp 5).cond (Src.FP_LINK_DOWN fp) true
    let stops := (s.fp fp).after.any fun a => a.2 == .stop
    let serves := (s.fp fp).after.any fun a => a.2 == .serve
    let s2 := s1.settle.when stops fun s => (s.setFpEn fp false).settle
    .next (s2.when serves fun s => s.installed.settle)
  else .next (s.wrN (Obj.FP_STATE fp) 1).settle

end Sys2Proof.Machine
end

