-- ==== Sys2Proof/Machine/Status.lean ====
section
/-! DEFINITION. What a read finds where the value is no stored one: live bits of status words, counts and remaining times,
bounds, tables and lists. -/

namespace Sys2Proof.Machine

/-- A status word with its live bits put in. -/
def State.liveWord (s : State) (r : Reg) (bits : List (Nat × Bool)) : Int :=
  ((bits.foldl (fun (w : Nat) (b : Nat × Bool) => putBit w b.1 b.2) (s.rdN r) : Nat) : Int)

/-- OD_STATUS (Table 15-12). -/
def State.odStatus (s : State) : Int := s.liveWord Obj.OD_STATUS [(8, s.book.guard.restoring != 0)]

/-- SNAP_STATUS (Table 6-4). -/
def State.snapStatus (s : State) : Int :=
  s.liveWord Obj.SNAP_STATUS [(2, s.snap.nowPending || s.snap.atPending.isSome)]

/-- TR_STATUS (Table 3-5). -/
def State.trStatus (s : State) : Int :=
  s.liveWord Obj.TR_STATUS [(7, (List.range 48).any fun c => (s.channel c).state == .cal),
    (6, (List.range 48).any s.tableStale)]

/-- TS_STATUS (Table 6-5). -/
def State.tsStatus (s : State) : Int :=
  s.liveWord Obj.TS_STATUS [(11, s.ctl.slew.request.isSome), (10, s.rdN Obj.UTC_LEAP_PEND != 0),
    (9, s.ctl.slew.pend48 != 0 || s.ctl.slew.lastInterval), (8, s.clk.frozen)]

/-- TEB_STATUS (Table 7-8). -/
def State.tebStatus (s : State) : Int :=
  s.liveWord Obj.TEB_STATUS [(6, s.bound == 0xFFFFFFFF), (5, s.teb.pin), (4, s.teb.held)]

/-- SYN_STATUS (Table 8-7). -/
def State.synStatus (s : State) : Int := s.liveWord Obj.SYN_STATUS [(9, s.apllB), (8, s.apllA)]

/-- EV_STATUS (Table 8-7). -/
def State.evStatus (s : State) : Int := s.liveWord Obj.EV_STATUS [(9, s.calRunning)]

/-- GN_STATUS: a receiver has a time solution in SURVEY and in HOLD (Table 9-9, R218). -/
def State.gnStatus (s : State) : Int :=
  s.liveWord Obj.GN_STATUS [(9, decide (3 ≤ s.rdN (Obj.RX_STATE 1))), (8, decide (3 ≤ s.rdN (Obj.RX_STATE 0)))]

/-- TPE_STATUS (Table 11-11). -/
def State.tpeStatus (s : State) : Int :=
  s.liveWord Obj.TPE_STATUS [(9, !s.tpe.fences.isEmpty), (8, (List.range 4).any fun pl => s.inPipeline pl == 256)]

/-- KS_STATUS (Table 13-13). -/
def State.ksStatus (s : State) : Int :=
  s.liveWord Obj.KS_STATUS [(11, s.trngState == 0), (10, s.locked 4),
    (9, !s.ksClosed && s.keyState 7 == Key.ACTIVE), (8, s.ks.zeroised)]

/-- BW_STATUS (Table 14-8). -/
def State.bwStatus (s : State) : Int :=
  s.liveWord Obj.BW_STATUS [(10, s.rdN Obj.BW_ROLE == 4), (9, s.bw.ready), (8, s.leaseCurrent)]

/-- SD_STATUS (Table 17-10). -/
def State.sdStatus (s : State) : Int := s.liveWord Obj.SD_STATUS [(10, s.rdB Obj.FS_LATCHED), (9, s.errNLow)]

/-- CTR_STATUS (Table 17-10). -/
def State.ctrStatus (s : State) : Int := s.liveWord Obj.CTR_STATUS [(9, s.rdB Obj.CTR_FREEZE)]

/-- VD_STATUS (Table 16-12). -/
def State.vdStatus (s : State) : Int := s.liveWord Obj.VD_STATUS [(9, s.rdN Obj.DRAM_STATE == 2)]

/-- HL_STATUS (Table 16-12). -/
def State.hlStatus (s : State) : Int := s.liveWord Obj.HL_STATUS [(9, s.linkUp .pcie)]

/-- CH_CFG: PRESCALE reads 1 and EDGE 00 on the fixed channels, CALSRC reads 0 outside FACTORY (R66, Table 3-4). -/
def State.chCfg (s : State) (c : Nat) : Int :=
  let w := s.rdN (Obj.CH_CFG c)
  let w1 := if fixedChannel c then setBitsAt (setBitsAt w 16 16 1) 10 2 0 else w
  ((if s.mode = Mode.FACTORY then w1 else clearBit w1 8 : Nat) : Int)

/-- SLOT_QUAL_LEFT: seconds of qualification that remain, rounded up (Table 4-8). -/
def State.qualLeft (s : State) (n : Nat) : Int :=
  if s.slotState n = Sl.QUALIFYING then (ceilDiv ((s.slot n).qualEnd48 - s.up48) sec48 : Nat) else 0

/-- FS_QUIET_LEFT: milliseconds, rounded up (R413). -/
def State.quietLeft (s : State) : Int :=
  if s.mode = Mode.FAULTSAFE then (ceilDiv (s.quietEnd - s.live48) (ms48 1) : Nat) else 0

/-- CAP_RUN (R69). -/
def State.capRun (s : State) : Int := (maskOf (fun n => (s.channel (12 + n)).state == .run) 32 : Nat)

/-- A slot's record as host reads find it: none while Keystone is closed (Table 2-5). -/
def State.shownSlot (s : State) (k : Nat) : KeySlot := if s.ksClosed then KeySlot.none else s.slotOf k

/-- KEY_META (Table 13-5). -/
def State.keyMeta (s : State) (k : Nat) : Int :=
  let x := s.shownSlot k
  let state := if s.ksClosed then 0 else s.keyState k
  ((state + x.kdf * 2 ^ 8 + x.usage * 2 ^ 16 + x.origin * 2 ^ 32 + x.depth * 2 ^ 40 +
    (match x.parent with | some p => 2 ^ 44 + p.1 * 2 ^ 45 | none => 0) : Nat) : Int)

/-- KEY_CHECK: the first four octets of the CMAC of 16 zero octets under the key (Table 13-4). -/
def State.keyCheck (s : State) (k : Nat) : Int :=
  let x := s.shownSlot k
  if x.state = .empty then 0
  else (ofLe ((beBytes 16 (Config.cmac x.value (List.replicate 16 0)).toNat).take 4) : Nat)

/-- SLEW pending as TS_SLEW_PEND gives it, truncated toward zero to 2^-16 ns (R136). -/
def State.slewPend (s : State) : Int := truncDiv s.ctl.slew.pend48 (2 ^ 32)

/-! Reads of STRING and DOMAIN objects. -/

/-- SUB_LIST: the entries of a link, 16 octets each (R370). -/
def State.subList (s : State) (l : Nat) : List Octet :=
  let mine := s.book.subs.filter fun x => linkCode x.link == l
  padTo (if l = 2 then 64 else 128) (mine.flatMap fun x =>
    beBytes 6 x.mac ++ [oct (roleCode x.role), 1] ++ leBytes 4 x.mask ++ leBytes 4 x.nextSeq)

/-- FLOG: the last 256 entries, oldest first (R409). -/
def State.flogOctets (s : State) : List Octet := padTo 8192 (s.book.flog.flatMap LogEntry.octets)

/-- ID_PUBKEY: x ‖ y of the identity key; zero where there is none (R319). -/
def State.pubKey (s : State) : List Octet :=
  match s.identity with
  | some d => padTo 64 (Config.publicKey d)
  | none => List.replicate 64 0

/-- ID_CSR and ID_ATTEST as they are read: zero in ZEROISED, from the cycle in which ZEROISE asserts (R319, R324). -/
def State.csrRead (s : State) : List Octet := if s.ksClosed then List.replicate 1024 0 else s.blob [] Obj.ID_CSR
def State.attestRead (s : State) : List Octet :=
  if s.ksClosed then List.replicate 64 0 else s.blob (List.replicate 64 0) Obj.ID_ATTEST

/-- A quality map: bits 7:4 of an entry read as zero (R87). -/
def State.qmapOctets (s : State) (m : Nat) (r : Reg) : List Octet := (s.blob (qmapReset m) r).map fun b => b &&& 0x0F

/-- The octets of a text. -/
def text (t : String) : List Octet := t.toList.map fun c => BitVec.ofNat 8 c.toNat

end Sys2Proof.Machine
end

