-- ==== Sys2Proof/Machine/Writes.lean ====
section
/-! DEFINITION. The effects of writes that do more than store a value and are no command of the table themselves: the
reload by LOA_KIND, masks that squelch, key positions, the UTC source, addresses, and the codes that commands share. -/

namespace Sys2Proof.Machine

/-- Where a write comes from: its link, and the descriptors that a doorbell finds (R383). -/
structure WriteFrom where
  link : Link
  descs : List Posted
  deriving DecidableEq, Repr

/-- The end of a cycle with a slot event in it (R33). -/
def State.round (s : State) : State := s.settle.evaluate

/-- The coefficients that LOA_KIND loads for its kind of oscillator (R164). -/
def loaCoefs : Nat → List Nat
  | 0 => [10000000, 1000000, 1000, 3000, 1000]
  | 1 => [50000, 5000, 10000, 75, 20]
  | _ => [5000, 0, 5000, 10, 5]

/-- A write of LOA_KIND (R164). -/
def State.setLoaKind (s : State) (v : Int) : State :=
  let s1 := s.wr Obj.LOA_KIND v
  let c := loaCoefs v.toNat
  (((((s1.wrN (Obj.TEB_LO_FREQ0 0) (c.getD 0 0)).wrN (Obj.TEB_LO_AGE 0) (c.getD 1 0)).wrN (Obj.TEB_LO_WFM 0)
    (c.getD 2 0)).wrN (Obj.TEB_LO_RW 0) (c.getD 3 0)).wrN (Obj.TEB_LO_TEMP 0) (c.getD 4 0)).tebHeld

/-- The octets of a gate list with the reserved bits of every entry zero (R10, Table 12-4). -/
def gateListKept (b : List Octet) : List Octet :=
  (List.range b.length).map fun i =>
    match i % 8 with
    | 1 => b.getD i 0 &&& 3
    | 2 | 3 => 0
    | _ => b.getD i 0

/-- A write of a gate list, or of the list to be switched to (R10). -/
def State.setGateList (s : State) (r : Reg) (b : List Octet) : State :=
  s.wrBlob (List.replicate 512 0) r (gateListKept b)

/-- A write that may squelch a generator: a pulse in progress is cut (R193). -/
def State.masked (s : State) (r : Reg) (v : Int) : State := (s.wr r v).cutPulses

/-- A write of CH_CFG restarts the prescaler (R66). -/
def State.setChCfg (s : State) (c : Nat) (v : Int) : State :=
  let s1 := s.wr (Obj.CH_CFG c) v
  s1.setChannel c { s1.channel c with skip := 0 }

/-- A write of a slot number of an SPP entry or of the NTS master: the entry's key generation is journalled (Table 14-5). -/
def State.setKeyPos (s : State) (r : Reg) (e position : Nat) (v : Int) : State := (s.wr r v).journalKey e position

/-- A write of PORT_PROFILES: the multicast entries of the port follow (R285). -/
def State.setPortProfiles (s : State) (p : Nat) (v : Int) : State :=
  (s.wr (Obj.PORT_PROFILES p) v).forEach (l := List.range 16) (p := fun s x => s.multicastEntries p x)

/-- A write of UTC_SRC: an offset that AUTO has been hearing starts its wait again (R144, R145). -/
def State.setUtcSrc (s : State) (v : Int) : State :=
  let s1 := s.wr Obj.UTC_SRC v
  if v = s.rd Obj.UTC_SRC then s1
  else ({ s1 with utc := { s1.utc with first := none } } : State).utcDrop.utcHeard

/-- A write of FP_MAC: the subscriptions made under the station address that goes away are removed (R370). -/
def State.setFpMac (s : State) (f : Nat) (v : Int) : State :=
  let s1 := s.wr (Obj.FP_MAC f) v
  if v = s.rd (Obj.FP_MAC f) then s1
  else { s1 with book := { s1.book with subs := s1.book.subs.filter fun x => linkCode x.link != f } }

/-- A write of RX_ALM_MAXAGE: the age of an almanac that is held is judged anew (R226). -/
def State.setAlmMax (s : State) (r : Nat) (v : Int) : State :=
  let s1 := s.wr (Obj.RX_ALM_MAXAGE r) v
  s1.cond Src.GN_ALM_STALE ((List.range 2).any fun r => (s1.rx r).almanac.isSome && s1.almStale r)

/-- A write of a lock bit: 1 sets it, and 0 has no effect (R47). -/
def State.setLock (s : State) (i : Nat) (v : Int) : State := s.when (v == 1) (·.wrN (Obj.LOCK i) 1)

/-- FW_UPD_CMD (R322). -/
def State.fwCommand (s : State) (v : Int) : State :=
  match v.toNat with
  | 1 => s.fwBegin
  | 2 => s.fwCommit
  | _ => s.fwAbort

end Sys2Proof.Machine
end

