-- ==== Sys2Proof/Machine/Access.lean ====
section
/-! DEFINITION. What a row of the object dictionary says: types and their octets (Table 15-1), access codes (Table 0-4),
ranges, and classes of roles (Table 15-2). -/

namespace Sys2Proof.Machine

/-- The types of R356. -/
inductive ObjType
  | bool | u8 | u16 | u32 | u64 | i8 | i16 | i32 | i64 | time80 | time112 | string | domain
  deriving DecidableEq, Repr

/-- The access codes of Table 0-4. -/
inductive Access
  | ro | rw | rwd | rwl | sq | wo
  deriving DecidableEq, Repr

/-- The classes that fix an object's role masks: those of Table 15-2, and the objects whose own chapter names a mask. -/
inductive RoleClass
  | ident | csr | cert | challenge | prov | st | clear | oper | cfg | rwl | lock | keystone | fsRelease | test
  deriving DecidableEq, Repr

/-- The range of an object's values. A `word` has fields: `mask` are its writable bits, and each listed field (position,
width, least, greatest) is bounded; bits outside the mask are reserved (R10). -/
inductive ValueRange
  | any
  | span (lo hi : Int)
  /-- multiples of a number -/
  | mult (n : Nat)
  | oneOf (l : List Nat)
  /-- LOA_TUNE_GAIN: −(2^31 − 1) to 2^31 − 1, and not 0 (Table 5-8) -/
  | gain
  | word (mask : Nat) (fields : List (Nat × Nat × Nat × Nat))
  /-- an SQ object, with its sticky bits -/
  | sticky (mask : Nat)
  /-- LOA_TUNE_MIN to LOA_TUNE_MAX (Table 5-8) -/
  | tune
  /-- less than one period of the generator's programme (Table 8-6) -/
  | phase
  /-- an individual MAC address (Table 10-8) -/
  | mac
  /-- PROF_INTERVALS: three I8 from −7 to 6, and a timeout of 2 to 255 (Table 11-10) -/
  | intervals
  /-- an SPP entry, or 0xFF for none -/
  | spp
  /-- a key slot from the given one on, or 0xFFFF for none -/
  | slotRef (lo : Nat)
  /-- CTR_CFG: no CHAIN on counter 127 (Table 17-7) -/
  | ctrCfg
  /-- RULE_ACTION (Table 12-2) -/
  | ruleAction
  /-- SRC_CFG (R404) -/
  | srcCfg
  /-- SES_CFG: a P2P profile is out of range (Table 11-8) -/
  | session
  /-- SLOT_CFG: the fields that apply to the slot (Table 4-9) -/
  | slotCfg
  /-- CH_CFG: PRESCALE and EDGE only on channels that have them (Table 3-4) -/
  | chCfg
  deriving DecidableEq, Repr

/-- A row: the indices and sub-indices it spans, and what the dictionary says of each object there. Object number i counts
through them. `read` gives a value that is not stored, `write` and `fill` an effect beyond storing. For a STRING or
DOMAIN, `size` is its size, `content0` its content at reset; the content of a `varying` one is as long as what was
written. -/
structure ObjRow where
  index : Nat
  indices : Nat := 1
  sub : Nat
  subs : Nat := 1
  type : ObjType
  access : Access
  range : ValueRange := .any
  cls : RoleClass
  block : Nat
  lock : Nat := 0
  enable : Option (Nat → Reg) := none
  reg : Nat → Nat → Reg
  read : Option (State → Nat → Nat → Int) := none
  write : Option (State → WriteFrom → Nat → Int → State) := none
  size : Nat := 0
  content0 : List Octet := []
  varying : Bool := false
  content : Option (State → Nat → Nat → List Octet) := none
  fill : Option (State → Nat → List Octet → State) := none

/-! Values and their octets (Table 15-1). -/

/-- A STRING or DOMAIN. -/
def ObjRow.blob (r : ObjRow) : Bool := r.type == .string || r.type == .domain

/-- The octets of a scalar type. -/
def scalarSize : ObjType → Nat
  | .bool | .u8 | .i8 => 1
  | .u16 | .i16 => 2
  | .u32 | .i32 => 4
  | .u64 | .i64 => 8
  | .time80 => 10
  | .time112 => 14
  | _ => 0

/-- The octets of a value. -/
def valueOctets (t : ObjType) (v : Int) : List Octet :=
  match t with
  | .time80 => time80Bytes v.toNat
  | .time112 => time112Bytes v.toNat
  | _ => leBytesInt (scalarSize t) v

/-- The value that octets of a type's size spell; none for a BOOL above 1 and for an invalid time (R5, Table 15-1). -/
def octetsValue (t : ObjType) (bs : List Octet) : Option Int :=
  let n := ofLe bs
  match t with
  | .bool => if n ≤ 1 then some n else none
  | .i8 | .i16 | .i32 | .i64 => some (wrapSigned (8 * scalarSize t) n)
  | .time80 => (time80Of? bs).map fun (t : Nat) => (t : Int)
  | .time112 => (time112Of? bs).map fun (t : Nat) => (t : Int)
  | _ => some n

/-! Ranges. -/

/-- The fields of a word within their bounds. -/
def fieldsGood (v : Nat) (fields : List (Nat × Nat × Nat × Nat)) : Bool :=
  fields.all fun f => decide (f.2.2.1 ≤ bitsAt v f.1 f.2.1 ∧ bitsAt v f.1 f.2.1 ≤ f.2.2.2)

/-- The writable bits and bounded fields of SLOT_CFG on slot `n` (Table 4-9). -/
def slotCfgFields (n : Nat) : Nat × List (Nat × Nat × Nat × Nat) :=
  if n < 8 then (0x10301, [(8, 2, 0, 2)])
  else if n < 16 then (0x30000, [])
  else if n = 23 then (0xFD0000, [(20, 4, 0, 7)])
  else (0x10000, [])

/-- The sources whose SEVERITY and REACTION the host may write (R404). -/
def srcWritable (n : Nat) : Bool :=
  match sourceRow? n with
  | some _ => [0, 1, 3].contains (bitsAt (srcCfgReset n).toNat 4 3) && !tamperSource n
  | none => false

/-- A value as it is stored: reserved bits and fields that do not apply are dropped and keep what they hold (R10, R66,
R95, R404). -/
def State.kept (s : State) (r : ObjRow) (i : Nat) (v : Int) : Int :=
  let n := v.toNat
  match r.range with
  | .word mask _ => (n &&& mask : Nat)
  | .ctrCfg => (n &&& 0x101FF : Nat)
  | .ruleAction => (n &&& 0xFFFFFF03 : Nat)
  | .session => (n &&& 0xFFC700 : Nat)
  | .slotCfg => (n &&& (slotCfgFields i).1 : Nat)
  | .chCfg => (if fixedChannel i then setBitsAt (n &&& 0x300) 16 16 1 else n &&& 0xFFFF0F00 : Nat)
  | .srcCfg =>
    let old := s.rdN (Obj.SRC_CFG i)
    if (sourceRow? i).isNone then old
    else if srcWritable i then (n &&& 0x173 : Nat)
    else (putBit old 8 (bitOn n 8) : Nat)
  | _ => v

/-- The value is in the object's range. -/
def State.inRange (s : State) (r : ObjRow) (i : Nat) (v : Int) : Bool :=
  let n := v.toNat
  match r.range with
  | .any | .sticky _ => true
  | .span lo hi => decide (lo ≤ v ∧ v ≤ hi)
  | .mult k => n % k == 0
  | .oneOf l => l.contains n
  | .gain => v != 0 && decide (-2147483647 ≤ v ∧ v ≤ 2147483647)
  | .word mask fields => fieldsGood (n &&& mask) fields
  | .tune => decide (s.rd Obj.LOA_TUNE_MIN ≤ v ∧ v ≤ s.rd Obj.LOA_TUNE_MAX)
  | .phase => decide (n * s.rdN (Obj.EVT_PRG_N i) < s.rdN (Obj.EVT_PRG_S i) * giga * 512)
  | .mac => decide (n < 2 ^ 48) && !bitOn n 40
  | .intervals =>
    ([24, 16, 8].all fun lo => let k := wrapSigned 8 (bitsAt n lo 8); decide (-7 ≤ k ∧ k ≤ 6)) && decide (2 ≤ bitsAt n 0 8)
  | .spp => decide (n < 16) || n == 0xFF
  | .slotRef lo => decide (lo ≤ n ∧ n < 1024) || n == 0xFFFF
  | .ctrCfg => !(i == 127 && bitOn n 16)
  | .ruleAction => decide (bitsAt n 24 8 < 64) && (decide (bitsAt n 16 8 < 64) || bitsAt n 16 8 == 0xFF)
  | .srcCfg => !srcWritable i || [0, 1, 3, 4].contains (bitsAt n 4 3)
  | .session => !s.profP2p (bitsAt n 20 4)
  | .slotCfg => fieldsGood n (slotCfgFields i).2
  | .chCfg => fixedChannel i || fieldsGood n [(16, 16, 1, 65535), (10, 2, 0, 2)]

/-- The content of a DOMAIN in range: a prefix length of at most 128 (R281); gate intervals of at most 10^9 ns, 0 standing in
entries that R297 then refuses (Table 12-4); a subject of 1 to 64 octets (Table 13-9). -/
def contentGood (r : ObjRow) (b : List Octet) : Bool :=
  if r.index = 0xA512 ∨ r.index = 0xA522 then (List.range 64).all fun j => decide ((gateEntry b j).1 ≤ giga)
  else if r.index = 0xA130 then decide ((b.getD 16 0).toNat ≤ 128)
  else if r.type = .string then decide (1 ≤ b.length ∧ b.length ≤ r.size)
  else true

/-! Reads. -/

/-- What a host reads from a scalar over a link; WO reads as zero (Table 0-4). -/
def State.scalar (s : State) (r : ObjRow) (l : Link) (i : Nat) : Int :=
  if r.access = .wo then 0
  else match r.read with
    | some f => f s (linkCode l) i
    | none => s.rd (r.reg (linkCode l) i)

/-- What a STRING or DOMAIN holds, whether or not it can be read. -/
def State.contentOf (s : State) (r : ObjRow) (l : Link) (i : Nat) : List Octet :=
  match r.content with
  | some f => f s (linkCode l) i
  | none => s.blob r.content0 (r.reg (linkCode l) i)

/-- The octets of an object as a host reads them; a WO DOMAIN reads as zeros. -/
def State.octetsOf (s : State) (r : ObjRow) (l : Link) (i : Nat) : List Octet :=
  if !r.blob then valueOctets r.type (s.scalar r l i)
  else if r.access = .wo then List.replicate r.size 0
  else s.contentOf r l i

/-- The octets that an object holding zero would read as (Table 15-7, step 5). -/
def zeroOctets (r : ObjRow) : List Octet :=
  if !r.blob then valueOctets r.type 0 else if r.type = .string then [] else List.replicate r.size 0

/-! Roles (R13, R357, Table 13-9, Table 15-2). -/

/-- The roles that may read an object of a class. -/
def readRoles (c : RoleClass) (role : Role) : Bool :=
  match c with
  | .ident | .csr | .cert | .challenge => true
  | .prov => role == .anonymous
  | .keystone => role == .engineer || role == .custodian
  | .oper => role == .observer || role == .operator || role == .engineer
  | .test => false
  | _ => role != .anonymous

/-- The roles that may write an object of a class; anonymous may write ID_CSR_SUBJECT in UNPROVISIONED. -/
def State.writeRoles (s : State) (c : RoleClass) (role : Role) : Bool :=
  match c with
  | .challenge => true
  | .csr => if s.mode = Mode.UNPROVISIONED then role == .anonymous || role == .custodian else role == .custodian
  | .cert | .lock | .keystone => role == .custodian
  | .prov => role == .anonymous
  | .clear | .oper => role == .operator || role == .engineer
  | .cfg => role == .engineer
  | .rwl | .fsRelease => role == .engineer || role == .custodian
  | _ => false

/-- The dictionary's reach in the mode (Table 2-5): identity in every one, provisioning in UNPROVISIONED alone. -/
def State.reaches (s : State) (c : RoleClass) : Bool :=
  let identity := c == .ident || c == .csr || c == .cert || c == .challenge
  if s.open = false then false
  else if s.mode = Mode.FACTORY then c != .prov
  else if s.mode = Mode.UNPROVISIONED then identity || c == .prov
  else if s.mode = Mode.ZEROISED then identity
  else c != .prov && c != .test

end Sys2Proof.Machine
end

