-- ==== Sys2Proof/Machine/ObjTable.lean ====
section
/-! DEFINITION. The object dictionary: one row for each object or family of objects of the chapters' tables, with its type,
access code, range, class of roles, block, lock, owning ENABLE and register, and what reads and writes of it do. -/

namespace Sys2Proof.Machine

/-- Objects 1000 to 1F10. -/
def objRows0 : List ObjRow := [
  { index := 0x1000, sub := 1, type := .bool, access := .ro, cls := .st, block := 0, reg := fun _ _ => Obj.OD_ENABLE },
  { index := 0x1000, sub := 2, type := .u32, access := .sq, range := (.sticky 0x1F), cls := .clear, block := 0,
    reg := fun _ _ => Obj.OD_STATUS, read := some (fun s _ _ => State.odStatus s) },
  { index := 0x1000, sub := 3, type := .u32, access := .ro, cls := .st, block := 0,
    reg := fun _ _ => Obj.OD_LAST_IGNORED },
  { index := 0x1010, sub := 1, type := .string, access := .ro, cls := .ident, block := 1,
    reg := fun _ _ => Obj.ID_VENDOR, size := 255, content := some (fun _ _ _ => text "Gelnar Timing Systems") },
  { index := 0x1010, sub := 2, type := .string, access := .ro, cls := .ident, block := 1,
    reg := fun _ _ => Obj.ID_PRODUCT, size := 255, content := some (fun _ _ _ => text "LXA4810") },
  { index := 0x1010, sub := 3, type := .u8, access := .ro, cls := .ident, block := 1, reg := fun _ _ => Obj.ID_STEPPING },
  { index := 0x1010, sub := 4, type := .string, access := .ro, cls := .ident, block := 1,
    reg := fun _ _ => Obj.ID_SERIAL, size := 16, content := some (fun _ _ _ => Config.idSerial) },
  { index := 0x1010, sub := 5, type := .u64, access := .ro, cls := .ident, block := 1, reg := fun _ _ => Obj.ID_EUI64 },
  { index := 0x1010, sub := 6, type := .u64, access := .ro, cls := .ident, block := 1, reg := fun _ _ => Obj.ID_MAC_BASE },
  { index := 0x1010, sub := 7, type := .u32, access := .ro, cls := .ident, block := 1, reg := fun _ _ => Obj.ID_DICT_VER },
  { index := 0x1030, sub := 1, type := .u8, access := .rw, range := (.span 0 3), cls := .lock, block := 1,
    reg := fun _ _ => Obj.BAR0_ROLE },
  { index := 0x1040, sub := 1, type := .domain, access := .ro, cls := .ident, block := 1,
    reg := fun _ _ => Obj.ID_PUBKEY, size := 64, content := some (fun s _ _ => s.pubKey) },
  { index := 0x1040, sub := 2, type := .string, access := .rw, cls := .csr, block := 1,
    reg := fun _ _ => Obj.ID_CSR_SUBJECT, size := 64, varying := true, fill := some (fun s _ b => s.writeSubject b) },
  { index := 0x1040, sub := 3, type := .domain, access := .ro, cls := .ident, block := 1, reg := fun _ _ => Obj.ID_CSR,
    size := 1024, varying := true, content := some (fun s _ _ => s.csrRead) },
  { index := 0x1040, sub := 4, type := .domain, access := .rw, cls := .cert, block := 1, reg := fun _ _ => Obj.ID_CERT,
    size := 2048, varying := true },
  { index := 0x1040, sub := 5, type := .domain, access := .wo, cls := .challenge, block := 1,
    reg := fun _ _ => Obj.ID_CHALLENGE, size := 32, content0 := List.replicate 32 0,
    fill := some (fun s _ b => s.writeChallenge b) },
  { index := 0x1040, sub := 6, type := .domain, access := .ro, cls := .ident, block := 1,
    reg := fun _ _ => Obj.ID_ATTEST, size := 64, content0 := List.replicate 64 0, content := some (fun s _ _ => s.attestRead) },
  { index := 0x1040, sub := 7, type := .domain, access := .ro, cls := .ident, block := 1,
    reg := fun _ _ => Obj.KS_BOOT_NONCE, size := 16, content0 := List.replicate 16 0 },
  { index := 0x1050, sub := 1, type := .domain, access := .wo, cls := .prov, block := 1,
    reg := fun _ _ => Obj.PROV_EPHEM, size := 64, content0 := List.replicate 64 0 },
  { index := 0x1050, sub := 2, type := .domain, access := .wo, cls := .prov, block := 1,
    reg := fun _ _ => Obj.PROV_WRAPPED, size := 40, content0 := List.replicate 40 0 },
  { index := 0x1050, sub := 3, type := .u8, access := .wo, range := (.span 1 1), cls := .prov, block := 1,
    reg := fun _ _ => Obj.PROV_CMD, write := some (fun s _ _ _ => s.install) },
  { index := 0x1050, sub := 4, type := .u8, access := .ro, cls := .prov, block := 1, reg := fun _ _ => Obj.PROV_RESULT },
  { index := 0x1100, sub := 1, type := .u8, access := .ro, cls := .st, block := 1, reg := fun _ _ => Obj.MODE_CURRENT },
  { index := 0x1100, sub := 2, type := .u8, access := .ro, cls := .st, block := 1, reg := fun _ _ => Obj.MODE_PREVIOUS },
  { index := 0x1100, sub := 3, type := .u8, access := .ro, cls := .st, block := 1, reg := fun _ _ => Obj.MODE_REASON },
  { index := 0x1100, sub := 4, type := .time80, access := .ro, cls := .st, block := 1, reg := fun _ _ => Obj.MODE_SINCE },
  { index := 0x1100, sub := 6, type := .u32, access := .rw, range := (.span 1 3600), cls := .cfg, block := 1,
    reg := fun _ _ => Obj.MODE_LOCK_DWELL },
  { index := 0x1100, sub := 7, type := .u8, access := .rw, range := (.span 0 15), cls := .cfg, block := 1,
    reg := fun _ _ => Obj.MODE_CLASS_MIN },
  { index := 0x1120, sub := 1, type := .u16, access := .rw, range := (.word 0xF8 []), cls := .cfg, block := 1,
    reg := fun _ _ => Obj.SVC_OUT_MODES, write := some (fun s _ _ v => s.masked Obj.SVC_OUT_MODES v) },
  { index := 0x1120, sub := 2, type := .u16, access := .rw, range := (.word 0xF8 []), cls := .cfg, block := 1,
    reg := fun _ _ => Obj.SVC_PKT_MODES },
  { index := 0x1210, sub := 1, subs := 2, type := .domain, access := .ro, cls := .st, block := 0,
    reg := fun _ i => Obj.SUB_LIST i, size := 128, content := some (fun s _ i => s.subList i) },
  { index := 0x1210, sub := 3, type := .domain, access := .ro, cls := .st, block := 0,
    reg := fun _ _ => Obj.SUB_LIST 2, size := 64, content := some (fun s _ _ => s.subList 2) },
  { index := 0x1300, sub := 1, type := .u32, access := .sq, range := (.sticky 0xC), cls := .clear, block := 1,
    reg := fun _ _ => Obj.SAG_STATUS },
  { index := 0x1E00, sub := 1, subs := 7, type := .bool, access := .rw, cls := .lock, block := 1,
    reg := fun _ i => Obj.LOCK i, read := some (fun s _ i => flag (s.locked (i + 1))),
    write := some (fun s _ i v => s.setLock i v) },
  { index := 0x1F00, sub := 1, type := .bool, access := .wo, range := (.span 1 1), cls := .oper, block := 10,
    reg := fun _ _ => Obj.SNAP_NOW, write := some (fun s _ _ _ => s.snapNow) },
  { index := 0x1F00, sub := 2, type := .time80, access := .rw, cls := .oper, block := 10, reg := fun _ _ => Obj.SNAP_AT,
    write := some (fun s _ _ v => s.setSnapAt v.toNat) },
  { index := 0x1F00, sub := 3, type := .bool, access := .rw, cls := .cfg, block := 10, reg := fun _ _ => Obj.SNAP_EVERY },
  { index := 0x1F00, sub := 4, type := .time80, access := .ro, cls := .st, block := 10, reg := fun _ _ => Obj.SNAP_TAKEN },
  { index := 0x1F00, sub := 5, type := .u32, access := .ro, cls := .st, block := 10, reg := fun _ _ => Obj.SNAP_SEQ },
  { index := 0x1F00, sub := 6, type := .u32, access := .sq, range := (.sticky 0x13), cls := .clear, block := 10,
    reg := fun _ _ => Obj.SNAP_STATUS, read := some (fun s _ _ => State.snapStatus s) },
  { index := 0x1F10, sub := 1, type := .u32, access := .wo, cls := .rwl, block := 1, reg := fun _ _ => Obj.SOFT_RESET,
    write := some (fun s _ _ v => s.softReset v.toNat) }]

/-- Objects 1F10 to 3050. -/
def objRows1 : List ObjRow := [
  { index := 0x1F10, sub := 2, type := .u32, access := .wo, range := (.word 0xFFFFF []), cls := .cfg, block := 1,
    reg := fun _ _ => Obj.BLOCK_RESET, write := some (fun s _ _ v => (s.blockReset v.toNat).round) },
  { index := 0x2000, sub := 1, type := .bool, access := .rw, cls := .cfg, block := 2, reg := fun _ _ => Obj.SL_ENABLE,
    write := some (fun s _ _ v => (s.setSlEnable (v != 0)).round) },
  { index := 0x2000, sub := 2, type := .u32, access := .sq, range := (.sticky 0x7), cls := .clear, block := 2,
    reg := fun _ _ => Obj.SL_STATUS },
  { index := 0x2000, sub := 3, type := .u32, access := .ro, cls := .st, block := 2,
    reg := fun _ _ => Obj.SL_LAST_IGNORED },
  { index := 0x2010, sub := 1, subs := 24, type := .bool, access := .rw, cls := .cfg, block := 2,
    reg := fun _ i => Obj.SLOT_EN i, write := some (fun s _ i v => (s.setSlotEn i (v != 0)).round) },
  { index := 0x2020, sub := 1, subs := 24, type := .u32, access := .rwd, range := .slotCfg, cls := .cfg, block := 2,
    enable := some Obj.SLOT_EN, reg := fun _ i => Obj.SLOT_CFG i },
  { index := 0x2022, sub := 1, subs := 8, type := .u64, access := .rwd, range := (.span 1000000 1250000000000000),
    cls := .cfg, block := 2, enable := some Obj.SLOT_EN, reg := fun _ i => Obj.SLOT_NOMFREQ i },
  { index := 0x2030, sub := 1, subs := 24, type := .u8, access := .rw, range := (.span 0 15), cls := .cfg, block := 2,
    reg := fun _ i => Obj.SLOT_RANK i },
  { index := 0x2032, sub := 1, subs := 8, type := .u8, access := .rw, range := (.span 0 15), cls := .cfg, block := 2,
    reg := fun _ i => Obj.SLOT_QL_HOST i },
  { index := 0x2034, sub := 1, subs := 24, type := .u32, access := .rw, cls := .cfg, block := 2,
    reg := fun _ i => Obj.SLOT_UNC i, read := some (fun s _ i => if i < 8 || i == 23 then s.rd (Obj.SLOT_UNC i) else 0),
    write := some (fun s _ i v => s.when (i < 8 || i == 23) (·.wr (Obj.SLOT_UNC i) v)) },
  { index := 0x2040, sub := 1, subs := 24, type := .u32, access := .rw, range := (.span 1 3600), cls := .cfg, block := 2,
    reg := fun _ i => Obj.SLOT_QUAL_TIME i },
  { index := 0x2042, sub := 1, subs := 24, type := .u32, access := .rwd, range := (.span 1 1000000), cls := .cfg,
    block := 2, enable := some Obj.SLOT_EN, reg := fun _ i => Obj.SLOT_GLITCH_WIN i },
  { index := 0x2044, sub := 1, subs := 24, type := .u32, access := .rw, range := (.span 1 100000000), cls := .cfg,
    block := 2, reg := fun _ i => Obj.SLOT_FREQ_TOL i },
  { index := 0x2046, sub := 1, subs := 24, type := .u32, access := .rw, range := (.span 10 1000000000), cls := .cfg,
    block := 2, reg := fun _ i => Obj.SLOT_PHASE_TOL i },
  { index := 0x2048, sub := 1, subs := 24, type := .u32, access := .rw, range := (.span 10 60000), cls := .cfg,
    block := 2, reg := fun _ i => Obj.SLOT_SUSP_HOLD i },
  { index := 0x204A, sub := 1, subs := 24, type := .u32, access := .rw, range := (.span 1 3600), cls := .cfg, block := 2,
    reg := fun _ i => Obj.SLOT_DISQ_HOLD i },
  { index := 0x204C, sub := 1, subs := 24, type := .u8, access := .rw, range := (.span 1 255), cls := .cfg, block := 2,
    reg := fun _ i => Obj.SLOT_GLITCH_MAX i },
  { index := 0x2050, sub := 1, subs := 24, type := .u32, access := .sq, range := (.sticky 0xF0), cls := .clear,
    block := 2, reg := fun _ i => Obj.SLOT_STATE i },
  { index := 0x2052, sub := 1, subs := 24, type := .u8, access := .ro, cls := .st, block := 2,
    reg := fun _ i => Obj.SLOT_CLASS i },
  { index := 0x2054, sub := 1, subs := 24, type := .u32, access := .ro, cls := .st, block := 2,
    reg := fun _ i => Obj.SLOT_QL_RAW i,
    read := some (fun s _ i =>
      if (i = 20 ∨ i = 21) ∧ (s.slot i).info.isSome = true then s.rd (Obj.RX_STATE (i - 20)) else s.rd (Obj.SLOT_QL_RAW i)) },
  { index := 0x2056, sub := 1, subs := 24, type := .u32, access := .ro, cls := .st, block := 2,
    reg := fun _ i => Obj.SLOT_UNC_RX i },
  { index := 0x2058, sub := 1, subs := 24, type := .u32, access := .ro, cls := .st, block := 2,
    reg := fun _ i => Obj.SLOT_QUAL_LEFT i, read := some (fun s _ i => s.qualLeft i) },
  { index := 0x2060, sub := 1, subs := 24, type := .u8, access := .wo, range := (.span 1 3), cls := .oper, block := 2,
    reg := fun _ i => Obj.SLOT_CMD i, write := some (fun s _ i v => (s.slotCmd i v.toNat).round) },
  { index := 0x2070, sub := 1, subs := 24, type := .u32, access := .ro, cls := .st, block := 2,
    reg := fun _ i => Obj.SLOT_TOD_DISCARD i,
    read := some (fun s _ i => if i = 23 then s.rd (Obj.SLOT_TOD_DISCARD i) else 0) },
  { index := 0x2100, sub := 1, type := .domain, access := .rw, cls := .cfg, block := 2, reg := fun _ _ => Obj.QMAP_PTP,
    size := 256, content0 := qmapReset 1, content := some (fun s _ _ => s.qmapOctets 1 Obj.QMAP_PTP) },
  { index := 0x2100, sub := 2, type := .domain, access := .rw, cls := .cfg, block := 2, reg := fun _ _ => Obj.QMAP_TOD,
    size := 256, content0 := qmapReset 2, content := some (fun s _ _ => s.qmapOctets 2 Obj.QMAP_TOD) },
  { index := 0x2100, sub := 3, type := .domain, access := .rw, cls := .cfg, block := 2, reg := fun _ _ => Obj.QMAP_SSM1,
    size := 16, content0 := qmapReset 3, content := some (fun s _ _ => s.qmapOctets 3 Obj.QMAP_SSM1) },
  { index := 0x2100, sub := 4, type := .domain, access := .rw, cls := .cfg, block := 2, reg := fun _ _ => Obj.QMAP_SSM2,
    size := 16, content0 := qmapReset 4, content := some (fun s _ _ => s.qmapOctets 4 Obj.QMAP_SSM2) },
  { index := 0x2110, sub := 1, type := .u8, access := .rw, range := (.span 2 30), cls := .cfg, block := 2,
    reg := fun _ _ => Obj.ESMC_TIMEOUT },
  { index := 0x3000, sub := 1, type := .bool, access := .rw, cls := .cfg, block := 3, reg := fun _ _ => Obj.TR_ENABLE,
    write := some (fun s _ _ v => ((s.setTrEnable (v != 0)).leftRun s).round) },
  { index := 0x3000, sub := 2, type := .u32, access := .sq, range := (.sticky 0x3), cls := .clear, block := 3,
    reg := fun _ _ => Obj.TR_STATUS, read := some (fun s _ _ => State.trStatus s) },
  { index := 0x3000, sub := 3, type := .u32, access := .ro, cls := .st, block := 3,
    reg := fun _ _ => Obj.TR_LAST_IGNORED },
  { index := 0x3000, sub := 4, type := .u32, access := .rw, range := (.span 1 100000), cls := .cfg, block := 3,
    reg := fun _ _ => Obj.TR_RING_FLUSH },
  { index := 0x3000, sub := 5, type := .u32, access := .rw, range := (.span 100 100000), cls := .cfg, block := 3,
    reg := fun _ _ => Obj.TR_DRIFT_MAX, write := some (fun s _ _ v => s.setDriftMax v) },
  { index := 0x3000, sub := 6, type := .u32, access := .ro, cls := .st, block := 3, reg := fun _ _ => Obj.TR_RING_LOST },
  { index := 0x3010, sub := 1, subs := 48, type := .bool, access := .rw, cls := .cfg, block := 3,
    reg := fun _ i => Obj.CH_EN i, write := some (fun s _ i v => ((s.setChEn i (v != 0)).leftRun s).round) },
  { index := 0x3020, sub := 1, subs := 48, type := .u32, access := .rwd, range := .chCfg, cls := .cfg, block := 3,
    enable := some Obj.CH_EN, reg := fun _ i => Obj.CH_CFG i, read := some (fun s _ i => s.chCfg i),
    write := some (fun s _ i v => s.setChCfg i v) },
  { index := 0x3030, sub := 1, subs := 48, type := .i32, access := .rwd, cls := .cfg, block := 3,
    enable := some Obj.CH_EN, reg := fun _ i => Obj.CH_OFFSET i },
  { index := 0x3040, sub := 1, subs := 48, type := .u32, access := .ro, cls := .st, block := 3,
    reg := fun _ i => Obj.CH_DROP i },
  { index := 0x3050, sub := 1, subs := 48, type := .u8, access := .ro, cls := .st, block := 3,
    reg := fun _ i => Obj.CH_STATE i, read := some (fun s _ i => (chStateCode (s.channel i).state : Nat)) }]

/-- Objects 3060 to 4100. -/
def objRows2 : List ObjRow := [
  { index := 0x3060, sub := 1, subs := 48, type := .bool, access := .wo, range := (.span 1 1), cls := .cfg, block := 3,
    reg := fun _ i => Obj.CH_RECAL i, write := some (fun s _ i _ => ((s.recal i).leftRun s).round) },
  { index := 0x3070, sub := 1, subs := 48, type := .u32, access := .ro, cls := .st, block := 3,
    reg := fun _ i => Obj.CH_DRIFT i },
  { index := 0x3080, sub := 1, subs := 48, type := .time80, access := .ro, cls := .st, block := 3,
    reg := fun _ i => Obj.CH_CAL_AT i },
  { index := 0x3090, sub := 1, subs := 48, type := .u8, access := .ro, cls := .st, block := 3,
    reg := fun _ i => Obj.CH_TABGEN i },
  { index := 0x3100, sub := 1, subs := 32, type := .bool, access := .rw, cls := .cfg, block := 3,
    reg := fun _ i => Obj.PAIR_EN i, write := some (fun s _ i v => s.setPairEn i v) },
  { index := 0x3110, sub := 1, subs := 32, type := .u32, access := .rwd,
    range := (.word 0x33F3F [(8, 6, 0, 47), (0, 6, 0, 47)]), cls := .cfg, block := 3, enable := some Obj.PAIR_EN,
    reg := fun _ i => Obj.PAIR_CFG i },
  { index := 0x3120, sub := 1, subs := 32, type := .u32, access := .rwd, range := (.span 1000 4294967295), cls := .cfg,
    block := 3, enable := some Obj.PAIR_EN, reg := fun _ i => Obj.PAIR_TIMEOUT i },
  { index := 0x3130, sub := 1, subs := 32, type := .i64, access := .ro, cls := .st, block := 3,
    reg := fun _ i => Obj.PAIR_LAST i },
  { index := 0x3300, sub := 1, subs := 48, type := .domain, access := .ro, cls := .st, block := 3,
    reg := fun _ i => Obj.CH_BWT i, size := 4096,
    content := some (fun s _ i => tableOctets (binCentre (s.channel i).hist)) },
  { index := 0x3310, sub := 1, subs := 48, type := .domain, access := .ro, cls := .st, block := 3,
    reg := fun _ i => Obj.CH_HIST i, size := 4096,
    content := some (fun s _ i => tableOctets fun k => (s.channel i).hist.getD k 0) },
  { index := 0x4000, sub := 1, type := .bool, access := .rw, cls := .cfg, block := 4, reg := fun _ _ => Obj.HD_ENABLE,
    write := some (fun s _ _ v => (s.setHdEnable (v != 0)).round) },
  { index := 0x4000, sub := 2, type := .u32, access := .sq, range := (.sticky 0x3F), cls := .clear, block := 4,
    reg := fun _ _ => Obj.HD_STATUS },
  { index := 0x4000, sub := 3, type := .u32, access := .ro, cls := .st, block := 4,
    reg := fun _ _ => Obj.HD_LAST_IGNORED },
  { index := 0x4000, sub := 4, type := .u32, access := .ro, cls := .st, block := 4, reg := fun _ _ => Obj.HD_UPDATE },
  { index := 0x4000, sub := 5, type := .u32, access := .rwd, range := (.span 16 65536), cls := .cfg, block := 4,
    enable := some fun _ => Obj.HD_ENABLE, reg := fun _ _ => Obj.HD_WEIGHT_TAU },
  { index := 0x4000, sub := 6, type := .u32, access := .rwd, range := (.span 4194304 16777216), cls := .cfg, block := 4,
    enable := some fun _ => Obj.HD_ENABLE, reg := fun _ _ => Obj.HD_WMAX },
  { index := 0x4000, sub := 7, type := .u32, access := .rw, range := (.span 1 3600), cls := .cfg, block := 4,
    reg := fun _ _ => Obj.HD_RES_TAU },
  { index := 0x4000, sub := 8, type := .u32, access := .rw, range := (.span 1 3600), cls := .cfg, block := 4,
    reg := fun _ _ => Obj.HD_DET_WIN },
  { index := 0x4000, sub := 9, type := .u32, access := .rw, range := (.span 1 10000000), cls := .cfg, block := 4,
    reg := fun _ _ => Obj.HD_AGREE_FREQ },
  { index := 0x4000, sub := 10, type := .bool, access := .rw, cls := .cfg, block := 4,
    reg := fun _ _ => Obj.HD_FASSIST_EN },
  { index := 0x4000, sub := 11, type := .u8, access := .rw, range := (.span 0 1), cls := .cfg, block := 4,
    reg := fun _ _ => Obj.HD_LOOP_MODE, write := some (fun s _ _ v => s.setLoopMode v.toNat) },
  { index := 0x4000, sub := 12, type := .bool, access := .rw, cls := .cfg, block := 4,
    reg := fun _ _ => Obj.HD_RING21_EN },
  { index := 0x4010, sub := 1, subs := 24, type := .u8, access := .rwd, range := (.span 0 8), cls := .cfg, block := 4,
    enable := some Obj.SLOT_EN, reg := fun _ i => Obj.HD_PROFILE i },
  { index := 0x4012, sub := 1, subs := 24, type := .domain, access := .rwd, cls := .cfg, block := 4,
    enable := some Obj.SLOT_EN, reg := fun _ i => Obj.HD_CUSTOM i, size := 12, content0 := customReset },
  { index := 0x4014, sub := 1, subs := 24, type := .u32, access := .rw, range := (.span 1 1000000), cls := .cfg,
    block := 4, reg := fun _ i => Obj.HD_RES_PTOL i },
  { index := 0x4016, sub := 1, subs := 24, type := .u32, access := .rw, range := (.span 1 1000000000), cls := .cfg,
    block := 4, reg := fun _ i => Obj.HD_RES_FTOL i },
  { index := 0x4020, sub := 1, subs := 24, type := .u32, access := .ro, cls := .st, block := 4,
    reg := fun _ i => Obj.HD_W_TIME i },
  { index := 0x4022, sub := 1, subs := 24, type := .u32, access := .ro, cls := .st, block := 4,
    reg := fun _ i => Obj.HD_W_FREQ i },
  { index := 0x4024, sub := 1, subs := 24, type := .i64, access := .ro, cls := .st, block := 4,
    reg := fun _ i => Obj.HD_PHASE i },
  { index := 0x4026, sub := 1, subs := 24, type := .i64, access := .ro, cls := .st, block := 4,
    reg := fun _ i => Obj.HD_FREQ i },
  { index := 0x4028, sub := 1, subs := 24, type := .u32, access := .ro, cls := .st, block := 4,
    reg := fun _ i => Obj.HD_SIGMA i },
  { index := 0x402A, sub := 1, subs := 24, type := .i64, access := .ro, cls := .st, block := 4,
    reg := fun _ i => Obj.HD_RESID i },
  { index := 0x402C, sub := 1, subs := 24, type := .u32, access := .ro, cls := .st, block := 4,
    reg := fun _ i => Obj.HD_DRIFT_EFFECT i },
  { index := 0x4030, sub := 1, type := .i64, access := .ro, cls := .st, block := 4, reg := fun _ _ => Obj.HD_ENS_PHASE },
  { index := 0x4030, sub := 2, type := .i64, access := .ro, cls := .st, block := 4, reg := fun _ _ => Obj.HD_ENS_FREQ },
  { index := 0x4030, sub := 3, type := .i64, access := .ro, cls := .st, block := 4, reg := fun _ _ => Obj.HD_ENS_DRIFT },
  { index := 0x4030, sub := 4, type := .u32, access := .ro, cls := .st, block := 4, reg := fun _ _ => Obj.HD_ENS_SIGMA },
  { index := 0x4100, sub := 1, type := .u8, access := .ro, cls := .st, block := 4, reg := fun _ _ => Obj.LO_SEL },
  { index := 0x4100, sub := 2, type := .u8, access := .rwd, range := (.span 0 2), cls := .cfg, block := 4,
    enable := some fun _ => Obj.HD_ENABLE, reg := fun _ _ => Obj.LOA_KIND, write := some (fun s _ _ v => s.setLoaKind v) },
  { index := 0x4100, sub := 3, type := .u32, access := .ro, cls := .st, block := 4, reg := fun _ _ => Obj.LO_STATE,
    read := some (fun s _ _ => (s.loStateWord : Nat)) }]

/-- Objects 4100 to 4A10. -/
def objRows3 : List ObjRow := [
  { index := 0x4100, sub := 4, type := .bool, access := .rw, cls := .cfg, block := 4, reg := fun _ _ => Obj.LO_REVERT },
  { index := 0x4100, sub := 5, type := .u32, access := .rw, range := (.span 60 86400), cls := .cfg, block := 4,
    reg := fun _ _ => Obj.LO_REVERT_HOLD },
  { index := 0x4110, sub := 1, type := .bool, access := .rw, cls := .cfg, block := 4, reg := fun _ _ => Obj.LOA_TUNE_EN,
    write := some (fun s _ _ v => s.setTuneEn (v != 0)) },
  { index := 0x4110, sub := 2, type := .i32, access := .rwd, range := .gain, cls := .cfg, block := 4,
    enable := some fun _ => Obj.HD_ENABLE, reg := fun _ _ => Obj.LOA_TUNE_GAIN },
  { index := 0x4110, sub := 3, type := .i32, access := .ro, cls := .st, block := 4, reg := fun _ _ => Obj.LOA_TUNE_WORD },
  { index := 0x4110, sub := 4, type := .i32, access := .rw, range := .tune, cls := .cfg, block := 4,
    reg := fun _ _ => Obj.LOA_TUNE_INIT },
  { index := 0x4110, sub := 5, type := .i32, access := .rwd, cls := .cfg, block := 4,
    enable := some fun _ => Obj.HD_ENABLE, reg := fun _ _ => Obj.LOA_TUNE_MIN },
  { index := 0x4110, sub := 6, type := .i32, access := .rwd, cls := .cfg, block := 4,
    enable := some fun _ => Obj.HD_ENABLE, reg := fun _ _ => Obj.LOA_TUNE_MAX },
  { index := 0x4110, sub := 7, type := .u32, access := .rw, range := (.span 1 86400), cls := .cfg, block := 4,
    reg := fun _ _ => Obj.LOA_TUNE_INTERVAL },
  { index := 0x4110, sub := 8, type := .u32, access := .rw, range := (.span 1 16777215), cls := .cfg, block := 4,
    reg := fun _ _ => Obj.LOA_TUNE_STEP_MAX },
  { index := 0x4110, sub := 9, type := .u8, access := .rw, range := (.span 1 255), cls := .cfg, block := 4,
    reg := fun _ _ => Obj.LOA_TUNE_FRAC },
  { index := 0x4110, sub := 10, type := .u32, access := .rw, range := (.span 0 60000), cls := .cfg, block := 4,
    reg := fun _ _ => Obj.LOA_TUNE_SETTLE },
  { index := 0x4110, sub := 11, type := .u16, access := .rw, range := (.span 1 1000), cls := .cfg, block := 4,
    reg := fun _ _ => Obj.LOA_GAIN_TOL },
  { index := 0x4200, sub := 1, type := .u32, access := .rw, range := (.span 1 1073741824), cls := .cfg, block := 4,
    reg := fun _ _ => Obj.SV_KP },
  { index := 0x4200, sub := 2, type := .u32, access := .rw, range := (.span 1 4294967295), cls := .cfg, block := 4,
    reg := fun _ _ => Obj.SV_KI },
  { index := 0x4200, sub := 3, type := .u32, access := .rw, range := (.span 1 1073741824), cls := .cfg, block := 4,
    reg := fun _ _ => Obj.SV_KP_STBY },
  { index := 0x4200, sub := 4, type := .u32, access := .rw, range := (.span 1 4294967295), cls := .cfg, block := 4,
    reg := fun _ _ => Obj.SV_KI_STBY },
  { index := 0x4200, sub := 5, type := .bool, access := .rw, cls := .cfg, block := 4, reg := fun _ _ => Obj.SV_FF_EN },
  { index := 0x4200, sub := 6, type := .u32, access := .rw, range := (.span 1 1000000), cls := .cfg, block := 4,
    reg := fun _ _ => Obj.SV_FSTEP_MAX },
  { index := 0x4200, sub := 7, type := .u32, access := .rw, range := (.span 1 200000), cls := .cfg, block := 4,
    reg := fun _ _ => Obj.SV_RATE_MAX },
  { index := 0x4200, sub := 8, type := .i64, access := .ro, cls := .st, block := 4, reg := fun _ _ => Obj.SV_RATE },
  { index := 0x4200, sub := 9, type := .i64, access := .ro, cls := .st, block := 4, reg := fun _ _ => Obj.SV_INTEG },
  { index := 0x4300, sub := 1, type := .i64, access := .rw, cls := .cfg, block := 4, reg := fun _ _ => Obj.SWL_RATE },
  { index := 0x4300, sub := 2, type := .u32, access := .rw, cls := .cfg, block := 4, reg := fun _ _ => Obj.SWL_TAG,
    write := some (fun s _ _ v => s.commitTag v.toNat) },
  { index := 0x4300, sub := 3, type := .u32, access := .rw, range := (.span 20 10000), cls := .cfg, block := 4,
    reg := fun _ _ => Obj.SWL_TIMEOUT },
  { index := 0x4300, sub := 4, type := .u32, access := .ro, cls := .st, block := 4, reg := fun _ _ => Obj.HD_RING21_LOST },
  { index := 0x4400, sub := 1, type := .u8, access := .rw, range := (.span 0 1), cls := .cfg, block := 4,
    reg := fun _ _ => Obj.FP_MODE },
  { index := 0x4400, sub := 2, type := .u8, access := .ro, cls := .st, block := 4, reg := fun _ _ => Obj.FP_SOURCE },
  { index := 0x4400, sub := 3, type := .u32, access := .rw, range := (.span 1 1000), cls := .cfg, block := 4,
    reg := fun _ _ => Obj.FP_TAU },
  { index := 0x4400, sub := 4, type := .u32, access := .rw, range := (.span 1 1000000), cls := .cfg, block := 4,
    reg := fun _ _ => Obj.FP_SLOPE },
  { index := 0x4400, sub := 5, type := .u32, access := .rw, range := (.span 0 3600), cls := .cfg, block := 4,
    reg := fun _ _ => Obj.FP_HOLD },
  { index := 0x4400, sub := 6, type := .i64, access := .ro, cls := .st, block := 4, reg := fun _ _ => Obj.FP_WORD },
  { index := 0x4400, sub := 7, type := .i64, access := .ro, cls := .st, block := 4, reg := fun _ _ => Obj.FP_BUILDOUT },
  { index := 0x4A00, sub := 1, type := .bool, access := .ro, cls := .st, block := 10, reg := fun _ _ => Obj.TS_ENABLE },
  { index := 0x4A00, sub := 2, type := .u32, access := .sq, range := (.sticky 0x7E), cls := .clear, block := 10,
    reg := fun _ _ => Obj.TS_STATUS, read := some (fun s _ _ => State.tsStatus s) },
  { index := 0x4A00, sub := 3, type := .u32, access := .ro, cls := .st, block := 10,
    reg := fun _ _ => Obj.TS_LAST_IGNORED },
  { index := 0x4A10, sub := 1, type := .time112, access := .ro, cls := .st, block := 10, reg := fun _ _ => Obj.TS_NOW,
    read := some (fun s _ _ => (s.now48 / 2 ^ 16 : Nat)) },
  { index := 0x4A10, sub := 2, type := .i64, access := .ro, cls := .st, block := 10, reg := fun _ _ => Obj.TS_RATE_TOTAL,
    read := some (fun s _ _ => s.rateTotal) },
  { index := 0x4A10, sub := 3, type := .u32, access := .rw, range := (.span 1 100000), cls := .cfg, block := 10,
    reg := fun _ _ => Obj.TS_SLEW_MAX },
  { index := 0x4A10, sub := 4, type := .i64, access := .ro, cls := .st, block := 10, reg := fun _ _ => Obj.TS_SLEW_PEND,
    read := some (fun s _ _ => s.slewPend) }]

/-- Objects 4A10 to 4C28. -/
def objRows4 : List ObjRow := [
  { index := 0x4A10, sub := 5, type := .bool, access := .ro, cls := .st, block := 10, reg := fun _ _ => Obj.TS_VALID },
  { index := 0x4A12, sub := 1, type := .time112, access := .rw, cls := .oper, block := 10,
    reg := fun _ _ => Obj.TS_SET_VAL },
  { index := 0x4A12, sub := 2, type := .time80, access := .rw, cls := .oper, block := 10,
    reg := fun _ _ => Obj.TS_SET_AT },
  { index := 0x4A12, sub := 3, type := .u32, access := .rw, cls := .oper, block := 10, reg := fun _ _ => Obj.TS_SET_UNC },
  { index := 0x4A12, sub := 4, type := .u8, access := .wo, range := (.span 1 3), cls := .oper, block := 10,
    reg := fun _ _ => Obj.TS_SET_CMD, write := some (fun s _ _ v => s.tsSetCmd v.toNat) },
  { index := 0x4A14, sub := 1, type := .bool, access := .rwl, cls := .rwl, block := 10, lock := 3,
    reg := fun _ _ => Obj.TS_STEP_ALLOWED },
  { index := 0x4A14, sub := 2, type := .u32, access := .rwl, range := (.span 100 1000000000), cls := .rwl, block := 10,
    lock := 3, reg := fun _ _ => Obj.TS_STEP_MIN },
  { index := 0x4A14, sub := 3, type := .u16, access := .ro, cls := .st, block := 10, reg := fun _ _ => Obj.TS_STEP_GEN },
  { index := 0x4A14, sub := 4, type := .time112, access := .ro, cls := .st, block := 10,
    reg := fun _ _ => Obj.TS_STEP_FROM },
  { index := 0x4A14, sub := 5, type := .time112, access := .ro, cls := .st, block := 10,
    reg := fun _ _ => Obj.TS_STEP_TO },
  { index := 0x4A20, sub := 1, type := .i16, access := .ro, cls := .st, block := 10, reg := fun _ _ => Obj.UTC_OFFSET },
  { index := 0x4A20, sub := 2, type := .u8, access := .rw, range := (.span 0 1), cls := .cfg, block := 10,
    reg := fun _ _ => Obj.UTC_SRC, write := some (fun s _ _ v => s.setUtcSrc v) },
  { index := 0x4A20, sub := 3, type := .i16, access := .rw, range := (.span (-128) 127), cls := .cfg, block := 10,
    reg := fun _ _ => Obj.UTC_HOST_OFFSET },
  { index := 0x4A20, sub := 4, type := .u8, access := .rw, range := (.span 0 2), cls := .cfg, block := 10,
    reg := fun _ _ => Obj.UTC_HOST_LEAP },
  { index := 0x4A20, sub := 5, type := .u8, access := .ro, cls := .st, block := 10, reg := fun _ _ => Obj.UTC_LEAP_PEND },
  { index := 0x4A20, sub := 6, type := .time80, access := .ro, cls := .st, block := 10,
    reg := fun _ _ => Obj.UTC_LEAP_AT },
  { index := 0x4A20, sub := 7, type := .bool, access := .ro, cls := .st, block := 10, reg := fun _ _ => Obj.UTC_VALID },
  { index := 0x4A20, sub := 8, type := .u32, access := .rw, range := (.span 1 3600), cls := .cfg, block := 10,
    reg := fun _ _ => Obj.UTC_AUTO_HOLD },
  { index := 0x4C00, sub := 1, type := .bool, access := .ro, cls := .st, block := 11, reg := fun _ _ => Obj.TEB_ENABLE },
  { index := 0x4C00, sub := 2, type := .u32, access := .sq, range := (.sticky 0x7), cls := .clear, block := 11,
    reg := fun _ _ => Obj.TEB_STATUS, read := some (fun s _ _ => State.tebStatus s) },
  { index := 0x4C00, sub := 3, type := .u32, access := .ro, cls := .st, block := 11,
    reg := fun _ _ => Obj.TEB_LAST_IGNORED },
  { index := 0x4C10, sub := 1, type := .u32, access := .rw, cls := .cfg, block := 11,
    reg := fun _ _ => Obj.TEB_THR_LOCKED },
  { index := 0x4C10, sub := 2, type := .u32, access := .rw, cls := .cfg, block := 11,
    reg := fun _ _ => Obj.TEB_THR_HOLDOVER },
  { index := 0x4C10, sub := 3, type := .u32, access := .rw, cls := .cfg, block := 11, reg := fun _ _ => Obj.TEB_THR_PIN },
  { index := 0x4C10, sub := 4, type := .u8, access := .rw, range := (.span 0 1), cls := .cfg, block := 11,
    reg := fun _ _ => Obj.TEB_PIN_SRC },
  { index := 0x4C10, sub := 5, type := .u32, access := .rw, range := (.span 0 60000), cls := .cfg, block := 11,
    reg := fun _ _ => Obj.TEB_PIN_HOLD },
  { index := 0x4C20, sub := 1, type := .u8, access := .rw, range := (.span 1 6), cls := .cfg, block := 11,
    reg := fun _ _ => Obj.TEB_K, write := some (fun s _ _ v => (s.wr Obj.TEB_K v).tebHeld) },
  { index := 0x4C20, sub := 2, type := .u32, access := .rw, cls := .cfg, block := 11, reg := fun _ _ => Obj.TEB_PKT_ASYM },
  { index := 0x4C20, sub := 3, type := .u32, access := .rw, range := (.span 1 1000000000), cls := .cfg, block := 11,
    reg := fun _ _ => Obj.TEB_FA_FREQ },
  { index := 0x4C21, sub := 1, subs := 8, type := .u32, access := .rw, cls := .cfg, block := 11,
    reg := fun _ i => Obj.TEB_PORT_CAL i },
  { index := 0x4C22, sub := 1, subs := 16, type := .u32, access := .rw, cls := .cfg, block := 11,
    reg := fun _ i => Obj.TEB_OUT_CAL i },
  { index := 0x4C23, sub := 1, subs := 16, type := .u32, access := .rw, cls := .cfg, block := 11,
    reg := fun _ i => Obj.TEB_EVT_CAL i },
  { index := 0x4C28, sub := 1, type := .u32, access := .ro, cls := .st, block := 11, reg := fun _ _ => Obj.TEB_T_REF },
  { index := 0x4C28, sub := 2, type := .u32, access := .ro, cls := .st, block := 11, reg := fun _ _ => Obj.TEB_T_RES },
  { index := 0x4C28, sub := 3, type := .u32, access := .ro, cls := .st, block := 11, reg := fun _ _ => Obj.TEB_T_MEAS },
  { index := 0x4C28, sub := 4, type := .u32, access := .ro, cls := .st, block := 11, reg := fun _ _ => Obj.TEB_T_SERVO },
  { index := 0x4C28, sub := 5, type := .u32, access := .ro, cls := .st, block := 11, reg := fun _ _ => Obj.TEB_T_SWITCH },
  { index := 0x4C28, sub := 6, type := .u32, access := .ro, cls := .st, block := 11, reg := fun _ _ => Obj.TEB_T_AMB },
  { index := 0x4C28, sub := 7, type := .u32, access := .ro, cls := .st, block := 11, reg := fun _ _ => Obj.TEB_T_DRIFT },
  { index := 0x4C28, sub := 8, type := .u32, access := .ro, cls := .st, block := 11, reg := fun _ _ => Obj.TEB_T_TUNE }]

/-- Objects 4C28 to 5011. -/
def objRows5 : List ObjRow := [
  { index := 0x4C28, sub := 9, type := .u32, access := .ro, cls := .st, block := 11, reg := fun _ _ => Obj.TEB_T_HAND },
  { index := 0x4C28, sub := 10, type := .u32, access := .ro, cls := .st, block := 11, reg := fun _ _ => Obj.TEB_T_BASE },
  { index := 0x4C28, sub := 11, type := .u32, access := .ro, cls := .st, block := 11, reg := fun _ _ => Obj.TEB_T_HOLD },
  { index := 0x4C28, sub := 12, type := .u32, access := .ro, cls := .st, block := 11, reg := fun _ _ => Obj.TEB_T_SET },
  { index := 0x4C30, sub := 1, type := .u32, access := .ro, cls := .st, block := 11, reg := fun _ _ => Obj.TEB_TS },
  { index := 0x4C31, sub := 1, subs := 8, type := .u32, access := .ro, cls := .st, block := 11,
    reg := fun _ i => Obj.TEB_PORT i, read := some (fun s _ i => (s.portBound i : Nat)) },
  { index := 0x4C32, sub := 1, subs := 16, type := .u32, access := .ro, cls := .st, block := 11,
    reg := fun _ i => Obj.TEB_OUT i, read := some (fun s _ i => (s.outBound i : Nat)) },
  { index := 0x4C33, sub := 1, subs := 16, type := .u32, access := .ro, cls := .st, block := 11,
    reg := fun _ i => Obj.TEB_EVT i, read := some (fun s _ i => (s.evtBound i : Nat)) },
  { index := 0x4C34, sub := 1, type := .u32, access := .ro, cls := .st, block := 11, reg := fun _ _ => Obj.SNAP_TEB_TS },
  { index := 0x4C35, sub := 1, subs := 8, type := .u32, access := .ro, cls := .st, block := 11,
    reg := fun _ i => Obj.SNAP_TEB_PORT i },
  { index := 0x4C36, sub := 1, subs := 16, type := .u32, access := .ro, cls := .st, block := 11,
    reg := fun _ i => Obj.SNAP_TEB_OUT i },
  { index := 0x4C37, sub := 1, subs := 16, type := .u32, access := .ro, cls := .st, block := 11,
    reg := fun _ i => Obj.SNAP_TEB_EVT i },
  { index := 0x4C40, indices := 2, sub := 1, type := .u32, access := .rw, cls := .cfg, block := 11,
    reg := fun _ i => Obj.TEB_LO_FREQ0 i, write := some (fun s _ i v => (s.wr (Obj.TEB_LO_FREQ0 i) v).tebHeld) },
  { index := 0x4C40, indices := 2, sub := 2, type := .u32, access := .rw, cls := .cfg, block := 11,
    reg := fun _ i => Obj.TEB_LO_AGE i, write := some (fun s _ i v => (s.wr (Obj.TEB_LO_AGE i) v).tebHeld) },
  { index := 0x4C40, indices := 2, sub := 3, type := .u32, access := .rw, cls := .cfg, block := 11,
    reg := fun _ i => Obj.TEB_LO_WFM i, write := some (fun s _ i v => (s.wr (Obj.TEB_LO_WFM i) v).tebHeld) },
  { index := 0x4C40, indices := 2, sub := 4, type := .u32, access := .rw, cls := .cfg, block := 11,
    reg := fun _ i => Obj.TEB_LO_RW i, write := some (fun s _ i v => (s.wr (Obj.TEB_LO_RW i) v).tebHeld) },
  { index := 0x4C40, indices := 2, sub := 5, type := .u32, access := .rw, cls := .cfg, block := 11,
    reg := fun _ i => Obj.TEB_LO_TEMP i, write := some (fun s _ i v => (s.wr (Obj.TEB_LO_TEMP i) v).tebHeld) },
  { index := 0x4C60, sub := 1, type := .u8, access := .rw, range := (.span 0 255), cls := .cfg, block := 11,
    reg := fun _ _ => Obj.TEB_CC_LOCKED },
  { index := 0x4C60, sub := 2, type := .u8, access := .rw, range := (.span 0 255), cls := .cfg, block := 11,
    reg := fun _ _ => Obj.TEB_CC_ACQUIRE },
  { index := 0x4C60, sub := 3, type := .u8, access := .rw, range := (.span 0 255), cls := .cfg, block := 11,
    reg := fun _ _ => Obj.TEB_CC_HOLD },
  { index := 0x4C60, sub := 4, type := .u8, access := .rw, range := (.span 0 255), cls := .cfg, block := 11,
    reg := fun _ _ => Obj.TEB_CC_DEGR },
  { index := 0x4C60, sub := 5, type := .u8, access := .rw, range := (.span 0 255), cls := .cfg, block := 11,
    reg := fun _ _ => Obj.TEB_CC_FREE },
  { index := 0x4C60, sub := 6, type := .u8, access := .rw, range := (.span 0 255), cls := .cfg, block := 11,
    reg := fun _ _ => Obj.TEB_CC_STBY },
  { index := 0x4C60, sub := 7, type := .u8, access := .rw, range := (.span 0 255), cls := .cfg, block := 11,
    reg := fun _ _ => Obj.TEB_CC_FAULT },
  { index := 0x4C70, sub := 1, type := .bool, access := .rw, cls := .cfg, block := 11, reg := fun _ _ => Obj.TEB_LOG_EN },
  { index := 0x4C70, sub := 2, type := .u8, access := .rw, range := (.span 1 64), cls := .cfg, block := 11,
    reg := fun _ _ => Obj.TEB_LOG_EVMAX },
  { index := 0x4C70, sub := 3, type := .u32, access := .ro, cls := .st, block := 11, reg := fun _ _ => Obj.TEB_LOG_LOST },
  { index := 0x4C70, sub := 4, type := .u32, access := .ro, cls := .st, block := 11, reg := fun _ _ => Obj.TEB_LOG_SUPPR },
  { index := 0x5000, sub := 1, type := .bool, access := .ro, cls := .st, block := 5, reg := fun _ _ => Obj.SYN_ENABLE },
  { index := 0x5000, sub := 2, type := .u32, access := .sq, range := (.sticky 0x17), cls := .clear, block := 5,
    reg := fun _ _ => Obj.SYN_STATUS, read := some (fun s _ _ => State.synStatus s) },
  { index := 0x5000, sub := 3, type := .u32, access := .ro, cls := .st, block := 5,
    reg := fun _ _ => Obj.SYN_LAST_IGNORED },
  { index := 0x5010, sub := 1, type := .u8, access := .ro, cls := .st, block := 5, reg := fun _ _ => Obj.APLLA_STATE },
  { index := 0x5010, sub := 2, type := .u8, access := .rw, range := (.span 0 3), cls := .cfg, block := 5,
    reg := fun _ _ => Obj.APLLA_BW, write := some (fun s _ _ v => s.apllConfig .a 0 v.toNat) },
  { index := 0x5010, sub := 3, type := .u16, access := .rw, range := (.span 10 10000), cls := .cfg, block := 5,
    reg := fun _ _ => Obj.APLLA_LOCK_WIN, write := some (fun s _ _ v => s.apllConfig .a 1 v.toNat) },
  { index := 0x5010, sub := 4, type := .u16, access := .rw, range := (.span 1 65535), cls := .cfg, block := 5,
    reg := fun _ _ => Obj.APLLA_LOCK_CNT, write := some (fun s _ _ v => s.apllConfig .a 2 v.toNat) },
  { index := 0x5010, sub := 5, type := .u8, access := .ro, cls := .st, block := 5, reg := fun _ _ => Obj.LO_FREQ },
  { index := 0x5011, sub := 1, type := .u8, access := .ro, cls := .st, block := 5, reg := fun _ _ => Obj.APLLB_STATE },
  { index := 0x5011, sub := 2, type := .u8, access := .rw, range := (.span 0 3), cls := .cfg, block := 5,
    reg := fun _ _ => Obj.APLLB_BW, write := some (fun s _ _ v => s.apllConfig .b 0 v.toNat) },
  { index := 0x5011, sub := 3, type := .u16, access := .rw, range := (.span 10 10000), cls := .cfg, block := 5,
    reg := fun _ _ => Obj.APLLB_LOCK_WIN, write := some (fun s _ _ v => s.apllConfig .b 1 v.toNat) },
  { index := 0x5011, sub := 4, type := .u16, access := .rw, range := (.span 1 65535), cls := .cfg, block := 5,
    reg := fun _ _ => Obj.APLLB_LOCK_CNT, write := some (fun s _ _ v => s.apllConfig .b 2 v.toNat) }]

/-- Objects 5100 to 5500. -/
def objRows6 : List ObjRow := [
  { index := 0x5100, sub := 1, subs := 8, type := .bool, access := .rw, cls := .cfg, block := 5,
    reg := fun _ i => Obj.FOS_EN i, write := some (fun s _ i v => s.setFosEn i (v != 0)) },
  { index := 0x5110, sub := 1, subs := 8, type := .u64, access := .rw,
    range := (.span 4800000000000000 5600000000000000), cls := .cfg, block := 5, reg := fun _ i => Obj.FOS_FREQ i,
    write := some (fun s _ i v => s.setFosFreq i v.toNat) },
  { index := 0x5120, sub := 1, subs := 8, type := .u8, access := .rwd, range := (.span 0 2), cls := .cfg, block := 5,
    enable := some Obj.FOS_EN, reg := fun _ i => Obj.FOS_FOLLOW i },
  { index := 0x5130, sub := 1, subs := 8, type := .bool, access := .rwd, cls := .cfg, block := 5,
    enable := some Obj.FOS_EN, reg := fun _ i => Obj.FOS_DITHER i },
  { index := 0x5140, sub := 1, subs := 8, type := .u32, access := .rwd, range := (.span 1 4294967295), cls := .cfg,
    block := 5, enable := some Obj.FOS_EN, reg := fun _ i => Obj.FOS_SEED i },
  { index := 0x5150, sub := 1, subs := 8, type := .u16, access := .rwd, range := (.span 10 10000), cls := .cfg,
    block := 5, enable := some Obj.FOS_EN, reg := fun _ i => Obj.FOS_LOCK_WIN i },
  { index := 0x5160, sub := 1, subs := 8, type := .u16, access := .rwd, range := (.span 1 65535), cls := .cfg,
    block := 5, enable := some Obj.FOS_EN, reg := fun _ i => Obj.FOS_LOCK_CNT i },
  { index := 0x5170, sub := 1, subs := 8, type := .u64, access := .ro, cls := .st, block := 5,
    reg := fun _ i => Obj.FOS_WORD i },
  { index := 0x5180, sub := 1, subs := 8, type := .u8, access := .ro, cls := .st, block := 5,
    reg := fun _ i => Obj.FOS_STATE i },
  { index := 0x5200, sub := 1, subs := 16, type := .bool, access := .rw, cls := .cfg, block := 5,
    reg := fun _ i => Obj.OUT_EN i, write := some (fun s _ i v => s.setOutEn i (v != 0)) },
  { index := 0x5210, sub := 1, subs := 16, type := .u32, access := .rwd, range := (.word 0x7E0F01 [(8, 4, 0, 5)]),
    cls := .cfg, block := 5, enable := some Obj.OUT_EN, reg := fun _ i => Obj.OUT_CFG i },
  { index := 0x5220, sub := 1, subs := 16, type := .u32, access := .rwd, range := (.span 4 16777215), cls := .cfg,
    block := 5, enable := some Obj.OUT_EN, reg := fun _ i => Obj.OUT_DIV i },
  { index := 0x5230, sub := 1, subs := 16, type := .i32, access := .rwd, cls := .cfg, block := 5,
    enable := some Obj.OUT_EN, reg := fun _ i => Obj.OUT_OFFSET i },
  { index := 0x5240, sub := 1, subs := 16, type := .u16, access := .ro, cls := .st, block := 5,
    reg := fun _ i => Obj.OUT_SQ_CAUSE i, read := some (fun s _ i => (s.outSqCause i : Nat)) },
  { index := 0x5241, sub := 1, subs := 16, type := .u8, access := .ro, cls := .st, block := 5,
    reg := fun _ i => Obj.OUT_STATE i, read := some (fun s _ i => (s.outState i : Nat)) },
  { index := 0x5250, sub := 1, subs := 16, type := .i32, access := .ro, cls := .st, block := 5,
    reg := fun _ i => Obj.OUT_LB i },
  { index := 0x5260, sub := 1, subs := 16, type := .bool, access := .rwl, cls := .rwl, block := 5, lock := 5,
    reg := fun _ i => Obj.OUT_HISWING i },
  { index := 0x5300, sub := 1, type := .u16, access := .rw, range := (.span 10 10000), cls := .cfg, block := 5,
    reg := fun _ _ => Obj.LB_TOL },
  { index := 0x5300, sub := 2, type := .u8, access := .rw, range := (.span 1 255), cls := .cfg, block := 5,
    reg := fun _ _ => Obj.LB_FAILS },
  { index := 0x5300, sub := 3, type := .u16, access := .rw, range := (.span 1 3600), cls := .cfg, block := 5,
    reg := fun _ _ => Obj.LB_STALE },
  { index := 0x5400, sub := 1, subs := 16, type := .bool, access := .rw, cls := .cfg, block := 6,
    reg := fun _ i => Obj.EVT_EN i, write := some (fun s _ i v => s.setEvtEn i (v != 0)) },
  { index := 0x5410, sub := 1, subs := 16, type := .u32, access := .rwd, range := (.word 0x1F03 [(9, 2, 0, 1)]),
    cls := .cfg, block := 6, enable := some Obj.EVT_EN, reg := fun _ i => Obj.EVT_CFG i },
  { index := 0x5420, sub := 1, subs := 16, type := .i32, access := .rwd, cls := .cfg, block := 6,
    enable := some Obj.EVT_EN, reg := fun _ i => Obj.EVT_OFFSET i },
  { index := 0x5430, sub := 1, subs := 16, type := .time80, access := .rwd, range := (.mult 1000000000), cls := .cfg,
    block := 6, enable := some Obj.EVT_EN, reg := fun _ i => Obj.EVT_PRG_START i },
  { index := 0x5431, sub := 1, subs := 16, type := .u64, access := .rwd, range := .phase, cls := .cfg, block := 6,
    enable := some Obj.EVT_EN, reg := fun _ i => Obj.EVT_PRG_PHASE i },
  { index := 0x5432, sub := 1, subs := 16, type := .u32, access := .rwd, range := (.span 1 250000000), cls := .cfg,
    block := 6, enable := some Obj.EVT_EN, reg := fun _ i => Obj.EVT_PRG_N i },
  { index := 0x5433, sub := 1, subs := 16, type := .u32, access := .rwd, range := (.span 1 3600), cls := .cfg,
    block := 6, enable := some Obj.EVT_EN, reg := fun _ i => Obj.EVT_PRG_S i },
  { index := 0x5434, sub := 1, subs := 16, type := .u64, access := .rwd, cls := .cfg, block := 6,
    enable := some Obj.EVT_EN, reg := fun _ i => Obj.EVT_PRG_WIDTH i },
  { index := 0x5440, sub := 1, subs := 16, type := .time112, access := .rw, cls := .oper, block := 6,
    reg := Obj.EVT_ENT_AT },
  { index := 0x5441, sub := 1, subs := 16, type := .u8, access := .rw, range := (.span 1 3), cls := .oper, block := 6,
    reg := Obj.EVT_ENT_KIND },
  { index := 0x5442, sub := 1, subs := 16, type := .u64, access := .rw, cls := .oper, block := 6,
    reg := Obj.EVT_ENT_WIDTH },
  { index := 0x5443, sub := 1, subs := 16, type := .bool, access := .wo, range := (.span 1 1), cls := .oper, block := 6,
    reg := fun _ i => Obj.EVT_ENT_PUSH i, write := some (fun s w i _ => s.push w.link i) },
  { index := 0x5444, sub := 1, subs := 16, type := .bool, access := .wo, range := (.span 1 1), cls := .oper, block := 6,
    reg := fun _ i => Obj.EVT_Q_FLUSH i, write := some (fun s _ i _ => s.flush i) },
  { index := 0x5450, sub := 1, subs := 16, type := .u8, access := .ro, cls := .st, block := 6,
    reg := fun _ i => Obj.EVT_Q_FILL i, read := some (fun s _ i => ((s.evt i).queue.length : Nat)) },
  { index := 0x5451, sub := 1, subs := 16, type := .u8, access := .ro, cls := .st, block := 6,
    reg := fun _ i => Obj.EVT_STATE i },
  { index := 0x5452, sub := 1, subs := 16, type := .u32, access := .ro, cls := .st, block := 6,
    reg := fun _ i => Obj.EVT_SUPPR i },
  { index := 0x5453, sub := 1, subs := 16, type := .u32, access := .ro, cls := .st, block := 6,
    reg := fun _ i => Obj.EVT_LATE_DROP i },
  { index := 0x5454, sub := 1, subs := 16, type := .i32, access := .ro, cls := .st, block := 6,
    reg := fun _ i => Obj.EVT_LB i },
  { index := 0x5455, sub := 1, subs := 16, type := .u8, access := .ro, cls := .st, block := 6,
    reg := Obj.EVT_PUSH_RESULT },
  { index := 0x5500, sub := 1, subs := 4, type := .bool, access := .rw, cls := .cfg, block := 6,
    reg := fun _ i => Obj.GRP_EN i, write := some (fun s _ i v => s.setGrpEn i (v != 0)) }]

/-- Objects 5510 to 7520. -/
def objRows7 : List ObjRow := [
  { index := 0x5510, sub := 1, subs := 4, type := .u16, access := .rwd, cls := .cfg, block := 6,
    enable := some Obj.GRP_EN, reg := fun _ i => Obj.GRP_MEMBERS i },
  { index := 0x5520, sub := 1, subs := 4, type := .time80, access := .rwd, range := (.mult 1000000000), cls := .cfg,
    block := 6, enable := some Obj.GRP_EN, reg := fun _ i => Obj.GRP_START i },
  { index := 0x5530, sub := 1, subs := 4, type := .u32, access := .rwd, range := (.span 1 1000000), cls := .cfg,
    block := 6, enable := some Obj.GRP_EN, reg := fun _ i => Obj.GRP_N i },
  { index := 0x5540, sub := 1, subs := 4, type := .u32, access := .rwd, range := (.span 1 3600), cls := .cfg, block := 6,
    enable := some Obj.GRP_EN, reg := fun _ i => Obj.GRP_S i },
  { index := 0x5550, sub := 1, subs := 4, type := .u16, access := .ro, cls := .st, block := 6,
    reg := fun _ i => Obj.GRP_UNDERRUN i },
  { index := 0x5600, sub := 1, type := .bool, access := .rw, cls := .cfg, block := 6, reg := fun _ _ => Obj.EV_ENABLE,
    write := some (fun s _ _ v => s.setEvEnable (v != 0)) },
  { index := 0x5600, sub := 2, type := .u32, access := .sq, range := (.sticky 0x1F), cls := .clear, block := 6,
    reg := fun _ _ => Obj.EV_STATUS, read := some (fun s _ _ => State.evStatus s) },
  { index := 0x5600, sub := 3, type := .u32, access := .ro, cls := .st, block := 6,
    reg := fun _ _ => Obj.EV_LAST_IGNORED },
  { index := 0x6100, sub := 1, type := .u32, access := .ro, cls := .st, block := 3, reg := fun _ _ => Obj.CAP_RUN,
    read := some (fun s _ _ => s.capRun) },
  { index := 0x7000, sub := 1, type := .bool, access := .rw, cls := .cfg, block := 7, reg := fun _ _ => Obj.GN_ENABLE,
    write := some (fun s _ _ v => s.setGnEnable (v != 0)) },
  { index := 0x7000, sub := 2, type := .u32, access := .sq, range := (.sticky 0x1F), cls := .clear, block := 7,
    reg := fun _ _ => Obj.GN_STATUS, read := some (fun s _ _ => State.gnStatus s) },
  { index := 0x7000, sub := 3, type := .u32, access := .ro, cls := .st, block := 7,
    reg := fun _ _ => Obj.GN_LAST_IGNORED },
  { index := 0x7000, sub := 4, type := .u32, access := .ro, cls := .st, block := 7, reg := fun _ _ => Obj.GN_RING19_LOST },
  { index := 0x7100, sub := 1, subs := 4, type := .bool, access := .rw, cls := .cfg, block := 7,
    reg := fun _ i => Obj.FE_EN i, write := some (fun s _ i v => s.setFeEn i (v != 0)) },
  { index := 0x7110, sub := 1, subs := 4, type := .u32, access := .rwd, range := (.word 0x1FD []), cls := .cfg,
    block := 7, enable := some Obj.FE_EN, reg := fun _ i => Obj.FE_CFG i },
  { index := 0x7120, sub := 1, subs := 4, type := .u32, access := .rwd, range := (.span 1 65535), cls := .cfg,
    block := 7, enable := some Obj.FE_EN, reg := fun _ i => Obj.FE_LO_NUM i },
  { index := 0x7121, sub := 1, subs := 4, type := .u32, access := .rwd, range := (.span 1 65535), cls := .cfg,
    block := 7, enable := some Obj.FE_EN, reg := fun _ i => Obj.FE_LO_DEN i },
  { index := 0x7130, sub := 1, subs := 4, type := .u8, access := .ro, cls := .st, block := 7,
    reg := fun _ i => Obj.FE_STATE i },
  { index := 0x7131, sub := 1, subs := 4, type := .u16, access := .ro, cls := .st, block := 7,
    reg := fun _ i => Obj.FE_MAGDENS i, read := some (fun s _ i => if s.feState i = 0 then 0 else ((Config.magDensity i s.clk.ts.sec).toNat : Nat)) },
  { index := 0x7200, sub := 1, type := .u8, access := .rwd, range := (.span 1 20), cls := .cfg, block := 7,
    enable := some fun _ => Obj.GN_ENABLE, reg := fun _ _ => Obj.ACQ_COH_MS },
  { index := 0x7200, sub := 2, type := .u8, access := .rwd, range := (.span 1 100), cls := .cfg, block := 7,
    enable := some fun _ => Obj.GN_ENABLE, reg := fun _ _ => Obj.ACQ_NONCOH },
  { index := 0x7200, sub := 3, type := .u16, access := .rwd, range := (.span 100 10000), cls := .cfg, block := 7,
    enable := some fun _ => Obj.GN_ENABLE, reg := fun _ _ => Obj.ACQ_THRESH },
  { index := 0x7200, sub := 4, type := .u16, access := .rwd, range := (.span 100 20000), cls := .cfg, block := 7,
    enable := some fun _ => Obj.GN_ENABLE, reg := fun _ _ => Obj.ACQ_COLD_WIN },
  { index := 0x7200, sub := 5, type := .u16, access := .rwd, range := (.span 1 5000), cls := .cfg, block := 7,
    enable := some fun _ => Obj.GN_ENABLE, reg := fun _ _ => Obj.ACQ_AID_FMARGIN },
  { index := 0x7200, sub := 6, type := .u32, access := .rwd, range := (.span 10 1000000), cls := .cfg, block := 7,
    enable := some fun _ => Obj.GN_ENABLE, reg := fun _ _ => Obj.ACQ_AID_RMARGIN },
  { index := 0x7210, sub := 1, type := .u16, access := .rwd, range := (.span 100 5000), cls := .cfg, block := 7,
    enable := some fun _ => Obj.GN_ENABLE, reg := fun _ _ => Obj.TRK_PLL_BW },
  { index := 0x7210, sub := 2, type := .u16, access := .rwd, range := (.span 5 500), cls := .cfg, block := 7,
    enable := some fun _ => Obj.GN_ENABLE, reg := fun _ _ => Obj.TRK_DLL_BW },
  { index := 0x7210, sub := 3, type := .u16, access := .rwd, range := (.span 50 1000), cls := .cfg, block := 7,
    enable := some fun _ => Obj.GN_ENABLE, reg := fun _ _ => Obj.TRK_EL_SPACING },
  { index := 0x7210, sub := 4, type := .u16, access := .rwd, range := (.span 100 1500), cls := .cfg, block := 7,
    enable := some fun _ => Obj.GN_ENABLE, reg := fun _ _ => Obj.TRK_MP_SPACING },
  { index := 0x7210, sub := 5, type := .u16, access := .rwd, range := (.span 1500 4000), cls := .cfg, block := 7,
    enable := some fun _ => Obj.GN_ENABLE, reg := fun _ _ => Obj.TRK_CN0_MIN },
  { index := 0x7300, sub := 1, subs := 192, type := .u32, access := .ro, cls := .st, block := 7,
    reg := fun _ i => Obj.TRK_ASSIGN i },
  { index := 0x7310, sub := 1, subs := 192, type := .u8, access := .ro, cls := .st, block := 7,
    reg := fun _ i => Obj.TRK_STATE i },
  { index := 0x7320, sub := 1, subs := 192, type := .u16, access := .ro, cls := .st, block := 7,
    reg := fun _ i => Obj.TRK_CN0 i },
  { index := 0x7400, sub := 1, type := .u8, access := .rwd, range := (.oneOf [1, 2, 4, 5, 10, 20]), cls := .cfg,
    block := 7, enable := some fun _ => Obj.GN_ENABLE, reg := fun _ _ => Obj.EP_RATE },
  { index := 0x7400, sub := 2, type := .bool, access := .rw, cls := .cfg, block := 7, reg := fun _ _ => Obj.EP_RING_EN },
  { index := 0x7500, sub := 1, subs := 2, type := .bool, access := .rw, cls := .cfg, block := 7,
    reg := fun _ i => Obj.RX_EN i, write := some (fun s _ i v => s.setRxEn i (v != 0)) },
  { index := 0x7510, sub := 1, subs := 2, type := .u8, access := .rwd, range := (.span 0 1), cls := .cfg, block := 7,
    enable := some Obj.RX_EN, reg := fun _ i => Obj.RX_MODE i },
  { index := 0x7511, sub := 1, subs := 2, type := .u32, access := .rwd, range := (.span 600 604800), cls := .cfg,
    block := 7, enable := some Obj.RX_EN, reg := fun _ i => Obj.RX_SURVEY_TIME i },
  { index := 0x7512, sub := 1, subs := 2, type := .u16, access := .rwd, range := (.span 1 10000), cls := .cfg,
    block := 7, enable := some Obj.RX_EN, reg := fun _ i => Obj.RX_SURVEY_SIGMA i },
  { index := 0x7520, sub := 1, subs := 2, type := .domain, access := .rw, cls := .cfg, block := 7,
    reg := fun _ i => Obj.RX_POS i, size := 24, content0 := List.replicate 24 0,
    fill := some (fun s i b => s.setRxPos i b) }]

/-- Objects 7523 to 8100. -/
def objRows8 : List ObjRow := [
  { index := 0x7523, sub := 1, subs := 2, type := .bool, access := .ro, cls := .st, block := 7,
    reg := fun _ i => Obj.RX_POS_VALID i },
  { index := 0x7530, sub := 1, subs := 2, type := .u8, access := .rwd, range := (.word 0x1F []), cls := .cfg, block := 7,
    enable := some Obj.RX_EN, reg := fun _ i => Obj.RX_CONST_EN i },
  { index := 0x7531, sub := 1, subs := 2, type := .u8, access := .rwd, range := (.word 0x3 [(0, 2, 1, 3)]), cls := .cfg,
    block := 7, enable := some Obj.RX_EN, reg := fun _ i => Obj.RX_BANDS i },
  { index := 0x7532, sub := 1, subs := 2, type := .u8, access := .rw, range := (.span 0 45), cls := .cfg, block := 7,
    reg := fun _ i => Obj.RX_ELEV_MASK i },
  { index := 0x7533, sub := 1, subs := 2, type := .u8, access := .rw, range := (.span 20 50), cls := .cfg, block := 7,
    reg := fun _ i => Obj.RX_CN0_MASK i },
  { index := 0x7534, sub := 1, subs := 2, type := .u8, access := .rwd, range := (.span 0 192), cls := .cfg, block := 7,
    enable := some Obj.RX_EN, reg := fun _ i => Obj.RX_CH_QUOTA i },
  { index := 0x7540, sub := 1, subs := 2, type := .u32, access := .rw, range := (.span 10 10000), cls := .cfg,
    block := 7, reg := fun _ i => Obj.RX_TRAIM_LIMIT i },
  { index := 0x7541, sub := 1, subs := 2, type := .u8, access := .rw, range := (.span 2 12), cls := .cfg, block := 7,
    reg := fun _ i => Obj.RX_TRAIM_MIN i },
  { index := 0x7550, sub := 1, subs := 2, type := .i32, access := .rwd, cls := .cfg, block := 7,
    enable := some Obj.RX_EN, reg := fun _ i => Obj.RX_DELAY_U i },
  { index := 0x7551, sub := 1, subs := 2, type := .i32, access := .rwd, cls := .cfg, block := 7,
    enable := some Obj.RX_EN, reg := fun _ i => Obj.RX_DELAY_L i },
  { index := 0x7552, sub := 1, subs := 2, type := .u32, access := .rw, cls := .cfg, block := 7,
    reg := fun _ i => Obj.RX_DELAY_UNC i },
  { index := 0x7553, sub := 1, subs := 2, type := .u8, access := .rwd, range := (.span 0 4), cls := .cfg, block := 7,
    enable := some Obj.RX_EN, reg := fun _ i => Obj.RX_TIMEREF i },
  { index := 0x7560, sub := 1, subs := 2, type := .u8, access := .ro, cls := .st, block := 7,
    reg := fun _ i => Obj.RX_STATE i },
  { index := 0x7561, sub := 1, subs := 2, type := .u8, access := .ro, cls := .st, block := 7,
    reg := fun _ i => Obj.RX_TRAIM_STATE i },
  { index := 0x7562, sub := 1, subs := 2, type := .u32, access := .ro, cls := .st, block := 7,
    reg := fun _ i => Obj.RX_TUNC i },
  { index := 0x7563, sub := 1, subs := 2, type := .i32, access := .ro, cls := .st, block := 7,
    reg := fun _ i => Obj.RX_QERR i },
  { index := 0x7564, sub := 1, subs := 2, type := .u8, access := .ro, cls := .st, block := 7,
    reg := fun _ i => Obj.RX_NSV i },
  { index := 0x7570, sub := 1, subs := 2, type := .domain, access := .rw, cls := .cfg, block := 7,
    reg := fun _ i => Obj.RX_ALMANAC i, size := 16384, content0 := List.replicate 16384 0, fill := some (fun s i b => s.setAlmanac i b) },
  { index := 0x7572, sub := 1, subs := 2, type := .u32, access := .ro, cls := .st, block := 7,
    reg := fun _ i => Obj.RX_ALM_AGE i, read := some (fun s _ i => (s.almAge i : Nat)) },
  { index := 0x7573, sub := 1, subs := 2, type := .u16, access := .rw, range := (.span 1 90), cls := .cfg, block := 7,
    reg := fun _ i => Obj.RX_ALM_MAXAGE i, write := some (fun s _ i v => s.setAlmMax i v) },
  { index := 0x8000, sub := 1, type := .bool, access := .rw, cls := .cfg, block := 8, reg := fun _ _ => Obj.ETH_ENABLE,
    write := some (fun s _ _ v => (s.setEthEnable (v != 0)).round) },
  { index := 0x8000, sub := 2, type := .u32, access := .sq, range := (.sticky 0x3), cls := .clear, block := 8,
    reg := fun _ _ => Obj.ETH_STATUS },
  { index := 0x8000, sub := 3, type := .u32, access := .ro, cls := .st, block := 8,
    reg := fun _ _ => Obj.ETH_LAST_IGNORED },
  { index := 0x8010, sub := 1, subs := 8, type := .bool, access := .rw, cls := .cfg, block := 8,
    reg := fun _ i => Obj.PORT_EN i, write := some (fun s _ i v => (s.setPortEn i (v != 0)).round) },
  { index := 0x8020, sub := 1, subs := 8, type := .u32, access := .rwd, range := (.word 0x3CC7 [(0, 3, 0, 4)]),
    cls := .cfg, block := 8, enable := some Obj.PORT_EN, reg := fun _ i => Obj.PORT_CFG i },
  { index := 0x8022, sub := 1, subs := 8, type := .u64, access := .rwd, range := (.span 0 0xFFFFFFFFFFFF), cls := .cfg,
    block := 8, enable := some Obj.PORT_EN, reg := fun _ i => Obj.PORT_MAC i },
  { index := 0x8024, sub := 1, subs := 8, type := .u16, access := .rwd, range := (.span 1518 9220), cls := .cfg,
    block := 8, enable := some Obj.PORT_EN, reg := fun _ i => Obj.PORT_MTU i },
  { index := 0x8030, sub := 1, subs := 8, type := .i32, access := .rwd, cls := .cfg, block := 8,
    enable := some Obj.PORT_EN, reg := fun _ i => Obj.PORT_RX_LAT i },
  { index := 0x8032, sub := 1, subs := 8, type := .i32, access := .rwd, cls := .cfg, block := 8,
    enable := some Obj.PORT_EN, reg := fun _ i => Obj.PORT_TX_LAT i },
  { index := 0x8034, sub := 1, subs := 8, type := .i32, access := .ro, cls := .st, block := 8,
    reg := fun _ i => Obj.PORT_DESKEW i },
  { index := 0x8036, sub := 1, subs := 8, type := .u32, access := .ro, cls := .st, block := 8,
    reg := fun _ i => Obj.PORT_GRID_PHASE i },
  { index := 0x8040, sub := 1, subs := 8, type := .u32, access := .rwd, range := (.span 4096 524288), cls := .cfg,
    block := 8, enable := some Obj.PORT_EN, reg := fun _ i => Obj.PORT_BUF_HI i },
  { index := 0x8042, sub := 1, subs := 8, type := .u32, access := .rwd, range := (.span 0 520192), cls := .cfg,
    block := 8, enable := some Obj.PORT_EN, reg := fun _ i => Obj.PORT_BUF_LO i },
  { index := 0x8044, sub := 1, subs := 8, type := .u16, access := .rwd, range := (.span 2 65535), cls := .cfg,
    block := 8, enable := some Obj.PORT_EN, reg := fun _ i => Obj.PORT_PAUSE_TIME i },
  { index := 0x8050, sub := 1, subs := 8, type := .u8, access := .ro, cls := .st, block := 8,
    reg := fun _ i => Obj.PORT_STATE i },
  { index := 0x8052, sub := 1, subs := 8, type := .u32, access := .sq, range := (.sticky 0x7FF), cls := .clear,
    block := 8, reg := fun _ i => Obj.PORT_STICKY i },
  { index := 0x8054, sub := 1, subs := 8, type := .u32, access := .ro, cls := .st, block := 8,
    reg := fun _ i => Obj.SNAP_PORT_STICKY i },
  { index := 0x8100, sub := 1, type := .bool, access := .ro, cls := .st, block := 9, reg := fun _ _ => Obj.FPB_ENABLE },
  { index := 0x8100, sub := 2, type := .u32, access := .sq, range := (.sticky 0x3), cls := .clear, block := 9,
    reg := fun _ _ => Obj.FPB_STATUS },
  { index := 0x8100, sub := 3, type := .u32, access := .ro, cls := .st, block := 9,
    reg := fun _ _ => Obj.FPB_LAST_IGNORED }]

/-- Objects 8200 to 9400. -/
def objRows9 : List ObjRow := [
  { index := 0x8200, sub := 1, subs := 2, type := .bool, access := .rw, cls := .cfg, block := 9,
    reg := fun _ i => Obj.FP_EN i, write := some (fun s _ i v => s.setFpEn i (v != 0)) },
  { index := 0x8210, sub := 1, subs := 2, type := .u64, access := .rwd, range := .mac, cls := .cfg, block := 9,
    enable := some Obj.FP_EN, reg := fun _ i => Obj.FP_MAC i, write := some (fun s _ i v => s.setFpMac i v) },
  { index := 0x8220, sub := 1, subs := 2, type := .u8, access := .rwd, range := (.span 0 31), cls := .cfg, block := 9,
    enable := some Obj.FP_EN, reg := fun _ i => Obj.FP_PHYADDR i },
  { index := 0x8230, sub := 1, subs := 2, type := .u32, access := .sq, range := (.sticky 0x3F), cls := .clear,
    block := 9, reg := fun _ i => Obj.FP_STICKY i },
  { index := 0x8234, sub := 1, subs := 2, type := .u32, access := .ro, cls := .st, block := 9,
    reg := fun _ i => Obj.SNAP_FP_STICKY i },
  { index := 0x8240, sub := 1, subs := 2, type := .u8, access := .ro, cls := .st, block := 9,
    reg := fun _ i => Obj.FP_STATE i },
  { index := 0x9000, sub := 1, type := .bool, access := .rw, cls := .cfg, block := 12, reg := fun _ _ => Obj.TPE_ENABLE,
    write := some (fun s _ _ v => s.setTpeEnable (v != 0)) },
  { index := 0x9000, sub := 2, type := .u32, access := .sq, range := (.sticky 0x7F), cls := .clear, block := 12,
    reg := fun _ _ => Obj.TPE_STATUS, read := some (fun s _ _ => State.tpeStatus s) },
  { index := 0x9000, sub := 3, type := .u32, access := .ro, cls := .st, block := 12,
    reg := fun _ _ => Obj.TPE_LAST_IGNORED },
  { index := 0x9010, sub := 1, type := .u64, access := .rwd, cls := .cfg, block := 12,
    enable := some fun _ => Obj.TPE_ENABLE, reg := fun _ _ => Obj.TPE_CLOCK_ID },
  { index := 0x9010, sub := 2, type := .u16, access := .rwd, range := (.span 0 65535), cls := .cfg, block := 12,
    enable := some fun _ => Obj.TPE_ENABLE, reg := fun _ _ => Obj.TPE_GM_ID },
  { index := 0x9010, sub := 4, type := .u32, access := .rwd, range := (.span 500 8000), cls := .cfg, block := 12,
    enable := some fun _ => Obj.TPE_ENABLE, reg := fun _ _ => Obj.TPE_COMMIT_LEAD },
  { index := 0x9010, sub := 5, type := .u16, access := .ro, cls := .st, block := 12, reg := fun _ _ => Obj.TPE_INFLIGHT,
    read := some (fun s _ _ => (s.inflight : Nat)) },
  { index := 0x9010, sub := 6, type := .bool, access := .wo, range := (.span 1 1), cls := .oper, block := 12,
    reg := fun _ _ => Obj.TPE_FENCE, write := some (fun s _ _ _ => s.fence) },
  { index := 0x9100, sub := 1, type := .u64, access := .rwd, range := (.mult 134217728), cls := .cfg, block := 12,
    enable := some fun _ => Obj.TPE_ENABLE, reg := fun _ _ => Obj.FOLD_BASE },
  { index := 0x9100, sub := 2, type := .u32, access := .ro, cls := .st, block := 12, reg := fun _ _ => Obj.FOLD_COUNT,
    read := some (fun s _ _ => (s.tpe.fold.length : Nat)) },
  { index := 0x9110, sub := 1, type := .domain, access := .wo, cls := .oper, block := 12,
    reg := fun _ _ => Obj.FOLD_QUERY, size := 128, content0 := List.replicate 128 0,
    fill := some (fun s _ b => s.foldQuery b) },
  { index := 0x9110, sub := 2, type := .domain, access := .ro, cls := .st, block := 12,
    reg := fun _ _ => Obj.FOLD_RESULT, size := 128, content0 := List.replicate 128 0 },
  { index := 0x9200, sub := 1, subs := 16, type := .bool, access := .rw, cls := .cfg, block := 12,
    reg := fun _ i => Obj.PROF_EN i, write := some (fun s _ i v => s.setProfEn i (v != 0)) },
  { index := 0x9201, sub := 1, subs := 16, type := .u32, access := .rwd, range := (.word 0xF33380 [(16, 2, 0, 1)]),
    cls := .cfg, block := 12, enable := some Obj.PROF_EN, reg := fun _ i => Obj.PROF_CFG i },
  { index := 0x9202, sub := 1, subs := 16, type := .u8, access := .rwd, range := (.span 0 255), cls := .cfg, block := 12,
    enable := some Obj.PROF_EN, reg := fun _ i => Obj.PROF_DOMAIN i },
  { index := 0x9203, sub := 1, subs := 16, type := .u32, access := .rwd, range := .intervals, cls := .cfg, block := 12,
    enable := some Obj.PROF_EN, reg := fun _ i => Obj.PROF_INTERVALS i },
  { index := 0x9204, sub := 1, subs := 16, type := .u16, access := .rwd, cls := .cfg, block := 12,
    enable := some Obj.PROF_EN, reg := fun _ i => Obj.PROF_PRIO i },
  { index := 0x9205, sub := 1, subs := 16, type := .u16, access := .rwd, cls := .cfg, block := 12,
    enable := some Obj.PROF_EN, reg := fun _ i => Obj.PROF_OSLV i },
  { index := 0x9206, sub := 1, subs := 16, type := .u32, access := .rwd, range := (.word 0x1EFFF []), cls := .cfg,
    block := 12, enable := some Obj.PROF_EN, reg := fun _ i => Obj.PROF_VLAN i },
  { index := 0x9207, sub := 1, subs := 16, type := .u8, access := .rwd, range := .spp, cls := .cfg, block := 12,
    enable := some Obj.PROF_EN, reg := fun _ i => Obj.PROF_SPP i },
  { index := 0x9208, sub := 1, subs := 16, type := .u16, access := .rwd, range := (.span 10 1000), cls := .cfg,
    block := 12, enable := some Obj.PROF_EN, reg := fun _ i => Obj.PROF_GRANT_MAXDUR i },
  { index := 0x9210, sub := 1, subs := 8, type := .u16, access := .rwd, cls := .cfg, block := 12,
    enable := some Obj.PORT_EN, reg := fun _ i => Obj.PORT_PROFILES i,
    write := some (fun s _ i v => s.setPortProfiles i v) },
  { index := 0x9220, sub := 1, type := .domain, access := .rw, cls := .cfg, block := 12, reg := fun _ _ => Obj.TPE_ATOI,
    size := 32, content0 := List.replicate 32 0 },
  { index := 0x9230, sub := 1, subs := 8, type := .i64, access := .ro, cls := .st, block := 12,
    reg := fun _ i => Obj.TPE_PEER_DELAY i },
  { index := 0x9300, sub := 1, subs := 16, type := .bool, access := .rw, cls := .cfg, block := 12,
    reg := fun _ i => Obj.SPP_EN i },
  { index := 0x9301, sub := 1, subs := 16, type := .u32, access := .rwd, range := (.word 0x101FF []), cls := .cfg,
    block := 12, enable := some Obj.SPP_EN, reg := fun _ i => Obj.SPP_CFG i },
  { index := 0x9302, sub := 1, subs := 16, type := .u16, access := .rw, range := (.slotRef 0), cls := .cfg, block := 12,
    reg := fun _ i => Obj.SPP_CUR_SLOT i, write := some (fun s _ i v => s.setKeyPos (Obj.SPP_CUR_SLOT i) i 0 v) },
  { index := 0x9303, sub := 1, subs := 16, type := .u16, access := .rw, range := (.slotRef 0), cls := .cfg, block := 12,
    reg := fun _ i => Obj.SPP_NEXT_SLOT i, write := some (fun s _ i v => s.setKeyPos (Obj.SPP_NEXT_SLOT i) i 1 v) },
  { index := 0x9304, sub := 1, subs := 16, type := .u16, access := .rw, range := (.slotRef 0), cls := .cfg, block := 12,
    reg := fun _ i => Obj.SPP_PREV_SLOT i, write := some (fun s _ i v => s.setKeyPos (Obj.SPP_PREV_SLOT i) i 2 v) },
  { index := 0x9305, sub := 1, subs := 16, type := .time80, access := .rw, cls := .cfg, block := 12,
    reg := fun _ i => Obj.SPP_ROTATE_AT i },
  { index := 0x9400, sub := 1, type := .bool, access := .rw, cls := .cfg, block := 12, reg := fun _ _ => Obj.NTS_EN },
  { index := 0x9400, sub := 2, type := .bool, access := .rw, cls := .cfg, block := 12,
    reg := fun _ _ => Obj.NTP_PLAIN_EN },
  { index := 0x9400, sub := 3, type := .u16, access := .rw, range := (.slotRef 0), cls := .cfg, block := 12,
    reg := fun _ _ => Obj.NTS_MASTER_CUR, write := some (fun s _ _ v => s.setKeyPos Obj.NTS_MASTER_CUR 16 0 v) },
  { index := 0x9400, sub := 4, type := .u16, access := .rw, range := (.slotRef 0), cls := .cfg, block := 12,
    reg := fun _ _ => Obj.NTS_MASTER_NEXT, write := some (fun s _ _ v => s.setKeyPos Obj.NTS_MASTER_NEXT 16 1 v) }]

/-- Objects 9400 to A510. -/
def objRows10 : List ObjRow := [
  { index := 0x9400, sub := 5, type := .u16, access := .rw, range := (.slotRef 0), cls := .cfg, block := 12,
    reg := fun _ _ => Obj.NTS_MASTER_PREV, write := some (fun s _ _ v => s.setKeyPos Obj.NTS_MASTER_PREV 16 2 v) },
  { index := 0x9400, sub := 6, type := .time80, access := .rw, cls := .cfg, block := 12,
    reg := fun _ _ => Obj.NTS_ROTATE_AT },
  { index := 0x9400, sub := 7, type := .u8, access := .rw, range := (.span 1 8), cls := .cfg, block := 12,
    reg := fun _ _ => Obj.NTS_MAX_COOKIES },
  { index := 0x9400, sub := 8, type := .i8, access := .rw, range := (.span (-32) (-20)), cls := .cfg, block := 12,
    reg := fun _ _ => Obj.NTP_PRECISION },
  { index := 0x9500, sub := 1, subs := 4, type := .bool, access := .rw, cls := .cfg, block := 12,
    reg := fun _ i => Obj.SES_EN i, write := some (fun s _ i v => (s.setSesEn i (v != 0)).round) },
  { index := 0x9510, sub := 1, subs := 4, type := .u32, access := .rwd, range := .session, cls := .cfg, block := 12,
    enable := some Obj.SES_EN, reg := fun _ i => Obj.SES_CFG i },
  { index := 0x9511, sub := 1, subs := 4, type := .domain, access := .rwd, cls := .cfg, block := 12,
    enable := some Obj.SES_EN, reg := fun _ i => Obj.SES_MASTER_ADDR i, size := 16, content0 := List.replicate 16 0 },
  { index := 0x9512, sub := 1, subs := 4, type := .u64, access := .rwd, cls := .cfg, block := 12,
    enable := some Obj.SES_EN, reg := fun _ i => Obj.SES_MASTER_ID i },
  { index := 0x9513, sub := 1, subs := 4, type := .i32, access := .rw, cls := .cfg, block := 12,
    reg := fun _ i => Obj.SES_ASYM i },
  { index := 0x9514, sub := 1, subs := 4, type := .u16, access := .rwd, range := (.span 10 1000), cls := .cfg,
    block := 12, enable := some Obj.SES_EN, reg := fun _ i => Obj.SES_DURATION i },
  { index := 0x9515, sub := 1, subs := 4, type := .u16, access := .rw, range := (.span 100 60000), cls := .cfg,
    block := 12, reg := fun _ i => Obj.SES_TIMEOUT i },
  { index := 0x9516, sub := 1, subs := 4, type := .u16, access := .rw, range := (.span 100 60000), cls := .cfg,
    block := 12, reg := fun _ i => Obj.SES_DELAY_MAXAGE i },
  { index := 0x9517, sub := 1, subs := 4, type := .u8, access := .ro, cls := .st, block := 12,
    reg := fun _ i => Obj.SES_STATE i },
  { index := 0x9518, sub := 1, subs := 4, type := .i64, access := .ro, cls := .st, block := 12,
    reg := fun _ i => Obj.SES_OFFSET i },
  { index := 0x9519, sub := 1, subs := 4, type := .i64, access := .ro, cls := .st, block := 12,
    reg := fun _ i => Obj.SES_PATH_DELAY i },
  { index := 0x9600, sub := 1, subs := 28, type := .u64, access := .ro, cls := .st, block := 12,
    reg := fun _ i => Obj.TPE_CNT i },
  { index := 0x9601, sub := 1, subs := 28, type := .u64, access := .ro, cls := .st, block := 12,
    reg := fun _ i => Obj.SNAP_TPE_CNT i },
  { index := 0xA000, sub := 1, type := .bool, access := .ro, cls := .st, block := 13, reg := fun _ _ => Obj.DRV_ENABLE },
  { index := 0xA000, sub := 2, type := .u32, access := .sq, range := (.sticky 0x7F), cls := .clear, block := 13,
    reg := fun _ _ => Obj.DRV_STATUS },
  { index := 0xA000, sub := 3, type := .u32, access := .ro, cls := .st, block := 13,
    reg := fun _ _ => Obj.DRV_LAST_IGNORED },
  { index := 0xA000, sub := 4, type := .u8, access := .rw, range := (.oneOf [0, 2]), cls := .cfg, block := 13,
    reg := fun _ _ => Obj.DRV_DEFAULT },
  { index := 0xA100, sub := 1, subs := 64, type := .bool, access := .rw, cls := .cfg, block := 13,
    reg := fun _ i => Obj.RULE_EN i, write := some (fun s _ i v => s.setRuleEn i (v != 0)) },
  { index := 0xA110, sub := 1, subs := 64, type := .u64, access := .rwd,
    range := (.word 0xFFFFFFFEFFF000 [(28, 4, 0, 4)]), cls := .cfg, block := 13, enable := some Obj.RULE_EN,
    reg := fun _ i => Obj.RULE_MATCH i },
  { index := 0xA120, sub := 1, subs := 64, type := .u32, access := .rwd, range := .ruleAction, cls := .cfg, block := 13,
    enable := some Obj.RULE_EN, reg := fun _ i => Obj.RULE_ACTION i },
  { index := 0xA130, sub := 1, subs := 64, type := .domain, access := .rwd, cls := .cfg, block := 13,
    enable := some Obj.RULE_EN, reg := fun _ i => Obj.RULE_SRC i, size := 17, content0 := List.replicate 17 0 },
  { index := 0xA200, sub := 1, subs := 64, type := .u32, access := .rwd, range := (.span 1 160000000), cls := .cfg,
    block := 13, enable := some Obj.POL_EN, reg := fun _ i => Obj.POL_RATE i },
  { index := 0xA201, sub := 1, subs := 64, type := .u32, access := .rwd, range := (.span 1 65535), cls := .cfg,
    block := 13, enable := some Obj.POL_EN, reg := fun _ i => Obj.POL_BURST i },
  { index := 0xA202, sub := 1, subs := 64, type := .bool, access := .rw, cls := .cfg, block := 13,
    reg := fun _ i => Obj.POL_EN i },
  { index := 0xA203, sub := 1, subs := 64, type := .u32, access := .ro, cls := .st, block := 13,
    reg := fun _ i => Obj.POL_DROPS i },
  { index := 0xA300, indices := 8, sub := 1, subs := 8, type := .u16, access := .rw, range := (.span 1 65535),
    cls := .cfg, block := 13, reg := fun _ i => Obj.DRV_QUANTUM (i / 8) (i % 8) },
  { index := 0xA310, sub := 1, subs := 8, type := .u8, access := .rwd, range := (.span 0 255), cls := .cfg, block := 13,
    enable := some Obj.PORT_EN, reg := fun _ i => Obj.DRV_LEN_OVH i },
  { index := 0xA400, sub := 1, subs := 64, type := .bool, access := .rw, cls := .cfg, block := 13,
    reg := fun _ i => Obj.CLASS_EN i },
  { index := 0xA410, sub := 1, subs := 64, type := .u32, access := .rw, range := (.span 1 160000000), cls := .cfg,
    block := 13, reg := fun _ i => Obj.CLASS_RATE i },
  { index := 0xA412, sub := 1, subs := 64, type := .u32, access := .rw, range := (.span 0 1048576), cls := .cfg,
    block := 13, reg := fun _ i => Obj.CLASS_CLIENTS_MAX i },
  { index := 0xA414, sub := 1, subs := 64, type := .u32, access := .rw, range := (.word 0x1 []), cls := .cfg,
    block := 13, reg := fun _ i => Obj.CLASS_ATTR i },
  { index := 0xA420, sub := 1, subs := 64, type := .u64, access := .ro, cls := .st, block := 13,
    reg := fun _ i => Obj.CLASS_COMMITTED i, read := some (fun s _ i => (s.committed i : Nat)) },
  { index := 0xA422, sub := 1, subs := 64, type := .u32, access := .ro, cls := .st, block := 13,
    reg := fun _ i => Obj.CLASS_CLIENTS i, read := some (fun s _ i => (s.clients i : Nat)) },
  { index := 0xA424, sub := 1, subs := 64, type := .u32, access := .ro, cls := .st, block := 13,
    reg := fun _ i => Obj.CLASS_PACE_SKIP i },
  { index := 0xA500, sub := 1, subs := 8, type := .bool, access := .rw, cls := .cfg, block := 13,
    reg := fun _ i => Obj.GATE_EN i, write := some (fun s _ i v => s.setGateEn i (v != 0)) },
  { index := 0xA510, sub := 1, subs := 8, type := .time80, access := .rwd, cls := .cfg, block := 13,
    enable := some Obj.GATE_EN, reg := fun _ i => Obj.GATE_BASE i }]

/-- Objects A511 to C000. -/
def objRows11 : List ObjRow := [
  { index := 0xA511, sub := 1, subs := 8, type := .u32, access := .rwd, range := (.span 1000 1000000000), cls := .cfg,
    block := 13, enable := some Obj.GATE_EN, reg := fun _ i => Obj.GATE_CYCLE i },
  { index := 0xA512, sub := 1, subs := 8, type := .domain, access := .rwd, cls := .cfg, block := 13,
    enable := some Obj.GATE_EN, reg := fun _ i => Obj.GATE_LIST i, size := 512, content0 := List.replicate 512 0,
    fill := some fun s i b => s.setGateList (Obj.GATE_LIST i) b },
  { index := 0xA513, sub := 1, subs := 8, type := .u8, access := .rwd, range := (.span 1 64), cls := .cfg, block := 13,
    enable := some Obj.GATE_EN, reg := fun _ i => Obj.GATE_LEN i },
  { index := 0xA520, sub := 1, subs := 8, type := .time80, access := .rw, cls := .cfg, block := 13,
    reg := fun _ i => Obj.ADM_BASE i },
  { index := 0xA521, sub := 1, subs := 8, type := .u32, access := .rw, range := (.span 1000 1000000000), cls := .cfg,
    block := 13, reg := fun _ i => Obj.ADM_CYCLE i },
  { index := 0xA522, sub := 1, subs := 8, type := .domain, access := .rw, cls := .cfg, block := 13,
    reg := fun _ i => Obj.ADM_LIST i, size := 512, content0 := List.replicate 512 0,
    fill := some fun s i b => s.setGateList (Obj.ADM_LIST i) b },
  { index := 0xA523, sub := 1, subs := 8, type := .u8, access := .rw, range := (.span 1 64), cls := .cfg, block := 13,
    reg := fun _ i => Obj.ADM_LEN i },
  { index := 0xA524, sub := 1, subs := 8, type := .time80, access := .rw, cls := .cfg, block := 13,
    reg := fun _ i => Obj.GATE_SWITCH_AT i, write := some (fun s _ i v => s.setGateSwitch i v.toNat) },
  { index := 0xB000, sub := 1, type := .bool, access := .ro, cls := .keystone, block := 14,
    reg := fun _ _ => Obj.KS_ENABLE },
  { index := 0xB000, sub := 2, type := .u32, access := .sq, range := (.sticky 0x1F), cls := .keystone, block := 14,
    reg := fun _ _ => Obj.KS_STATUS, read := some (fun s _ _ => State.ksStatus s) },
  { index := 0xB000, sub := 3, type := .u32, access := .ro, cls := .keystone, block := 14,
    reg := fun _ _ => Obj.KS_LAST_IGNORED },
  { index := 0xB000, sub := 4, type := .u16, access := .ro, cls := .keystone, block := 14, reg := fun _ _ => Obj.KS_JOBS,
    read := some (fun s _ _ => (s.ks.jobs.length : Nat)) },
  { index := 0xB000, sub := 5, type := .u32, access := .wo, cls := .keystone, block := 14,
    reg := fun _ _ => Obj.KS_ZEROISE_CMD, write := some (fun s _ _ v => s.zeroiseCmd v.toNat) },
  { index := 0xB000, sub := 6, type := .u64, access := .ro, cls := .keystone, block := 14,
    reg := fun _ _ => Obj.KS_GEN_HIGH },
  { index := 0xB100, indices := 1024, sub := 1, type := .domain, access := .wo, cls := .keystone, block := 14, lock := 4,
    reg := Obj.KEY_VALUE, size := 32, content0 := List.replicate 32 0 },
  { index := 0xB100, indices := 1024, sub := 2, type := .u16, access := .rw, cls := .keystone, block := 14,
    reg := Obj.KEY_USAGE },
  { index := 0xB100, indices := 1024, sub := 3, type := .u16, access := .rw, range := (.slotRef 0), cls := .keystone,
    block := 14, reg := Obj.KEY_PARENT },
  { index := 0xB100, indices := 1024, sub := 4, type := .u8, access := .rw, cls := .keystone, block := 14,
    reg := Obj.KEY_KDF },
  { index := 0xB100, indices := 1024, sub := 5, type := .domain, access := .rw, cls := .keystone, block := 14,
    reg := Obj.KEY_LABEL, size := 64, varying := true },
  { index := 0xB100, indices := 1024, sub := 6, type := .u8, access := .wo, range := (.span 1 6), cls := .keystone,
    block := 14, reg := fun _ i => Obj.KEY_CMD i, write := some (fun s w i v => s.keyCommand w.link i v.toNat) },
  { index := 0xB100, indices := 1024, sub := 7, type := .u64, access := .ro, cls := .keystone, block := 14,
    reg := fun _ i => Obj.KEY_META i, read := some (fun s _ i => s.keyMeta i) },
  { index := 0xB100, indices := 1024, sub := 8, type := .u64, access := .ro, cls := .keystone, block := 14,
    reg := fun _ i => Obj.KEY_GEN i, read := some (fun s _ i => ((s.shownSlot i).gen : Nat)) },
  { index := 0xB100, indices := 1024, sub := 9, type := .u8, access := .ro, cls := .keystone, block := 14,
    reg := Obj.KEY_RESULT },
  { index := 0xB100, indices := 1024, sub := 10, type := .u32, access := .ro, cls := .keystone, block := 14,
    reg := fun _ i => Obj.KEY_CHECK i, read := some (fun s _ i => s.keyCheck i) },
  { index := 0xB100, indices := 1024, sub := 11, type := .u64, access := .rw, cls := .keystone, block := 14,
    reg := Obj.KEY_GEN_REQ },
  { index := 0xB600, sub := 1, subs := 9, type := .u8, access := .rwl, range := (.span 0 2), cls := .keystone,
    block := 14, lock := 2, reg := fun _ i => Obj.TAMP_POLICY i },
  { index := 0xB610, sub := 1, type := .u16, access := .rwl, range := (.span 1 1000), cls := .keystone, block := 14,
    lock := 2, reg := fun _ _ => Obj.TAMP_FILTER },
  { index := 0xB700, sub := 1, type := .u8, access := .ro, cls := .keystone, block := 14, reg := fun _ _ => Obj.KS_LANES },
  { index := 0xB800, sub := 1, type := .u64, access := .ro, cls := .keystone, block := 14, reg := fun _ _ => Obj.FW_RUN },
  { index := 0xB800, sub := 2, type := .u32, access := .ro, cls := .keystone, block := 14,
    reg := fun _ _ => Obj.FW_MIN_SVN },
  { index := 0xB800, sub := 3, type := .u8, access := .ro, cls := .keystone, block := 14,
    reg := fun _ _ => Obj.FW_BOOT_BANK },
  { index := 0xB800, sub := 4, type := .bool, access := .wo, range := (.span 1 1), cls := .keystone, block := 14,
    lock := 7, reg := fun _ _ => Obj.FW_SVN_COMMIT, write := some (fun s _ _ _ => s.fwSvn) },
  { index := 0xB810, sub := 1, type := .domain, access := .wo, cls := .keystone, block := 14, lock := 7,
    reg := fun _ _ => Obj.FW_UPD_DATA, size := 4096, varying := true, fill := some (fun s _ b => s.fwData b) },
  { index := 0xB810, sub := 2, type := .u8, access := .wo, range := (.span 1 3), cls := .keystone, block := 14,
    lock := 7, reg := fun _ _ => Obj.FW_UPD_CMD, write := some (fun s _ _ v => s.fwCommand v) },
  { index := 0xB810, sub := 3, type := .u8, access := .ro, cls := .keystone, block := 14,
    reg := fun _ _ => Obj.FW_UPD_RESULT },
  { index := 0xB900, sub := 1, type := .u8, access := .ro, cls := .keystone, block := 14,
    reg := fun _ _ => Obj.TRNG_STATE, read := some (fun s _ _ => (s.trngState : Nat)) },
  { index := 0xB900, sub := 4, type := .u16, access := .ro, cls := .keystone, block := 14, reg := fun _ _ => Obj.PUF_BER },
  { index := 0xC000, sub := 1, type := .bool, access := .ro, cls := .st, block := 15, reg := fun _ _ => Obj.BW_PAIRED },
  { index := 0xC000, sub := 2, type := .u32, access := .sq, range := (.sticky 0x3F), cls := .clear, block := 15,
    reg := fun _ _ => Obj.BW_STATUS, read := some (fun s _ _ => State.bwStatus s) },
  { index := 0xC000, sub := 3, type := .u32, access := .ro, cls := .st, block := 15,
    reg := fun _ _ => Obj.BW_LAST_IGNORED }]

/-- Objects C000 to D800. -/
def objRows12 : List ObjRow := [
  { index := 0xC000, sub := 4, type := .u8, access := .ro, cls := .st, block := 15, reg := fun _ _ => Obj.BW_UNIT },
  { index := 0xC000, sub := 5, type := .u8, access := .ro, cls := .st, block := 15, reg := fun _ _ => Obj.BW_ROLE },
  { index := 0xC000, sub := 6, type := .u32, access := .ro, cls := .st, block := 15, reg := fun _ _ => Obj.BW_EPOCH },
  { index := 0xC000, sub := 7, type := .u16, access := .ro, cls := .st, block := 15, reg := fun _ _ => Obj.BW_NOTREADY },
  { index := 0xC100, sub := 1, type := .bool, access := .rw, cls := .cfg, block := 15, reg := fun _ _ => Obj.BW_ENABLE,
    write := some (fun s _ _ v => s.setBwEnable (v != 0)) },
  { index := 0xC100, sub := 2, type := .u32, access := .rwd, range := (.span 20 1000), cls := .cfg, block := 15,
    enable := some fun _ => Obj.BW_ENABLE, reg := fun _ _ => Obj.BW_LEASE },
  { index := 0xC100, sub := 3, type := .u32, access := .rwd, range := (.span 20 200), cls := .cfg, block := 15,
    enable := some fun _ => Obj.BW_ENABLE, reg := fun _ _ => Obj.BW_GUARD },
  { index := 0xC100, sub := 4, type := .u8, access := .rwl, range := (.span 0 2), cls := .rwl, block := 15, lock := 6,
    reg := fun _ _ => Obj.BW_FORCE, write := some (fun s _ _ v => s.writeForce v.toNat) },
  { index := 0xC100, sub := 5, type := .u32, access := .rw, range := (.span 20 10000), cls := .cfg, block := 15,
    reg := fun _ _ => Obj.BW_ACK_TIMEOUT },
  { index := 0xC200, sub := 1, type := .u8, access := .ro, cls := .st, block := 15, reg := fun _ _ => Obj.CW_LANE_STATE },
  { index := 0xC200, sub := 2, type := .u16, access := .rwd, range := (.slotRef 8), cls := .cfg, block := 15,
    enable := some fun _ => Obj.BW_ENABLE, reg := fun _ _ => Obj.CW_KEY_SLOT },
  { index := 0xC200, sub := 3, type := .u8, access := .ro, cls := .st, block := 15, reg := fun _ _ => Obj.CW_LEASE_IN },
  { index := 0xC300, sub := 1, type := .u64, access := .ro, cls := .st, block := 15, reg := fun _ _ => Obj.JR_TX },
  { index := 0xC300, sub := 2, type := .u64, access := .ro, cls := .st, block := 15, reg := fun _ _ => Obj.JR_ACKED },
  { index := 0xC300, sub := 3, type := .u8, access := .ro, cls := .st, block := 15, reg := fun _ _ => Obj.JR_RESYNC },
  { index := 0xD000, sub := 1, type := .bool, access := .ro, cls := .st, block := 16, reg := fun _ _ => Obj.SD_ENABLE },
  { index := 0xD000, sub := 2, type := .u8, access := .rw, range := (.span 0 3), cls := .cfg, block := 16,
    reg := fun _ _ => Obj.ERRPIN_MIN },
  { index := 0xD000, sub := 3, type := .u32, access := .sq, range := (.sticky 0x6), cls := .clear, block := 16,
    reg := fun _ _ => Obj.SD_STATUS, read := some (fun s _ _ => State.sdStatus s) },
  { index := 0xD000, sub := 4, type := .u32, access := .ro, cls := .st, block := 16,
    reg := fun _ _ => Obj.SD_LAST_IGNORED },
  { index := 0xD030, sub := 1, type := .u32, access := .sq, range := (.sticky 0x1), cls := .clear, block := 16,
    reg := fun _ _ => Obj.FF_STATUS },
  { index := 0xD030, sub := 2, type := .u16, access := .ro, cls := .st, block := 16, reg := fun _ _ => Obj.FF_SOURCE },
  { index := 0xD030, sub := 3, type := .u8, access := .ro, cls := .st, block := 16, reg := fun _ _ => Obj.FF_SEVERITY },
  { index := 0xD030, sub := 4, type := .time80, access := .ro, cls := .st, block := 16, reg := fun _ _ => Obj.FF_TIME },
  { index := 0xD030, sub := 5, type := .u8, access := .ro, cls := .st, block := 16, reg := fun _ _ => Obj.FF_MODE },
  { index := 0xD040, sub := 1, type := .domain, access := .ro, cls := .st, block := 16, reg := fun _ _ => Obj.FLOG,
    size := 8192, content := some (fun s _ _ => s.flogOctets) },
  { index := 0xD040, sub := 2, type := .u32, access := .ro, cls := .st, block := 16, reg := fun _ _ => Obj.FLOG_NEXT },
  { index := 0xD040, sub := 3, type := .u32, access := .ro, cls := .st, block := 16,
    reg := fun _ _ => Obj.FLOG_RING_LOST },
  { index := 0xD050, sub := 1, type := .u8, access := .rw, range := (.span 0 1), cls := .cfg, block := 16,
    reg := fun _ _ => Obj.FS_OUT_POLICY, write := some (fun s _ _ v => s.masked Obj.FS_OUT_POLICY v) },
  { index := 0xD050, sub := 2, type := .u8, access := .rw, range := (.span 0 2), cls := .cfg, block := 16,
    reg := fun _ _ => Obj.FS_PKT_POLICY },
  { index := 0xD050, sub := 3, type := .u16, access := .rw, range := (.span 0 600), cls := .cfg, block := 16,
    reg := fun _ _ => Obj.FS_ANN_HOLD },
  { index := 0xD060, sub := 1, type := .u32, access := .rw, range := (.span 1 3600000), cls := .cfg, block := 16,
    reg := fun _ _ => Obj.FS_QUIET },
  { index := 0xD060, sub := 2, type := .u8, access := .rw, range := (.span 1 255), cls := .cfg, block := 16,
    reg := fun _ _ => Obj.FS_RECOV_MAX },
  { index := 0xD060, sub := 3, type := .u32, access := .rw, range := (.span 60 86400), cls := .cfg, block := 16,
    reg := fun _ _ => Obj.FS_RECOV_WINDOW },
  { index := 0xD060, sub := 4, type := .u32, access := .ro, cls := .st, block := 16, reg := fun _ _ => Obj.FS_RECOV_CNT },
  { index := 0xD060, sub := 5, type := .bool, access := .ro, cls := .st, block := 16, reg := fun _ _ => Obj.FS_LATCHED },
  { index := 0xD060, sub := 6, type := .bool, access := .wo, range := (.span 1 1), cls := .fsRelease, block := 16,
    reg := fun _ _ => Obj.FS_RELEASE, write := some (fun s _ _ _ => s.fsRelease.round) },
  { index := 0xD060, sub := 7, type := .u32, access := .ro, cls := .st, block := 16, reg := fun _ _ => Obj.FS_QUIET_LEFT,
    read := some (fun s _ _ => s.quietLeft) },
  { index := 0xD100, indices := 6, sub := 1, subs := 128, type := .u32, access := .rw, range := .srcCfg, cls := .cfg,
    block := 16, reg := fun _ i => Obj.SRC_CFG i, read := some (fun s _ i => (s.shownSrcCfg i : Nat)) },
  { index := 0xD110, indices := 6, sub := 1, subs := 128, type := .u32, access := .sq, range := (.sticky 0x1),
    cls := .clear, block := 16, reg := fun _ i => Obj.SRC_STATE i },
  { index := 0xD800, sub := 1, type := .bool, access := .rw, cls := .cfg, block := 17,
    reg := fun _ _ => Obj.CTR_USER_READ }]

/-- Objects D800 to F010. -/
def objRows13 : List ObjRow := [
  { index := 0xD800, sub := 2, type := .u32, access := .sq, range := (.sticky 0xB), cls := .clear, block := 17,
    reg := fun _ _ => Obj.CTR_STATUS, read := some (fun s _ _ => State.ctrStatus s) },
  { index := 0xD800, sub := 3, type := .u32, access := .ro, cls := .st, block := 17,
    reg := fun _ _ => Obj.CTR_LAST_IGNORED },
  { index := 0xD800, sub := 4, type := .bool, access := .rw, cls := .cfg, block := 17, reg := fun _ _ => Obj.CTR_FREEZE },
  { index := 0xD810, sub := 1, subs := 128, type := .bool, access := .rw, cls := .cfg, block := 17,
    reg := fun _ i => Obj.CTR_EN i },
  { index := 0xD820, sub := 1, subs := 128, type := .u32, access := .rwd, range := .ctrCfg, cls := .cfg, block := 17,
    enable := some Obj.CTR_EN, reg := fun _ i => Obj.CTR_CFG i },
  { index := 0xD830, sub := 1, subs := 128, type := .u32, access := .rw, cls := .cfg, block := 17,
    reg := fun _ i => Obj.CTR_VALUE i, write := some (fun s _ i v => s.setCounter i v.toNat 0) },
  { index := 0xD840, sub := 1, subs := 128, type := .u32, access := .ro, cls := .st, block := 17,
    reg := fun _ i => Obj.SNAP_CTR i },
  { index := 0xD850, sub := 1, subs := 128, type := .u32, access := .sq, range := (.sticky 0x3), cls := .clear,
    block := 17, reg := fun _ i => Obj.CTR_FLAGS i },
  { index := 0xE000, sub := 1, type := .bool, access := .ro, cls := .st, block := 18, reg := fun _ _ => Obj.VD_ENABLE },
  { index := 0xE000, sub := 2, type := .u32, access := .sq, range := (.sticky 0x3B), cls := .clear, block := 18,
    reg := fun _ _ => Obj.VD_STATUS, read := some (fun s _ _ => State.vdStatus s) },
  { index := 0xE000, sub := 3, type := .u32, access := .ro, cls := .st, block := 18,
    reg := fun _ _ => Obj.VD_LAST_IGNORED },
  { index := 0xE000, sub := 4, type := .bool, access := .rw, cls := .cfg, block := 18, reg := fun _ _ => Obj.VD_DATA_EN,
    write := some (fun s _ _ v => s.setDataEn (v != 0)) },
  { index := 0xE010, sub := 1, type := .u32, access := .rwd, range := (.word 0x1FF []), cls := .cfg, block := 18,
    enable := some fun _ => Obj.VD_DATA_EN, reg := fun _ _ => Obj.VD_PIER_BYPASS },
  { index := 0xE020, sub := 1, type := .u16, access := .ro, cls := .st, block := 18,
    reg := fun _ _ => Obj.VD_OUTSTANDING, read := some (fun s _ _ => (s.outstanding : Nat)) },
  { index := 0xE100, sub := 1, subs := 64, type := .bool, access := .rw, cls := .cfg, block := 19,
    reg := fun _ i => Obj.RING_EN i, write := some (fun s _ i v => s.setRingEn i (v != 0)) },
  { index := 0xE101, sub := 1, subs := 64, type := .u64, access := .rwd, cls := .cfg, block := 19,
    range := (.mult 4096), enable := some Obj.RING_EN, reg := fun _ i => Obj.RING_BASE i },
  { index := 0xE102, sub := 1, subs := 64, type := .u8, access := .rwd, range := (.span 3 16), cls := .cfg, block := 19,
    enable := some Obj.RING_EN, reg := fun _ i => Obj.RING_LOG2 i },
  { index := 0xE103, sub := 1, subs := 64, type := .u32, access := .rw, range := (.word 0xFFFF013F []), cls := .cfg,
    block := 19, reg := fun _ i => Obj.RING_IRQ i },
  { index := 0xE104, sub := 1, subs := 64, type := .u8, access := .ro, cls := .st, block := 19,
    reg := fun _ i => Obj.RING_STATE i },
  { index := 0xE110, sub := 1, subs := 64, type := .u32, access := .wo, cls := .cfg, block := 19,
    reg := fun _ i => Obj.RING_DB i, write := some (fun s w i v => s.doorbell i v.toNat w.descs) },
  { index := 0xE111, sub := 1, subs := 64, type := .u32, access := .ro, cls := .st, block := 19,
    reg := fun _ i => Obj.RING_HEAD i },
  { index := 0xE112, sub := 1, subs := 64, type := .u32, access := .ro, cls := .st, block := 19,
    reg := fun _ i => Obj.RING_DONE i },
  { index := 0xE113, sub := 1, subs := 64, type := .u64, access := .ro, cls := .st, block := 19,
    reg := fun _ i => Obj.RING_EPOCH i },
  { index := 0xE200, sub := 1, type := .u32, access := .ro, cls := .st, block := 18, reg := fun _ _ => Obj.DRAM_SIZE },
  { index := 0xE200, sub := 2, type := .u16, access := .ro, cls := .st, block := 18, reg := fun _ _ => Obj.DRAM_RATE },
  { index := 0xE200, sub := 3, type := .u8, access := .ro, cls := .st, block := 18, reg := fun _ _ => Obj.DRAM_STATE },
  { index := 0xE200, sub := 4, type := .u64, access := .ro, cls := .st, block := 18, reg := fun _ _ => Obj.DRAM_FW_BASE },
  { index := 0xE210, sub := 1, type := .u16, access := .rw, range := (.span 1 168), cls := .cfg, block := 18,
    reg := fun _ _ => Obj.DRAM_SCRUB_H },
  { index := 0xE300, sub := 1, type := .u32, access := .ro, cls := .st, block := 18, reg := fun _ _ => Obj.SRAM_CE_CNT },
  { index := 0xE400, sub := 1, subs := 4, type := .u8, access := .ro, cls := .st, block := 18,
    reg := fun _ i => Obj.CORE_STATE i },
  { index := 0xE401, sub := 1, subs := 4, type := .u8, access := .ro, cls := .st, block := 18,
    reg := fun _ i => Obj.CORE_LOAD i, read := some (fun s _ i => ((Config.coreLoad i s.clk.ts.sec).val : Nat)) },
  { index := 0xE800, sub := 1, type := .bool, access := .ro, cls := .st, block := 19, reg := fun _ _ => Obj.HL_ENABLE },
  { index := 0xE800, sub := 2, type := .u32, access := .sq, range := (.sticky 0x3F), cls := .clear, block := 19,
    reg := fun _ _ => Obj.HL_STATUS, read := some (fun s _ _ => State.hlStatus s) },
  { index := 0xE800, sub := 3, type := .u32, access := .ro, cls := .st, block := 19,
    reg := fun _ _ => Obj.HL_LAST_IGNORED },
  { index := 0xE800, sub := 4, type := .u16, access := .ro, cls := .st, block := 19, reg := fun _ _ => Obj.HL_LINK },
  { index := 0xF010, sub := 1, type := .u16, access := .wo, cls := .test, block := 16, reg := fun _ _ => Obj.SD_INJECT,
    write := some (fun s _ _ v => s.inject v.toNat) }]

/-- The object dictionary (Tables 3-3 to 17-9 and 15-11). -/
def objTable : List ObjRow :=
  objRows0 ++ objRows1 ++ objRows2 ++ objRows3 ++ objRows4 ++ objRows5 ++ objRows6 ++ objRows7 ++ objRows8 ++ objRows9 ++ objRows10 ++ objRows11 ++ objRows12 ++ objRows13

end Sys2Proof.Machine
end

