-- ==== Sys2Proof/Machine/Gop.lean ====
section
/-! DEFINITION. Dictionary requests: the checks of Table 15-7 in their order, what each operation reads and writes, the
requests that wait, and writes through BAR0 (R356 to R374). -/

namespace Sys2Proof.Machine

/-! The object of a request. -/

/-- The number of the object at (`index`, `sub`) in a row; none where the row does not hold it. -/
def ObjRow.number? (r : ObjRow) (index sub : Nat) : Option Nat :=
  if r.index ≤ index ∧ index < r.index + r.indices ∧ r.sub ≤ sub ∧ sub < r.sub + r.subs then
    some ((index - r.index) * r.subs + (sub - r.sub))
  else none

/-- An object as it was addressed: its row, its number there, and the index and sub-index of the request. -/
structure Target where
  row : ObjRow
  number : Nat
  index : Nat
  sub : Nat

/-- The first row that holds (`index`, `sub`). -/
def findRow (index sub : Nat) : List ObjRow → Option (ObjRow × Nat)
  | [] => none
  | r :: rs => match r.number? index sub with
    | some i => some (r, i)
    | none => findRow index sub rs

/-- The channel object that a capture view names (R69, Table 3-13); any other object is itself. -/
def viewed (index sub : Nat) : Nat × Nat :=
  if [0x6010, 0x6020, 0x6030, 0x6040, 0x6050, 0x6060, 0x6070, 0x6080].contains index && decide (1 ≤ sub ∧ sub ≤ 32) then
    (index - 0x3000, sub + 12)
  else (index, sub)

/-- The object of a request; the objects of rings 25 to 31 do not exist (R381), nor those of a source that is not implemented
(R403). -/
def findObject (index sub : Nat) : Option Target :=
  let v := viewed index sub
  match findRow v.1 v.2 objTable with
  | none => none
  | some (r, i) =>
    if r.index / 4096 = 0xE ∧ r.subs = 64 ∧ 25 ≤ i ∧ i ≤ 31 then none
    else if (r.index = 0xD100 ∨ r.index = 0xD110) ∧ implementedSource i = false then none
    else some { row := r, number := i, index := index, sub := sub }

/-- The key that LAST_IGNORED records: the index and sub-index through which a write was made (R69). -/
def Target.key (o : Target) : Nat := o.index * 256 + o.sub

/-! Rights (R12, R13, R47, R369). -/

/-- In FACTORY every object is reached by every request, with whatever role (R13, R43, Table 2-5). -/
def State.factoryRight (s : State) : Bool := s.mode == Mode.FACTORY

/-- The role may read the object. -/
def State.mayRead (s : State) (o : Target) (role : Role) : Bool :=
  s.reaches o.row.cls && (readRoles o.row.cls role || s.factoryRight)

/-- The role may write the object, and no lock bit guards it; COMMIT and FW_SVN_COMMIT complete with LOCKED in FW_UPD_RESULT (R322,
Table 15-9). -/
def State.mayWrite (s : State) (o : Target) (role : Role) (octets : List Octet) : Bool :=
  s.reaches o.row.cls && (s.writeRoles o.row.cls role || s.factoryRight) &&
    !(o.row.lock != 0 && s.locked o.row.lock && !(o.index == 0xB810 && o.sub == 2 && octets == [2]) &&
      !(o.index == 0xB800 && o.sub == 4 && octets == [1]))

/-! Status codes (Table 15-6). -/

namespace AckCode
abbrev OK : Nat := 0
abbrev CFG_IGNORED : Nat := 1
abbrev RANGE : Nat := 2
abbrev LENGTH : Nat := 3
abbrev TRUNCATED : Nat := 4
abbrev SUB_FULL : Nat := 5
abbrev STALE : Nat := 6
end AckCode

/-! Writes (Table 0-4, R47, R361, R366, R367). -/

/-- A write is out of range (Table 15-7, step 6); the timescale's snapshot objects have a bit of their own (Table 6-4). -/
def State.reject (s : State) (o : Target) : State :=
  if o.index = 0x1F00 then (s.stick Obj.SNAP_STATUS 4).wrN Obj.TS_LAST_IGNORED (ignoredWord o.key 1)
  else s.rangeReject o.row.block o.key

/-- The object's owning ENABLE is 1. -/
def State.enabled (s : State) (o : Target) : Bool :=
  match o.row.enable with | some f => s.rdB (f o.number) | none => false

/-- The status clear of R367 and its status; a clear of a source's LATCHED bit ends its count of raises (R405). -/
def State.clearSticky (s : State) (o : Target) (mask : Nat) (v : Int) : State × Nat :=
  let r := o.row.reg 0 o.number
  match sqClear mask (s.rdN r) v.toNat with
  | none => (s, AckCode.STALE)
  | some w => (s.wrN r (if 0xD110 ≤ o.row.index ∧ o.row.index ≤ 0xD115 ∧ bitOn w 0 = false then setBitsAt w 8 8 0 else w), AckCode.OK)

/-- What the checks of step 6 make of a value: a state and a status, or the value that is executed at step 7. -/
inductive WriteVerdict
  | done (s : State) (status : Nat)
  | run (v : Int)

/-- A value for a scalar object, judged (Table 15-7, step 6). RO ignores it silently (Table 0-4). -/
def State.judgeWrite (s : State) (o : Target) (v : Option Int) : WriteVerdict :=
  if o.row.access = .ro then .done s AckCode.OK
  else match v with
    | none => .done (s.reject o) AckCode.RANGE
    | some v => match o.row.range with
      | .sticky mask => let c := s.clearSticky o mask v; .done c.1 c.2
      | _ =>
        if !s.inRange o.row o.number v then .done (s.reject o) AckCode.RANGE
        else if o.row.access = .rwd && s.enabled o then .done (s.cfgIgnored o.row.block o.key) AckCode.CFG_IGNORED
        else .run (s.kept o.row o.number v)

/-- The register of an object, as the link reaches it. -/
def Target.at (o : Target) (l : Link) : Reg := o.row.reg (linkCode l) o.number

/-- A value takes effect (Table 15-7, step 7), unless a write of the same cycle over a later link has set the object's (R366). -/
def State.put' (s : State) (w : WriteFrom) (o : Target) (v : Int) : State :=
  if o.row.access != .wo && s.overtaken w.link (o.at w.link) then s
  else match o.row.write with
  | some f => (f s w o.number v).byHost w.link (o.at w.link)
  | none => if o.row.access = .wo then s else (s.wr (o.at w.link) v).byHost w.link (o.at w.link)

/-- The write that an effect has refused, with RANGE_REJECT set for its object: the object does not hold the value. -/
def State.refusedBy (s t : State) (w : WriteFrom) (o : Target) (v : Int) : Bool :=
  let b := blockStatus o.row.block
  seqOf (s.rdN b.1) != seqOf (t.rdN b.1) && t.rdN b.2.1 == ignoredWord (o.row.reg 0 o.number).key 1 &&
    (o.row.type != .bool || t.rd (o.row.reg (linkCode w.link) o.number) != v)

/-- The reply goes out before the effect: a reset (Table 2-6, R358), a command on a role key, whose IMPORT is answered under the old
key (R365), and the field port that the request came over going off (R246). -/
def replyFirst (w : WriteFrom) (o : Target) (v : Int) : Bool :=
  o.row.index == 0x1F10 || (decide (0xB104 ≤ o.index ∧ o.index ≤ 0xB107) && o.sub == 6) || (o.row.reg 0 o.number == Obj.FP_EN o.number && v == 0 &&
    (w.link == if o.number = 0 then .fp0 else .fp1))

/-- The effect of such a write, once its reply has gone: over PCIe that is so already; over a field port the port's own stop
and a block reset wait for the frame (R246, R358). -/
def State.putReplied (s : State) (w : WriteFrom) (o : Target) (v : Int) : State :=
  let f := linkCode w.link
  if w.link = .pcie ∨ (s.fp f).tx = [] then s.put' w o v
  else if o.row.reg 0 o.number = Obj.BLOCK_RESET then s.afterReply f (.reset v.toNat)
  else if o.row.reg 0 o.number = Obj.FP_EN o.number then s.afterReply f .stop
  else s.put' w o v

/-- The content of a STRING or DOMAIN after `fit` is written at `off`: what varies in length starts anew at 0, and
the blocks of a firmware image each stand alone (R322). -/
def newContent (o : Target) (old : List Octet) (off : Nat) (fit : List Octet) : List Octet :=
  if !o.row.varying then overlay (padTo o.row.size old) off fit
  else if off = 0 ∨ o.row.index = 0xB810 then fit
  else padTo off old ++ (fit ++ old.drop (off + fit.length))

/-- A write of octets into a STRING or DOMAIN at `off`: its state, status and count (R361). -/
def State.writeContent (s : State) (w : WriteFrom) (o : Target) (off : Nat) (octets : List Octet) : State × Nat × Nat :=
  let fit := octets.take (o.row.size - off)
  let status := if fit.length < octets.length then AckCode.TRUNCATED else AckCode.OK
  let r := o.row.reg (linkCode w.link) o.number
  if o.row.access = .ro then (s, AckCode.OK, fit.length)
  else if fit = [] ∧ o.row.type ≠ .string then (s, status, 0)
  else
    let new := newContent o (s.contentOf o.row w.link o.number) off fit
    if !contentGood o.row new then (s.reject o, AckCode.RANGE, 0)
    else if o.row.access = .rwd && s.enabled o then (s.cfgIgnored o.row.block o.key, AckCode.CFG_IGNORED, 0)
    else if s.overtaken w.link r then (s, status, fit.length)
    else ((match o.row.fill with | some f => f s o.number new | none => s.wrBlob o.row.content0 r new).byHost w.link r, status,
      fit.length)

/-! Replies and waits. -/

/-- The ACK of a request, with its status and payload; a write through BAR0 has none. -/
def State.answer (s : State) (h : Held) (status : Nat) (payload : List Octet) : State :=
  if h.op = 0 then s
  else s.reply h.req h.desc { status := status, op := h.op, index := h.req.index.toNat, sub := h.req.sub.toNat, payload := payload }

/-- Where a request's writes come from. -/
def Held.source (h : Held) : WriteFrom := { link := h.req.link, descs := h.req.descs }

/-- The longest payload of a link (R360). -/
def payloadMax (l : Link) : Nat := if l = .pcie then 4096 else 1456

/-- The ACK of an executed write, withheld where the write is a fence (R272) or an INSTALL (R320). -/
def State.ackWrite (s : State) (h : Held) (o : Target) (before : State) (status : Nat) (payload : List Octet) : State :=
  let wait : Option Wait :=
    if h.op = 0 then none
    else if o.index = 0x9010 ∧ o.sub = 6 then some (.fence before.tpe.nextId)
    else if o.index = 0x1050 ∧ o.sub = 3 ∧ before.mode = Mode.UNPROVISIONED then some .install
    else none
  match wait with
  | some x => { s with book := { s.book with held := s.book.held ++ [{ h with wait := x }] } }
  | none => s.answer h status payload

/-- A value is written to a scalar and answered. `good` and `payload` are what the ACK of a write that is executed carries, and
`failed` the payload of any other. -/
def State.writeScalar (s : State) (h : Held) (o : Target) (v : Option Int) (good : Nat) (payload failed : List Octet) : State :=
  match s.judgeWrite o v with
  | .done t status => if status = AckCode.OK then t.answer h good payload else t.answer h status failed
  | .run v =>
    if replyFirst h.source o v then (s.answer h good payload).putReplied h.source o v
    else
      let t := s.put' h.source o v
      if s.refusedBy t h.source o v then t.answer h AckCode.RANGE failed else t.ackWrite h o s good payload

/-- WRITE (Table 15-5): a value of exactly the type's size; a STRING whole; a DOMAIN as WRITE_BLOCK at offset 0. -/
def State.performWrite (s : State) (h : Held) : State :=
  match findObject h.req.index.toNat h.req.sub.toNat with
  | none => s.answer h AckCode.OK []
  | some o =>
    let p := h.req.payload
    if !s.mayWrite o h.req.role p then s.answer h AckCode.OK []
    else if !o.row.blob then
      if o.row.access = .ro then s.answer h AckCode.OK []
      else if p.length ≠ scalarSize o.row.type then s.answer h AckCode.LENGTH []
      else s.writeScalar h o (octetsValue o.row.type p) AckCode.OK [] []
    else if o.row.type = .string ∧ o.row.size < p.length ∧ o.row.access ≠ .ro then (s.reject o).answer h AckCode.RANGE []
    else
      let r := s.writeContent h.source o 0 p
      r.1.answer h r.2.1 []

/-- WRITE_BLOCK (R361): its ACK carries the count written. A scalar takes the octets over those it holds. -/
def State.performWriteBlock (s : State) (h : Held) : State :=
  let p := h.req.payload
  let off := h.req.offset.toNat
  match findObject h.req.index.toNat h.req.sub.toNat with
  | none => s.answer h AckCode.OK (leBytes 4 p.length)
  | some o =>
    let size := if o.row.blob then o.row.size else scalarSize o.row.type
    let fit := p.take (size - off)
    if !s.mayWrite o h.req.role p || o.row.access == .ro then s.answer h AckCode.OK (leBytes 4 fit.length)
    else if o.row.blob then
      let r := s.writeContent h.source o off p
      r.1.answer h r.2.1 (leBytes 4 r.2.2)
    else
      let good := if fit.length < p.length then AckCode.TRUNCATED else AckCode.OK
      if fit = [] then s.answer h good (leBytes 4 0)
      else s.writeScalar h o (octetsValue o.row.type (overlay (s.octetsOf o.row h.req.link o.number) off fit)) good
        (leBytes 4 fit.length) (leBytes 4 0)

/-! Reads (R356, R361, Table 15-7 step 5). -/

/-- The octets that a reader in a role finds: those of the object, or of a zero one of its size where it has no right, or 8
zero octets where there is no object. -/
def State.readOctets (s : State) (l : Link) (role : Role) (index sub : Nat) : List Octet :=
  match findObject index sub with
  | none => List.replicate 8 0
  | some o => if s.mayRead o role then s.octetsOf o.row l o.number else zeroOctets o.row

/-- READ. -/
def State.performRead (s : State) (h : Held) : State :=
  s.answer h AckCode.OK ((s.readOctets h.req.link h.req.role h.req.index.toNat h.req.sub.toNat).take (payloadMax h.req.link))

/-- READ_BLOCK: `length` octets from OFFSET, as far as they exist; where there is no object, `length` zero octets. -/
def State.performReadBlock (s : State) (h : Held) : State :=
  let n := ofLe h.req.payload
  let object := findObject h.req.index.toNat h.req.sub.toNat
  if h.req.payload.length ≠ 2 ∨ n = 0 then
    let permitted := match object with | some o => s.mayRead o h.req.role | none => false
    s.answer h (if permitted then AckCode.LENGTH else AckCode.OK) []
  else
    let m := min n (payloadMax h.req.link)
    match object with
    | none => s.answer h AckCode.OK (List.replicate m 0)
    | some _ =>
      s.answer h AckCode.OK (((s.readOctets h.req.link h.req.role h.req.index.toNat h.req.sub.toNat).drop h.req.offset.toNat).take m)

/-! Subscriptions (R370). -/

/-- The subscription of a request's link, address and role. -/
def GopRequest.owns (q : GopRequest) (x : Subscription) : Bool :=
  x.link == q.link && x.role == q.role && (q.link == .pcie || x.mac == q.mac.toNat)

/-- The removal of the request's subscription. -/
def State.unsubscribe (s : State) (q : GopRequest) : State :=
  { s with book := { s.book with subs := s.book.subs.filter fun x => !GopRequest.owns q x } }

/-- SUBSCRIBE: the mask without the codes that the role may not receive replaces an entry's, or takes a free one. -/
def State.subscribe (s : State) (q : GopRequest) : State × Nat :=
  if q.payload.length ≠ 4 then (s, AckCode.LENGTH)
  else
    let asked := ofLe q.payload
    let mask := maskOf (fun c => bitOn asked c && noticeAllowed c q.role) 32
    if mask = 0 then (s.unsubscribe q, AckCode.OK)
    else if s.book.subs.any (GopRequest.owns q) then
      let subs := s.book.subs.map fun x => if GopRequest.owns q x then { x with mask := mask } else x
      ({ s with book := { s.book with subs := subs } }, AckCode.OK)
    else if (if q.link = .pcie then 4 else 8) ≤ (s.book.subs.filter fun x => x.link == q.link).length then (s, AckCode.SUB_FULL)
    else
      let mac := if q.link = .pcie then 0 else q.mac.toNat
      let x : Subscription := { link := q.link, mac := mac, role := q.role, mask := mask, nextSeq := 1, buckets := [] }
      ({ s with book := { s.book with subs := s.book.subs ++ [x] } }, AckCode.OK)

/-! The operations and what they wait for. -/

/-- A dictionary operation is executed, from its rights on (Table 15-7, steps 5 to 7). -/
def State.perform (s : State) (h : Held) : State :=
  match h.op with
  | 0 | 2 => s.performWrite h
  | 1 => s.performRead h
  | 3 => s.performReadBlock h
  | 4 => s.performWriteBlock h
  | 5 => let r := s.subscribe h.req; r.1.answer h r.2 []
  | 6 => (s.unsubscribe h.req).answer h AckCode.OK []
  | _ => s

/-- The holding objects of a snapshot (R152). -/
def holding (index : Nat) : Bool := [0xD840, 0x8054, 0x8234, 0x9601, 0x4C34, 0x4C35, 0x4C36, 0x4C37].contains index

/-- What an operation waits for: a write for the restoration of its block (R368), a read for the snapshot's copy (R152)
or for the public-key unit (R319). -/
def State.waits (s : State) (op index sub : Nat) : Option Wait :=
  if op = 1 ∨ op = 3 then
    if holding index ∧ s.snap.copying then some .snapshot
    else if index = 0x1040 ∧ (sub = 3 ∨ sub = 6) ∧ s.ks.pku ≠ [] then some .signing
    else none
  else if op = 0 ∨ op = 2 ∨ op = 4 then match findObject index sub with
    | some o => if bitOn s.book.guard.restoring o.row.block then some (.restoring o.row.block) else none
    | none => none
  else none

/-- An operation is executed, or waits. -/
def State.begin (s : State) (h : Held) : State :=
  match s.waits h.op h.req.index.toNat h.req.sub.toNat with
  | some x => { s with book := { s.book with held := s.book.held ++ [{ h with wait := x }] } }
  | none => s.perform h

/-- A write through BAR0 waits. -/
def State.orderHeld (s : State) : Bool := s.book.held.any fun h => h.wait == .order

/-- A write through BAR0 is executed; or it waits, also for every earlier one (R374). -/
def State.beginInOrder (s : State) (h : Held) : State :=
  if s.orderHeld || (s.waits h.op h.req.index.toNat h.req.sub.toNat).isSome then
    { s with book := { s.book with held := s.book.held ++ [{ h with wait := .order }] } }
  else s.perform h

/-- Of the requests `l` that wait, oldest first, those are executed that waited for `x`, and the writes through BAR0 up to the first
that still waits (R374). -/
def State.resumeOf (x : Wait) : List Held → Bool → State → State
  | [], _, s => s
  | h :: l, blocked, s =>
    if h.wait == x || (h.wait == .order && !blocked && (s.waits h.op h.req.index.toNat h.req.sub.toNat).isNone) then
      let s1 : State := { s with book := { s.book with held := s.book.held.erase h } }
      State.resumeOf x l blocked (s1.perform h).settle
    else State.resumeOf x l (blocked || h.wait == .order) s

/-- What waited is executed, oldest first. -/
def State.resume (s : State) (x : Wait) : State := State.resumeOf x s.book.held false s

/-! The checks of Table 15-7 up to step 4. -/

/-- Step 1: VERSION 1, an operation of Table 15-5, a role, a message of at least 44 + LENGTH octets, and LENGTH within R360. -/
def framed (op : Nat) (q : GopRequest) : Bool :=
  decide (q.version = 1 ∧ 1 ≤ op ∧ op ≤ 8 ∧ q.roleOctet.toNat ≤ 4 ∧ q.length.toNat + 16 ≤ q.rest.length ∧
    q.length.toNat ≤ payloadMax q.link)

/-- Step 2: the tag, under the key of a role whose slot is ACTIVE; zeros for anonymous (R363). -/
def State.tagGood (s : State) (op : Nat) (q : GopRequest) : Bool :=
  (q.role == .anonymous || (s.roleKey q.role).isSome) && q.tag == s.tagOf q.role (q.header op ++ q.payload)

/-- The events of the job that checked a tag (R316, Table 17-8). -/
def State.tagChecked (s : State) (op : Nat) (q : GopRequest) : State :=
  s.when (q.role != .anonymous) (·.jobsDone (if s.tagGood op q then Ks.OK else Ks.VERIFY_FAIL) 1)

/-- What becomes of a request's sequence number at step 3 (R364). -/
inductive SeqVerdict
  | fresh | again (message : List Octet) | stale
  deriving DecidableEq, Repr

/-- Step 3 (R364): anonymous is not checked. -/
def State.seqVerdict (s : State) (q : GopRequest) : SeqVerdict :=
  let cell := s.seqCell q.link q.role
  let d := (q.seq.toNat + 2 ^ 32 - cell.last) % 2 ^ 32
  if q.role = .anonymous ∨ (1 ≤ d ∧ d < 2 ^ 31) then .fresh
  else match cell.ack with
    | some m => if d = 0 then .again m else .stale
    | none => .stale

/-- Steps 1 to 4 on a request that has been taken from its link, and then its execution. -/
def State.checked (s : State) (op : Nat) (q : GopRequest) (desc : Nat) : State :=
  let s0 := s.tagChecked op q
  if !framed op q then (s.stick Obj.OD_STATUS 1).discardGop q desc
  else if !s.tagGood op q then ((s0.stick Obj.OD_STATUS 2).raise Src.OD_TAG_FAIL).discardGop q desc
  else match s.seqVerdict q with
    | .stale => ((s0.stick Obj.OD_STATUS 3).raise Src.OD_REPLAY).discardGop q desc
    | .again m => (s0.stick Obj.OD_STATUS 3).transmitAck q.link q.mac.toNat desc m
    | .fresh =>
      let s1 := if q.role = .anonymous then s0 else s0.setSeqCell q.link q.role { last := q.seq.toNat, ack := none }
      if 7 ≤ op then s1.discardGop q desc else s1.begin { wait := .signing, op := op, req := q, desc := desc }

/-- The request leaves its link: a receive buffer of a field port is free again (R245), or the command whose buffer has arrived
starts, in order of arrival (R389). None where it cannot have arrived. -/
def State.arrive (s : State) (q : GopRequest) : Option (State × Nat) :=
  if !s.open || !s.linkUp q.link then none
  else if q.link = .pcie then
    let s1 := s.ahead 0
    match (s1.startable 0)[q.nth.val]? with
    | none => none
    | some t => if t.desc.length = 0 ∨ 4140 < t.desc.length then none else some (s1.takeStart 0 t, t.count)
  else
    let f := linkCode q.link
    some (s.setFp f { s.fp f with rx := (s.fp f).rx - 1 }, 0)

/-- The request reaches a test object of F000 to FFFF that the manual names no further: the FACTORY state alone lets it
through, and what it finds there is not stated. -/
def State.testObject (s : State) (op : Nat) (q : GopRequest) : Bool :=
  s.mode == Mode.FACTORY && decide (0xF000 ≤ q.index.toNat ∧ 1 ≤ op ∧ op ≤ 4) &&
    (findObject q.index.toNat q.sub.toNat).isNone && framed op q && s.tagGood op q

/-- The check of the message's tag is a job that waits: 256 are held, or Keystone's configuration is being restored (R316, R328). -/
def State.tagWaits (s : State) (op : Nat) (q : GopRequest) : Bool :=
  framed op q && q.role != .anonymous && (s.jobsFull || s.unsafeBlock 14)

/-- A GOP message with operation `op`. -/
def gop (op : Nat) (q : GopRequest) (s : State) : Host.Outcome State Fault Refusal :=
  if s.tagWaits op q then .next s
  else match s.arrive q with
  | none => .next s
  | some (s1, desc) => if s1.testObject op q then .refused .undescribedTestObject else .next (s1.checked op q desc).settle

/-- GOP_READ (R362). -/
def execGopRead (q : GopRequest) (s : State) : Host.Outcome State Fault Refusal := gop 1 q s
/-- GOP_WRITE (R362). -/
def execGopWrite (q : GopRequest) (s : State) : Host.Outcome State Fault Refusal := gop 2 q s
/-- GOP_READ_BLOCK (R361). -/
def execGopReadBlock (q : GopRequest) (s : State) : Host.Outcome State Fault Refusal := gop 3 q s
/-- GOP_WRITE_BLOCK (R361). -/
def execGopWriteBlock (q : GopRequest) (s : State) : Host.Outcome State Fault Refusal := gop 4 q s
/-- GOP_SUBSCRIBE (R370). -/
def execGopSubscribe (q : GopRequest) (s : State) : Host.Outcome State Fault Refusal := gop 5 q s
/-- GOP_UNSUBSCRIBE (R370). -/
def execGopUnsubscribe (q : GopRequest) (s : State) : Host.Outcome State Fault Refusal := gop 6 q s
/-- GOP_INVALID_REQUEST: any message, most often one that the first four checks discard (R362). -/
def execGopInvalidRequest (op : BitVec 8) (q : GopRequest) (s : State) : Host.Outcome State Fault Refusal := gop op.toNat q s

/-! Register accesses (R373, R374). -/

/-- The octets that a 64-bit register value puts into an object: its low ones, or the instant that a count of nanoseconds
denotes. -/
def slotOctets (t : ObjType) (v : Nat) : List Octet :=
  match t with
  | .time80 => time80Bytes v
  | .time112 => time112Bytes (v * 2 ^ 32)
  | _ => leBytes (scalarSize t) v

/-- The role that a register access acts with; BAR0 needs the PCIe link, and reaches the identity objects alone with
BAR0_ROLE at 0, none of which can be written there (R373), but every object in FACTORY (R43). -/
def State.pathRole (s : State) (path : Path) : Option Role :=
  match path with
  | .request role => some role
  | .bar0 =>
    if !s.linkUp .pcie then none
    else match s.rdN Obj.BAR0_ROLE with
      | 0 => if s.factoryRight then some .anonymous else none
      | 1 => some .observer | 2 => some .operator | _ => some .engineer

/-- A register value is written to an object, or waits. -/
def State.writeRegister (s : State) (path : Path) (index : BitVec 16) (sub : BitVec 8) (value : Nat) (descs : List Posted)
    (statusOnly : Bool) : Host.Outcome State Fault Refusal :=
  match s.pathRole path, findObject index.toNat sub.toNat with
  | some role, some o =>
    if !s.open || o.row.blob || (statusOnly && o.row.access != .sq) then .next s
    else
      let q := registerRequest role index sub (slotOctets o.row.type value) descs
      let h : Held := { wait := .signing, op := 0, req := q, desc := 0 }
      .next (if path = .bar0 then s.beginInOrder h else s.begin h).settle
  | some _, none =>
    if s.open && s.factoryRight && decide (0xF000 ≤ index.toNat) && !statusOnly then
      .refused .undescribedTestObject
    else .next s
  | none, _ => .next s

/-- REGISTER_WRITE (R11). -/
def execRegisterWrite (path : Path) (index : BitVec 16) (sub : BitVec 8) (value : BitVec 64) (descs : List Posted) (s : State) :
    Host.Outcome State Fault Refusal := s.writeRegister path index sub value.toNat descs false

/-- STATUS_CLEAR (R367). -/
def execStatusClear (path : Path) (index : BitVec 16) (sub : BitVec 8) (value : BitVec 32) (s : State) :
    Host.Outcome State Fault Refusal := s.writeRegister path index sub value.toNat [] true

/-- BAR0_BAD_ACCESS (R374). -/
def execBar0BadAccess (s : State) : Host.Outcome State Fault Refusal :=
  if s.open && s.linkUp .pcie then .next (s.stick Obj.OD_STATUS 4).settle else .next s

/-- A register read of a holding object waits while the copy of a snapshot runs (R152). -/
def State.readWaits (s : State) (index : Nat) : Bool := holding index && s.snap.copying

/-- The 64-bit slot that a BAR0 read finds: zero-extended or sign-extended, an instant as its count of nanoseconds
(R373, R374). -/
def State.bar0Slot (s : State) (index sub : Nat) : Nat :=
  let role := match s.rdN Obj.BAR0_ROLE with | 0 => Role.anonymous | 1 => .observer | 2 => .operator | _ => .engineer
  match findObject index sub with
  | none => 0
  | some o =>
    if o.row.blob || !s.mayRead o role || (role == .anonymous && !(o.row.cls == .ident) && !s.factoryRight) then 0
    else
      let v := s.scalar o.row .pcie o.number
      match o.row.type with
      | .time80 => min v.toNat (2 ^ 64 - 1)
      | .time112 => min (v.toNat / 2 ^ 32) (2 ^ 64 - 1)
      | _ => (v % (2 ^ 64 : Int)).toNat

/-- What a read of BAR0 returns: `size` octets at an aligned address; any other read returns zero (R374). None while the read
waits, also for a write through BAR0 that waits. -/
def State.bar0Read (s : State) (addr size : Nat) : Option Nat :=
  if s.orderHeld then none
  else if [1, 2, 4, 8].contains size && addr % size == 0 then
    if s.readWaits (addr / 0x800) then none
    else some (s.bar0Slot (addr / 0x800) (addr % 0x800 / 8) / 2 ^ (addr % 8 * 8) % 2 ^ (8 * size))
  else some 0

/-- A 4-octet word of the counter page (Table 16-2). -/
def State.bar2Word (s : State) (addr : Nat) : Nat :=
  if addr < 0x200 then s.rdN (Obj.CTR_VALUE (addr / 4))
  else if addr < 0x400 then s.rdN (Obj.SNAP_CTR ((addr - 0x200) / 4))
  else if addr = 0x400 then s.rdN Obj.SNAP_SEQ
  else if addr = 0x408 then min (s.rdN Obj.SNAP_TAKEN) (2 ^ 64 - 1) % 2 ^ 32
  else if addr = 0x40C then min (s.rdN Obj.SNAP_TAKEN) (2 ^ 64 - 1) / 2 ^ 32
  else 0

/-- What a read of BAR2 returns (R380); none while a read of the snapshot's counters waits (R152). -/
def State.bar2Read (s : State) (addr size : Nat) : Option Nat :=
  if !s.rdB Obj.CTR_USER_READ then some 0
  else if (size = 4 ∨ size = 8) ∧ addr % size = 0 then
    if 0x200 ≤ addr ∧ addr < 0x400 ∧ s.readWaits 0xD840 then none
    else some (s.bar2Word addr + if size = 8 then s.bar2Word (addr + 4) * 2 ^ 32 else 0)
  else some 0

/-! What releases the requests that wait. -/

/-- SNAPSHOT_COMPLETE: the copy of instant T has ended (R152). -/
def execSnapshotComplete (s : State) : Host.Outcome State Fault Refusal :=
  if !s.snap.copying then .next s
  else
    let s1 := (s.wrN Obj.SNAP_TAKEN (s.snap.lastAt48.getD 0 / ns48)).bump Obj.SNAP_SEQ
    .next (({ s1 with snap := { s1.snap with copying := false } } : State).resume .snapshot).settle

/-- The result of an operation of the public-key unit (R319, R320); no key, no result. -/
def State.pkuResult (s : State) (op : PkuOp) : State :=
  match op, s.identity with
  | .csr subject, some d => s.wrBlob [] Obj.ID_CSR (Config.csr d subject)
  | .attest message, some d => s.wrBlob (List.replicate 64 0) Obj.ID_ATTEST (padTo 64 (Config.sign d message))
  | .install, _ => s.installRecord
  | _, none => s

/-- PKU_OP_COMPLETE: the public-key unit's current operation completes (R319). -/
def execPkuOpComplete (s : State) : Host.Outcome State Fault Refusal :=
  match s.ks.pku with
  | [] => .next s
  | op :: rest =>
    .next ((({ s with ks := { s.ks with pku := rest } } : State).pkuResult op).resume .signing).settle

/-- ZEROISATION_COMPLETE: within 10 µs of the assertion the bulk erase is verified and logged; the reads that waited for the
public-key unit find zero (R51, R319, R324, R325). -/
def execZeroisationComplete (s : State) : Host.Outcome State Fault Refusal :=
  if s.ks.zeroising then .next (s.erased.resume .signing).settle else .next s

/-- SHADOW_RESTORE_COMPLETE: the restoration of a block ends, and the writes that waited for it execute (R368). -/
def execShadowRestoreComplete (block : Fin 20) (ok : Bool) (s : State) : Host.Outcome State Fault Refusal :=
  if bitOn s.book.guard.restoring block then .next ((s.restored block ok).settle.resume (.restoring block)).close else .next s

end Sys2Proof.Machine
end

