-- ==== Sys2Proof/Machine/Pcie.lean ====
section
/-! DEFINITION. The configuration space and BAR4 as the host finds them: the identity of Table 16-1, the MSI-X table and its
pending-bit array (R377, R378, R386). No row of the opcode table is an access to either (log entry 108). -/

namespace Sys2Proof.Machine

/-- The identity of Table 16-1. -/
def pciVendor : Nat := 0x1F5C
def pciDevice : Nat := 0x4810
def pciRevision : Nat := 0xB0
def pciClass : Nat := 0x088000

/-- A word of the configuration header, at the offsets of the PCI standard (log entry 108): identity, command with Bus Master Enable,
class and revision, subsystem IDs. -/
def State.configWord (s : State) (off : Nat) : Nat :=
  if off = 0x00 then pciVendor + pciDevice * 2 ^ 16
  else if off = 0x04 then if bitOn (s.rdN Obj.HL_LINK) 9 then 4 else 0
  else if off = 0x08 then pciRevision + pciClass * 2 ^ 8
  else if off = 0x2C then s.book.pci.subsystem.toNat
  else 0

/-- The host sets the maximum payload size, 128 to 512, and the maximum read request size, up to 4,096 (Table 16-1). -/
def State.setPciSizes (s : State) (payload read : Nat) : State :=
  if payload ∈ [128, 256, 512] ∧ read ∈ [128, 256, 512, 1024, 2048, 4096] then
    { s with book := { s.book with pci := { s.book.pci with maxPayload := payload, maxRead := read } } }
  else s

/-- A 4-octet word of BAR4: entry v of the MSI-X table at 16 v, the pending-bit array at 0x2000 (R378; log entry 108). -/
def State.bar4Word (s : State) (addr : Nat) : Nat :=
  let e := s.msixEntry (addr / 16)
  if addr < 0x400 then match addr % 16 with
    | 0 => e.addr % 2 ^ 32 | 4 => e.addr / 2 ^ 32 | 8 => e.data | 12 => if e.masked then 1 else 0 | _ => 0
  else if addr = 0x2000 then s.book.msixPending % 2 ^ 32
  else if addr = 0x2004 then s.book.msixPending / 2 ^ 32
  else 0

/-- The host writes a word of the MSI-X table; a vector that is unmasked sends the message that is pending for it (R386). -/
def State.bar4Write (s : State) (addr value : Nat) : State :=
  if addr < 0x400 then
    let v := addr / 16
    let e := s.msixEntry v
    let e1 := match addr % 16 with
      | 0 => { e with addr := e.addr / 2 ^ 32 * 2 ^ 32 + value % 2 ^ 32 }
      | 4 => { e with addr := value % 2 ^ 32 * 2 ^ 32 + e.addr % 2 ^ 32 }
      | 8 => { e with data := value % 2 ^ 32 }
      | 12 => { e with masked := bitOn value 0 }
      | _ => e
    let s1 : State := { s with book := { s.book with msix := SMap.put MsixEntry.reset s.book.msix v e1 } }
    if !e1.masked && bitOn s.book.msixPending v then
      ({ s1 with book := { s1.book with msixPending := clearBit s.book.msixPending v } } : State).message v
    else s1
  else s

end Sys2Proof.Machine
end

