-- ==== Sys2Proof/Machine/Dispatch.lean ====
section
/-! DEFINITION. The effect of each command: one arm per constructor, each a direct call of its meaning. -/

namespace Sys2Proof.Machine

def exec (i : Instr) (s : State) : Host.Outcome State Fault Refusal :=
  match i with
  | .powerOnResetRelease factoryEn cwrole vbatPresent => Sys2Proof.Machine.execPowerOnResetRelease factoryEn cwrole vbatPresent s
  | .vddBelowThreshold => Sys2Proof.Machine.execVddBelowThreshold s
  | .hrstNLow => Sys2Proof.Machine.execHrstNLow s
  | .hrstNRelease factoryEn cwrole => Sys2Proof.Machine.execHrstNRelease factoryEn cwrole s
  | .softReset value => Sys2Proof.Machine.execSoftReset value s
  | .blockReset mask => Sys2Proof.Machine.execBlockReset mask s
  | .firmwareVerifyComplete image0 image1 => Sys2Proof.Machine.execFirmwareVerifyComplete image0 image1 s
  | .pufRegeneration failures ber => Sys2Proof.Machine.execPufRegeneration failures ber s
  | .rootGeneration => Sys2Proof.Machine.execRootGeneration s
  | .loEligible => Sys2Proof.Machine.execLoEligible s
  | .dramTrainingComplete ok => Sys2Proof.Machine.execDramTrainingComplete ok s
  | .bootComplete => Sys2Proof.Machine.execBootComplete s
  | .lockBitSet bit => Sys2Proof.Machine.execLockBitSet bit s
  | .supplyInhibitAssert rail => Sys2Proof.Machine.execSupplyInhibitAssert rail s
  | .supplyInhibitRelease rail => Sys2Proof.Machine.execSupplyInhibitRelease rail s
  | .journalPersistRetry => Sys2Proof.Machine.execJournalPersistRetry s
  | .keyCellWriteComplete => Sys2Proof.Machine.execKeyCellWriteComplete s
  | .zeroisationComplete => Sys2Proof.Machine.execZeroisationComplete s
  | .trestleEdge ch tap vernier falling highPs => Sys2Proof.Machine.execTrestleEdge ch tap vernier falling highPs s
  | .pairTimeout pair => Sys2Proof.Machine.execPairTimeout pair s
  | .trRingFlush => Sys2Proof.Machine.execTrRingFlush s
  | .dllLock ch => Sys2Proof.Machine.execDllLock ch s
  | .dllLoss ch => Sys2Proof.Machine.execDllLoss ch s
  | .codeDensityComplete ch counts => Sys2Proof.Machine.execCodeDensityComplete ch counts s
  | .codeDensityTimeout ch => Sys2Proof.Machine.execCodeDensityTimeout ch s
  | .calFailRetry ch => Sys2Proof.Machine.execCalFailRetry ch s
  | .tableMonitorUpdate counts => Sys2Proof.Machine.execTableMonitorUpdate counts s
  | .chRecal ch => Sys2Proof.Machine.execChRecal ch s
  | .chEnWrite ch v => Sys2Proof.Machine.execChEnWrite ch v s
  | .trEnableWrite v => Sys2Proof.Machine.execTrEnableWrite v s
  | .slotEnWrite slot v => Sys2Proof.Machine.execSlotEnWrite slot v s
  | .slEnableWrite v => Sys2Proof.Machine.execSlEnableWrite v s
  | .slotSuspend slot => Sys2Proof.Machine.execSlotSuspend slot s
  | .slotResume slot => Sys2Proof.Machine.execSlotResume slot s
  | .slotRequalify slot => Sys2Proof.Machine.execSlotRequalify slot s
  | .slotMissingEdge slot => Sys2Proof.Machine.execSlotMissingEdge slot s
  | .pinActivityLoss slot => Sys2Proof.Machine.execPinActivityLoss slot s
  | .slotQualified slot => Sys2Proof.Machine.execSlotQualified slot s
  | .slotSuspHoldExpiry slot => Sys2Proof.Machine.execSlotSuspHoldExpiry slot s
  | .slotDisqHoldExpiry slot => Sys2Proof.Machine.execSlotDisqHoldExpiry slot s
  | .todMessage port octets gapOk => Sys2Proof.Machine.execTodMessage port octets gapOk s
  | .todMessageMissing => Sys2Proof.Machine.execTodMessageMissing s
  | .esmcPdu port event ssm => Sys2Proof.Machine.execEsmcPdu port event ssm s
  | .esmcTimeout port => Sys2Proof.Machine.execEsmcTimeout port s
  | .herdUpdate synce => Sys2Proof.Machine.execHerdUpdate synce s
  | .herdEffect => Sys2Proof.Machine.execHerdEffect s
  | .tebPinHoldExpiry => Sys2Proof.Machine.execTebPinHoldExpiry s
  | .herdUpdateMiss => Sys2Proof.Machine.execHerdUpdateMiss s
  | .hdEnableWrite v => Sys2Proof.Machine.execHdEnableWrite v s
  | .loWarmChange lo level => Sys2Proof.Machine.execLoWarmChange lo level s
  | .loLoss lo => Sys2Proof.Machine.execLoLoss lo s
  | .loReturn lo => Sys2Proof.Machine.execLoReturn lo s
  | .loFreqMeasurement lo hz => Sys2Proof.Machine.execLoFreqMeasurement lo hz s
  | .loaTuneEnWrite v => Sys2Proof.Machine.execLoaTuneEnWrite v s
  | .loaTuneStep => Sys2Proof.Machine.execLoaTuneStep s
  | .loaTuneFrameEnd => Sys2Proof.Machine.execLoaTuneFrameEnd s
  | .swlTag tag => Sys2Proof.Machine.execSwlTag tag s
  | .swlTimeout => Sys2Proof.Machine.execSwlTimeout s
  | .tsSetStep => Sys2Proof.Machine.execTsSetStep s
  | .tsSetSlew => Sys2Proof.Machine.execTsSetSlew s
  | .tsSetCancel => Sys2Proof.Machine.execTsSetCancel s
  | .tsSetApply => Sys2Proof.Machine.execTsSetApply s
  | .secondBoundary => Sys2Proof.Machine.execSecondBoundary s
  | .utcAutoHoldExpiry => Sys2Proof.Machine.execUtcAutoHoldExpiry s
  | .snapNow => Sys2Proof.Machine.execSnapNow s
  | .snapAtWrite sec ns => Sys2Proof.Machine.execSnapAtWrite sec ns s
  | .snapshot => Sys2Proof.Machine.execSnapshot s
  | .snapshotComplete => Sys2Proof.Machine.execSnapshotComplete s
  | .apllConfigWrite which field value => Sys2Proof.Machine.execApllConfigWrite which field value s
  | .apllLock which => Sys2Proof.Machine.execApllLock which s
  | .apllLossOfLock which => Sys2Proof.Machine.execApllLossOfLock which s
  | .fosEnWrite f v => Sys2Proof.Machine.execFosEnWrite f v s
  | .fosFreqWrite f microHz => Sys2Proof.Machine.execFosFreqWrite f microHz s
  | .fosLock f => Sys2Proof.Machine.execFosLock f s
  | .fosLossOfLock f => Sys2Proof.Machine.execFosLossOfLock f s
  | .fosAlignComplete f => Sys2Proof.Machine.execFosAlignComplete f s
  | .outEnWrite o v => Sys2Proof.Machine.execOutEnWrite o v s
  | .evtEnWrite e v => Sys2Proof.Machine.execEvtEnWrite e v s
  | .evtCalComplete e tableGood => Sys2Proof.Machine.execEvtCalComplete e tableGood s
  | .evtEntPush link e => Sys2Proof.Machine.execEvtEntPush link e s
  | .evtQFlush e => Sys2Proof.Machine.execEvtQFlush e s
  | .evtQueueEdge e => Sys2Proof.Machine.execEvtQueueEdge e s
  | .evtProgrammeEdge e => Sys2Proof.Machine.execEvtProgrammeEdge e s
  | .grpEnWrite g v => Sys2Proof.Machine.execGrpEnWrite g v s
  | .groupBoundary g => Sys2Proof.Machine.execGroupBoundary g s
  | .evEnableWrite v => Sys2Proof.Machine.execEvEnableWrite v s
  | .loopbackCheck after => Sys2Proof.Machine.execLoopbackCheck after s
  | .loopbackStale => Sys2Proof.Machine.execLoopbackStale s
  | .feStreamLoss band => Sys2Proof.Machine.execFeStreamLoss band s
  | .feStreamReturn band => Sys2Proof.Machine.execFeStreamReturn band s
  | .acqSearchComplete rx signal sv found => Sys2Proof.Machine.execAcqSearchComplete rx signal sv found s
  | .acqDetectionExpire => Sys2Proof.Machine.execAcqDetectionExpire s
  | .trkPullInSuccess ch => Sys2Proof.Machine.execTrkPullInSuccess ch s
  | .trkPullInTimeout ch => Sys2Proof.Machine.execTrkPullInTimeout ch s
  | .trkSignalLoss ch => Sys2Proof.Machine.execTrkSignalLoss ch s
  | .trkCoastRecover ch => Sys2Proof.Machine.execTrkCoastRecover ch s
  | .trkCoastExpiry ch => Sys2Proof.Machine.execTrkCoastExpiry ch s
  | .measurementEpoch resid entries => Sys2Proof.Machine.execMeasurementEpoch resid entries s
  | .timeSolution rx solutions => Sys2Proof.Machine.execTimeSolution rx solutions s
  | .receiverPps rx tap vernier => Sys2Proof.Machine.execReceiverPps rx tap vernier s
  | .gnssSecondNotice rx => Sys2Proof.Machine.execGnssSecondNotice rx s
  | .rxEnWrite rx v => Sys2Proof.Machine.execRxEnWrite rx v s
  | .rxPosWrite rx x y z => Sys2Proof.Machine.execRxPosWrite rx x y z s
  | .gnEnableWrite v => Sys2Proof.Machine.execGnEnableWrite v s
  | .portEnWrite port v => Sys2Proof.Machine.execPortEnWrite port v s
  | .ethEnableWrite v => Sys2Proof.Machine.execEthEnableWrite v s
  | .portTrainingComplete port => Sys2Proof.Machine.execPortTrainingComplete port s
  | .portAligned port spread deskew => Sys2Proof.Machine.execPortAligned port spread deskew s
  | .portDeskewRetry port spread deskew => Sys2Proof.Machine.execPortDeskewRetry port spread deskew s
  | .portLinkLoss port rxCut => Sys2Proof.Machine.execPortLinkLoss port rxCut s
  | .portDownExpiry port => Sys2Proof.Machine.execPortDownExpiry port s
  | .portFrameRx port frame => Sys2Proof.Machine.execPortFrameRx port frame s
  | .pauseFrameSend port => Sys2Proof.Machine.execPauseFrameSend port s
  | .pauseRepeat port => Sys2Proof.Machine.execPauseRepeat port s
  | .slowPathTxPost port octets => Sys2Proof.Machine.execSlowPathTxPost port octets s
  | .queuedFrameStart port => Sys2Proof.Machine.execQueuedFrameStart port s
  | .fpFrameRx fp frame => Sys2Proof.Machine.execFpFrameRx fp frame s
  | .fpCollision fp late => Sys2Proof.Machine.execFpCollision fp late s
  | .fpBackoffExpiry fp => Sys2Proof.Machine.execFpBackoffExpiry fp s
  | .fpLinkPoll fp up => Sys2Proof.Machine.execFpLinkPoll fp up s
  | .fpEnWrite fp v => Sys2Proof.Machine.execFpEnWrite fp v s
  | .tpeEnableWrite value => Sys2Proof.Machine.execTpeEnableWrite value s
  | .signalingRequest pl => Sys2Proof.Machine.execSignalingRequest pl s
  | .signalingCancel pl => Sys2Proof.Machine.execSignalingCancel pl s
  | .delayReqRx pl => Sys2Proof.Machine.execDelayReqRx pl s
  | .pdelayReqRx pl => Sys2Proof.Machine.execPdelayReqRx pl s
  | .pdelayRespRx pl => Sys2Proof.Machine.execPdelayRespRx pl s
  | .sessionSyncRx pl => Sys2Proof.Machine.execSessionSyncRx pl s
  | .sessionDelayRespRx pl => Sys2Proof.Machine.execSessionDelayRespRx pl s
  | .sessionAnnounceRx pl => Sys2Proof.Machine.execSessionAnnounceRx pl s
  | .sessionGrantRx pl => Sys2Proof.Machine.execSessionGrantRx pl s
  | .ntpRequest pl => Sys2Proof.Machine.execNtpRequest pl s
  | .ntsRequest pl => Sys2Proof.Machine.execNtsRequest pl s
  | .unsupportedMessageRx pl => Sys2Proof.Machine.execUnsupportedMessageRx pl s
  | .calendarEntryDue => Sys2Proof.Machine.execCalendarEntryDue s
  | .calendarHandover pl => Sys2Proof.Machine.execCalendarHandover pl s
  | .cryptoJobComplete lane => Sys2Proof.Machine.execCryptoJobComplete lane s
  | .frameLaunch port => Sys2Proof.Machine.execFrameLaunch port s
  | .grantExpiry => Sys2Proof.Machine.execGrantExpiry s
  | .foldRecordFree => Sys2Proof.Machine.execFoldRecordFree s
  | .foldQuery image => Sys2Proof.Machine.execFoldQuery image s
  | .tpeFence => Sys2Proof.Machine.execTpeFence s
  | .tpeFenceComplete => Sys2Proof.Machine.execTpeFenceComplete s
  | .profEnWrite profile value => Sys2Proof.Machine.execProfEnWrite profile value s
  | .keyRotation entry => Sys2Proof.Machine.execKeyRotation entry s
  | .sesEnWrite session value => Sys2Proof.Machine.execSesEnWrite session value s
  | .sesGrantRenew session => Sys2Proof.Machine.execSesGrantRenew session s
  | .sesRetry session => Sys2Proof.Machine.execSesRetry session s
  | .sesReplyTimeout session => Sys2Proof.Machine.execSesReplyTimeout session s
  | .sesFollowUpTimeout session => Sys2Proof.Machine.execSesFollowUpTimeout session s
  | .sesDelayReqSend session => Sys2Proof.Machine.execSesDelayReqSend session s
  | .pdelayReqSend port profile => Sys2Proof.Machine.execPdelayReqSend port profile s
  | .sesTimeout session => Sys2Proof.Machine.execSesTimeout session s
  | .ruleEnWrite rule v => Sys2Proof.Machine.execRuleEnWrite rule v s
  | .gateEnWrite port v => Sys2Proof.Machine.execGateEnWrite port v s
  | .gateSwitchAtWrite port sec ns => Sys2Proof.Machine.execGateSwitchAtWrite port sec ns s
  | .gateSwitch port => Sys2Proof.Machine.execGateSwitch port s
  | .gateChange port => Sys2Proof.Machine.execGateChange port s
  | .keyImport link slot => Sys2Proof.Machine.execKeyImport link slot s
  | .keyDerive link slot => Sys2Proof.Machine.execKeyDerive link slot s
  | .keyRetire link slot => Sys2Proof.Machine.execKeyRetire link slot s
  | .keyReactivate link slot => Sys2Proof.Machine.execKeyReactivate link slot s
  | .keyInvalidate link slot => Sys2Proof.Machine.execKeyInvalidate link slot s
  | .keyDelete link slot => Sys2Proof.Machine.execKeyDelete link slot s
  | .laneSelfTest failing => Sys2Proof.Machine.execLaneSelfTest failing s
  | .trngHealthFail => Sys2Proof.Machine.execTrngHealthFail s
  | .trngRetest passed => Sys2Proof.Machine.execTrngRetest passed s
  | .drbgReseed => Sys2Proof.Machine.execDrbgReseed s
  | .idCsrSubjectWrite subject => Sys2Proof.Machine.execIdCsrSubjectWrite subject s
  | .idChallengeWrite challenge => Sys2Proof.Machine.execIdChallengeWrite challenge s
  | .pkuOpComplete => Sys2Proof.Machine.execPkuOpComplete s
  | .provInstall => Sys2Proof.Machine.execProvInstall s
  | .provInstallComplete => Sys2Proof.Machine.execProvInstallComplete s
  | .fwUpdBegin => Sys2Proof.Machine.execFwUpdBegin s
  | .fwUpdData block => Sys2Proof.Machine.execFwUpdData block s
  | .fwUpdCommit => Sys2Proof.Machine.execFwUpdCommit s
  | .fwUpdAbort => Sys2Proof.Machine.execFwUpdAbort s
  | .fwSvnCommit => Sys2Proof.Machine.execFwSvnCommit s
  | .ksZeroiseCmd value => Sys2Proof.Machine.execKsZeroiseCmd value s
  | .tamperEvent source => Sys2Proof.Machine.execTamperEvent source s
  | .helloSend => Sys2Proof.Machine.execHelloSend s
  | .helloRx epoch hello => Sys2Proof.Machine.execHelloRx epoch hello s
  | .leaseRenewal readback => Sys2Proof.Machine.execLeaseRenewal readback s
  | .leaseExpiry => Sys2Proof.Machine.execLeaseExpiry s
  | .leaseRelease => Sys2Proof.Machine.execLeaseRelease s
  | .renewRx epoch sec ns => Sys2Proof.Machine.execRenewRx epoch sec ns s
  | .releaseRx epoch => Sys2Proof.Machine.execReleaseRx epoch s
  | .takeRx epoch => Sys2Proof.Machine.execTakeRx epoch s
  | .stateRx epoch state => Sys2Proof.Machine.execStateRx epoch state s
  | .causewayAuthFail => Sys2Proof.Machine.execCausewayAuthFail s
  | .leaseAcquire => Sys2Proof.Machine.execLeaseAcquire s
  | .contendHoldExpiry => Sys2Proof.Machine.execContendHoldExpiry s
  | .leaseInChange line => Sys2Proof.Machine.execLeaseInChange line s
  | .splitDetect => Sys2Proof.Machine.execSplitDetect s
  | .cwLaneChange lane up => Sys2Proof.Machine.execCwLaneChange lane up s
  | .journalRx epoch jseq entries => Sys2Proof.Machine.execJournalRx epoch jseq entries s
  | .journalAckRx epoch jseq nack => Sys2Proof.Machine.execJournalAckRx epoch jseq nack s
  | .resyncReqRx epoch => Sys2Proof.Machine.execResyncReqRx epoch s
  | .resyncComplete => Sys2Proof.Machine.execResyncComplete s
  | .journalAckTimeout => Sys2Proof.Machine.execJournalAckTimeout s
  | .pairRecordPersist => Sys2Proof.Machine.execPairRecordPersist s
  | .bwForceRelease => Sys2Proof.Machine.execBwForceRelease s
  | .bwForceHoldOff => Sys2Proof.Machine.execBwForceHoldOff s
  | .bwEnableWrite value => Sys2Proof.Machine.execBwEnableWrite value s
  | .gopRead q => Sys2Proof.Machine.execGopRead q s
  | .gopWrite q => Sys2Proof.Machine.execGopWrite q s
  | .gopReadBlock q => Sys2Proof.Machine.execGopReadBlock q s
  | .gopWriteBlock q => Sys2Proof.Machine.execGopWriteBlock q s
  | .gopSubscribe q => Sys2Proof.Machine.execGopSubscribe q s
  | .gopUnsubscribe q => Sys2Proof.Machine.execGopUnsubscribe q s
  | .gopInvalidRequest op q => Sys2Proof.Machine.execGopInvalidRequest op q s
  | .registerWrite path index sub value descs => Sys2Proof.Machine.execRegisterWrite path index sub value descs s
  | .statusClear path index sub value => Sys2Proof.Machine.execStatusClear path index sub value s
  | .bar0BadAccess => Sys2Proof.Machine.execBar0BadAccess s
  | .parityMismatch block element index sub => Sys2Proof.Machine.execParityMismatch block element index sub s
  | .shadowRestoreComplete block ok => Sys2Proof.Machine.execShadowRestoreComplete block ok s
  | .ringDb ring count descs => Sys2Proof.Machine.execRingDb ring count descs s
  | .ringEnWrite ring v => Sys2Proof.Machine.execRingEnWrite ring v s
  | .ringDescriptorWriteback ring dmaError => Sys2Proof.Machine.execRingDescriptorWriteback ring dmaError s
  | .ringDmaError ring => Sys2Proof.Machine.execRingDmaError ring s
  | .ringOwnGap ring => Sys2Proof.Machine.execRingOwnGap ring s
  | .irqHoldoffExpiry ring => Sys2Proof.Machine.execIrqHoldoffExpiry ring s
  | .hostLinkLoss cause => Sys2Proof.Machine.execHostLinkLoss cause s
  | .hostLinkUp gen lanes => Sys2Proof.Machine.execHostLinkUp gen lanes s
  | .vdDataEnWrite v => Sys2Proof.Machine.execVdDataEnWrite v s
  | .tempBypassRevoke => Sys2Proof.Machine.execTempBypassRevoke s
  | .tempBypassRestore => Sys2Proof.Machine.execTempBypassRestore s
  | .sramEccError region correctable => Sys2Proof.Machine.execSramEccError region correctable s
  | .dramEccError correctable => Sys2Proof.Machine.execDramEccError correctable s
  | .coreWdog core => Sys2Proof.Machine.execCoreWdog core s
  | .faultsafeExit => Sys2Proof.Machine.execFaultsafeExit s
  | .fsAnnHoldExpiry => Sys2Proof.Machine.execFsAnnHoldExpiry s
  | .fsRelease => Sys2Proof.Machine.execFsRelease s
  | .sdInject source => Sys2Proof.Machine.execSdInject source s
  | .ctrFreezeWrite v => Sys2Proof.Machine.execCtrFreezeWrite v s
  | .ctrValueWrite counter value coincident => Sys2Proof.Machine.execCtrValueWrite counter value coincident s
  | .receivedPauseEnd port => Sys2Proof.Machine.execReceivedPauseEnd port s
  | .busMasterEnableChange on => Sys2Proof.Machine.execBusMasterEnableChange on s
  | .jtagInstructionLoad instruction => Sys2Proof.Machine.execJtagInstructionLoad instruction s
  | .fpDeferralEnd fp => Sys2Proof.Machine.execFpDeferralEnd fp s
  | .almanacStale rx => Sys2Proof.Machine.execAlmanacStale rx s

end Sys2Proof.Machine
end

