-- ==== Sys2Proof/Machine/Pins.lean ====
section
/-! DEFINITION. What the engine drives on its status balls (Table 18-4): MODE[3:0], REFSEL[4:0], LOCK, HOLD, TEB_OK and ERR_N,
each a function of the state. During EXTEST the boundary register drives them instead (R440). -/

namespace Sys2Proof.Machine

/-- The status balls. -/
structure StatusPins where
  mode : Nat
  refsel : Nat
  lock : Bool
  hold : Bool
  tebOk : Bool
  errN : Bool
  deriving DecidableEq, Repr

/-- The twin reports LOCKED, and slot 22 is QUALIFIED (Table 4-13). -/
def State.twinLocked (s : State) : Bool :=
  s.slotState 22 == Sl.QUALIFIED && (match s.bw.twinState with | some t => t.mode == Mode.LOCKED | none => false)

/-- LOCK (Table 4-13). -/
def State.pinLock (s : State) : Bool := s.mode == Mode.LOCKED || (s.mode == Mode.STANDBY && s.twinLocked)

/-- HOLD: in HOLDOVER, and in DEGRADED while the time set is empty (Table 4-13). -/
def State.pinHold (s : State) : Bool := s.mode == Mode.HOLDOVER || (s.mode == Mode.DEGRADED && s.hd.timeSet.isEmpty)

/-- TEB_OK (R168). -/
def State.pinTebOk (s : State) : Bool := s.teb.pin && !pinLowMode s.mode

/-- The status balls as the engine drives them (R30, R97, R168, R410). -/
def State.pins (s : State) : StatusPins where
  mode := s.mode
  refsel := s.refsel
  lock := s.pinLock
  hold := s.pinHold
  tebOk := s.pinTebOk
  errN := !s.errNLow

/-! The Causeway pins that the lease drives (R331, R332). -/

/-- LEASE_OUT is HIGH while the lease of a paired unit is current, and LOW at every other time that VDDIO is valid, COLD included
(R331; log entry 117). -/
def State.leaseOut (s : State) : Bool := s.paired && s.leaseCurrent && s.mode != Mode.COLD

/-- CWPH_OUT at an instant of the timescale, in 2^-48 ns: while the lease is current a 10 MHz square wave that rises on every
100 ns, high for 50 ns, and for 75 ns in the cycle that begins at a whole second; otherwise low (R332). -/
def State.cwphOut (s : State) (t48 : Nat) : Bool :=
  s.leaseOut && decide (t48 % (100 * ns48) < (if t48 % sec48 < 100 * ns48 then 75 * ns48 else 50 * ns48))

end Sys2Proof.Machine
end

