-- ==== Sys2Proof/Safety.lean ====
section
/-! DEFINITION. What counts as a well-kept state of the engine, in the terms that the statements use: sorted sparse maps, a
mode that the manual has, a timescale reading within its fields; and which parts of two states agree. -/

namespace Sys2Proof.Machine

/-- A mode code of Table 2-1; codes 0xC to 0xF are never driven (R30). -/
def State.legalMode (s : State) : Prop := s.mode ≤ 11

/-- The timescale reads a valid time (R5, R132): nanoseconds below 10^9, a fraction below 2^48 and 48 bits of seconds. -/
def Clock.wf (c : Clock) : Prop := c.ts.ns < giga ∧ c.ts.frac < ns48 ∧ c.ts.sec < 2 ^ 48

/-- The dictionary's maps are in their one canonical form: keys rising. -/
def Book.wf (b : Book) : Prop := SMap.sorted b.objs = true ∧ SMap.sorted b.blobs = true

/-- Nothing that this cycle raised is left over. -/
def State.settled (s : State) : Prop := s.book.due = []

/-- Since the last look, no bound that the log on ring 22 watches has become finite or unbounded (R174). -/
def State.boundsSeen (s : State) : Prop := s.teb.finite = if s.rdB Obj.TEB_LOG_EN then some s.finiteBounds else none

/-- Causeway carries a frame of `epoch` to this unit, it verifies, and no lease of an older epoch stands against it (R334,
R335). -/
def State.takesFrame (s : State) (epoch : Nat) : Prop :=
  s.cwHears = true ∧ s.jobStatus (s.rdN Obj.CW_KEY_SLOT) 4 true false = Ks.OK ∧
    (s.ctl.lease.current = true → epoch ≤ s.ctl.lease.epoch)

/-! What counting, the fault log, the rings and the notices leave alone: every part but `book` and `net`, and every
register below D000. -/

/-- The registers below D000: those of Sheepdog, the counters and the host link lie above. -/
def Reg.low (r : Reg) : Prop := r.key < 0xD00000

/-- Two states agree but for the bookkeeping of Sheepdog, the counters, the rings and the notices. -/
structure Agrees (s t : State) : Prop where
  pending : t.pending = s.pending
  ctl : t.ctl = s.ctl
  clk : t.clk = s.clk
  snap : t.snap = s.snap
  aon : t.aon = s.aon
  jtag : t.jtag = s.jtag
  tr : t.tr = s.tr
  ks : t.ks = s.ks
  hd : t.hd = s.hd
  utc : t.utc = s.utc
  sl : t.sl = s.sl
  syn : t.syn = s.syn
  ev : t.ev = s.ev
  teb : t.teb = s.teb
  gn : t.gn = s.gn
  tpe : t.tpe = s.tpe
  bw : t.bw = s.bw
  ports : t.net.ports = s.net.ports
  buckets : t.net.buckets = s.net.buckets
  rd : ∀ r : Reg, r.low → t.rd r = s.rd r
  blobs : t.book.blobs = s.book.blobs
  guard : t.book.guard = s.book.guard
  held : t.book.held = s.book.held

end Sys2Proof.Machine
end

