-- ==== Sys2Proof/Certificates/Slice0/Obligations.lean ====
section
/-! DEFINITION. The statements for the provers, family by family. Each result says which next state the command's own effect
gives, for every state and operands that meet the conditions on them alone; `State.settle` and `State.close` are the end of
the cycle, which runs the raises. -/

open Sys2Proof Sys2Proof.Machine

/-! The block as a whole. -/

/-- With a command at the front of the queue, a step is that command's effect on the state with the queue's rest. -/
def Obligations.StepRunsFrontCommand : Prop :=
  ∀ (c : Instr) (rest : List Instr) (s : State), s.pending = c :: rest → step s = exec c { s with pending := rest }

/-- With no command waiting, a step is one 1 GHz cycle of the clock and the end of that cycle; with the clock standing,
nothing raised, no twin and no bound newly finite or unbounded, it changes nothing. That a step with an empty queue lets one
cycle pass is the model's choice (log entry 6). The end of a cycle leaves no raise over; in a cycle that has raised nothing
and in which no bound has become finite or unbounded (R174) it changes nothing in an unpaired unit, and outside FREERUN to
DEGRADED no evaluation follows either (R33, R36, R406). -/
def Obligations.QuietCycles : Prop :=
  ((∀ s : State, s.pending = [] → step s = .next (s.runCycles 1).settle) ∧
   (∀ s : State, s.pending = [] → s.clk.running = false → s.settled → s.paired = false → s.boundsSeen → step s = .next s)) ∧
  ((∀ s : State, s.settle.book.due = []) ∧
   (∀ s : State, s.book.due = [] → s.paired = false → s.boundsSeen → s.settle = s) ∧
   (∀ s : State, serviceMode s.mode = false → s.evaluate = s) ∧
   (∀ s : State, s.book.due = [] → s.paired = false → s.boundsSeen → serviceMode s.mode = false → s.close = s))

/-- After power-on reset: no command waits, nothing is raised, logged or subscribed, the engine is in BOOT by transition 1
(R44, Table 2-3), the timescale does not run (R408), every key slot is EMPTY, every reference slot DISABLED, and every
register reads its reset value. The registers' values of which the manual says nothing are the model's choice (log entry 4).
The machine right after reset is well kept. -/
def Obligations.ResetState : Prop :=
  (State.reset.pending = [] ∧ State.reset.book.due = [] ∧ State.reset.book.flog = [] ∧ State.reset.book.subs = [] ∧
   State.reset.mode = Mode.BOOT ∧ State.reset.rdN Obj.MODE_REASON = 1 ∧ State.reset.rdN Obj.MODE_PREVIOUS = Mode.COLD ∧
   State.reset.clk.running = false ∧ State.reset.ctl.boot.step = 3 ∧
   (∀ k : Nat, State.reset.keyState k = Key.EMPTY) ∧
   (∀ n : Nat, State.reset.slotState n = Sl.DISABLED) ∧
   (∀ r : Reg, State.reset.rd r = r.reset)) ∧
  (State.reset.settled ∧ State.reset.book.wf ∧ State.reset.clk.wf ∧ State.reset.legalMode)

/-- Every command and every idle cycle runs its raises to their end: no step leaves a raise of its cycle over (R405, R406). -/
def Obligations.EveryStepSettlesItsRaises : Prop :=
  ∀ s t : State, s.settled → step s = .next t → t.settled

/-- A register reads what was last written to it, a write of one register leaves every other one alone, and the maps of the
dictionary keep their one canonical form. -/
def Obligations.RegisterReadAfterWrite : Prop :=
  (∀ (s : State) (r : Reg) (v : Int), (s.wr r v).rd r = v) ∧
  (∀ (s : State) (r q : Reg) (v : Int), q.key ≠ r.key → (s.wr r v).rd q = s.rd q) ∧
  (∀ (s : State) (d : List Octet) (r : Reg) (v : List Octet), (s.wrBlob d r v).blob d r = v) ∧
  (∀ (s : State) (d d' : List Octet) (r q : Reg) (v : List Octet), q.key ≠ r.key →
    (s.wrBlob d r v).blob d' q = s.blob d' q) ∧
  (∀ (s : State) (r : Reg) (v : Int), s.book.wf → (s.wr r v).book.wf) ∧
  (∀ (s : State) (d : List Octet) (r : Reg) (v : List Octet), s.book.wf → (s.wrBlob d r v).book.wf) ∧
  (∀ (s : State) (r : Reg), ∀ e ∈ (s.wr r r.reset).book.objs, e.1 ≠ r.key)

/-- Counting an event, a raise, the begin or end of a condition, an entry of the fault log, a record for a ring and a notice
leave every other part of the engine alone, and every register below D000. -/
def Obligations.BookkeepingLeavesTheRestAlone : Prop :=
  (∀ (s : State) (ev amt : Nat), Agrees s (s.count ev amt)) ∧
  (∀ (s : State) (n : Nat), Agrees s (s.raise n)) ∧
  (∀ (s : State) (n : Nat) (on : Bool), Agrees s (s.cond n on)) ∧
  (∀ (s : State) (kind src sev rea : Nat) (c f i : Bool) (d : Nat), Agrees s (s.log kind src sev rea c f i d)) ∧
  (∀ (s : State) (k aux ns : Nat) (rec : List Octet), Agrees s (s.toRing k aux ns rec).1) ∧
  (∀ (s : State) (c i b : Nat) (body : List Octet), Agrees s (s.notice c i b body))

/-- R14: hardware sets advance the sequence number, so a write that carries the number read before them is ignored, and
every flag they set stays set. (The sequence number has 16 bits, R367: fewer than 65,536 sets lie between read and write.) -/
def Obligations.StaleFlagClearIsIgnored : Prop :=
  ∀ (w : Nat) (sets : List Nat) (b mask m : Nat), w < 2 ^ 32 → (∀ x ∈ sets, x < 16) → b ∈ sets → sets.length < 65536 →
    m < 65536 → bitOn (sets.foldl sqSet w) b = true ∧ sqClear mask (sets.foldl sqSet w) (seqOf w * 65536 + m) = none

/-- A write that carries the current sequence number clears the masked sticky bits and nothing else (R367). -/
def Obligations.CurrentFlagClearClearsTheMaskedBits : Prop :=
  ∀ w mask m : Nat, w < 2 ^ 32 → mask < 65536 → m < 65536 →
    ∃ v, sqClear mask w (seqOf w * 65536 + m) = some v ∧ seqOf v = seqOf w ∧
      (∀ k, k < 16 → bitOn v k = (bitOn w k && !(bitOn m k && bitOn mask k)))

/-- R419: while CTR_FREEZE is 1 nothing is counted and no counter changes; a write of it takes effect in its cycle. -/
def Obligations.FreezeStopsEveryCounter : Prop :=
  (∀ (s : State) (ev amt : Nat), s.rdB Obj.CTR_FREEZE = true → s.count ev amt = s) ∧
  (∀ (v : Bool) (s : State), s.restoring 17 = false → ∃ u : State, exec (.ctrFreezeWrite v) s = .next u.settle ∧ u.rdB Obj.CTR_FREEZE = v ∧
    ∀ n : Nat, u.rd (Obj.CTR_VALUE n) = s.rd (Obj.CTR_VALUE n))

/-- R133: a short stamp of a time and the top 16 bits of its fraction. -/
def Obligations.ShortStampOfATime : Prop :=
  ∀ t : TsCount, t.ns < giga → t.frac < ns48 →
    shortStamp t.to48 = ((t.sec * giga + t.ns) % 2 ^ 32, t.frac / 2 ^ 32)

/-- The running timescale advances by 2^48 + q units of 2^-48 ns in every cycle, modulo 2^48 seconds, and reads a valid time
(R132, R5), and while a tuning step is being booked q changes from one cycle to the next (R116); frozen, it holds its
reading and counts its undisciplined cycles (R143). Points on which the manual is silent or can be read two ways are the
model's choice (log entry 18). -/
def Obligations.TimescaleCounts : Prop :=
  (∀ (c : Clock) (n step : Nat), c.running = true → c.frozen = false →
    (c.run n step).ts.to48 = (c.ts.to48 + n * step) % (2 ^ 48 * sec48) ∧ (c.run n step).wf ∧
      (c.run n step).up48 = c.up48 + n * step ∧ (c.run n step).cycles = c.cycles + n) ∧
  (∀ (c : Clock) (n step : Nat), c.running = true → c.frozen = true →
    c.run n step = { c with frozenCycles := c.frozenCycles + n }) ∧
  (∀ (c : Clock) (n step : Nat), c.running = false → c.run n step = c) ∧
  (∀ (s : State) (n : Nat), s.ramping = false → s.clk.running = true →
    (s.runCycles (n + 1)).clk = s.clk.run (n + 1) s.step48) ∧
  (∀ (s : State) (n : Nat), s.ramping = true → s.clk.running = true → s.clk.frozen = false →
    (s.runCycles 1).clk = s.clk.run 1 s.step48 ∧ s.runCycles (n + 1) = (s.runCycles 1).runCycles n) ∧
  (∀ s : State, 0 ≤ ns48 + s.ctl.slew.rateWord + s.ctl.slew.term →
    (s.step48 : Int) = 2 ^ 48 + s.ctl.slew.rateWord + s.ctl.slew.term)

/-! Resets, start-up and the supplies. -/

/-- Power-on reset and HRST_N, at the release of whichever is released last, take transition 1 from COLD to BOOT with the
straps sampled, the boot count up by one and everything cleared that Table 2-6 clears; the release of either alone leaves
the engine in COLD, held by the other. Their assertions take transition 2 to COLD from any other mode, and hold the engine
there (R32, R44, R48, Table 2-3). Points on which the manual is silent or can be read two ways are the model's choice (log
entries 5, 48 and 95). -/
def Obligations.HardResetsComplete : Prop :=
  (∀ (f : Bool) (c : Fin 4) (v : Bool) (s : State), s.mode = Mode.COLD → s.ks.voltageArmed = false →
    s.ctl.supply.hrstLow = false →
    ∃ u : State, exec (.powerOnResetRelease f c v) s = .next u.settle ∧ u.mode = Mode.BOOT ∧
      u.rdN Obj.MODE_PREVIOUS = Mode.COLD ∧ u.rdN Obj.MODE_REASON = 1 ∧ u.ctl.boot.step = 3 ∧ u.ctl.boot.factoryEn = f ∧
      u.ctl.boot.cwrole = c ∧ u.ctl.supply.vbatAbsent = !v ∧ u.ks.voltageArmed = true ∧
      u.ks.bootCount = s.ks.bootCount + 1 ∧ u.clk = Clock.reset ∧ u.sl = [] ∧ u.book.flog = [] ∧ u.book.subs = [] ∧
      u.pending = s.pending ∧ u.jtag = s.jtag) ∧
  (∀ (f : Bool) (c : Fin 4) (v : Bool) (s : State), s.mode = Mode.COLD → s.ks.voltageArmed = false →
    s.ctl.supply.hrstLow = true →
    ∃ u : State, exec (.powerOnResetRelease f c v) s = .next u.settle ∧ u.mode = Mode.COLD ∧ u.ctl.boot = { Ctl.reset.boot with
      factoryEn := s.ctl.boot.factoryEn, cwrole := s.ctl.boot.cwrole, step := 0 } ∧ u.ctl.supply.vbatAbsent = !v ∧
      u.ks.voltageArmed = true ∧ u.ks.bootCount = s.ks.bootCount ∧ u.clk = Clock.reset ∧ u.pending = s.pending) ∧
  (∀ (f : Bool) (c : Fin 4) (s : State), s.mode = Mode.COLD → s.ks.voltageArmed = true →
    ∃ u : State, exec (.hrstNRelease f c) s = .next u.settle ∧ u.mode = Mode.BOOT ∧
      u.rdN Obj.MODE_PREVIOUS = Mode.COLD ∧ u.rdN Obj.MODE_REASON = 1 ∧ u.ctl.boot.step = 3 ∧ u.ctl.boot.factoryEn = f ∧
      u.ctl.boot.cwrole = c ∧ u.ctl.supply.vbatAbsent = s.ctl.supply.vbatAbsent ∧ u.ctl.supply.hrstLow = false ∧
      u.ks.bootCount = s.ks.bootCount + 1 ∧ u.clk = Clock.reset ∧ u.sl = [] ∧ u.book.flog = [] ∧ u.book.subs = [] ∧
      u.pending = s.pending ∧ u.jtag = s.jtag) ∧
  (∀ (f : Bool) (c : Fin 4) (s : State), s.ks.voltageArmed = false →
    exec (.hrstNRelease f c) s = .next (s.hrstTo false)) ∧
  (∀ s : State, s.mode ≠ Mode.COLD → s.ks.voltageArmed = true →
    ∃ u : State, exec .vddBelowThreshold s = .next u.settle ∧ u.mode = Mode.COLD ∧ u.rdN Obj.MODE_PREVIOUS = s.mode ∧
      u.rdN Obj.MODE_REASON = 2 ∧ u.ks.voltageArmed = false ∧ u.jtag = TestPort.reset ∧ u.clk = Clock.reset ∧
      u.book.flog = [] ∧ u.pending = s.pending) ∧
  (∀ s : State, s.mode = Mode.COLD →
    ∃ u : State, exec .vddBelowThreshold s = .next u.settle ∧ u.mode = Mode.COLD ∧ u.ks.voltageArmed = false ∧
      u.jtag = TestPort.reset ∧ u.clk = s.clk ∧ u.pending = s.pending) ∧
  (∀ s : State, s.mode ≠ Mode.COLD →
    ∃ u : State, exec .hrstNLow s = .next u.settle ∧ u.mode = Mode.COLD ∧ u.rdN Obj.MODE_PREVIOUS = s.mode ∧
      u.rdN Obj.MODE_REASON = 2 ∧ u.ks.voltageArmed = s.ks.voltageArmed ∧ u.ctl.supply.hrstLow = true ∧ u.jtag = s.jtag ∧
      u.clk = Clock.reset ∧ u.book.flog = [] ∧ u.pending = s.pending) ∧
  (∀ s : State, s.mode = Mode.COLD → exec .hrstNLow s = .next (s.hrstTo true).settle)

/-- A soft reset takes transition 3 to BOOT, and keeps the lock bits, which only a hard reset clears (R44, R46, R47, Table
2-6); any other value written to SOFT_RESET does nothing. A block reset resets its blocks after BOOT step 13, and has no
effect before; the bits of the timescale, APLL-A, Keystone, Sheepdog and Viaduct have none at all (R45). Of Herd nothing
estimated is left (R125). Points on which the manual is silent or can be read two ways are the model's choice (log entries
48 and 50). -/
def Obligations.SoftAndBlockResetsComplete : Prop :=
  ((∀ s : State, s.restoring 1 = false → s.open = true →
     ∃ u : State, exec (.softReset 0x5A17) s = .next u.settle ∧ u.mode = Mode.BOOT ∧ u.rdN Obj.MODE_PREVIOUS = s.mode ∧
       u.rdN Obj.MODE_REASON = 3 ∧ u.ctl.boot.step = 3 ∧ u.clk = Clock.reset ∧ u.sl = [] ∧ u.book.subs = [] ∧
       (∀ i : Nat, i < 7 → u.rd (Obj.LOCK i) = s.rd (Obj.LOCK i)) ∧ u.jtag = s.jtag ∧
       u.pending = s.pending) ∧
   (∀ (v : BitVec 32) (s : State), s.restoring 1 = false → v ≠ 0x5A17 → exec (.softReset v) s = .next s.settle)) ∧
  ((∀ (m : BitVec 32) (s : State), s.restoring 1 = false → s.open = true → exec (.blockReset m) s = .next (s.blockReset m.toNat).close.settle) ∧
   (∀ (m : BitVec 32) (s : State), s.restoring 1 = false → s.open = false → exec (.blockReset m) s = .next s.settle) ∧
   (∀ (m : Nat) (s : State), (∀ b, b < 20 → bitOn m b = true → resettable b = false) → s.blockReset m = s) ∧
   (resettable 10 = false ∧ resettable 14 = false ∧ resettable 16 = false ∧ resettable 18 = false) ∧
   (∀ s : State, (s.resetBlock 4).hd.filters = [] ∧ (s.resetBlock 4).hd.ensemble = none ∧ (s.resetBlock 4).hd.model = none))

/-- The steps of BOOT, each in its place (Table 2-4): the image that FW_BOOT_BANK names is taken (R321), the root unwrapped
or to be drawn (R302, R303), an LO taken, LO-A first (R40), the DRAM trained (R41), and BOOT left (R35, R38). Where BOOT
leads: ZEROISED after a tamper alarm by transition 4, FAULTSAFE after a fault with that reaction by 19, service with a
Custodian credential by 6, otherwise UNPROVISIONED by 5, and from there to FACTORY by 7 one cycle later where FACTORY_EN is
high and lock bit 1 is 0 (R35, R37, Table 2-3). Points on which the manual is silent or can be read two ways are the model's
choice (log entries 5, 7, 49, 92 and 104). -/
def Obligations.BootSequenceCompletes : Prop :=
  ((∀ (i0 i1 : FwImage) (s s1 : State), s.mode = Mode.BOOT → s.ctl.boot.step = 3 → s.ctl.boot.noImage = false →
     s1 = s.wrN Obj.FW_RUN (i0.svn % 2 ^ 32) → bitsAt (s.rdN Obj.FW_BOOT_BANK) 0 1 = 0 → s.accepts i0 = true →
     exec (.firmwareVerifyComplete i0 i1) s =
       .next (({ s1 with ctl := { s1.ctl with boot := { s1.ctl.boot with config := some i0.config } } } : State).bootTo 4).settle) ∧
   (∀ (i0 i1 : FwImage) (s s1 : State), s.mode = Mode.BOOT → s.ctl.boot.step = 3 → s.ctl.boot.noImage = false →
     s1 = s.wrN Obj.FW_RUN (2 ^ 32 + i1.svn % 2 ^ 32) → bitsAt (s.rdN Obj.FW_BOOT_BANK) 0 1 = 1 → s.accepts i1 = true →
     exec (.firmwareVerifyComplete i0 i1) s =
       .next (({ s1 with ctl := { s1.ctl with boot := { s1.ctl.boot with config := some i1.config } } } : State).bootTo 4).settle) ∧
   (∀ (i0 i1 : FwImage) (s : State), s.mode = Mode.BOOT → s.ctl.boot.step = 3 → s.ctl.boot.noImage = false →
     s.accepts i0 = false → s.accepts i1 = false →
     ∃ u : State, exec (.firmwareVerifyComplete i0 i1) s = .next u.settle ∧ u.ctl.boot.step = 3 ∧ u.ctl.boot.noImage = true ∧
       u.book.objs = s.book.objs ∧ u.book.due = s.book.due ++
         [{ source := Src.KS_FW_REJECT, ends := false, detail := 0, injected := false },
           { source := Src.KS_FW_REJECT, ends := false, detail := 0, injected := false }]) ∧
   (∀ (n : Fin 9) (ber : Fin 10001) (r : RootRecord) (key : BitVec 256) (s : State), s.mode = Mode.BOOT → s.ctl.boot.step = 4 →
     s.ctl.boot.zeroised = false → s.ks.root = some r → r.unwrapped = some key → n.val < 8 → ber.val ≤ 800 →
     exec (.pufRegeneration n ber) s = .next ((({ s with ks := { s.ks with puf := some r.helper, rootKey := some key } } : State).wrN
       Obj.PUF_BER ber).bootTo 6).settle) ∧
   (∀ (n : Fin 9) (ber : Fin 10001) (r : RootRecord) (key : BitVec 256) (s : State), s.mode = Mode.BOOT → s.ctl.boot.step = 4 →
     s.ctl.boot.zeroised = false → s.ks.root = some r → r.unwrapped = some key → n.val < 8 → 800 < ber.val → s.inhibited = false →
     ∃ u : State, exec (.pufRegeneration n ber) s = .next u.settle ∧ u.rdN Obj.PUF_BER = ber ∧ u.ctl.boot.step = 6 ∧
       u.ks.puf = some r.helper ∧ u.ks.rootKey = some key ∧
       u.ks.cells = s.ks.cells ++ [{ recordsLeft := 2, commit := .helper { r with
         helper := s.ks.enrolments, under := s.ks.enrolments, recordGen := r.recordGen + 1 } }] ∧
       u.book.due = s.book.due ++ [{ source := Src.KS_PUF_MARGIN, ends := false, detail := 0, injected := false }]) ∧
   (∀ (n : Fin 9) (ber : Fin 10001) (r : RootRecord) (s : State), s.mode = Mode.BOOT → s.ctl.boot.step = 4 →
     s.ctl.boot.zeroised = false → s.ks.root = some r → n.val = 8 ∨ r.unwrapped = none →
     exec (.pufRegeneration n ber) s = .next (((s.raise Src.KS_PUF_FAIL).zeroise 10).bootTo 6).settle) ∧
   (∀ (n : Fin 9) (ber : Fin 10001) (s : State), s.mode = Mode.BOOT → s.ctl.boot.step = 4 → s.ctl.boot.zeroised = false →
     s.ks.root = none →
     exec (.pufRegeneration n ber) s = .next (({ s with ks := { s.ks with
       enrolments := s.ks.enrolments + 1, puf := some s.ks.enrolments } } : State).bootTo 5).settle) ∧
   (∀ s : State, s.mode = Mode.BOOT → s.ctl.boot.step = 5 → s.ctl.boot.zeroised = false → s.inhibited = false →
     s.ks.trngFailed = false → s.ks.cells = [] →
     ∃ u : State, exec .rootGeneration s = .next u.settle ∧ u.ks.seeds = s.ks.seeds + 1 ∧ u.ks.draws = s.ks.draws + 1 ∧
       u.ks.cells = [{ recordsLeft := 2, commit := .root {
         number := s.ks.draws, helper := s.ks.puf.getD 0, under := s.ks.puf.getD 0,
         value := (Config.random s.ks.draws).extractLsb' 0 256, recordGen := 1 } }] ∧
       u.ks.root = s.ks.root ∧ u.book = s.book ∧ u.ctl = s.ctl ∧ u.clk = s.clk) ∧
   (∀ s : State, s.mode = Mode.BOOT → s.ctl.boot.step = 6 → s.hd.loA.warm = true → s.hd.loA.seen = true →
     ∃ u : State, exec .loEligible s = .next u.settle ∧ u.rdN Obj.LO_SEL = 0 ∧ u.hd.loA.serving = true ∧
       u.hd.loB.serving = (s.hd.loB.warm && s.hd.loB.seen) ∧ u.ctl.boot.step = 7 ∧ u.clk = s.clk ∧ u.ks = s.ks) ∧
   (∀ (c : BootConfig) (s u : State), s.ctl.boot.config = some c → u = s.dramTrains → u.ctl.boot.step = 11 ∧
     u.rdN Obj.DRAM_STATE = 1 ∧ u.rdN Obj.DRAM_SIZE = c.dramMib ∧ u.rdN Obj.DRAM_RATE = c.dramRate ∧
     u.rdN Obj.DRAM_FW_BASE = (c.dramMib - 256) * 2 ^ 20 ∧ u.book.pci.subsystem = c.subsystem ∧ u.ks = s.ks ∧ u.clk = s.clk) ∧
   (∀ (ok : Bool) (s : State), s.mode = Mode.BOOT → s.ctl.boot.step = 11 →
     ∃ u : State, exec (.dramTrainingComplete ok) s = .next u.settle ∧ u.rdN Obj.DRAM_STATE = (if ok then 2 else 3) ∧
       u.ctl.boot.step = 13 ∧ u.tpe.cache = [] ∧ (ok = false → { source := Src.DRAM_TRAIN_FAIL, ends := false, detail := 0, injected := false } ∈ u.book.due)) ∧
   (∀ s s1 : State, s.mode = Mode.BOOT → s.ctl.boot.step = 13 →
     s1 = (s.bootTo 14).forEach (l := [0, 1]) (p := fun s f => s.when (s.rdB (Obj.FP_EN f)) (·.wrN (Obj.FP_STATE f) 1)) →
     exec .bootComplete s = .next ((s1.bootExit.when s1.bootExit.monitorsRun State.slotsStart).close).toFactory)) ∧
  ((∀ s : State, s.ctl.boot.zeroised = true → s.bootExit = s.modeTo 4 Mode.ZEROISED) ∧
   (∀ s : State, s.ctl.boot.zeroised = false → s.ctl.boot.fault = true → s.bootExit = s.enterFaultsafe 19) ∧
   (∀ s : State, s.ctl.boot.zeroised = false → s.ctl.boot.fault = false → s.keyState 7 = Key.ACTIVE →
     s.bootExit = s.enterService 6) ∧
   (∀ s : State, s.ctl.boot.zeroised = false → s.ctl.boot.fault = false → s.keyState 7 = Key.EMPTY →
     s.bootExit = s.modeTo 5 Mode.UNPROVISIONED) ∧
   (∀ s : State, s.mode = Mode.UNPROVISIONED → s.ctl.boot.factoryEn = true → s.locked 1 = false →
     s.toFactory = (((s.runCycles 1).modeTo 7 Mode.FACTORY).zeroise 11).settle) ∧
   (∀ s : State, s.mode ≠ Mode.UNPROVISIONED ∨ s.ctl.boot.factoryEn = false ∨ s.locked 1 = true → s.toFactory = s) ∧
   (∀ (s : State) (num mode : Nat), mode < 10 → (s.modeTo num mode).mode = mode ∧
     (s.modeTo num mode).rdN Obj.MODE_PREVIOUS = s.mode ∧ (s.modeTo num mode).rdN Obj.MODE_REASON = num ∧
     (s.modeTo num mode).rdN Obj.MODE_SINCE = s.now80))

/-- A lock bit is set by the Custodian's 1 (R47), and the inhibit of a rail asserts with its bits in SAG_STATUS and its
source, and releases with the end of the condition (R48, R53, Tables 2-9 and 2-11). Points on which the manual is silent or
can be read two ways are the model's choice (log entry 48). -/
def Obligations.LocksAndSuppliesComplete : Prop :=
  (∀ (b : Fin 7) (s : State), s.restoring 1 = false → exec (.lockBitSet b) s = .next (s.wrN (Obj.LOCK b) 1).settle) ∧
  (∀ s : State, s.mode ≠ Mode.COLD → s.ctl.supply.vddauxLow = false →
    ∃ u : State, exec (.supplyInhibitAssert .vddaux) s = .next u.settle ∧ u.inhibited = true ∧
      bitOn (u.rdN Obj.SAG_STATUS) 0 = true ∧ bitOn (u.rdN Obj.SAG_STATUS) 2 = true ∧ u.active Src.SAG_VDDAUX = true ∧
      u.clk = s.clk ∧ u.ks = s.ks ∧ u.mode = s.mode) ∧
  (∀ s : State, s.mode ≠ Mode.COLD → s.ctl.supply.vbatLow = false → s.ctl.supply.vbatAbsent = false →
    ∃ u : State, exec (.supplyInhibitAssert .vbat) s = .next u.settle ∧ u.inhibited = true ∧
      bitOn (u.rdN Obj.SAG_STATUS) 1 = true ∧ bitOn (u.rdN Obj.SAG_STATUS) 3 = true ∧ u.active Src.SAG_VBAT = true ∧
      u.clk = s.clk ∧ u.ks = s.ks ∧ u.mode = s.mode) ∧
  (∀ s : State, s.mode ≠ Mode.COLD → s.ctl.supply.vddauxLow = true →
    ∃ u : State, exec (.supplyInhibitRelease .vddaux) s = .next u.settle ∧ u.ctl.supply.vddauxLow = false ∧
      u.ctl.supply.released48 = s.up48 ∧ bitOn (u.rdN Obj.SAG_STATUS) 0 = false ∧ u.active Src.SAG_VDDAUX = false ∧
      u.clk = s.clk ∧ u.ks = s.ks ∧ u.mode = s.mode)

/-! Keystone. -/

/-- IMPORT and DERIVE, where the guards of R312 pass: the key as staged is cleared, a new generation above KS_GEN_HIGH is
taken, and the record of the slot starts to be written; the slot itself does not change before its record is written (R50,
R308, R309, R312). KEY_GEN_REQ is 0 here, so the generation is the next one. RETIRE, REACTIVATE, INVALIDATE and DELETE,
where the slot's state admits them (R312, R314, Table 13-6): the record with the new state, or the empty one, starts to be
written. Where a guard of R312 fails, KEY_RESULT of the link names it and no record is written: slots 0 to 3 accept no
command (R306), and in ZEROISED Keystone accepts none (R326). KEY_VALUE is cleared all the same (R312). Points on which the
manual is silent or can be read two ways are the model's choice (log entries 34, 56 and 105). -/
def Obligations.KeySlotCommandsComplete : Prop :=
  ((∀ (l : Link) (k : Fin 1024) (s : State), s.restoring 14 = false → s.ksMode = Ks.OK → s.unsafeBlock 14 = false → 4 ≤ k.val → k.val ≠ 7 →
     s.keysAhead.keyState k = Key.EMPTY → s.locked 4 = false → s.rdN (Obj.KEY_USAGE (linkCode l) k) < 32 →
     s.rdN (Obj.KEY_KDF (linkCode l) k) ≤ 1 → s.rdN (Obj.KEY_GEN_REQ (linkCode l) k) = 0 →
     s.rdN Obj.KS_GEN_HIGH + 1 < 2 ^ 48 → s.inhibited = false → (s.lanesFor false).isEmpty = false →
     let x : KeySlot :=
       { state := .active, value := s.stagedKey l k, usage := s.rdN (Obj.KEY_USAGE (linkCode l) k),
         kdf := s.rdN (Obj.KEY_KDF (linkCode l) k), origin := 1, depth := 0, gen := s.rdN Obj.KS_GEN_HIGH + 1,
         parent := none, recordGen := (s.keysAhead.slotOf k).recordGen + 1 }
     ∃ u : State, exec (.keyImport l k) s = .next u.settle ∧
       u.ks.cells = s.ks.cells ++ [{ recordsLeft := 1, commit := .slot (some l) k 1 x }] ∧
       u.rdN Obj.KS_GEN_HIGH = s.rdN Obj.KS_GEN_HIGH + 1 ∧
       u.blob (List.replicate 32 0) (Obj.KEY_VALUE (linkCode l) k) = List.replicate 32 0 ∧
       u.ks.slots = s.ks.slots ∧ u.clk = s.clk ∧ u.ctl = s.ctl) ∧
   (∀ (l : Link) (k : Fin 1024) (s : State), s.restoring 14 = false → s.ksMode = Ks.OK → s.unsafeBlock 14 = false → 8 ≤ k.val →
     s.keysAhead.keyState k = Key.EMPTY → s.rdN (Obj.KEY_USAGE (linkCode l) k) < 32 →
     s.rdN (Obj.KEY_KDF (linkCode l) k) ≤ 1 → s.rdN (Obj.KEY_PARENT (linkCode l) k) ≤ 1023 →
     s.stagedLabel l k ≠ [] → s.rdN (Obj.KEY_GEN_REQ (linkCode l) k) = 0 → s.rdN Obj.KS_GEN_HIGH + 1 < 2 ^ 48 →
     s.keysAhead.parentStatus (s.rdN (Obj.KEY_PARENT (linkCode l) k)) = Ks.OK → s.inhibited = false →
     (s.lanesFor ((s.keysAhead.slotOf (s.rdN (Obj.KEY_PARENT (linkCode l) k))).kdf == 0)).isEmpty = false →
     let n := s.rdN (Obj.KEY_PARENT (linkCode l) k)
     let p := s.keysAhead.slotOf n
     let x : KeySlot :=
       { state := .active, value := deriveKey p (s.stagedLabel l k), usage := s.rdN (Obj.KEY_USAGE (linkCode l) k),
         kdf := s.rdN (Obj.KEY_KDF (linkCode l) k), origin := 2, depth := p.depth + 1,
         gen := s.rdN Obj.KS_GEN_HIGH + 1, parent := some (n, p.gen),
         recordGen := (s.keysAhead.slotOf k).recordGen + 1 }
     ∃ u : State, exec (.keyDerive l k) s = .next u.settle ∧
       u.ks.cells = s.ks.cells ++ [{ recordsLeft := 1, commit := .slot (some l) k 2 x }] ∧
       u.rdN Obj.KS_GEN_HIGH = s.rdN Obj.KS_GEN_HIGH + 1 ∧
       u.blob (List.replicate 32 0) (Obj.KEY_VALUE (linkCode l) k) = List.replicate 32 0 ∧
       u.ks.slots = s.ks.slots ∧ u.clk = s.clk ∧ u.ctl = s.ctl)) ∧
  (∀ (l : Link) (k : Fin 1024) (s : State), s.restoring 14 = false → s.ksMode = Ks.OK → s.unsafeBlock 14 = false → 4 ≤ k.val →
     k.val ≠ 7 →
     let a := s.keysAhead
     let old := a.slotOf k
     let s1 := s.wrBlob (List.replicate 32 0) (Obj.KEY_VALUE (linkCode l) k) (List.replicate 32 0)
     let written := fun (cmd : Nat) (x : KeySlot) =>
       ({ s1 with ks := { s1.ks with cells := s1.ks.cells ++ [{ recordsLeft := 1, commit := .slot (some l) k cmd x }] } } :
         State).settle
     (a.keyState k = Key.ACTIVE →
       exec (.keyRetire l k) s = .next (written 3 { old with recordGen := old.recordGen + 1, state := .retiring })) ∧
     (a.keyState k = Key.RETIRING →
       exec (.keyReactivate l k) s = .next (written 4 { old with recordGen := old.recordGen + 1, state := .active })) ∧
     (a.keyState k = Key.ACTIVE ∨ a.keyState k = Key.RETIRING →
       exec (.keyInvalidate l k) s = .next (written 5 { old with recordGen := old.recordGen + 1, state := .invalid })) ∧
     (a.keyState k = Key.INVALID ∨ a.keyState k = Key.ORPHANED →
       exec (.keyDelete l k) s = .next (written 6 { KeySlot.none with recordGen := old.recordGen + 1 }))) ∧
  ((∀ (l : Link) (k : Fin 1024) (s : State), s.restoring 14 = false → s.ksMode = Ks.OK → k.val < 4 →
     ∀ c ∈ [Instr.keyImport l k, .keyDerive l k, .keyRetire l k, .keyReactivate l k, .keyInvalidate l k, .keyDelete l k],
       exec c s = .next ((s.wrBlob (List.replicate 32 0) (Obj.KEY_VALUE (linkCode l) k) (List.replicate 32 0)).wrN
         (Obj.KEY_RESULT (linkCode l) k) Ks.STATE).settle) ∧
   (∀ (l : Link) (k : Fin 1024) (s : State), s.restoring 14 = false → s.mode = Mode.ZEROISED →
     ∀ c ∈ [Instr.keyImport l k, .keyDerive l k, .keyRetire l k, .keyReactivate l k, .keyInvalidate l k, .keyDelete l k],
       exec c s = .next ((s.wrBlob (List.replicate 32 0) (Obj.KEY_VALUE (linkCode l) k) (List.replicate 32 0)).wrN
         (Obj.KEY_RESULT (linkCode l) k) Ks.ZEROISED).settle))

/-- A record of the key cells is written: a further record of its operation follows, unless the inhibit stops it with the
content before in force; the last one commits the root, the helper data, the Custodian key or the slot over the older of two
copies, and the next operation begins (R50, R302, R304, R312, R320), judged by the slots as they then are. Under the inhibit
the placements, the root and the helper data among those that wait are not begun: they complete with BROWNOUT (R49). A
retired or reactivated slot holds its new record then, and every other slot what it held. The update path in a mode in which
Keystone is full, with nothing locked and no inhibit: BEGIN empties the bank that is not running, a block of at most 4 KiB
follows what is there, COMMIT makes FW_BOOT_BANK name that bank where the image is accepted and otherwise raises
KS_FW_REJECT, ABORT discards, and FW_SVN_COMMIT raises FW_MIN_SVN to the running SVN, never below what it was (R321, R322).
Points on which the manual is silent or can be read two ways are the model's choice (log entries 7, 56 and 104). -/
def Obligations.RecordsAndFirmwareComplete : Prop :=
  ((∀ (op : CellOp) (rest : List CellOp) (s : State), s.ks.cells = op :: rest → s.ks.zeroising = false → 1 < op.recordsLeft →
     s.inhibited = false → exec .keyCellWriteComplete s =
       .next ({ s with ks := { s.ks with cells := { op with recordsLeft := op.recordsLeft - 1 } :: rest } } : State).settle) ∧
   (∀ (op : CellOp) (rest : List CellOp) (s : State), s.ks.cells = op :: rest → s.ks.zeroising = false → 1 < op.recordsLeft →
     s.inhibited = true → exec .keyCellWriteComplete s =
       .next ((({ s with ks := { s.ks with cells := rest } } : State).brownedOut op rest).cellsGoOn).settle) ∧
   (∀ (r : RootRecord) (s : State), s.ks.cells = [{ recordsLeft := 1, commit := .root r }] →
     s.ks.zeroising = false →
     ∃ u : State, exec .keyCellWriteComplete s = .next u ∧ u.ks.root = some r ∧ u.ks.rootOlder = s.ks.root ∧
       u.ks.rootKey = r.unwrapped ∧ u.ks.cells = [] ∧ u.ks.slots = s.ks.slots ∧ u.book = s.book ∧ u.clk = s.clk ∧
       u.ctl.boot.step = (if s.ctl.boot.step = 5 then 6 else s.ctl.boot.step)) ∧
   (∀ (r : RootRecord) (s : State), s.ks.cells = [{ recordsLeft := 1, commit := .helper r }] → s.ks.zeroising = false →
     ∃ u : State, exec .keyCellWriteComplete s = .next u.settle ∧ u.ks.root = some r ∧ u.ks.rootOlder = s.ks.root ∧
       u.ks.puf = some r.helper ∧ u.ks.enrolStatus = some Ks.OK ∧ u.ks.cells = [] ∧ u.ks.slots = s.ks.slots ∧ u.book = s.book) ∧
   (∀ (key : BitVec 256) (g : Nat) (s : State), s.ks.cells = [{ recordsLeft := 1, commit := .provision key g }] →
     s.ks.zeroising = false →
     ∃ u : State, exec .keyCellWriteComplete s = .next u.settle ∧ (u.slotOf 7).state = .active ∧ (u.slotOf 7).value = key ∧
       (u.slotOf 7).usage = 4 ∧ (u.slotOf 7).gen = g ∧ (∀ k, k ≠ 7 → u.slotOf k = s.slotOf k) ∧
       u.ks.installs = s.ks.installs ++ [Ks.OK] ∧ u.ks.cells = [] ∧ u.book = s.book) ∧
   (∀ (l : Link) (k cmd : Nat) (x : KeySlot) (rest : List CellOp) (s : State),
     s.ks.cells = { recordsLeft := 1, commit := .slot (some l) k cmd x } :: rest → s.ks.zeroising = false →
     exec .keyCellWriteComplete s =
       .next ((({ s with ks := { s.ks with cells := rest } } : State).commitKey (some l) k cmd x).cellsGoOn).settle ∧
     (cmd = 3 ∨ cmd = 4 →
       let u := ({ s with ks := { s.ks with cells := rest } } : State).commitKey (some l) k cmd x
       u.slotOf k = x ∧ (∀ j, j ≠ k → u.slotOf j = s.slotOf j) ∧ u.ks.cells = rest ∧ u.clk = s.clk ∧ u.ctl = s.ctl)) ∧
   (∀ s : State, s.ks.cells = [] → s.cellsGoOn = s) ∧
   (∀ (l : Option Link) (n k cmd : Nat) (x : KeySlot) (rest : List CellOp) (s : State),
     s.ks.cells = { recordsLeft := n, commit := .slot l k cmd x } :: rest → s.inhibited = false → (s.replan k cmd x).1 = Ks.OK →
     s.cellsGoOn = { s with ks := { s.ks with
       cells := { recordsLeft := n, commit := .slot l k cmd (s.replan k cmd x).2 } :: rest } }) ∧
   (∀ (l : Link) (n k cmd : Nat) (x : KeySlot) (s : State),
     s.ks.cells = [{ recordsLeft := n, commit := .slot (some l) k cmd x }] → s.inhibited = false → (s.replan k cmd x).1 ≠ Ks.OK →
     s.cellsGoOn.ks.cells = [] ∧ s.cellsGoOn.rdN (Obj.KEY_RESULT (linkCode l) k) = (s.replan k cmd x).1 ∧
     s.cellsGoOn.ks.slots = s.ks.slots) ∧
   (∀ (l : Link) (k cmd : Nat) (x : KeySlot) (s : State), cmd = 1 ∨ cmd = 2 → s.inhibited = true → x.gen ≠ 0 →
     s.ks.cells = [{ recordsLeft := 1, commit := .slot (some l) k cmd x }] →
     s.cellsGoOn.ks.cells = [] ∧ s.cellsGoOn.rdN (Obj.KEY_RESULT (linkCode l) k) = Ks.BROWNOUT ∧
     s.cellsGoOn.rdN Obj.KS_GEN_HIGH = s.ks.genHigh ∧ s.cellsGoOn.ks.slots = s.ks.slots)) ∧
  (∀ s : State, s.restoring 14 = false → s.ksMode = Ks.OK → s.unsafeBlock 14 = false → s.locked 7 = false → s.inhibited = false →
     exec .fwUpdBegin s =
       .next (({ s with ks := { s.ks with fwUpdate := { active := true, image := [] } } } : State).wrN Obj.FW_UPD_RESULT Ks.OK).settle ∧
     exec .fwUpdAbort s =
       .next (({ s with ks := { s.ks with fwUpdate := { active := false, image := [] } } } : State).wrN Obj.FW_UPD_RESULT Ks.OK).settle ∧
     (∀ block : List Octet, block.length ≤ 4096 → s.ks.fwUpdate.active = true → exec (.fwUpdData block) s =
       .next (({ s with ks := { s.ks with fwUpdate := { active := true, image := s.ks.fwUpdate.image ++ block } } } : State).wrN
         Obj.FW_UPD_RESULT Ks.OK).settle) ∧
     (∀ s1 : State, s.ks.fwUpdate.active = true → s1 = { s with ks := { s.ks with fwUpdate := { active := false, image := [] } } } →
       exec .fwUpdCommit s = .next (if s.accepts (Config.image s.ks.fwUpdate.image) then
         (s1.wrN Obj.FW_BOOT_BANK (1 - bitsAt (s.rdN Obj.FW_RUN) 32 1)).wrN Obj.FW_UPD_RESULT Ks.OK
         else (s1.wrN Obj.FW_UPD_RESULT Ks.VERIFY_FAIL).raise Src.KS_FW_REJECT).settle) ∧
     exec .fwSvnCommit s =
       .next ((s.wrN Obj.FW_MIN_SVN (max (s.rdN Obj.FW_MIN_SVN) (bitsAt (s.rdN Obj.FW_RUN) 0 32))).wrN Obj.FW_UPD_RESULT Ks.OK).settle)

/-- The lanes' tests, the entropy source's, and the requests to the public-key unit (R317 to R320). The ZEROISE line,
asserted by the command's one value or by a tamper source with policy ZEROISE, and the erasure: in service the mode goes to
ZEROISED by transition 21 at once, and when the erasure completes no key, root or helper data is left and KS_GEN_HIGH reads
0 (R323 to R325). Points on which the manual is silent or can be read two ways are the model's choice (log entries 1, 23, 48
and 105). -/
def Obligations.ServicesAndZeroisationComplete : Prop :=
  ((∀ (failing : BitVec 8) (s : State), exec (.laneSelfTest failing) s =
     .next (s.forEach (l := (List.range 8).filter fun n => failing.getLsbD n && s.laneUp n) (p := State.laneFails)).admitJobs.settle) ∧
   (∀ (n : Nat) (s : State), n < 8 → (s.laneFails n).laneUp n = false ∧
     (∀ m, m < 8 → m ≠ n → (s.laneFails n).laneUp m = s.laneUp m) ∧ bitOn ((s.laneFails n).rdN Obj.KS_STATUS) 3 = true) ∧
   (∀ s : State, ∃ u : State, exec .trngHealthFail s = .next u.settle ∧ u.ks.trngFailed = true ∧
     bitOn (u.rdN Obj.KS_STATUS) 2 = true ∧ u.active Src.KS_TRNG_FAIL = true ∧ u.ks.slots = s.ks.slots ∧ u.ctl = s.ctl) ∧
   (∀ s : State, s.ks.trngFailed = true → s.ks.passes + 1 < 64 →
     exec (.trngRetest true) s = .next ({ s with ks := { s.ks with passes := s.ks.passes + 1 } } : State).settle) ∧
   (∀ s : State, s.ks.trngFailed = true → 64 ≤ s.ks.passes + 1 →
     ∃ u : State, exec (.trngRetest true) s = .next u.settle ∧ u.ks.trngFailed = false ∧
       u.active Src.KS_TRNG_FAIL = false ∧ u.trngState = 0 ∧ u.ctl = s.ctl) ∧
   (∀ s : State, s.ks.trngFailed = true →
     exec (.trngRetest false) s = .next ({ s with ks := { s.ks with passes := 0 } } : State).settle) ∧
   (∀ s : State, s.ks.trngFailed = false →
     exec .drbgReseed s = .next ({ s with ks := { s.ks with requests := 0, seeds := s.ks.seeds + 1 } } : State).settle) ∧
   (∀ (v : List Octet) (s : State), s.restoring 1 = false → s.identity.isSome = true → v ≠ [] →
     exec (.idCsrSubjectWrite v) s =
       .next ((s.wrBlob [] Obj.ID_CSR_SUBJECT (v.take 64)).pkuStart (.csr (v.take 64))).settle) ∧
   (∀ (v : List Octet) (s : State), s.restoring 1 = false → s.identity.isSome = true → v.length = 32 →
     s.blob (List.replicate 32 0) Obj.ID_CHALLENGE = List.replicate 32 0 →
     exec (.idChallengeWrite v) s = .next ((s.wrBlob (List.replicate 32 0) Obj.ID_CHALLENGE v).pkuStart (.attest
       (v ++ [oct s.mode] ++ s.blob (List.replicate 16 0) Obj.KS_BOOT_NONCE ++ beBytes 4 (s.rdN Obj.FW_RUN)))).settle) ∧
   (∀ s : State, s.restoring 1 = false → s.mode = Mode.UNPROVISIONED → s.unsafeBlock 14 = false →
     exec .provInstall s = .next (s.pkuStart .install).settle) ∧
   (∀ (status : Nat) (rest : List Nat) (s s1 : State), s.ks.installs = status :: rest →
     s1 = ({ s with ks := { s.ks with installs := rest } } : State).wrN Obj.PROV_RESULT status →
     (status ≠ Ks.OK → exec .provInstallComplete s = .next s1.releaseInstall.settle) ∧
     (status = Ks.OK → s.mode = Mode.UNPROVISIONED →
       exec .provInstallComplete s = .next (s1.releaseInstall.afterInstall s.installLink).settle)) ∧
   (∀ (status : Nat) (key : BitVec 256) (s : State), s.ksClosed = false → s.mode = Mode.UNPROVISIONED →
     s.unsafeBlock 14 = false → s.installKey = (status, key) →
     (status ≠ Ks.OK → s.installRecord.ks.installs = s.ks.installs ++ [status] ∧ s.installRecord.ks.cells = s.ks.cells ∧
       s.installRecord.ks.slots = s.ks.slots) ∧
     (status = Ks.OK → s.inhibited = false → s.rdN Obj.KS_GEN_HIGH + 1 < 2 ^ 48 →
       ∃ u : State, s.installRecord = u ∧ u.rdN Obj.KS_GEN_HIGH = s.rdN Obj.KS_GEN_HIGH + 1 ∧ u.ks.slots = s.ks.slots ∧
         u.ks.cells = s.ks.cells ++ [{ recordsLeft := 1, commit := .provision key (s.rdN Obj.KS_GEN_HIGH + 1) }])) ∧
   (∀ s : State, s.mode = Mode.UNPROVISIONED → s.afterInstall (some .pcie) = (s.close.runCycles 1).enterService 8 ∧
     ((s.fp 0).tx ≠ [] → (s.afterInstall (some .fp0)).mode = s.mode))) ∧
  ((∀ s : State, s.restoring 14 = false → serviceMode s.mode = true →
     ∃ u : State, exec (.ksZeroiseCmd 0x5A170000) s = .next u.settle ∧ u.mode = Mode.ZEROISED ∧
       u.rdN Obj.MODE_REASON = 21 ∧ u.rdN Obj.MODE_PREVIOUS = s.mode) ∧
   (∀ (v : BitVec 32) (s : State), s.restoring 14 = false → v ≠ 0x5A170000 → exec (.ksZeroiseCmd v) s = .next s.settle) ∧
   (∀ s u : State, s.ks.zeroising = true → u = s.erased →
     exec .zeroisationComplete s = .next (u.resume .signing).settle ∧ u.ks.slots = [] ∧ u.ks.older = [] ∧ u.ks.root = none ∧
       u.ks.rootOlder = none ∧ u.ks.puf = none ∧ u.ks.rootKey = none ∧ u.ks.pku = [] ∧ u.ks.cells = [] ∧
       u.ks.zeroising = false ∧ u.ks.zeroised = true ∧ u.rdN Obj.KS_GEN_HIGH = 0 ∧ u.blob [] Obj.ID_CSR = [] ∧
       (∀ k : Nat, u.keyState k = Key.EMPTY)) ∧
   (∀ (n : Fin 9) (s : State), s.mode ≠ Mode.COLD → (n = 5 → s.ks.voltageArmed = true) → s.rdN (Obj.TAMP_POLICY n) = 1 →
     exec (.tamperEvent n) s = .next ((s.stick Obj.KS_STATUS 4).raise (Src.TAMPER n)).settle) ∧
   (∀ (n : Fin 9) (s : State), s.mode ≠ Mode.COLD → (n = 5 → s.ks.voltageArmed = true) → s.rdN (Obj.TAMP_POLICY n) = 2 →
     exec (.tamperEvent n) s = .next (s.raise (Src.TAMPER n)).settle) ∧
   (∀ (n : Nat) (s : State), n < 9 → s.rdN (Obj.TAMP_POLICY n) = 2 → s.reaction (Src.TAMPER n) = 5))

/-! Sheepdog, the counters and the test access port. -/

/-- A parity mismatch in a block whose safe state is the whole block's puts it there, starts its restoration and raises its
source with the failing word, and in Herd's that its updates are missing; in an element with a safe state of its own, that
element alone; and the end of the restoration returns it, or raises OD_SHADOW_FAIL and leaves it where it is, out of reach
of a later restoration (R125, R131, R368, R423). A write to an object of a block that is being restored waits, whichever
command brings it (R368). The way out of FAULTSAFE: transition 20 once no causing source is ACTIVE and FS_QUIET has elapsed,
with one more exit counted and its entry in the log (R413, R414); while the entry is latched there is none, and FS_RELEASE
clears the latch and the window's exits (R414); at FS_ANN_HOLD's end Announce ceases with the policy ANNOUNCE (R412). Where
the clock runs, the wait of FAULTSAFE's exit ends: `liveTo` gives the state at the first cycle at which the duration has
elapsed (R143, R413). While no tuning step is being booked (R116) the rate stands meanwhile, and the duration has then
elapsed. Points on which the manual is silent or can be read two ways are the model's choice (log entries 7, 34, 47, 61, 97,
102 and 109). -/
def Obligations.ProtectionAndFaultsafeComplete : Prop :=
  ((∀ (b : Fin 20) (index : BitVec 16) (sub : BitVec 8) (s : State), s.mode ≠ Mode.COLD →
     let g := s.book.guard
     let safe := if wholeBlock b then setBit g.safe b else g.safe
     let s1 : State := { s with book := { s.book with guard := { g with restoring := setBit g.restoring b, safe := safe } } }
     exec (.parityMismatch b none index sub) s =
       .next ((s1.blockSafe b).parityRaise b (index.toNat * 2 ^ 16 + sub.toNat * 2 ^ 8)).close) ∧
   (∀ (b : Fin 20) (index : BitVec 16) (sub : BitVec 8) (s : State), s.mode ≠ Mode.COLD → wholeBlock b = true → b ≠ 4 →
     b ≠ 10 → b ≠ 11 → s.active (0x040 + b) = false →
     ∃ u : State, exec (.parityMismatch b none index sub) s = .next u.close ∧
       u.book.guard.restoring = setBit s.book.guard.restoring b ∧ u.unsafeBlock b = true ∧ u.active (0x040 + b) = true ∧
       u.book.due = s.book.due ++
         [{ source := 0x040 + b, ends := false, detail := index.toNat * 2 ^ 16 + sub.toNat * 2 ^ 8, injected := false }] ∧ u.clk = s.clk ∧ u.ctl = s.ctl ∧ u.book.blobs = s.book.blobs) ∧
   (∀ (index : BitVec 16) (sub : BitVec 8) (s : State), s.mode ≠ Mode.COLD → s.active (0x040 + 4) = false →
     ∃ u : State, exec (.parityMismatch 4 none index sub) s = .next u.close ∧ u.unsafeBlock 4 = true ∧
       u.active (0x040 + 4) = true ∧ u.active Src.HD_UPDATE_MISS = true ∧ u.clk = s.clk ∧ u.ctl = s.ctl) ∧
   (∀ (i : Nat) (index : BitVec 16) (sub : BitVec 8) (s : State), s.mode ≠ Mode.COLD → i < 128 →
     s.active (0x040 + 17) = false →
     ∃ u : State, exec (.parityMismatch 17 (some i) index sub) s = .next u.close ∧ u.unsafeElement 17 i = true ∧
       (∀ j, j ≠ i → u.unsafeElement 17 j = s.unsafeElement 17 j) ∧ u.active (0x040 + 17) = true ∧
       (∀ ev, u.counts ev i = false) ∧ u.clk = s.clk ∧ u.ctl = s.ctl) ∧
   (∀ (b : Fin 20) (s : State), bitOn s.book.guard.restoring b = true →
     ∃ u : State, (s.restored b false) = u.raise Src.OD_SHADOW_FAIL ∧ u.unsafeBlock b = s.unsafeBlock b ∧
       bitOn u.book.guard.restoring b = false ∧ bitOn u.book.guard.failed b = true ∧ u.book.objs = s.book.objs) ∧
   (∀ (b : Fin 20) (s : State), bitOn s.book.guard.failed b = true →
     (s.restored b true).unsafeBlock b = s.unsafeBlock b ∧ (s.restored b true).book.guard.elements = s.book.guard.elements ∧
     (s.restored b true).book.objs = s.book.objs) ∧
   (∀ (b : Nat) (s : State), bitOn (s.guardOff b).book.guard.failed b = false ∧ (s.guardOff b).unsafeBlock b = false) ∧
   (∀ (b : Nat) (role : Role) (l : Link) (r : Reg) (octets : List Octet) (ds : List Posted)
     (go : Host.Outcome State Fault Refusal) (s : State), s.restoring b = true → s.orHeld b role l r octets ds go =
       .next { s with book := { s.book with held := s.book.held ++ [{
         wait := .restoring b, op := 0, desc := 0,
         req := { registerRequest role (BitVec.ofNat 16 (r.key / 256)) (BitVec.ofNat 8 r.key) octets ds with link := l } }] } }) ∧
   (∀ (v : Bool) (c : Fin 48) (n : Fin 24) (f : Fin 2) (l : Link) (k : Fin 1024) (s : State),
     (s.restoring 2 = true → exec (.slotEnWrite n v) s = s.orHeld 2 .custodian .pcie (Obj.SLOT_EN n) [flag8 v] [] (.next s)) ∧
     (s.restoring 3 = true → exec (.chEnWrite c v) s = s.orHeld 3 .custodian .pcie (Obj.CH_EN c) [flag8 v] [] (.next s)) ∧
     (s.restoring 4 = true → exec (.hdEnableWrite v) s = s.orHeld 4 .custodian .pcie Obj.HD_ENABLE [flag8 v] [] (.next s)) ∧
     (s.restoring 9 = true → exec (.fpEnWrite f v) s = s.orHeld 9 .custodian .pcie (Obj.FP_EN f) [flag8 v] [] (.next s)) ∧
     (s.restoring 14 = true → exec (.keyImport l k) s = s.orHeld 14 .custodian l (Obj.KEY_CMD k) [1] [] (.next s))) ∧
   (∀ s : State, bitOn s.book.guard.restoring 17 = true → bitOn s.book.guard.failed 17 = false →
     (s.restored 17 true).unsafeBlock 17 = false ∧ (∀ i, (s.restored 17 true).unsafeElement 17 i = false) ∧
       (s.restored 17 true).active (0x040 + 17) = false)) ∧
  ((∀ s s1 : State, s.mode = Mode.FAULTSAFE → s.rdB Obj.FS_LATCHED = false → (∀ n ∈ s.causing, s.active n = false) →
     s.liveTo s.quietEnd = some s1 → exec .faultsafeExit s = .next s1.leaveFaultsafe.close) ∧
   (∀ s : State, s.rdB Obj.FS_LATCHED = true → exec .faultsafeExit s = .next s) ∧
   (∀ s s1 : State, s.mode = Mode.FAULTSAFE → s.liveTo (s.ctl.fs.entered48 + s.rdN Obj.FS_ANN_HOLD * sec48) = some s1 →
     exec .fsAnnHoldExpiry s = .next s1.settle) ∧
   (∀ s : State, s.mode = Mode.FAULTSAFE → s.rdN Obj.FS_PKT_POLICY = 1 →
     s.ctl.fs.entered48 + s.rdN Obj.FS_ANN_HOLD * sec48 ≤ s.live48 → s.pktService = 0) ∧
   (∀ s s1 s2 : State, s.restoring 16 = false → s.rdB Obj.FS_LATCHED = true → s1 = (s.wrN Obj.FS_LATCHED 0).cond Src.FS_LATCHED false →
     s2 = ({ s1 with ctl := { s1.ctl with fs := { s1.ctl.fs with exits48 := [] } } } : State).logFs 5 →
     exec .fsRelease s =
       .next (if s2.mayLeave = true ∧ s2.quietEnd ≤ s2.live48 then s2.leaveFaultsafe else s2).close) ∧
   (∀ s : State, s.restoring 16 = false → s.rdB Obj.FS_LATCHED = false → exec .fsRelease s = .next s.close)) ∧
  ((∀ (s : State) (due : Nat), s.clk.running = true → ∃ s1, s.liveTo due = some s1 ∧ s1.clk.frozen = s.clk.frozen ∧
     s1.ks = s.ks ∧ (s.ramping = false → s1.ctl = s.ctl ∧ (0 < s.step48 → due ≤ s1.live48))) ∧
   (∀ (s : State) (due : Nat), s.clk.running = true → s.clk.frozen = false → ∃ s1, s.runTo due = some s1 ∧ s1.ks = s.ks ∧
     (s.ramping = false → s1.ctl = s.ctl ∧ (0 < s.step48 → due ≤ s1.up48))) ∧
   (∀ (s : State) (due : Nat), s.clk.frozen = true → s.runTo due = none))

/-- SD_INJECT raises an assigned source once in FACTORY, and does nothing elsewhere (R415). The test access port: EXTEST
takes the balls, BYPASS, SAMPLE/PRELOAD and IDCODE do not, any other instruction acts as BYPASS outside FACTORY, and none
reaches anything else of the engine (R440). Points on which the manual is silent or can be read two ways are the model's
choice (log entry 61). -/
def Obligations.InjectionAndTestPort : Prop :=
  ((∀ (n : BitVec 16) (s : State), s.restoring 16 = false → s.mode = Mode.FACTORY → (sourceRow? n.toNat).isSome = true →
     exec (.sdInject n) s = .next (s.put { source := n.toNat, ends := false, detail := 0, injected := true }).settle) ∧
   (∀ (n : BitVec 16) (s : State), s.restoring 16 = false → s.mode ≠ Mode.FACTORY → exec (.sdInject n) s = .next s.settle)) ∧
  (∀ (i : Jtag) (s : State), s.mode ≠ Mode.FACTORY ∨ i ≠ .other →
     let j : TestPort := { instruction := if i = .other then .bypass else i, extest := decide (i = .extest) }
     exec (.jtagInstructionLoad i) s = .next ({ s with jtag := j } : State).settle)

/-- A write of CTR_VALUE presets the counter and overrides the increment of its cycle: where that increment would have
wrapped an enabled counter with CHAIN, the carry is dropped with CARRY_DROPPED and its source, and otherwise nothing else
changes (R420). Counting within a 32-bit word adds; a wrap of a counter without CHAIN sets OVF_SEEN, and one with CHAIN
carries into its enabled partner in the same cycle (R416 to R418). Points on which the manual is silent or can be read two
ways are the model's choice (log entries 93 and 118). -/
def Obligations.CountersComplete : Prop :=
  ((∀ (n : Fin 128) (v : BitVec 32) (lost : Fin 9221) (s : State), s.restoring 17 = false → s.rdN (Obj.CTR_VALUE n) + lost < 2 ^ 32 →
     exec (.ctrValueWrite n v lost) s = .next (s.wrN (Obj.CTR_VALUE n) v.toNat).settle) ∧
   (∀ (n : Fin 128) (v : BitVec 32) (lost : Fin 9221) (s : State), s.restoring 17 = false → s.chained n = false →
     exec (.ctrValueWrite n v lost) s = .next (s.wrN (Obj.CTR_VALUE n) v.toNat).settle) ∧
   (∀ (n : Fin 128) (v : BitVec 32) (lost : Fin 9221) (s : State), s.restoring 17 = false → s.chained n = true → s.rdB (Obj.CTR_EN n) = true →
     s.rdB Obj.CTR_FREEZE = false → 2 ^ 32 ≤ s.rdN (Obj.CTR_VALUE n) + lost →
     ∃ u : State, exec (.ctrValueWrite n v lost) s = .next u.settle ∧ u.rdN (Obj.CTR_VALUE n) = v.toNat ∧
       (∀ m, m ≠ n.val → m < 128 → u.rd (Obj.CTR_VALUE m) = s.rd (Obj.CTR_VALUE m)) ∧
       bitOn (u.rdN (Obj.CTR_FLAGS n)) 1 = true ∧ seqOf (u.rdN (Obj.CTR_FLAGS n)) = (seqOf (s.rdN (Obj.CTR_FLAGS n)) + 1) % 65536 ∧
       u.book.due = s.book.due ++ [{ source := Src.CTR_CARRY_DROPPED, ends := false, detail := 0, injected := false }]) ∧
   (∀ (v : Bool) (s : State), s.restoring 17 = false → exec (.ctrFreezeWrite v) s = .next (s.wr Obj.CTR_FREEZE (flag v)).settle)) ∧
  ((∀ (f n amt : Nat) (s : State), s.rdN (Obj.CTR_VALUE n) + amt < 2 ^ 32 →
     s.addTo (f + 1) n amt = s.wrN (Obj.CTR_VALUE n) (s.rdN (Obj.CTR_VALUE n) + amt)) ∧
   (∀ (f n amt : Nat) (s : State), 2 ^ 32 ≤ s.rdN (Obj.CTR_VALUE n) + amt → s.chained n = false →
     bitOn ((s.addTo (f + 1) n amt).rdN (Obj.CTR_FLAGS n)) 0 = true ∧
     (s.addTo (f + 1) n amt).rdN (Obj.CTR_VALUE n) = (s.rdN (Obj.CTR_VALUE n) + amt) % 2 ^ 32) ∧
   (∀ (f n amt : Nat) (s : State), n < 127 → 2 ^ 32 ≤ s.rdN (Obj.CTR_VALUE n) + amt → amt < 2 ^ 32 →
     s.rdN (Obj.CTR_VALUE n) < 2 ^ 32 → s.chained n = true → s.rdB (Obj.CTR_EN (n + 1)) = true →
     s.rdN (Obj.CTR_VALUE (n + 1)) + 1 < 2 ^ 32 →
     s.addTo (f + 2) n amt = (s.wrN (Obj.CTR_VALUE n) (s.rdN (Obj.CTR_VALUE n) + amt - 2 ^ 32)).wrN (Obj.CTR_VALUE (n + 1))
       (s.rdN (Obj.CTR_VALUE (n + 1)) + 1)))

/-! The host link, the rings, Viaduct and the memories. -/

/-- A ring is enabled from OFF with HEAD, DONE and the doorbell count at 0, where its base is aligned to 4 KiB; otherwise
the enable is out of range (R387, Table 15-7); where descriptors of its drain are still to complete it takes effect after
them (log entry 107). A ring of which nothing is taken goes OFF at once when it is disabled, with its trailer; in ERROR it
takes nothing (R387). A doorbell posts the descriptors between what is taken and the count, clamped at the ring's size
beyond DONE (R383), on a ring that runs; on one that does not it does nothing. A descriptor that the engine reads with OWN =
0 stops the ring there, with OWN_GAP_SEEN and its source (R383). Points on which the manual is silent or can be read two
ways are the model's choice (log entries 35 and 107). -/
def Obligations.RingsAndDoorbellsComplete : Prop :=
  ((∀ (k : Fin 64) (s : State), s.restoring 19 = false → ringExists k = true → s.rdB (Obj.RING_EN k) = false → s.rdN (Obj.RING_BASE k) % 4096 = 0 →
     (s.ring k).taken = [] →
     ∃ u : State, exec (.ringEnWrite k true) s = .next u.settle ∧ u.rdB (Obj.RING_EN k) = true ∧
       u.rdN (Obj.RING_STATE k) = 1 ∧ u.rdN (Obj.RING_HEAD k) = 0 ∧ u.rdN (Obj.RING_DONE k) = 0 ∧
       (u.ring k).posted = [] ∧ (u.ring k).taken = [] ∧ (∀ j, j ≠ k.val → u.ring j = s.ring j) ∧ u.clk = s.clk ∧
       u.ctl = s.ctl) ∧
   (∀ (k : Fin 64) (s : State), s.restoring 19 = false → ringExists k = true → s.rdB (Obj.RING_EN k) = false →
     s.rdN (Obj.RING_BASE k) % 4096 = 0 → (s.ring k).taken ≠ [] →
     exec (.ringEnWrite k true) s = .next ((s.wrN (Obj.RING_EN k) 1).setRing k { s.ring k with restart := true }).settle) ∧
   (∀ (k : Fin 64) (s : State), s.restoring 19 = false → ringExists k = true → s.rdB (Obj.RING_EN k) = false → s.rdN (Obj.RING_BASE k) % 4096 ≠ 0 →
     exec (.ringEnWrite k true) s = .next (s.rangeReject 19 (Obj.RING_EN k).key).settle) ∧
   (∀ (k : Fin 64) (s : State), s.restoring 19 = false → ringExists k = true → s.rdB (Obj.RING_EN k) = true → k ≠ 20 → (s.ring k).taken = [] →
     s.rdN (Obj.RING_STATE k) ≠ 0 → exec (.ringEnWrite k false) s =
       .next ((((s.wrN (Obj.RING_EN k) 0).setRing k { s.ring k with posted := [], restart := false }).trailer k).wrN
         (Obj.RING_STATE k) 0).settle) ∧
   (∀ (k : Fin 64) (s : State), s.takes k = true → exec (.ringDmaError k) s =
     .next (((s.wrN (Obj.RING_STATE k) 2).stick Obj.HL_STATUS 3).raise Src.HL_DMA_ERROR).settle)) ∧
  ((∀ (k : Fin 64) (count : BitVec 32) (ds : List Posted) (s : State), s.restoring 19 = false → ringExists k = true →
     s.rdN (Obj.RING_STATE k) = 1 → s.rdB (Obj.RING_EN k) = true →
     let done := s.rdN (Obj.RING_DONE k)
     let ahead := (count.toNat + 2 ^ 32 - done) % 2 ^ 32
     let taken := (s.rdN (Obj.RING_HEAD k) + 2 ^ 32 - done) % 2 ^ 32
     (ahead ≤ 2 ^ s.rdN (Obj.RING_LOG2 k) → ds.length = ahead - taken → exec (.ringDb k count ds) s =
       .next ((s.setRing k { s.ring k with posted := ds, doorbell := (done + ahead) % 2 ^ 32 }).ringsGoOn k).settle) ∧
     (2 ^ s.rdN (Obj.RING_LOG2 k) < ahead → ds.length = 2 ^ s.rdN (Obj.RING_LOG2 k) - taken →
       exec (.ringDb k count ds) s =
         .next (((s.setRing k { s.ring k with posted := ds, doorbell := (done + 2 ^ s.rdN (Obj.RING_LOG2 k)) % 2 ^ 32 }).stick
           Obj.HL_STATUS 5).ringsGoOn k).settle)) ∧
   (∀ (k : Fin 64) (count : BitVec 32) (ds : List Posted) (s : State), s.restoring 19 = false → s.rdN (Obj.RING_STATE k) ≠ 1 →
     exec (.ringDb k count ds) s = .next s.settle) ∧
   (∀ (k : Fin 64) (d : Posted) (rest : List Posted) (s : State), (s.ring k).posted = d :: rest → d.own = false →
     s.takes k = true → exec (.ringOwnGap k) s =
       .next (((s.setRing k { s.ring k with posted := [] }).stick Obj.HL_STATUS 4).raise Src.HL_OWN_GAP).settle))

/-- A descriptor of the command ring whose LENGTH is 0, too great, or whose buffer could not be read is written back at once
with the status of Table 16-6 (R384, R389); a message held back by HOLDOFF is sent when it has elapsed, or stays pending
while its vector is masked (R386). A descriptor and the trailer behind the ring are written where R382 puts them; while ring
DMA pauses, neither (R379, R397). The loss of the host link disables every ring, abandons what was taken, and sets
LINK_LOST_SEEN and its source's condition; its return ends the condition and leaves the rings disabled; Bus Master Enable
alone loses nothing (R379). Points on which the manual is silent or can be read two ways are the model's choice (log entries
7, 54 and 108). -/
def Obligations.HostLinkEventsComplete : Prop :=
  ((∀ (dma : Bool) (t : Taken) (s : State), (s.ahead 0).nextTaken 0 = some t →
     t.desc.length = 0 ∨ 4140 < t.desc.length ∨ dma = true →
     exec (.ringDescriptorWriteback 0 dma) s =
       .next (((s.ahead 0).takeStart 0 t).finishTaken 0 t.count
         (if t.desc.length = 0 then 2 else if 4140 < t.desc.length then 1 else 5) 0 ((s.ahead 0).takeStart 0 t).stampNs).settle) ∧
   (∀ (k : Fin 64) (dma : Bool) (s : State), h2eRing k = true → (s.ahead k).nextTaken k = none →
     exec (.ringDescriptorWriteback k dma) s = .next (s.ahead k).settle) ∧
   (∀ (k : Fin 64) (t : Nat) (s s1 : State), (s.ring k).irqWaiting = true → (s.ring k).lastIrq48 = some t →
     s.dmaPaused = false → s.runTo (t + us48 (bitsAt (s.rdN (Obj.RING_IRQ k)) 16 16)) = some s1 →
     exec (.irqHoldoffExpiry k) s = .next (s1.signal k).settle) ∧
   (∀ (k v : Nat) (s : State), v = bitsAt (s.rdN (Obj.RING_IRQ k)) 0 6 → (s.msixEntry v).masked = false →
     (s.signal k).book.out = s.book.out ++ [.msix v (s.msixEntry v).addr (s.msixEntry v).data]) ∧
   (∀ (k v : Nat) (s : State), v = bitsAt (s.rdN (Obj.RING_IRQ k)) 0 6 → (s.msixEntry v).masked = true →
     (s.signal k).book.out = s.book.out ∧ bitOn (s.signal k).book.msixPending v = true) ∧
   (∀ (k count ns aux len status : Nat) (d : Posted) (s : State),
     (s.writeBack k count d ns aux len status).book.out = s.book.out ++ [.descriptor k count
       ((s.rdN (Obj.RING_BASE k) + 32 * (count % 2 ^ s.rdN (Obj.RING_LOG2 k))) % 2 ^ 64) (descriptorBack d ns aux len status)]) ∧
   (∀ (k : Nat) (s : State), s.dmaPaused = false → (s.trailer k).book.out = s.book.out ++ [.trailer k
     ((s.rdN (Obj.RING_BASE k) + 32 * 2 ^ s.rdN (Obj.RING_LOG2 k)) % 2 ^ 64) (s.trailerOctets k)]) ∧
   (∀ (k : Nat) (s : State), s.dmaPaused = true → (s.trailer k).book.out = s.book.out ∧ ((s.trailer k).ring k).trailerDue = true) ∧
   (∀ (k count status aux ns : Nat) (s : State), s.dmaPaused = true → (s.finishTaken k count status aux ns).book.out = s.book.out)) ∧
  ((∀ (c : LinkLossCause) (s : State), bitOn (s.rdN Obj.HL_LINK) 8 = true →
     ∃ u : State, exec (.hostLinkLoss c) s =
         .next ((((u.ringsLost.stick Obj.HL_STATUS 2).cond Src.HL_LINK_LOST true).loopCloses).endSession .pcie).settle ∧
       bitOn (u.rdN Obj.HL_LINK) 8 = false ∧ u.ctl = s.ctl ∧ u.clk = s.clk ∧ u.tr = s.tr ∧ u.book.rings = s.book.rings) ∧
   (∀ (k : Nat) (s : State), k < 64 → (s.ringsLost).rdB (Obj.RING_EN k) = false ∧
     (s.ringsLost).rdN (Obj.RING_STATE k) = 0 ∧ ((s.ringsLost).ring k).taken = [] ∧ ((s.ringsLost).ring k).posted = []) ∧
   (∀ (g : Fin 4) (n : Fin 3) (s : State), bitOn (s.rdN Obj.HL_LINK) 9 = true → exec (.hostLinkUp g n) s =
     .next (((s.setD3hot false).wrN Obj.HL_LINK (g.val + 1 + 16 * 2 ^ n.val + 2 ^ 8 + 2 ^ 9)).cond Src.HL_LINK_LOST false).settle) ∧
   (∀ (g : Fin 4) (n : Fin 3) (s : State), bitOn (s.rdN Obj.HL_LINK) 9 = false → exec (.hostLinkUp g n) s =
     .next (((s.setD3hot false).wrN Obj.HL_LINK (g.val + 1 + 16 * 2 ^ n.val + 2 ^ 8)).cond Src.HL_LINK_LOST false).settle) ∧
   (∀ (on : Bool) (s : State), exec (.busMasterEnableChange on) s =
     .next (s.wrN Obj.HL_LINK (putBit (s.rdN Obj.HL_LINK) 9 on)).allRingsGoOn.settle))

/-- A call that would close a cycle of wait edges is held, with HOLD_CYCLE_SEEN; between the targets that Table 16-8 and
R395 name none ever does. VD_DATA_EN, the bypass above 110 °C and below 100 °C, errors of SRAM and DRAM, and a core's
watchdog: their flags, counts and sources (R395, R397 to R399, R402, Table 16-13). Points on which the manual is silent or
can be read two ways are the model's choice (log entries 37, 55, 70 and 102). -/
def Obligations.ViaductAndMemoryEventsComplete : Prop :=
  (∀ (t c : VdTarget) (s : State), reaches 5 s.waitEdges c t = true →
    bitOn ((s.called t c).rdN Obj.VD_STATUS) 5 = true) ∧
  (∀ (t c : VdTarget) (s : State), c ∈ t.calls → s.called t c = s) ∧
  (∀ (v : Bool) (s : State), s.restoring 18 = false → exec (.vdDataEnWrite v) s = .next (s.wr Obj.VD_DATA_EN (flag v)).admitJobs.allRingsGoOn.settle) ∧
  (∀ (k : Nat) (s : State), s.rdB Obj.VD_DATA_EN = false → s.takes k = false) ∧
  (∀ s : State, exec .tempBypassRevoke s =
    .next ((s.wrN Obj.VD_STATUS (setBit (s.rdN Obj.VD_STATUS) 8)).cond Src.VD_BYPASS_REVOKED true).settle) ∧
  (∀ s : State, exec .tempBypassRestore s =
    .next ((s.wrN Obj.VD_STATUS (clearBit (s.rdN Obj.VD_STATUS) 8)).cond Src.VD_BYPASS_REVOKED false).settle) ∧
  (∀ (r : SramRegion) (s : State), exec (.sramEccError r true) s =
    .next ((((s.stick Obj.VD_STATUS 3).count 0x1FD 1).bump Obj.SRAM_CE_CNT).raise Src.SRAM_CE).settle) ∧
  (∀ s : State, exec (.sramEccError .foldDirty false) s = .next (s.raise Src.SRAM_UE_FOLD).settle ∧
    exec (.sramEccError .calendar false) s = .next (s.raise Src.SRAM_UE_CAL).settle ∧
    exec (.sramEccError .core false) s = .next (s.raise Src.SRAM_UE_CORE).settle ∧
    exec (.sramEccError .shared false) s = .next (s.raise Src.SRAM_UE_SHARED).settle) ∧
  (∀ (r : Nat) (s : State), ∃ u : State, exec (.sramEccError (.foldClean r) false) s = .next u.settle ∧ u.book = s.book ∧
    r ∉ SMap.get [] u.tpe.cache (r % 16384)) ∧
  (∀ s : State, exec (.dramEccError true) s =
      .next (((s.stick Obj.VD_STATUS 4).count 0x1FC 1).raise Src.DRAM_CE).settle ∧
    exec (.dramEccError false) s =
      .next (({ s with tpe := { s.tpe with dramLost := true } } : State).raise Src.DRAM_UE).settle) ∧
  (∀ (c : Fin 4) (s : State), exec (.coreWdog c) s =
    .next ((s.wrN (Obj.CORE_STATE c) 2).raise (Src.CORE_WDOG c)).settle)

/-! Reference slots. -/

/-- A change of one slot's state: SLOT_STATE holds the new state and no other slot's changes; a slot that leaves QUALIFIED
loses its weights, and one that enters DISABLED reads class 15 (R86, R89, R94, Table 4-11). SLOT_EN: a slot with no REFIN to
check is enabled and enters LOS, where the block is enabled and the monitors run; a REFIN whose frequency and mode R80 does
not allow is refused with RANGE_REJECT; a 0 disables, and without its REFIN slot 23 is in LOS (R80, R82, Table 4-7).
SL_ENABLE disables every slot, or returns every enabled one. Points on which the manual is silent or can be read two ways
are the model's choice (log entry 78). -/
def Obligations.SlotStatesAndEnablesComplete : Prop :=
  ((∀ (n new : Nat) (r : Option SlotReason) (s : State), n < 24 → new < 6 →
     (s.slotStateTo n new r).slotState n = new ∧
     (∀ m, m < 24 → m ≠ n → (s.slotStateTo n new r).slotState m = s.slotState m) ∧
     (s.slotStateTo n new r).clk = s.clk ∧ (s.slotStateTo n new r).ctl = s.ctl ∧ (s.slotStateTo n new r).tr = s.tr) ∧
   (∀ (n new : Nat) (r : Option SlotReason) (s : State), n < 24 → new < 6 → new ≠ Sl.QUALIFIED →
     s.slotState n = Sl.QUALIFIED →
     (s.slotStateTo n new r).rdN (Obj.HD_W_TIME n) = 0 ∧ (s.slotStateTo n new r).rdN (Obj.HD_W_FREQ n) = 0) ∧
   (∀ (n : Nat) (r : Option SlotReason) (s : State), n < 24 → s.slotState n ≠ Sl.DISABLED →
     (s.slotStateTo n Sl.DISABLED r).slotClass n = 15 ∧ (s.slotStateTo n Sl.DISABLED r).slot n = Slot.reset) ∧
   (∀ (n new : Nat) (r : Option SlotReason) (s : State), n ≠ 23 → s.slotTo n new r = s.slotStateTo n new r)) ∧
  ((∀ (n : Fin 24) (s : State), s.restoring 2 = false → 8 ≤ n.val → s.rdB (Obj.SLOT_EN n) = false → s.rdB Obj.SL_ENABLE = true →
     s.monitorsRun = true → exec (.slotEnWrite n true) s = .next ((s.wr (Obj.SLOT_EN n) 1).slotTo n Sl.LOS (some .los)).close) ∧
   (∀ (n : Fin 24) (s : State), s.restoring 2 = false → n.val < 8 → s.rdB (Obj.SLOT_EN n) = false → s.refinGood n = true →
     s.rdB Obj.SL_ENABLE = false → exec (.slotEnWrite n true) s = .next ((s.wr (Obj.SLOT_EN n) 1).programChannel n).close) ∧
   (∀ (n : Fin 24) (s : State), s.restoring 2 = false → n.val < 8 → s.rdB (Obj.SLOT_EN n) = false → s.refinGood n = true →
     s.rdB Obj.SL_ENABLE = true →
     exec (.slotEnWrite n true) s = .next (((s.wr (Obj.SLOT_EN n) 1).programChannel n).slotEnabled n).close) ∧
   (∀ (n : Fin 24) (s : State), s.restoring 2 = false → n.val < 8 → s.rdB (Obj.SLOT_EN n) = false → s.refinGood n = false →
     exec (.slotEnWrite n true) s = .next (s.rangeReject 2 (Obj.SLOT_EN n).key).close) ∧
   (∀ (n : Fin 24) (s s1 : State), s.restoring 2 = false → s.slotState n ≠ Sl.DISABLED →
     s1 = (s.wr (Obj.SLOT_EN n) 0).slotTo n Sl.DISABLED (some .host) →
     (s.composite n = false → exec (.slotEnWrite n false) s = .next s1.close) ∧
     (s.composite n = true → exec (.slotEnWrite n false) s = .next ((s1.slotLos 23).edgesAnew 23).close)) ∧
   (∀ (n : Nat) (s : State), ((s.edgesAnew n).slot n).lastBase48 = none ∧ ((s.edgesAnew n).slot n).good = 0 ∧
     ((s.edgesAnew n).slot n).glitches48 = (s.slot n).glitches48 ∧ (∀ m, m ≠ n → (s.edgesAnew n).slot m = s.slot m)) ∧
   (∀ s : State, s.restoring 2 = false → exec (.slEnableWrite false) s = .next (s.wr Obj.SL_ENABLE 0).slotsDisabled.close) ∧
   (∀ s : State, s.restoring 2 = false → s.rdB Obj.SL_ENABLE = false → exec (.slEnableWrite true) s =
     .next ((s.wr Obj.SL_ENABLE 1).forEach (l := List.range 24) (p := State.slotReturn)).close))

/-- An edge on a channel: not in RUN or not of the edges it takes, nothing; skipped by the prescaler, one less to skip;
inside the dead time, dropped and counted, with the prescaler's count begun anew; otherwise stamped with its record and
pairs, and the slot or LO behind the channel takes the stamp (R61, R64 to R67). A channel with neither has no more of it.
Points on which the manual is silent or can be read two ways are the model's choice (log entries 7 and 76). -/
def Obligations.EdgesComplete : Prop :=
  (∀ (c : Fin 48) (tap vernier : Fin 32) (f : Bool) (high : Nat) (s : State),
    s.edgeFate c (32 * tap.val + vernier.val) f = .ignored →
    exec (.trestleEdge c tap vernier f high) s = .next s.close) ∧
  (∀ (c : Fin 48) (tap vernier : Fin 32) (f : Bool) (high : Nat) (s : State),
    s.edgeFate c (32 * tap.val + vernier.val) f = .skipped →
    exec (.trestleEdge c tap vernier f high) s =
      .next (s.setChannel c { s.channel c with skip := (s.channel c).skip - 1 }).close) ∧
  (∀ (c : Fin 48) (tap vernier : Fin 32) (f : Bool) (high : Nat) (s s1 : State),
    s.edgeFate c (32 * tap.val + vernier.val) f = .dropped →
    s1 = s.setChannel c { s.channel c with
      dropsSince := (s.channel c).dropsSince + 1, skip := s.prescale c - 1 } →
    exec (.trestleEdge c tap vernier f high) s =
      .next (((s1.bump (Obj.CH_DROP c)).count 0x040 1).forEach (l := List.range 32) (p := State.pairDrop c)).close) ∧
  (∀ (c : Fin 48) (tap vernier : Fin 32) (f : Bool) (high : Nat) (s : State),
    s.edgeFate c (32 * tap.val + vernier.val) f = .stamped →
    exec (.trestleEdge c tap vernier f high) s =
      .next ((s.stamped c (32 * tap.val + vernier.val) f (ppsCycle high)).stampConsumers c
        (s.stampOf c (32 * tap.val + vernier.val))
        (s.base48 + binCentre (s.channel c).hist (32 * tap.val + vernier.val) * 2 ^ 26) (ppsCycle high)).close) ∧
  (∀ (c : Nat) (t : Int) (e : Nat) (m : Bool) (s : State), 12 ≤ c → c ≠ 44 → s.stampConsumers c t e m = s) ∧
  (∀ (c fine : Nat) (s : State), s.stampOf c fine =
    ((s.now80 * 2 ^ 22 + s.clk.ts.frac / 2 ^ 26 + binCentre (s.channel c).hist fine : Nat) : Int) - s.rd (Obj.CH_OFFSET c) * 64)

/-- SLOT_CMD: SUSPEND of a QUALIFIED slot, RESUME of one that the host suspended, REQUALIFY of a DISQUALIFIED one (R90),
each with its timer; a command that is not valid for the slot's state sets CMD_REJECT and nothing else (R92). The monitors
and timers of a slot at the instants they fall due: the first two missing edges count and the third puts the slot in LOS
(R85), a clock source without an edge goes to LOS (R85), a slot that has been QUALIFYING for SLOT_QUAL_TIME with a class
below 15 is QUALIFIED (R91), and the holds end (R90). Points on which the manual is silent or can be read two ways are the
model's choice (log entries 7, 62 and 77). -/
def Obligations.SlotCommandsAndTimersComplete : Prop :=
  ((∀ (n : Fin 24) (s s1 : State), s.restoring 2 = false → s.slotState n = Sl.QUALIFIED → s.composite n = false → s.unsafeElement 2 n = false →
     s1 = s.slotTo n Sl.SUSPENDED (some .host) → exec (.slotSuspend n) s =
       .next (s1.setSlot n { s1.slot n with suspEnd48 := s.up48 + ms48 (s.rdN (Obj.SLOT_SUSP_HOLD n)) }).close) ∧
   (∀ (n : Fin 24) (s s1 : State), s.restoring 2 = false → s.slotState n = Sl.SUSPENDED → s.slotReason n = 8 → s.composite n = false →
     s.unsafeElement 2 n = false → s1 = s.slotTo n Sl.QUALIFYING none → exec (.slotResume n) s =
       .next ((s1.setSlot n { s1.slot n with qualEnd48 := s.up48 + s.rdN (Obj.SLOT_QUAL_TIME n) * sec48 }).filterRestart n).close) ∧
   (∀ (n : Fin 24) (s s1 : State), s.restoring 2 = false → s.slotState n = Sl.DISQUALIFIED → s.composite n = false →
     s.unsafeElement 2 n = false → s1 = s.slotTo n Sl.QUALIFYING none → exec (.slotRequalify n) s =
       .next ((s1.setSlot n { s1.slot n with qualEnd48 := s.up48 + s.rdN (Obj.SLOT_QUAL_TIME n) * sec48 }).filterRestart n).close) ∧
   (∀ (n : Fin 24) (s : State), s.restoring 2 = false → s.slotState n ≠ Sl.QUALIFIED →
     exec (.slotSuspend n) s = .next (s.stick Obj.SL_STATUS 2).close) ∧
   (∀ (n : Fin 24) (s : State), s.restoring 2 = false → s.slotState n ≠ Sl.SUSPENDED →
     exec (.slotResume n) s = .next (s.stick Obj.SL_STATUS 2).close) ∧
   (∀ (n : Fin 24) (s : State), s.restoring 2 = false → s.slotState n ≠ Sl.DISQUALIFIED →
     exec (.slotRequalify n) s = .next (s.stick Obj.SL_STATUS 2).close)) ∧
  ((∀ (n : Fin 24) (s s1 : State), s.pulseSlot n = true → s.slotState n ≠ Sl.DISABLED → s.slotState n ≠ Sl.LOS →
     (s.slot n).lastBase48 ≠ none → s.runTo (s.missAt n) = some s1 → (s1.slot n).misses < 2 →
     exec (.slotMissingEdge n) s =
       .next (s1.setSlot n { s1.slot n with misses := (s1.slot n).misses + 1 }).settle) ∧
   (∀ (n : Fin 24) (s s1 : State), s.pulseSlot n = true → s.slotState n ≠ Sl.DISABLED → s.slotState n ≠ Sl.LOS →
     (s.slot n).lastBase48 ≠ none → s.runTo (s.missAt n) = some s1 → 2 ≤ (s1.slot n).misses →
     exec (.slotMissingEdge n) s = .next (s1.slotLos n).close) ∧
   (∀ (n : Fin 24) (s : State), n = 22 ∨ (n.val < 8 ∧ s.slotMode n = 0) →
     exec (.pinActivityLoss n) s = .next (s.slotLos n).close) ∧
   (∀ (n : Fin 24) (s s1 : State), s.slotState n = Sl.QUALIFYING → s.slotClass n < 15 → s.composite n = false →
     s.runTo (s.slot n).qualEnd48 = some s1 →
     exec (.slotQualified n) s = .next (s1.slotTo n Sl.QUALIFIED (some .none)).close) ∧
   (∀ (n : Fin 24) (s s1 : State), s.slotState n = Sl.SUSPENDED → s.slotReason n = 2 → s.composite n = false →
     s.runTo (s.slot n).suspEnd48 = some s1 →
     exec (.slotSuspHoldExpiry n) s = .next (s1.slotTo n Sl.QUALIFIED none).close) ∧
   (∀ (n : Fin 24) (s s1 : State), s.slotState n = Sl.DISQUALIFIED → s.composite n = false →
     s.runTo (s.slot n).disqEnd48 = some s1 →
     exec (.slotDisqHoldExpiry n) s = .next (s1.slotQualifying n none).close) ∧
   (∀ (n : Nat) (s : State), s.slotState n = Sl.LOS → s.slotLos n = s))

/-- A time-of-day message on the selected UART: one of Table 4-2 in the window after a pulse names that pulse or the next;
any other is discarded and counted (R83, R84). The third pulse in a row without one puts slot 23 in LOS (R84). ESMC PDUs
give the QL of their slot, and an information PDU starts the timeout again; at its end the class is 15 (R86, R87). Points on
which the manual is silent or can be read two ways are the model's choice (log entries 7 and 79). -/
def Obligations.TimeOfDayAndEsmcComplete : Prop :=
  (∀ (p : Fin 2) (m : List Octet) (gap : Bool) (s : State), s.slotState 23 ≠ Sl.DISABLED →
    p.val = (if bitOn (s.rdN (Obj.SLOT_CFG 23)) 18 then 1 else 0) → todGood m = true → gap = true → s.todWindow = true →
    exec (.todMessage p m gap) s = .next (s.todAccept m).close) ∧
  (∀ (p : Fin 2) (m : List Octet) (gap : Bool) (s : State), s.slotState 23 ≠ Sl.DISABLED →
    p.val = (if bitOn (s.rdN (Obj.SLOT_CFG 23)) 18 then 1 else 0) →
    todGood m = false ∨ gap = false ∨ s.todWindow = false →
    exec (.todMessage p m gap) s = .next ((s.bump (Obj.SLOT_TOD_DISCARD 23)).count 0x1B4 1).settle) ∧
  (∀ (p : Fin 2) (m : List Octet) (gap : Bool) (s : State),
    p.val ≠ (if bitOn (s.rdN (Obj.SLOT_CFG 23)) 18 then 1 else 0) → exec (.todMessage p m gap) s = .next s) ∧
  (∀ s s1 : State, s.slotState 23 ≠ Sl.DISABLED → (s.slot 23).windowOpen = true → (s.slot 23).lastBase48 ≠ none →
    s.runTo ((s.slot 23).lastUp48 + ms48 900) = some s1 → (s.slot 23).missing < 2 →
    exec .todMessageMissing s =
      .next (s1.setSlot 23 { s.slot 23 with windowOpen := false, missing := (s.slot 23).missing + 1 }).settle) ∧
  (∀ s s1 : State, s.slotState 23 ≠ Sl.DISABLED → (s.slot 23).windowOpen = true → (s.slot 23).lastBase48 ≠ none →
    s.runTo ((s.slot 23).lastUp48 + ms48 900) = some s1 → 2 ≤ (s.slot 23).missing →
    exec .todMessageMissing s =
      .next ((s1.setSlot 23 { s.slot 23 with windowOpen := false, missing := (s.slot 23).missing + 1 }).slotLos 23).close) ∧
  (∀ (p : Fin 8) (ev : Bool) (ssm : Fin 16) (s : State), s.slotState (8 + p) ≠ Sl.DISABLED →
    ∃ u : State, exec (.esmcPdu p ev ssm) s = .next u ∧ ((u.slot (8 + p)).info.map (·.raw)) = some ssm.val ∧
      (u.slot (8 + p)).esmc48 = (if ev then (s.slot (8 + p)).esmc48 else s.up48) ∧
      ((u.slot (8 + p)).info.bind (·.cls)) = (if ev then ((s.slot (8 + p)).info.map (·.cls)).getD (some 15) else none) ∧
      (∀ m, m ≠ 8 + p.val → u.slot m = s.slot m) ∧ u.book = s.book ∧ u.clk = s.clk ∧ u.ctl = s.ctl) ∧
  (∀ (p : Fin 8) (q : QlInfo) (s s1 : State), (s.slot (8 + p)).info = some q →
    s.runTo ((s.slot (8 + p)).esmc48 + s.rdN Obj.ESMC_TIMEOUT * sec48) = some s1 →
    exec (.esmcTimeout p) s =
      .next (s1.setSlot (8 + p) { s1.slot (8 + p) with info := some { q with cls := some 15 } }).settle)

/-! Trestle. -/

/-- A DLL's lock takes a channel from DLL_ACQ to CAL, and out of the FAULT that a loss of lock put it in, unless it stands
in its parity safe state (R57, R77; from FAULT by that row of Table 3-2, log entry 72); a loss is raised whatever the
channel's state, and puts a channel that is not OFF or acquiring in FAULT, and its slot in LOS (R57, R85, Table 3-2). Points
on which the manual is silent or can be read two ways are the model's choice (log entries 7 and 72). -/
def Obligations.DllChangesComplete : Prop :=
  (∀ (c : Fin 48) (s : State), (s.channel c).state = .dllAcq → s.unsafeElement 3 c = false →
    exec (.dllLock c) s = .next ((s.cond (Src.TR_DLL_LOSS c) false).channelCal c).settle) ∧
  (∀ (c : Fin 48) (s : State), (s.channel c).state = .fault → s.active (Src.TR_DLL_LOSS c) = true →
    s.unsafeElement 3 c = false →
    exec (.dllLock c) s = .next ((s.cond (Src.TR_DLL_LOSS c) false).channelCal c).settle) ∧
  (∀ (c : Fin 48) (s : State), (s.channel c).state = .run ∨ s.unsafeElement 3 c = true →
    exec (.dllLock c) s = .next (s.cond (Src.TR_DLL_LOSS c) false).settle) ∧
  (∀ (c : Fin 48) (s : State), s.dllRuns = true → (s.channel c).state = .off ∨ (s.channel c).state = .dllAcq →
    exec (.dllLoss c) s = .next (s.cond (Src.TR_DLL_LOSS c) true).settle) ∧
  (∀ (c : Fin 48) (s : State), s.dllRuns = true →
    (s.channel c).state = .cal ∨ (s.channel c).state = .run ∨ (s.channel c).state = .fault →
    exec (.dllLoss c) s = .next ((((s.cond (Src.TR_DLL_LOSS c) true).channelFault c).bootStep10).leftRun s).close)

/-- Calibration: a histogram of 2^22 hits that R59 accepts is the channel's new table, with CH_TABGEN up by one, and the
channel runs; one that it rejects, and 120 ms without one, fail the calibration (R58, R59); at 1 s intervals it is tried
again, at most three times (R59). Channel 47's later histograms replace its table while it runs, with every drift compared
anew (R62). CH_EN and TR_ENABLE move a channel, or every channel, to OFF or out of it (R63, R64); a pair that has waited
PAIR_TIMEOUT and 40 ns writes its TIMEOUT record, which counts, and is disarmed (R71); an open buffer is written back at its
flush time (R74). Points on which the manual is silent or can be read two ways are the model's choice (log entries 7, 73, 74
and 75). -/
def Obligations.CalibrationsAndTrestleComplete : Prop :=
  ((∀ (c : Fin 48) (h : List Nat) (s s1 : State), c ≠ 47 → (s.channel c).state = .cal → h.length = 1024 → h.sum = 2 ^ 22 →
     histogramGood h = true → s1 = s.channelTo c .run →
     let x := { s1.channel c with hist := h, monitor := (s.channel 47).hist, skip := 0, retries := 0 }
     exec (.codeDensityComplete c h) s =
       .next (((((s1.setChannel c x).wrN (Obj.CH_TABGEN c) ((s.rdN (Obj.CH_TABGEN c) + 1) % 256)).wrN (Obj.CH_CAL_AT c)
         s.now80).refreshDrift c).bootStep10).settle) ∧
   (∀ (h : List Nat) (s s1 : State), (s.channel 47).state = .cal → h.length = 1024 → h.sum = 2 ^ 22 →
     histogramGood h = true → s1 = s.channelTo 47 .run →
     let x := { s1.channel 47 with hist := h, monitor := h, skip := 0, retries := 0 }
     exec (.codeDensityComplete 47 h) s =
       .next ((((((s1.setChannel 47 x).wrN (Obj.CH_TABGEN 47) ((s.rdN (Obj.CH_TABGEN 47) + 1) % 256)).wrN (Obj.CH_CAL_AT 47)
         s.now80).firstMonitor h).refreshDrifts).bootStep10).settle) ∧
   (∀ (c : Nat) (st : ChState) (s : State), ((s.channelTo c st).channel c).state = st ∧
     (∀ d, d ≠ c → (s.channelTo c st).channel d = s.channel d) ∧ (c ≠ 47 → (s.channelTo c st).book = s.book)) ∧
   (∀ (c : Fin 48) (h : List Nat) (s : State), (s.channel c).state = .cal → h.length = 1024 → h.sum = 2 ^ 22 →
     histogramGood h = false → exec (.codeDensityComplete c h) s = .next ((s.calFail c).bootStep10).settle) ∧
   (∀ (c : Fin 48) (s s1 : State), (s.channel c).state = .cal → s.runTo ((s.channel c).calStart48 + ms48 120) = some s1 →
     exec (.codeDensityTimeout c) s = .next ((s1.calFail c).bootStep10).settle) ∧
   (∀ (c : Fin 48) (s s1 : State), (s.channel c).state = .fault → (s.channel c).retries < 3 →
     s.active (Src.TR_DLL_LOSS c) = false → (s.channel c).failed48 ≠ 0 → s.unsafeElement 3 c = false →
     s.runTo ((s.channel c).failed48 + sec48) = some s1 →
     exec (.calFailRetry c) s =
       .next ((s1.setChannel c { s.channel c with retries := (s.channel c).retries + 1 }).channelCal c).settle) ∧
   (∀ (h : List Nat) (s : State), (s.channel 47).state = .run → h.length = 1024 → h.sum = 2 ^ 22 → histogramGood h = true →
     exec (.tableMonitorUpdate h) s =
       .next (((s.setChannel 47 { s.channel 47 with hist := h }).wrN (Obj.CH_TABGEN 47)
         ((s.rdN (Obj.CH_TABGEN 47) + 1) % 256)).refreshDrifts).settle) ∧
   (∀ (h : List Nat) (s : State), (s.channel 47).state = .run → h.length = 1024 → h.sum = 2 ^ 22 → histogramGood h = false →
     exec (.tableMonitorUpdate h) s = .next ((s.calFail 47).leftRun s).close) ∧
   (∀ (c : Fin 48) (s : State), s.restoring 3 = false → serviceMode s.mode = true → (s.channel c).state = .run → s.unsafeElement 3 c = false →
     exec (.chRecal c) s =
       .next (((s.setChannel c { s.channel c with retries := 0 }).channelCal c).leftRun s).close) ∧
   (∀ (c : Fin 48) (s : State), s.restoring 3 = false → s.mode = Mode.UNPROVISIONED → exec (.chRecal c) s = .next (s.leftRun s).close)) ∧
  ((∀ (c : Fin 48) (s : State), s.restoring 3 = false → exec (.chEnWrite c true) s = .next (((s.wr (Obj.CH_EN c) 1).channelStart c).leftRun s).close) ∧
   (∀ (c : Fin 48) (s : State), s.restoring 3 = false → exec (.chEnWrite c false) s = .next (((s.wr (Obj.CH_EN c) 0).channelOff c).leftRun s).close) ∧
   (∀ s : State, s.restoring 3 = false → exec (.trEnableWrite true) s =
     .next (((s.wr Obj.TR_ENABLE 1).forEach (l := List.range 48) (p := State.channelStart)).leftRun s).close) ∧
   (∀ s : State, s.restoring 3 = false → exec (.trEnableWrite false) s =
     .next (((s.wr Obj.TR_ENABLE 0).forEach (l := List.range 48) (p := State.channelOff)).leftRun s).close) ∧
   (∀ (p : Fin 32) (a : StampRec) (s s1 : State), (s.pair p).armed = some a →
     s.runTo (a.up48 + ((s.rdN (Obj.PAIR_TIMEOUT p) + 40) * ns48 : Nat)).toNat = some s1 →
     exec (.pairTimeout p) s =
       .next ((s1.pairRecord p a.t22 (2 ^ 12 + stepFlag a.steps s1.tr.steps) (s1.pairStart p) a.fine 0 s1.up48).count 0x042 1).settle) ∧
   (∀ (p : Nat) (t22 i : Int) (flags c fine ready : Nat) (s : State), bitOn (s.rdN (Obj.PAIR_CFG p)) 17 = false →
     ((s.pairRecord p t22 flags c fine i ready).pair p).armed = none ∧
     ((s.pairRecord p t22 flags c fine i ready).pair p).seq = ((s.pair p).seq + 1) % 2 ^ 16 ∧
     (s.pairRecord p t22 flags c fine i ready).rd (Obj.PAIR_LAST p) = i) ∧
   (∀ s s1 : State, s.tr.buffer ≠ [] →
     s.dmaPaused = false →
     s.runTo (s.tr.bufferSince48 + us48 (s.rdN Obj.TR_RING_FLUSH)) = some s1 →
     exec .trRingFlush s = .next s1.closeBuffer.settle))

/-! Herd, the LOs and the APLLs. -/

/-- A Herd update falls at a multiple of 15,625,000 ns, this cycle's where it is not past or done (R98): where Herd runs, it
updates and counts, with holdover_ready and the run of updates within TEB_THR_LOCKED (R33, R34); where it does not, every
word is held (R125). Two missing updates raise HD_UPDATE_MISS, and so does HD_ENABLE at 0 (R125). What an update hands over
takes effect 1 ms after it (R98): the sets, the weights, the rate word, the bounds; while block 4 is being restored every
word is held (R131). Points on which the manual is silent or can be read two ways are the model's choice (log entries 7, 14,
62, 83, 84, 86, 98, 99, 110, 112 and 113). -/
def Obligations.HerdUpdatesAndEffectsComplete : Prop :=
  ((∀ (c : Nat) (s : State), c = s.now80 / 15625000 * 15625000 →
     (s.clk.before48 < c * ns48 → s.clk.update80 ≠ some c → s.nextUpdate = c) ∧
     (c * ns48 ≤ s.clk.before48 ∨ s.clk.update80 = some c → s.nextUpdate = c + 15625000)) ∧
   (∀ (m : List (Fin 8 × Int)) (s s0 s1 : State), s.reach s.nextUpdate = some s0 → s1 = s0.updateDone s.nextUpdate →
     s1.herdRuns = false → exec (.herdUpdate m) s = .next s1.missedUpdate.close) ∧
   (∀ (m : List (Fin 8 × Int)) (s s0 s1 s2 : State), s.reach s.nextUpdate = some s0 → s1 = s0.updateDone s.nextUpdate →
     s1.herdRuns = true →
     s2 = ((((s1.bump Obj.HD_UPDATE).count 0x003 1).cond Src.HD_UPDATE_MISS false).closingUpdate).bookRamp →
     exec (.herdUpdate m) s =
       .next (((s2.loFilters s1.base48).updateSlots m s1.base48).updateServo s1.base48).countWithin.close) ∧
   (∀ s : State, s.missedUpdate.hd.effect.map (fun e => (e.due48, e.timeSet, e.rate)) = some (s.up48 + ms48 1, [], none) ∧
     s.missedUpdate.ctl = s.ctl ∧ s.missedUpdate.book = s.book) ∧
   (∀ s : State, s.rdN Obj.TEB_THR_LOCKED < s.bound →
     s.countWithin.ctl.eval.withinRun = none ∧ s.countWithin.ctl.eval.overCount = s.ctl.eval.overCount + 1) ∧
   (∀ s : State, s.bound ≤ s.rdN Obj.TEB_THR_LOCKED → s.mode = Mode.ACQUIRE ∨ s.mode = Mode.LOCKED ∨ s.mode = Mode.STANDBY →
     s.countWithin.ctl.eval.withinRun = some (match s.ctl.eval.withinRun with | some n => n + 1 | none => 0) ∧
     s.countWithin.ctl.eval.overCount = 0) ∧
   (∀ s s0 s1 : State, s.reach (s.nextUpdate + 15625000) = some s0 → s1 = s0.updateDone (s.nextUpdate + 15625000) →
     exec .herdUpdateMiss s = .next (s1.missedUpdate.cond Src.HD_UPDATE_MISS true).close) ∧
   (∀ s : State, s.restoring 4 = false → exec (.hdEnableWrite true) s = .next (s.wr Obj.HD_ENABLE 1).close) ∧
   (∀ s : State, s.restoring 4 = false → exec (.hdEnableWrite false) s = .next ((s.wr Obj.HD_ENABLE 0).cond Src.HD_UPDATE_MISS true).close)) ∧
  ((∀ (e : HerdEffect) (s s1 : State), s.hd.effect = some e → s.runTo e.due48 = some s1 →
     exec .herdEffect s = .next (s1.takeEffect e).settle) ∧
   (∀ (e : HerdEffect) (s : State), (s.effectRate e).rd Obj.SV_RATE = (s.effectRate e).ctl.slew.rateWord ∧
     (s.unsafeBlock 4 = false → (s.effectRate e).rd Obj.FP_WORD = e.fpWord)) ∧
   (∀ (e : HerdEffect) (s : State), s.unsafeBlock 4 = true → s.effectRate e = s.effectRate { e with rate := none, fpWord := 0 }) ∧
   (∀ (e : HerdEffect) (n : Nat) (s : State), n < 24 → s.slotState n ≠ Sl.QUALIFIED →
     (s.effectWeights e).rdN (Obj.HD_W_TIME n) = 0 ∧ (s.effectWeights e).rdN (Obj.HD_W_FREQ n) = 0) ∧
   (∀ (e : HerdEffect) (s : State), e.step48 = none → s.effectStep e = s) ∧
   (∀ (e : HerdEffect) (s : State), s.mode ≠ Mode.ACQUIRE → s.effectStep e = s))

/-- The slew engine at an effect instant: the whole step of TS_SLEW_MAX while the pending offset is at least one interval's
worth, then the last interval, then nothing (R136). Points on which the manual is silent or can be read two ways are the
model's choice (log entry 53). -/
def Obligations.SlewRunsOut : Prop :=
  (∀ s : State, s.ctl.slew.lastInterval = true → s.slewTick.ctl.slew.term = 0 ∧ s.slewTick.ctl.slew.pend48 = 0 ∧
    s.slewTick.ctl.slew.lastInterval = false) ∧
  (∀ s : State, s.ctl.slew.lastInterval = false → s.ctl.slew.pend48 = 0 → s.ctl.slew.term = 0 →
    s.slewTick.ctl.slew.term = 0 ∧ s.slewTick.ctl.slew.pend48 = 0) ∧
  (∀ (s : State) (left : Int), s.ctl.slew.lastInterval = false → left ≠ 0 →
    left = s.ctl.slew.pend48 - s.ctl.slew.term * ((s.clk.cycles - s.ctl.slew.sinceCycle : Nat) : Int) →
    ((left.natAbs : Nat) : Rat) < (s.rdN Obj.TS_SLEW_MAX : Rat) / 100 * (15625 / 1000000) * (ns48 : Nat) →
    s.slewTick.ctl.slew.term = truncDiv left 15625000 ∧ s.slewTick.ctl.slew.pend48 = left ∧
      s.slewTick.ctl.slew.lastInterval = true) ∧
  (∀ (s : State) (left : Int), s.ctl.slew.lastInterval = false → 0 < left →
    left = s.ctl.slew.pend48 - s.ctl.slew.term * ((s.clk.cycles - s.ctl.slew.sinceCycle : Nat) : Int) →
    (s.rdN Obj.TS_SLEW_MAX : Rat) / 100 * (15625 / 1000000) * (ns48 : Nat) ≤ ((left.natAbs : Nat) : Rat) →
    s.slewTick.ctl.slew.term = s.slewMax.floor ∧ s.slewTick.ctl.slew.pend48 = left)

/-- An LO's flag, its loss and return, and the measurement of an input that is not in service (R111, R112, R178): an LO that
leaves service raises its source; one that returns is in service from that instant; a measurement within 15 % of 10 or 100
MHz lets it be seen. LO-A's tuning port: the first enable in a mode that drives the port sends LOA_TUNE_INIT, an interval's
end computes a step where LO-A may be tuned and starts the interval again, and a frame's end is followed by the latest word
that waits (R116, R438). Points on which the manual is silent or can be read two ways are the model's choice (log entries 7,
18, 82, 96, 98 and 111). -/
def Obligations.LoChangesAndTuningComplete : Prop :=
  ((∀ (lo : Lo) (s : State), (s.lo (loNum lo)).warm = false → exec (.loWarmChange lo true) s =
     .next (s.setLo (loNum lo) { s.lo (loNum lo) with warm := true, ready48 := s.live48 }).settle) ∧
   (∀ (lo : Lo) (s : State), (s.lo (loNum lo)).warm = true → exec (.loWarmChange lo false) s =
     .next ((s.setLo (loNum lo) { s.lo (loNum lo) with warm := false, ready48 := s.live48 }).loOut (loNum lo)).settle) ∧
   (∀ (lo : Lo) (s : State), (s.lo (loNum lo)).serving = false → exec (.loLoss lo) s =
     .next (s.setLo (loNum lo) { s.lo (loNum lo) with measured := false, seen := false, serving := false }).settle) ∧
   (∀ (lo : Lo) (s s1 : State), (s.lo (loNum lo)).serving = true →
     s1 = (s.setLo (loNum lo) { s.lo (loNum lo) with measured := false, seen := false, serving := false }).cond (loOutSource (loNum lo)) true →
     (s.base ≠ loNum lo → exec (.loLoss lo) s = .next s1.settle) ∧
     (s.base = loNum lo → s.loServing (1 - loNum lo) = true →
       exec (.loLoss lo) s = .next (s1.rebase (1 - loNum lo)).settle) ∧
     (s.base = loNum lo → s.loServing (1 - loNum lo) = false → exec (.loLoss lo) s = .next s1.bothOut.settle)) ∧
   (∀ (lo : Lo) (s s1 : State), (s.lo (loNum lo)).serving = false → (s.lo (loNum lo)).warm = true →
     (s.lo (loNum lo)).seen = true → 7 ≤ s.ctl.boot.step → s.liveTo ((s.lo (loNum lo)).ready48 + sec48) = some s1 →
     exec (.loReturn lo) s = .next (s1.loIn (loNum lo)).settle) ∧
   (∀ (lo : Lo) (s : State), (s.loIn (loNum lo)).loServing (loNum lo) = true) ∧
   (∀ (lo : Lo) (hz : Nat) (s s1 : State), (s.lo (loNum lo)).serving = false → 8500000 ≤ hz → hz ≤ 11500000 →
     (s.lo (loNum lo)).measured = false → s.mode ≠ Mode.COLD →
     s1 = s.setLo (loNum lo) { s.lo (loNum lo) with measured := true, seen := true, ready48 := s.live48 } →
     exec (.loFreqMeasurement lo hz) s =
       .next (s1.wrN Obj.LO_FREQ (putBit (s1.rdN Obj.LO_FREQ) (loNum lo) false)).settle) ∧
   (∀ (lo : Lo) (hz : Nat) (s s1 : State), (s.lo (loNum lo)).serving = false → 85000000 ≤ hz → hz ≤ 115000000 →
     (s.lo (loNum lo)).measured = false → s.mode ≠ Mode.COLD →
     s1 = s.setLo (loNum lo) { s.lo (loNum lo) with measured := true, seen := true, ready48 := s.live48 } →
     exec (.loFreqMeasurement lo hz) s =
       .next (s1.wrN Obj.LO_FREQ (putBit (s1.rdN Obj.LO_FREQ) (loNum lo) true)).settle) ∧
   (∀ (lo : Lo) (hz : Nat) (s : State), (s.lo (loNum lo)).serving = false → hz < 8500000 →
     (s.lo (loNum lo)).measured = false → s.mode ≠ Mode.COLD →
     exec (.loFreqMeasurement lo hz) s =
       .next (s.setLo (loNum lo) { s.lo (loNum lo) with measured := true, seen := false, ready48 := s.live48 }).settle) ∧
   (∀ (lo : Lo) (hz : Nat) (s : State), (s.lo (loNum lo)).measured = true → exec (.loFreqMeasurement lo hz) s = .next s)) ∧
  ((∀ s : State, s.restoring 4 = false → s.rdB Obj.LOA_TUNE_EN = false → s.hd.tune.driven = false → s.hd.tune.sending = false →
     s.tunePort = true → ∃ u : State, exec (.loaTuneEnWrite true) s = .next u.settle ∧ u.rdB Obj.LOA_TUNE_EN = true ∧
       u.rd Obj.LOA_TUNE_WORD = s.rd Obj.LOA_TUNE_INIT ∧ u.book.out = s.book.out ++ [.tuning (tuneFrame (s.rd Obj.LOA_TUNE_INIT))] ∧
       u.hd.tune.driven = true ∧ u.hd.tune.sending = true ∧ u.clk = s.clk ∧ u.ctl = s.ctl) ∧
   (∀ s : State, s.restoring 4 = false → exec (.loaTuneEnWrite false) s = .next (s.wr Obj.LOA_TUNE_EN 0).settle) ∧
   (∀ s s1 : State, s.rdB Obj.LOA_TUNE_EN = true →
     s.runTo (s.hd.tune.since48 + s.rdN Obj.LOA_TUNE_INTERVAL * sec48) = some s1 → s1.tunes s1.hd.timeSet = true →
     exec .loaTuneStep s = .next s1.tuneStep.settle) ∧
   (∀ s s1 : State, s.rdB Obj.LOA_TUNE_EN = true →
     s.runTo (s.hd.tune.since48 + s.rdN Obj.LOA_TUNE_INTERVAL * sec48) = some s1 → s1.tunes s1.hd.timeSet = false →
     exec .loaTuneStep s =
       .next (s1.setTune { s1.hd.tune with since48 := s1.up48, rateSum := 0, rateCount := 0 }).settle) ∧
   (∀ (w : Int) (s : State), s.hd.tune.sending = true → s.hd.tune.queued = some w → exec .loaTuneFrameEnd s =
     .next ((s.setTune { s.hd.tune with queued := none }).emit (.tuning (tuneFrame w))).settle) ∧
   (∀ s : State, s.hd.tune.sending = true → s.hd.tune.queued = none → exec .loaTuneFrameEnd s =
     .next (s.setTune { s.hd.tune with sending := false }).settle))

/-- A host's rate correction is accepted where its tag is at most 63 updates old, and otherwise sets TAG_STALE (R126);
without one for SWL_TIMEOUT the hardware loop closes (R127). Points on which the manual is silent or can be read two ways
are the model's choice (log entries 7 and 62). -/
def Obligations.SoftwareServoCommandsComplete : Prop :=
  (∀ (tag : BitVec 32) (s s1 : State), (s.rdN Obj.HD_UPDATE + 2 ^ 32 - tag.toNat) % 2 ^ 32 ≤ 63 →
    s1 = s.wrN Obj.SWL_TAG tag.toNat →
    let x := { s1.hd.swl with rate := some (s.rd Obj.SWL_RATE), at48 := s.up48, fresh := true, tag := tag.toNat }
    exec (.swlTag tag) s = .next ({ s1 with hd := { s1.hd with swl := x } } : State).settle) ∧
  (∀ (tag : BitVec 32) (s : State), 63 < (s.rdN Obj.HD_UPDATE + 2 ^ 32 - tag.toNat) % 2 ^ 32 →
    exec (.swlTag tag) s = .next ((s.wrN Obj.SWL_TAG tag.toNat).stick Obj.HD_STATUS 2).settle) ∧
  (∀ s s1 : State, s.rdN Obj.HD_LOOP_MODE = 1 → s.hd.swl.closing = false →
    s.runTo (s.hd.swl.at48 + ms48 (s.rdN Obj.SWL_TIMEOUT)) = some s1 →
    exec .swlTimeout s = .next s1.loopCloses.settle) ∧
  (∀ s : State, s.rdN Obj.HD_LOOP_MODE = 1 → s.loopCloses.hd.swl.closing = true)

/-- The APLLs: a configuration write in its range restarts the acquisition, even with the value held, and one out of range
is refused (R181); a lock ends the loss of lock, with APLL-A's the timescale resumes from its frozen value (R143, R179); a
loss of lock freezes the timescale or squelches what runs from APLL-B (R180, Table 1-6). -/
def Obligations.ApllChangesComplete : Prop :=
  (∀ (w : Apll) (f : Fin 3) (v : Nat) (s : State), s.restoring 5 = false → (apllField w f).2.1 ≤ v → v ≤ (apllField w f).2.2 →
    exec (.apllConfigWrite w f v) s = .next ((s.wrN (apllField w f).1 v).apllOut w).settle) ∧
  (∀ (w : Apll) (f : Fin 3) (v : Nat) (s : State), s.restoring 5 = false → v < (apllField w f).2.1 ∨ (apllField w f).2.2 < v →
    exec (.apllConfigWrite w f v) s = .next (s.rangeReject 5 (apllField w f).1.key).settle) ∧
  (∀ s : State, s.rdN Obj.APLLA_STATE = 0 → s.base ≠ 3 → 7 ≤ s.ctl.boot.step → s.mode ≠ Mode.BOOT → s.clk.frozen = true →
    ∃ u : State, exec (.apllLock .a) s = .next u.settle ∧ u.apllA = true ∧ u.clk = { s.clk with frozen := false } ∧
      u.active Src.APLLA_LOL = false ∧ u.active Src.TS_FROZEN = false ∧ u.hd = s.hd ∧ u.ctl = s.ctl) ∧
  (∀ s : State, s.rdN Obj.APLLA_STATE = 0 → s.base ≠ 3 → s.mode = Mode.BOOT → s.ctl.boot.step = 7 → s.clk.frozen = false →
    ∃ u : State, exec (.apllLock .a) s = .next u.unlockKeystone.settle ∧ u.clk = { s.clk with running := true } ∧
      u.ctl.boot.step = 9 ∧ u.apllA = true) ∧
  (∀ s : State, s.rdN Obj.APLLB_STATE = 0 → s.base ≠ 3 → 9 ≤ s.ctl.boot.step → s.mode ≠ Mode.BOOT →
    exec (.apllLock .b) s = .next ((s.wrN Obj.APLLB_STATE 1).cond Src.APLLB_LOL false).settle) ∧
  (∀ s : State, s.apllA = true → exec (.apllLossOfLock .a) s =
    .next (((s.cond Src.APLLA_LOL true).wrN Obj.APLLA_STATE (if s.base = 3 then 2 else 0)).freeze).settle) ∧
  (∀ s : State, s.apllB = true → exec (.apllLossOfLock .b) s =
    .next (((s.wrN Obj.APLLB_STATE (if s.base = 3 then 2 else 0)).cond Src.APLLB_LOL true).cutPulses).settle) ∧
  (∀ s : State, s.clk.running = true → s.clk.frozen = true → s.freeze = s)

/-! The timescale's commands, UTC and the snapshot. -/

/-- TS_SET_CMD, judged by the rules of R140 in their order: the mode, a whole second, 1 ms ahead, the step policy, the size
of a slew; then the request is held. CANCEL removes it. -/
def Obligations.TimeSetCommandsComplete : Prop :=
  (∀ (s : State) (r : SetRequest), s.restoring 10 = false → s.mode = Mode.FREERUN → r = ⟨false, s.rdN Obj.TS_SET_AT, s.rdN Obj.TS_SET_VAL, s.rdN Obj.TS_SET_UNC⟩ →
    r.at80 % giga = 0 → s.now48 + ms48 1 ≤ r.at80 * ns48 → s.rdB Obj.TS_VALID = false ∨ s.stepAllowed = true →
    exec .tsSetStep s = .next (s.setRequest (some r)).settle) ∧
  (∀ (s : State) (r : SetRequest), s.restoring 10 = false → s.mode = Mode.FREERUN → r = ⟨true, s.rdN Obj.TS_SET_AT, s.rdN Obj.TS_SET_VAL, s.rdN Obj.TS_SET_UNC⟩ →
    r.at80 % giga = 0 → s.now48 + ms48 1 ≤ r.at80 * ns48 → s.rdB Obj.TS_VALID = false ∨ r.offset48.natAbs ≤ sec48 →
    exec .tsSetSlew s = .next (s.setRequest (some r)).settle) ∧
  (∀ s : State, s.restoring 10 = false → s.mode ≠ Mode.FREERUN → exec .tsSetStep s = .next (s.stick Obj.TS_STATUS 3).settle ∧
    exec .tsSetSlew s = .next (s.stick Obj.TS_STATUS 3).settle) ∧
  (∀ s : State, s.restoring 10 = false → s.mode = Mode.FREERUN → s.rdN Obj.TS_SET_AT % giga ≠ 0 →
    exec .tsSetStep s = .next (s.stick Obj.TS_STATUS 1).settle ∧ exec .tsSetSlew s = .next (s.stick Obj.TS_STATUS 1).settle) ∧
  (∀ s : State, s.restoring 10 = false → s.mode = Mode.FREERUN → s.rdN Obj.TS_SET_AT % giga = 0 →
    s.rdN Obj.TS_SET_AT * ns48 < s.now48 + ms48 1 →
    exec .tsSetStep s = .next (s.stick Obj.TS_STATUS 2).settle ∧ exec .tsSetSlew s = .next (s.stick Obj.TS_STATUS 2).settle) ∧
  (∀ s : State, s.restoring 10 = false → s.mode = Mode.FREERUN → s.rdN Obj.TS_SET_AT % giga = 0 → s.now48 + ms48 1 ≤ s.rdN Obj.TS_SET_AT * ns48 →
    s.rdB Obj.TS_VALID = true → s.stepAllowed = false → exec .tsSetStep s = .next (s.stick Obj.TS_STATUS 3).settle) ∧
  (∀ (s : State) (r : SetRequest), s.restoring 10 = false → s.mode = Mode.FREERUN → r = ⟨true, s.rdN Obj.TS_SET_AT, s.rdN Obj.TS_SET_VAL, s.rdN Obj.TS_SET_UNC⟩ →
    r.at80 % giga = 0 → s.now48 + ms48 1 ≤ r.at80 * ns48 → s.rdB Obj.TS_VALID = true → sec48 < r.offset48.natAbs →
    exec .tsSetSlew s = .next (s.stick Obj.TS_STATUS 1).settle) ∧
  (∀ s : State, s.restoring 10 = false → exec .tsSetCancel s = .next (s.setRequest none).settle)

/-- At TS_SET_AT the held request loads a slew, is refused where the policy now forbids a step, or places or steps the
timescale (R137, R140); the whole-second housekeeping runs at each whole second, this cycle's where it is not past or done
(R21, R142); and UTC_AUTO_HOLD's end brings the new offset where the slot still reports it (R145). The instant of a leap:
the first second after the present one at which the offset that it leads to divides the day (R146). Points on which the
manual is silent or can be read two ways are the model's choice (log entries 7 and 52). -/
def Obligations.TimeInstantsAndLeapsComplete : Prop :=
  ((∀ (r : SetRequest) (s s1 s2 : State), s.ctl.slew.request = some r → s.reach r.at80 = some s1 → r.slew = true →
     s1.rdB Obj.TS_VALID = true → s2 = (s1.setRequest none).tebHostSet r.unc r.offset48 true →
     let x : Slew := { s2.ctl.slew with pend48 := r.offset48, lastInterval := false, sinceCycle := s2.clk.cycles }
     exec .tsSetApply s =
       .next ((({ s2 with ctl := { s2.ctl with slew := x } } : State).tebLog 5).tebCoefLog s1).settle) ∧
   (∀ (r : SetRequest) (s s1 : State), s.ctl.slew.request = some r → s.reach r.at80 = some s1 → r.slew = false →
     s1.rdB Obj.TS_VALID = true → s1.stepAllowed = false →
     exec .tsSetApply s = .next ((s1.setRequest none).stick Obj.TS_STATUS 3).settle) ∧
   (∀ (r : SetRequest) (s s1 : State), s.ctl.slew.request = some r → s.reach r.at80 = some s1 →
     s1.rdB Obj.TS_VALID = false ∨ (r.slew = false ∧ s1.stepAllowed = true) →
     exec .tsSetApply s =
       .next ((((s1.setRequest none).tebHostSet r.unc r.offset48 false).applyStep r.offset48).tebCoefLog s1).settle) ∧
   (∀ s s1 : State, s.reach s.nextSecond = some s1 →
     exec .secondBoundary s = .next ((s1.secondDone s.nextSecond).housekeeping.secondWork).settle) ∧
   (∀ (c : Nat) (s : State), c = s.now80 / giga * giga →
     (s.clk.before48 < c * ns48 → s.clk.second80 ≠ some c → s.nextSecond = c) ∧
     (c * ns48 ≤ s.clk.before48 ∨ s.clk.second80 = some c → s.nextSecond = c + giga)) ∧
   (∀ (k : Nat) (s : State), k < 64 →
     s.epochWords.rdN (Obj.RING_EPOCH k) = s.rdN Obj.TS_STEP_GEN * 2 ^ 48 + s.clk.ts.sec % 2 ^ 48) ∧
   (∀ (o : Int) (since : Nat) (s s1 : State), s.utc.held = some (o, since) →
     s.runTo (since + s.rdN Obj.UTC_AUTO_HOLD * sec48) = some s1 → s1.utcHeld = false →
     (s1.utcReport).isSome = true → (∀ r ∈ s1.utcReport, r.2.1 = o) →
     exec .utcAutoHoldExpiry s = .next ((s1.setOffset o).utcDrop).settle) ∧
   (∀ (o : Int) (since : Nat) (s s1 : State), s.utc.held = some (o, since) →
     s.runTo (since + s.rdN Obj.UTC_AUTO_HOLD * sec48) = some s1 → s1.utcHeld = false → s1.utcReport = none →
     exec .utcAutoHoldExpiry s = .next s1.utcDrop.settle) ∧
   (∀ (o : Int) (s : State), (s.setOffset o).rd Obj.UTC_OFFSET = o)) ∧
  (∀ (now : Nat) (offset : Int) (leap : Nat) (o : Int), o = (if leap = 1 then offset + 1 else offset - 1) →
     now < leapAt now offset leap ∧ ((leapAt now offset leap : Int) - o) % 86400 = 0 ∧
     ∀ t : Nat, now < t → ((t : Int) - o) % 86400 = 0 → leapAt now offset leap ≤ t)

/-- SNAP_NOW takes the snapshot in the next cycle; SNAP_AT less than 10 µs ahead is refused with SNAP_LATE, and otherwise
replaces the one pending; a snapshot less than 4 µs after the last is missed (R151); one that is taken starts the copy
(R152). Points on which the manual is silent or can be read two ways are the model's choice (log entries 7 and 51). -/
def Obligations.SnapshotCommandsComplete : Prop :=
  (∀ s : State, s.restoring 10 = false → exec .snapNow s = .next ({ s with snap := { s.snap with nowPending := true } } : State).settle) ∧
  (∀ (sec : BitVec 48) (ns : Fin 1000000000) (s : State), s.restoring 10 = false →
    s.now48 + us48 10 ≤ (sec.toNat * giga + ns) * ns48 → exec (.snapAtWrite sec ns) s =
      .next (({ s with snap := { s.snap with atPending := some (sec.toNat * giga + ns) } } : State).wrN Obj.SNAP_AT
        (sec.toNat * giga + ns)).settle) ∧
  (∀ (sec : BitVec 48) (ns : Fin 1000000000) (s : State), s.restoring 10 = false →
    (sec.toNat * giga + ns) * ns48 < s.now48 + us48 10 → exec (.snapAtWrite sec ns) s =
      .next (s.stick Obj.SNAP_STATUS 0).settle) ∧
  (∀ s : State, s.clk.running = true → s.snap.nowPending = true →
    exec .snapshot s = .next ((s.runCycles 1).snapshot (s.runCycles 1).inStepCycle).settle) ∧
  (∀ (t : Nat) (s s1 : State), s.clk.running = true → s.snap.nowPending = false → s.snap.atPending = some t →
    s.rdB Obj.SNAP_EVERY = false → s.reach t = some s1 → exec .snapshot s = .next (s1.snapshot s1.inStepCycle).settle) ∧
  (∀ (s s1 : State), s.clk.running = true → s.snap.nowPending = false → s.snap.atPending = none →
    s.rdB Obj.SNAP_EVERY = true → s.reach s.everyAt = some s1 → exec .snapshot s = .next (s1.snapshot s1.inStepCycle).settle) ∧
  (∀ (t : Nat) (b : Bool) (s : State), s.snap.lastAt48 = some t → t ≤ s.now48 → s.now48 < t + us48 4 →
    ∃ u : State, s.snapshot b = (u.stick Obj.SNAP_STATUS 1).raise Src.SNAP_MISSED ∧ u.book = s.book ∧
      u.snap.copying = s.snap.copying) ∧
  (∀ (b : Bool) (s : State), s.snap.lastAt48 = none → (s.snapshot b).snap.copying = true ∧
    (s.snapshot b).snap.nowPending = false ∧ (s.snapshot b).snap.lastAt48 = some s.now48)

/-! The field ports. -/

/-- A received frame that passes the tests of R245 takes a receive buffer; one that is incomplete, fails its FCS, is not for
this port, or finds no buffer is discarded with its flag and counted. Transmission with back-off: after the gap the next
frame starts (R243); a collision backs off by a number of slots that is below 2^min(n, 10), a late one discards the frame,
and so does the sixteenth, with its source (R244); at the back-off's end the frame is tried again at once on a free medium,
and otherwise once CRS has fallen (R243, R244). Points on which the manual is silent or can be read two ways are the model's
choice (log entries 7 and 23). -/
def Obligations.FieldPortTrafficCompletes : Prop :=
  ((∀ (f : Nat) (s : State), (s.fpHeard f).clk = s.clk ∧ (s.fpHeard f).book = s.book ∧ (s.fpHeard f).fp f =
     { s.fp f with idle := false } ∧ ∀ g, g ≠ f → (s.fpHeard f).fp g = s.fp g) ∧
   (∀ (f : Fin 2) (r : RxFrame) (s : State), s.rdN (Obj.FP_STATE f) = 2 → r.complete = true → r.fcsOk = true →
     s.fpWanted f r.octets = true → (s.fp f).rx < 4 →
     exec (.fpFrameRx f r) s = .next ((s.fpHeard f).setFp f { s.fp f with idle := false, rx := (s.fp f).rx + 1 }).settle) ∧
   (∀ (f : Fin 2) (r : RxFrame) (s : State), s.rdN (Obj.FP_STATE f) = 2 → r.complete = false ∨ r.fcsOk = false →
     exec (.fpFrameRx f r) s = .next (((s.fpHeard f).stick (Obj.FP_STICKY f) 2).count (0x1E8 + f) 1).settle) ∧
   (∀ (f : Fin 2) (r : RxFrame) (s : State), s.rdN (Obj.FP_STATE f) = 2 → r.complete = true → r.fcsOk = true →
     s.fpWanted f r.octets = false →
     exec (.fpFrameRx f r) s = .next (((s.fpHeard f).stick (Obj.FP_STICKY f) 4).count (0x1E8 + f) 1).settle) ∧
   (∀ (f : Fin 2) (r : RxFrame) (s : State), s.rdN (Obj.FP_STATE f) = 2 → r.complete = true → r.fcsOk = true →
     s.fpWanted f r.octets = true → 4 ≤ (s.fp f).rx →
     exec (.fpFrameRx f r) s = .next (((s.fpHeard f).stick (Obj.FP_STICKY f) 3).count (0x1E8 + f) 1).settle) ∧
   (∀ (f : Fin 2) (r : RxFrame) (s : State), s.rdN (Obj.FP_STATE f) ≠ 2 → exec (.fpFrameRx f r) s = .next (s.fpHeard f))) ∧
  ((∀ (f : Fin 2) (s s1 : State), (s.fp f).phase = .deferring → s1 = s.setFp f { s.fp f with idle := true } →
     exec (.fpDeferralEnd f) s = .next (s1.fpSend f).settle) ∧
   (∀ (f : Fin 2) (s s1 : State), (s.fp f).phase = .sending → s1 = s.setFp f { s.fp f with idle := true } →
     exec (.fpDeferralEnd f) s = .next ((s1.fpDone f).fpSend f).settle) ∧
   (∀ (f : Fin 2) (due : Nat) (s : State), (s.fp f).phase = .backoff due →
     exec (.fpDeferralEnd f) s = .next (s.setFp f { s.fp f with idle := true })) ∧
   (∀ (f : Nat) (e : List Octet) (rest : List (List Octet)) (s : State), (s.fp f).tx = e :: rest →
     s.rdN (Obj.FP_STATE f) = 2 → s.unsafeElement 9 f = false →
     s.fpSend f = (s.setFp f { s.fp f with phase := .sending, idle := false }).emit (.fieldFrame f e)) ∧
   (∀ (f mac : Nat) (m : List Octet) (s : State), (s.fp f).tx.length < 4 → ((s.sendFp f mac m).fp f).tx = (s.fp f).tx ++
     [framePadded (beBytes 6 mac ++ beBytes 6 (s.rdN (Obj.FP_MAC f)) ++ [0x88, 0xB5] ++ m)]) ∧
   (∀ (f : Fin 2) (s s1 : State), (s.fp f).phase = .sending → s1 = s.count (0x1EA + f) 1 →
     exec (.fpCollision f true) s = .next ((s1.stick (Obj.FP_STICKY f) 1).fpDone f).settle) ∧
   (∀ (f : Fin 2) (s s1 : State), (s.fp f).phase = .sending → s1 = s.count (0x1EA + f) 1 → 15 ≤ (s1.fp f).collisions →
     exec (.fpCollision f false) s =
       .next (((s1.stick (Obj.FP_STICKY f) 0).raise (Src.FP_EXCESS_COLL f)).fpDone f).settle) ∧
   (∀ (f : Fin 2) (s s1 : State), (s.fp f).phase = .sending → s1 = s.count (0x1EA + f) 1 → (s1.fp f).collisions < 15 →
     ∃ k : Nat, k < 2 ^ min ((s1.fp f).collisions + 1) 10 ∧ exec (.fpCollision f false) s =
       .next (s1.setFp f { s1.fp f with collisions := (s1.fp f).collisions + 1, draws := (s1.fp f).draws + 1,
                                        phase := .backoff (s1.up48 + k * 51200 * ns48) }).settle) ∧
   (∀ (f : Fin 2) (due : Nat) (s s1 : State), (s.fp f).phase = .backoff due → s.runTo due = some s1 →
     (s1.fp f).idle = true → exec (.fpBackoffExpiry f) s = .next (s1.fpSend f).settle) ∧
   (∀ (f : Fin 2) (due : Nat) (s s1 : State), (s.fp f).phase = .backoff due → s.runTo due = some s1 →
     (s1.fp f).idle = false →
     exec (.fpBackoffExpiry f) s = .next (s1.setFp f { s1.fp f with phase := .deferring }).settle))

/-- The PHY link comes up or goes down at a poll, and FP_EN starts or stops the port: what waited to be sent is gone, a
session over the port ends, and FP_LINK_DOWN follows the link (R246, R248, R312). Where FP_EN 0, or a block reset, came over
the port itself, it waits until the frame with its acknowledgement has left (R246, R358). Points on which the manual is
silent or can be read two ways are the model's choice (log entries 23 and 36). -/
def Obligations.FieldPortLinksComplete : Prop :=
  (∀ (f : Fin 2) (s : State), s.rdB (Obj.FP_EN f) = true → s.open = true → exec (.fpLinkPoll f true) s =
    .next ((s.wrN (Obj.FP_STATE f) 2).cond (Src.FP_LINK_DOWN f) false).settle) ∧
  (∀ (f : Fin 2) (s s1 s2 : State), s.rdB (Obj.FP_EN f) = true → s.open = true → s.rdN (Obj.FP_STATE f) = 2 →
    (s.fp f).after = [] → s1 = (s.endSession (if f = 0 then .fp0 else .fp1)).wrN (Obj.FP_STATE f) 1 →
    s2 = s1.setFp f { s1.fp f with tx := [], phase := .deferring, collisions := 0, after := [] } →
    exec (.fpLinkPoll f false) s = .next ((s2.stick (Obj.FP_STICKY f) 5).cond (Src.FP_LINK_DOWN f) true).settle) ∧
  (∀ (f : Fin 2) (s : State), s.rdB (Obj.FP_EN f) = true → s.open = true → s.rdN (Obj.FP_STATE f) ≠ 2 →
    exec (.fpLinkPoll f false) s = .next (s.wrN (Obj.FP_STATE f) 1).settle) ∧
  (∀ (f : Fin 2) (s s1 : State), s.restoring 9 = false → s.rdB (Obj.FP_EN f) = false →
    s1 = s.setFp f { s.fp f with after := (s.fp f).after.filter fun a => a.2 != .stop } → exec (.fpEnWrite f true) s =
    .next ((s1.wrN (Obj.FP_EN f) 1).wrN (Obj.FP_STATE f) 1).settle) ∧
  (∀ (f : Fin 2) (s s1 : State), s.restoring 9 = false → s.rdB (Obj.FP_EN f) = true →
    s1 = ((s.wrN (Obj.FP_EN f) 0).endSession (if f = 0 then .fp0 else .fp1)).wrN (Obj.FP_STATE f) 0 →
    ∃ u : State, exec (.fpEnWrite f false) s = .next (u.cond (Src.FP_LINK_DOWN f) false).settle ∧
      (u.fp f).tx = [] ∧ (u.fp f).rx = 0 ∧ (u.fp f).phase = .deferring ∧ u.book = s1.book ∧ u.clk = s.clk) ∧
  (∀ (f : Nat) (a : AfterReply) (s : State), ((s.afterReply f a).fp f).tx = (s.fp f).tx ∧
    ((s.afterReply f a).fp f).after = (s.fp f).after ++ [((s.fp f).tx.length, a)]) ∧
  (∀ (f n : Nat) (a : AfterReply) (s : State), (s.fp f).after = [(n + 2, a)] →
    ((s.fpDone f).fp f).after = [(n + 1, a)] ∧ ((s.fpDone f).fp f).tx = (s.fp f).tx.tail ∧ (s.fpDone f).book = s.book) ∧
  (∀ (f : Nat) (a : AfterReply) (s s1 : State), (s.fp f).after = [(1, a)] →
    s1 = (s.fpNext f).setFp f { (s.fpNext f).fp f with after := [] } → s.fpDone f = (s1.nowAfter f a).close)

/-! Bellwether. -/

/-- A frame of the twin that is not heard changes nothing; one that cannot be verified is discarded with BW_AUTH_FAIL; one
of a higher epoch raises BW_EPOCH, and at a holder ends its lease at once where it claims the lease (RENEW, TAKE) and else
makes the end pending; any other has its effect (R330, R334, R335, R337). A frame of its own leaves with its header, payload
and tag on the lanes that R334 names. What the twin's frames bring at a unit that takes them: HELLO its identity, RENEW the
standby's end of the lease (with READY as it stands, and CONTENDING left), TAKE a holder seen, RELEASE nothing further,
STATE the class, uncertainty and UTC of slot 22 (R334, R335, R339, R340, R144, R160). Points on which the manual is silent
or can be read two ways are the model's choice (log entries 34, 58, 59, 80 and 105). -/
def Obligations.TwinFramesComplete : Prop :=
  ((∀ (e : Nat) (c : Bool) (f : State → State) (s : State), s.cwHears = false → s.cwFrame e c f = s) ∧
   (∀ (e : Nat) (c : Bool) (f : State → State) (s : State), s.cwHears = true →
     s.jobStatus (s.rdN Obj.CW_KEY_SLOT) 4 true false ≠ Ks.OK → s.cwFrame e c f = s.cwAuthFail) ∧
   (∀ (e : Nat) (f : State → State) (s : State), s.cwHears = true → s.jobStatus (s.rdN Obj.CW_KEY_SLOT) 4 true false = Ks.OK →
     s.ctl.lease.current = true → s.ctl.lease.epoch < e →
     s.cwFrame e true f = (((s.jobsDone Ks.OK 1).seeEpoch e).raise Src.BW_SUPERSEDED).dropLease 2 3 true ∧
     s.cwFrame e false f = f (((s.jobsDone Ks.OK 1).seeEpoch e).setBw fun b => { b with releasing := true })) ∧
   (∀ (e : Nat) (c : Bool) (f : State → State) (s : State), s.takesFrame e → s.cwFrame e c f = f ((s.jobsDone Ks.OK 1).seeEpoch e)) ∧
   (∀ (e : Nat) (s : State), (s.seeEpoch e).rdN Obj.BW_EPOCH = max e (s.rdN Obj.BW_EPOCH)) ∧
   (∀ (e : Nat) (s : State), s.rdN Obj.BW_EPOCH < e → s.ctl.lease.current = false →
     (s.seeEpoch e).bw.heldUntil48 = none ∧ (s.seeEpoch e).ctl.lease.epoch = e) ∧
   (∀ (kind seq key lanes : Nat) (payload : List Octet) (s : State), s.paired = true → s.rdN Obj.CW_LANE_STATE ≠ 0 → s.ksClosed = false →
     s.mode ≠ Mode.UNPROVISIONED → s.rdN Obj.KS_LANES ≠ 0 → key = s.rdN Obj.CW_KEY_SLOT → s.keyState key = Key.ACTIVE →
     bitOn (s.slotOf key).usage 4 = true → kind ≠ 0x10 →
     lanes = (if kind = 2 ∨ kind = 3 ∨ kind = 4 ∨ kind = 0x11 then s.rdN Obj.CW_LANE_STATE
       else if bitOn (s.rdN Obj.CW_LANE_STATE) 0 then 1 else s.rdN Obj.CW_LANE_STATE) →
     (s.causeway kind seq payload).book.out = s.book.out ++
       [.causeway lanes (causewayFrame (s.slotOf key).value kind s.ctl.lease.epoch seq payload)]) ∧
   (∀ s : State, s.cwHears = true → exec .causewayAuthFail s =
     .next (((s.jobsDone Ks.VERIFY_FAIL 1).stick Obj.BW_STATUS 2).raise Src.BW_AUTH_FAIL).settle)) ∧
  ((∀ (epoch : BitVec 32) (h : Hello) (s s1 : State), s.takesFrame (max epoch.toNat h.epochSeen.toNat) →
     h.role ≠ 1 → h.role ≠ 4 → s1 = (s.jobsDone Ks.OK 1).seeEpoch (max epoch.toNat h.epochSeen.toNat) →
     exec (.helloRx epoch h) s = .next ({ s1 with bw := { s1.bw with twin := some h } } : State).close) ∧
   (∀ (epoch : BitVec 32) (h : Hello) (s s1 : State), s.takesFrame (max epoch.toNat h.epochSeen.toNat) →
     h.role = 1 ∨ h.role = 4 → s1 = (s.jobsDone Ks.OK 1).seeEpoch (max epoch.toNat h.epochSeen.toNat) →
     exec (.helloRx epoch h) s = .next ({ s1 with bw := { s1.bw with twin := some h } } : State).wantsResync.close) ∧
   (∀ (epoch : BitVec 32) (sec : BitVec 48) (ns : Fin 1000000000) (s s1 s2 : State) (e : Nat), s.takesFrame epoch.toNat →
     s.ctl.lease.current = false → s.rdN Obj.BW_EPOCH ≤ epoch.toNat → s1 = (s.jobsDone Ks.OK 1).seeEpoch epoch.toNat →
     e = max (s1.bw.heldUntil48.getD 0) ((sec.toNat * giga + ns) * ns48) →
     s2 = ({ s1 with bw := { s1.bw with heldUntil48 := some e, readyAtRenew := s1.bw.ready } } : State).sawHolder →
     exec (.renewRx epoch sec ns) s = .next (s2.lineFaults.cond Src.BW_LEASE_LINE (s2.rdN Obj.CW_LEASE_IN != 3)).close) ∧
   (∀ s : State, s.sawHolder.bw.holderSeen = true ∧ s.sawHolder.rdN Obj.BW_ROLE ≠ 3 ∧
     (s.rdN Obj.BW_ROLE = 3 → s.sawHolder.rdN Obj.BW_ROLE = 2)) ∧
   (∀ (epoch : BitVec 32) (sec : BitVec 48) (ns : Fin 1000000000) (s : State), s.takesFrame epoch.toNat →
     s.ctl.lease.current = false → epoch.toNat < s.rdN Obj.BW_EPOCH → exec (.renewRx epoch sec ns) s = .next (s.jobsDone Ks.OK 1).close) ∧
   (∀ (epoch : BitVec 32) (s : State), s.takesFrame epoch.toNat →
     exec (.releaseRx epoch) s = .next ((s.jobsDone Ks.OK 1).seeEpoch epoch.toNat).close) ∧
   (∀ (epoch : BitVec 32) (s s1 : State), s.takesFrame epoch.toNat → s1 = (s.jobsDone Ks.OK 1).seeEpoch epoch.toNat →
     exec (.takeRx epoch) s = .next ({ s1 with bw := { s1.bw with holderSeen := true } } : State).close) ∧
   (∀ (epoch : BitVec 32) (x : TwinState) (s s1 : State), s.takesFrame epoch.toNat →
     s1 = ((s.jobsDone Ks.OK 1).seeEpoch epoch.toNat).setBw (fun b => { b with twinState := some x }) → s1.slotState 22 = Sl.DISABLED →
     exec (.stateRx epoch x) s = .next s1.close) ∧
   (∀ (epoch : BitVec 32) (x : TwinState) (s s1 : State) (c : Nat), s.takesFrame epoch.toNat →
     s1 = ((s.jobsDone Ks.OK 1).seeEpoch epoch.toNat).setBw (fun b => { b with twinState := some x }) → s1.slotState 22 ≠ Sl.DISABLED →
     c = (if 4 ≤ x.mode ∧ x.mode ≤ 7 then x.cls.val else 15) →
     let i : QlInfo := { raw := x.cls.val, unc := x.bound.toNat, cls := some c, growth := 0, at48 := s1.up48 }
     let v : Slot := { s1.slot 22 with info := some i, utc := if x.utcValid then some (x.utcOffset, x.leap.val) else none }
     exec (.stateRx epoch x) s = .next (s1.setSlot 22 v).utcHeard.close))

/-- The holder's lease: every quarter of BW_LEASE the renewal counts on and, where R336's conditions hold, re-arms the end
and sends RENEW; at its end, at its release, and at a split seen by unit B the lease ends with the reason of R337 and R341,
and BW_FORCE RELEASE is complete; the HELLO goes out every 1 ms. A standby acquires at the first instant at or after E +
BW_GUARD at which the line has been quiet for BW_GUARD, and a contender at the end of its hold, 1 ms later at unit B; where
something stands against it, that shows instead (R335, R339, R340). The epoch of the lease is one above the highest seen.
Points on which the manual is silent or can be read two ways are the model's choice (log entries 7, 32, 34, 58 and 59). -/
def Obligations.LeaseCommandsComplete : Prop :=
  ((∀ (rb : Bool) (s s1 : State) (r48 : Nat), s.paired = true → s.ctl.lease.current = true →
     r48 = s.ctl.lease.acquired48 + (s.ctl.lease.renewals + 1) * (s.lease48 / 4) → r48 ≤ s.ctl.lease.end48 →
     s.liveTo r48 = some s1 → s1.mode = Mode.FAULTSAFE ∨ rb = false ∨ (s1.unitB = true ∧ s1.rdN Obj.CW_LEASE_IN = 3) ∨
       s1.rdB Obj.BW_ENABLE = false ∨ s1.bw.releasing = true ∨ s.ctl.lease.epoch < s1.rdN Obj.BW_EPOCH ∨ s1.unsafeBlock 15 = true →
     exec (.leaseRenewal rb) s =
       .next (s1.setLease fun l => { l with renewals := l.renewals + 1 }).settle) ∧
   (∀ (s s1 : State) (r48 t : Nat), s.paired = true → s.ctl.lease.current = true →
     r48 = s.ctl.lease.acquired48 + (s.ctl.lease.renewals + 1) * (s.lease48 / 4) → r48 ≤ s.ctl.lease.end48 →
     s.liveTo r48 = some s1 → s1.mode ≠ Mode.FAULTSAFE → (s1.unitB = true → s1.rdN Obj.CW_LEASE_IN ≠ 3) →
     s1.rdB Obj.BW_ENABLE = true → s1.bw.releasing = false → s1.rdN Obj.BW_EPOCH ≤ s.ctl.lease.epoch → s1.unsafeBlock 15 = false →
     t = (s1.now48 + s1.lease48) / ns48 →
     exec (.leaseRenewal true) s = .next ((s1.setLease fun l => { l with
       renewals := l.renewals + 1, end48 := r48 + s1.lease48 }).causeway 2 0 (time80Net t)).settle) ∧
   (∀ s s1 : State, s.paired = true → s.ctl.lease.current = true → s.liveTo s.ctl.lease.end48 = some s1 →
     exec .leaseExpiry s = .next (s1.dropLease 1 1 false).close) ∧
   (∀ s : State, s.paired = true → s.ctl.lease.current = true → s.bw.releasing = true →
     exec .leaseRelease s = .next (s.dropLease 1 2 true).close) ∧
   (∀ (event cause : Nat) (early : Bool) (s : State), s.paired = true → s.ctl.lease.current = true →
     s.rdN Obj.BW_FORCE = 1 → s.hostWrote Obj.BW_FORCE = false →
     (s.dropLease event cause early).rdN Obj.BW_FORCE = 0 ∧ (s.dropLease event cause early).bw.releasing = false) ∧
   (∀ (h : Nat) (s s1 : State), s.bw.high48 = some h → s.paired = true → s.ctl.lease.current = true →
     s.liveTo (h + s.guard48) = some s1 →
     (s1.unitB = true → exec .splitDetect s = .next (((s1.stick Obj.BW_STATUS 4).raise Src.BW_SPLIT).dropLease 1 4 true).close) ∧
     (s1.unitB = false → exec .splitDetect s = .next s1.settle)) ∧
   (∀ (event cause : Nat) (early : Bool) (s : State), s.paired = true → (s.dropLease event cause early).ctl.lease.current = false) ∧
   (∀ s s1 : State, s.paired = true → s.open = true → s.runTo (s.bw.hello48 + us48 1000) = some s1 →
     s1.rdN Obj.CW_KEY_SLOT < 1024 → exec .helloSend s = .next ((s1.setBw fun b => { b with hello48 := s1.up48 }).causeway 1 0
       ([oct (s1.rdN Obj.BW_UNIT), oct (s1.rdN Obj.BW_ROLE), oct (if s1.bw.ready then 1 else 0)] ++
         beBytes 4 (s1.rdN Obj.BW_EPOCH) ++ beBytes 8 (s1.rdN Obj.TPE_CLOCK_ID) ++ beBytes 4 (s1.rdN Obj.BW_LEASE) ++
         beBytes 4 (s1.rdN Obj.BW_GUARD) ++ beBytes 6 (s1.slotOf (s1.rdN Obj.CW_KEY_SLOT)).gen)).settle)) ∧
  ((∀ (e q : Nat) (s s1 s2 : State), s.bw.heldUntil48 = some e → s.ctl.lease.current = false →
     s.reach (ceilDiv (e + s.guard48) ns48) = some s1 → s1.bw.quiet48 = some q → s1.liveTo (q + s1.guard48) = some s2 →
     (s2.mayAcquire = true ∧ s2.rdN Obj.BW_ROLE = 2 ∧ s2.bw.readyAtRenew = true →
       exec .leaseAcquire s = .next (s2.takeOver true)) ∧
     (s2.mayAcquire = false ∨ s2.rdN Obj.BW_ROLE ≠ 2 ∨ s2.bw.readyAtRenew = false →
       exec .leaseAcquire s = .next s2.lineFaults.settle)) ∧
   (∀ s s1 : State, s.rdN Obj.BW_ROLE = 3 → s.unitB = false →
     s.liveTo (s.bw.contending48 + s.lease48 + s.guard48) = some s1 →
     (s1.mayAcquire = true → exec .contendHoldExpiry s = .next (s1.takeOver false)) ∧
     (s1.mayAcquire = false → exec .contendHoldExpiry s = .next s1.lineFaults.settle)) ∧
   (∀ s s1 : State, s.rdN Obj.BW_ROLE = 3 → s.unitB = true →
     s.liveTo (s.bw.contending48 + s.lease48 + s.guard48 + us48 1000) = some s1 → s1.mayAcquire = true →
     exec .contendHoldExpiry s = .next (s1.takeOver false)) ∧
   (∀ s : State, s.rdN Obj.BW_FORCE = 2 ∨ s.rdB Obj.BW_ENABLE = false ∨ s.mode ≠ Mode.STANDBY ∨ s.rdN Obj.CW_LEASE_IN = 3 ∨
     s.rdN Obj.CW_LEASE_IN = 0 ∨ s.ctl.lease.current = true → s.mayAcquire = false))

/-- LEASE_IN and the lanes show their state; BW_FORCE and BW_ENABLE are written: RELEASE at a holder with a READY twin, and
BW_ENABLE 0 at a holder, make the end of the lease pending; RELEASE elsewhere is refused; LOCK_CWROLE freezes BW_FORCE; the
pair record goes to flash 60 s after the last and 10 ms after an inhibit (R330, R331, R337, R348, R349, R351). Points on
which the manual is silent or can be read two ways are the model's choice (log entries 7, 34 and 59). -/
def Obligations.LinesAndForcedRolesComplete : Prop :=
  (∀ (s s1 : State) (l : LeaseLine), s.paired = true → l = .off ∨ l = .low →
    s1 = (s.wrN Obj.CW_LEASE_IN (lineCode l)).setBw (fun b => { b with
      quiet48 := some (b.quiet48.getD (s.live48 - us48 2)), high48 := none }) →
    exec (.leaseInChange l) s = .next s1.lineFaults.close) ∧
  (∀ s s1 : State, s.paired = true →
    s1 = (s.wrN Obj.CW_LEASE_IN 3).setBw (fun b => { b with
      quiet48 := none, high48 := some (b.high48.getD (s.live48 - us48 2)) }) →
    (s.ctl.lease.current = true → exec (.leaseInChange .high) s = .next s1.lineFaults.close) ∧
    (s.ctl.lease.current = false → exec (.leaseInChange .high) s = .next s1.sawHolder.lineFaults.close)) ∧
  (∀ s s1 : State, s.paired = true → s1 = (s.wrN Obj.CW_LEASE_IN 0).setBw (fun b => { b with quiet48 := none, high48 := none }) →
    exec (.leaseInChange .open) s = .next s1.lineFaults.close) ∧
  (∀ (lane : Fin 2) (up : Bool) (s s1 : State), s.paired = true → s.mode ≠ Mode.BOOT →
    s1 = (s.wrN Obj.CW_LANE_STATE (putBit (s.rdN Obj.CW_LANE_STATE) lane.val up)).cond (Src.BW_LANE_DOWN lane) (!up) →
    (s.open = true → exec (.cwLaneChange lane up) s = .next s1.lineFaults.settle) ∧
    (s.open = false → exec (.cwLaneChange lane up) s = .next s1.settle)) ∧
  (∀ (h : Hello) (s : State), s.restoring 15 = false → s.locked 6 = false → s.paired = true → s.ctl.lease.current = true → s.bw.twin = some h →
    h.ready = true →
    exec .bwForceRelease s = .next (((s.wrN Obj.BW_FORCE 1).setBw fun b => { b with releasing := true }).byHost .pcie Obj.BW_FORCE).settle) ∧
  (∀ s : State, s.restoring 15 = false → s.locked 6 = false → s.ctl.lease.current = false →
    exec .bwForceRelease s = .next (((s.stick Obj.BW_STATUS 3).wrN Obj.BW_FORCE 0).byHost .pcie Obj.BW_FORCE).settle) ∧
  (∀ s : State, s.restoring 15 = false → s.locked 6 = true → exec .bwForceRelease s = .next s.settle ∧ exec .bwForceHoldOff s = .next s.settle) ∧
  (∀ s : State, s.restoring 15 = false → s.locked 6 = false → exec .bwForceHoldOff s = .next ((s.wrN Obj.BW_FORCE 2).byHost .pcie Obj.BW_FORCE).settle) ∧
  (∀ s : State, s.restoring 15 = false → s.paired = true → s.ctl.lease.current = true →
    exec (.bwEnableWrite false) s = .next ((s.wrN Obj.BW_ENABLE 0).setBw fun b => { b with releasing := true }).settle) ∧
  (∀ (v : Bool) (s : State), s.restoring 15 = false → v = true ∨ s.paired = false ∨ s.ctl.lease.current = false →
    exec (.bwEnableWrite v) s = .next (s.wrN Obj.BW_ENABLE (if v then 1 else 0)).settle) ∧
  (∀ s s1 : State, s.paired = true → s.open = true → s.runTo (s.bw.persist48 + 60 * sec48) = some s1 →
    exec .pairRecordPersist s = .next s1.persist.settle) ∧
  (∀ s s1 : State, s.bw.persistDue = true → s.inhibited = false →
    s.runTo (s.ctl.supply.released48 + us48 10000) = some s1 → exec .journalPersistRetry s = .next s1.persist.settle) ∧
  (∀ (r : RootRecord) (s : State), s.inhibited = false → s.ks.root = some r → s.persist.bw.persistDue = false ∧
    s.persist.bw.pairRecord = some { epoch := s.rdN Obj.BW_EPOCH, twin := if s.unitB then 0 else 1, under := r.number }) ∧
  (∀ s : State, s.inhibited = true → s.persist.bw.persistDue = true ∧ s.persist.bw.pairRecord = s.bw.pairRecord)

/-- The journal: a standby applies the entries in order and acknowledges them, answers a first frame beyond a gap with NACK
and a second with RESYNC_REQ; at the holder the ACK's entries take effect, a NACK brings the later ones again, a missing ACK
makes it HOLDER_SOLO, and a resync streams the records, the multicast streams and the key generations (R345, R346). Points
on which the manual is silent or can be read two ways are the model's choice (log entries 31 and 33). -/
def Obligations.JournalCommandsComplete : Prop :=
  (∀ (epoch : BitVec 32) (j : BitVec 64) (es : List JEntry) (s s1 s2 : State), s.takesFrame epoch.toNat →
    s1 = (s.jobsDone Ks.OK 1).seeEpoch epoch.toNat → s1.ctl.lease.current = false → s1.bw.nextJseq ≠ 0 → j.toNat ≤ s1.bw.nextJseq →
    s2 = State.applyEntries es j.toNat s1 →
    exec (.journalRx epoch j es) s = .next (s2.setBw fun b => { b with
      gap := if b.nextJseq < j.toNat + es.length then b.gap else false }).journalAck.settle) ∧
  (∀ (epoch : BitVec 32) (j : BitVec 64) (es : List JEntry) (s s1 s2 : State), s.takesFrame epoch.toNat →
    s1 = (s.jobsDone Ks.OK 1).seeEpoch epoch.toNat → s1.ctl.lease.current = false → s1.bw.nextJseq = 0 →
    s2 = State.applyEntries es j.toNat (s1.setBw fun b => { b with nextJseq := j.toNat }) →
    exec (.journalRx epoch j es) s = .next (s2.setBw fun b => { b with
      gap := if b.nextJseq < j.toNat + es.length then b.gap else false }).journalAck.settle) ∧
  (∀ (epoch : BitVec 32) (j : BitVec 64) (es : List JEntry) (s s1 : State), s.takesFrame epoch.toNat →
    s1 = (s.jobsDone Ks.OK 1).seeEpoch epoch.toNat → s1.ctl.lease.current = false → s1.bw.nextJseq ≠ 0 → s1.bw.nextJseq < j.toNat →
    (s1.bw.gap = false →
      exec (.journalRx epoch j es) s = .next (s1.setBw fun b => { b with gap := true }).journalAck.settle) ∧
    (s1.bw.gap = true → exec (.journalRx epoch j es) s = .next s1.resyncRequest.settle)) ∧
  (∀ (epoch : BitVec 32) (j : BitVec 64) (nack : Bool) (s s1 s2 : State), s.takesFrame epoch.toNat →
    s1 = (s.jobsDone Ks.OK 1).seeEpoch epoch.toNat → s1.ctl.lease.current = true →
    s2 = (s1.wrN Obj.JR_ACKED (max (s1.rdN Obj.JR_ACKED) (min j.toNat (s1.rdN Obj.JR_TX)))).acknowledged
      (min j.toNat (s1.rdN Obj.JR_TX)) →
    let t := if s2.awaits && decide (s2.rdN Obj.JR_ACKED < s2.rdN Obj.JR_TX) then some s2.up48 else none
    let s3 := s2.setBw fun b => { b with ackSince48 := t }
    exec (.journalAckRx epoch j nack) s = .next (if nack then s3.forEach
      (l := s3.bw.journal.filter fun e => decide (min j.toNat (s1.rdN Obj.JR_TX) < e.1))
      (p := fun s e => s.causeway 0x10 e.1 (Config.journalOctets e.2)) else s3).settle) ∧
  (∀ (epoch : BitVec 32) (s s1 s2 s3 : State), s.takesFrame epoch.toNat → ((s.jobsDone Ks.OK 1).seeEpoch epoch.toNat).ctl.lease.current = true →
    s1 = ((s.jobsDone Ks.OK 1).seeEpoch epoch.toNat).wrN Obj.JR_RESYNC 1 →
    s2 = s1.forEach (l := s1.tpe.fold) (p := fun s e => s.journal (.record e.2 (s.dueOf e.1 false) (s.dueOf e.1 true))) →
    s3 = s2.forEach (l := s2.tpe.multicast) (p := fun s e =>
      s.journal (.mcRes (e.1 / 2 / 16) (e.1 / 2 % 16) (if e.1 % 2 = 1 then Ptp.ANNOUNCE else Ptp.SYNC) e.2.res)) →
    exec (.resyncReqRx epoch) s = .next (s3.forEach (l := List.range 17) (p := fun s e =>
      s.forEach (l := [0, 1, 2]) (p := fun s pos => s.journalKey e pos))).settle) ∧
  (∀ s : State, s.paired = true → s.rdN Obj.JR_RESYNC = 1 → s.ctl.lease.current = false →
    exec .resyncComplete s = .next ((s.wrN Obj.JR_RESYNC 2).setBw fun b => { b with synced := true }).settle) ∧
  (∀ s : State, s.paired = true → s.rdN Obj.JR_RESYNC = 1 → s.ctl.lease.current = true →
    (s.rdN Obj.BW_ROLE = 4 → exec .resyncComplete s =
      .next ((((s.wrN Obj.JR_RESYNC 2).wrN Obj.BW_ROLE 1).cond Src.BW_SOLO false).leaseNotice 4).settle) ∧
    (s.rdN Obj.BW_ROLE ≠ 4 → exec .resyncComplete s = .next (s.wrN Obj.JR_RESYNC 2).settle)) ∧
  (∀ (t : Nat) (s s1 s2 : State), s.bw.ackSince48 = some t → s.awaits = true →
    s.runTo (t + us48 (s.rdN Obj.BW_ACK_TIMEOUT)) = some s1 →
    s2 = ((s1.wrN Obj.BW_ROLE 4).setBw fun b => { b with ackSince48 := none }).cond Src.BW_SOLO true →
    exec .journalAckTimeout s =
      .next ((s2.leaseNotice 3).acknowledged (s2.rdN Obj.JR_TX)).settle)

/-! The dictionary: requests, register accesses and what they wait for. -/

/-- A message leaves its link and goes through the checks of Table 15-7 in their order: a framing error, a bad tag and a
stale number discard it with their bit of OD_STATUS; the last number once more gets its ACK again; a fresh one is accepted,
and is executed or, being no request of a host, discarded (R362 to R364). A test object that FACTORY alone reaches is
refused. Points on which the manual is silent or can be read two ways are the model's choice (log entries 40, 44, 105 and
106). -/
def Obligations.DictionaryRequestsAreChecked : Prop :=
  (∀ (q : GopRequest) (s s1 : State) (d : Nat), s.arrive q = some (s1, d) →
    (s.tagWaits 1 q = false → s1.testObject 1 q = false → exec (.gopRead q) s = .next (s1.checked 1 q d).settle) ∧
    (s.tagWaits 2 q = false → s1.testObject 2 q = false → exec (.gopWrite q) s = .next (s1.checked 2 q d).settle) ∧
    (s.tagWaits 3 q = false → s1.testObject 3 q = false → exec (.gopReadBlock q) s = .next (s1.checked 3 q d).settle) ∧
    (s.tagWaits 4 q = false → s1.testObject 4 q = false → exec (.gopWriteBlock q) s = .next (s1.checked 4 q d).settle) ∧
    (∀ op : BitVec 8, s.tagWaits op.toNat q = false → s1.testObject op.toNat q = false →
      exec (.gopInvalidRequest op q) s = .next (s1.checked op.toNat q d).settle) ∧
    (s.tagWaits 1 q = false → s1.testObject 1 q = true → exec (.gopRead q) s = .refused .undescribedTestObject)) ∧
  (∀ (op : Nat) (q : GopRequest) (s : State), s.tagWaits op q = true → gop op q s = .next s) ∧
  (∀ (op : Nat) (q : GopRequest) (s : State), q.role = .anonymous ∨ (s.jobsFull = false ∧ s.unsafeBlock 14 = false) →
    s.tagWaits op q = false) ∧
  (∀ (op : Nat) (q : GopRequest) (s : State), s.testObject op q = true → s.mode = Mode.FACTORY ∧ 0xF000 ≤ q.index.toNat) ∧
  (∀ (o : Target) (r : Role) (s : State), s.mode = Mode.FACTORY → s.mayRead o r = s.reaches o.row.cls) ∧
  (∀ (q : GopRequest) (s : State), q.link ≠ .pcie → s.open = true → s.linkUp q.link = true →
    let r := (s.fp (linkCode q.link)).rx - 1
    s.arrive q = some (s.setFp (linkCode q.link) { s.fp (linkCode q.link) with rx := r }, 0)) ∧
  (∀ (op : Nat) (q : GopRequest) (s s0 : State) (d : Nat), s0 = s.tagChecked op q →
    (framed op q = false → s.checked op q d = (s.stick Obj.OD_STATUS 1).discardGop q d) ∧
    (framed op q = true → s.tagGood op q = false →
      s.checked op q d = ((s0.stick Obj.OD_STATUS 2).raise Src.OD_TAG_FAIL).discardGop q d) ∧
    (framed op q = true → s.tagGood op q = true → s.seqVerdict q = .stale →
      s.checked op q d = ((s0.stick Obj.OD_STATUS 3).raise Src.OD_REPLAY).discardGop q d)) ∧
  (∀ (op : Nat) (q : GopRequest) (s s0 : State) (d : Nat) (m : List Octet), s0 = s.tagChecked op q → framed op q = true →
    s.tagGood op q = true → s.seqVerdict q = .again m →
    s.checked op q d = (s0.stick Obj.OD_STATUS 3).transmitAck q.link q.mac.toNat d m) ∧
  (∀ (op : Nat) (q : GopRequest) (s s0 s1 : State) (d : Nat), s0 = s.tagChecked op q → framed op q = true →
    s.tagGood op q = true → s.seqVerdict q = .fresh →
    s1 = (if q.role = .anonymous then s0 else s0.setSeqCell q.link q.role ⟨q.seq.toNat, none⟩) →
    (7 ≤ op → s.checked op q d = s1.discardGop q d) ∧
    (op < 7 → s1.waits op q.index.toNat q.sub.toNat = none → s.checked op q d = s1.perform ⟨.signing, op, q, d⟩)) ∧
  (∀ (op : Nat) (q : GopRequest), framed op q = true ↔ q.version = 1 ∧ 1 ≤ op ∧ op ≤ 8 ∧ q.roleOctet.toNat ≤ 4 ∧
    q.length.toNat + 16 ≤ q.rest.length ∧ q.length.toNat ≤ payloadMax q.link) ∧
  (∀ (op : Nat) (q : GopRequest) (s : State), s.tagGood op q = true ↔ (q.role = .anonymous ∨ (s.roleKey q.role).isSome = true) ∧
    q.tag = s.tagOf q.role (q.header op ++ q.payload)) ∧
  (∀ (q : GopRequest) (s : State), q.role = .anonymous → s.seqVerdict q = .fresh) ∧
  (∀ (q : GopRequest) (s : State) (last : Nat), q.role ≠ .anonymous → (s.seqCell q.link q.role).last = last → last < 2 ^ 32 →
    (s.seqVerdict q = .fresh ↔ 1 ≤ (q.seq.toNat + 2 ^ 32 - last) % 2 ^ 32 ∧ (q.seq.toNat + 2 ^ 32 - last) % 2 ^ 32 < 2 ^ 31))

/-- What a request of each operation does once it is accepted: a READ finds the object's octets, those of a zero object of
its size without the right, or 8 zero octets where there is no object; a READ_BLOCK gets the octets from OFFSET on; a WRITE
without the right, without an object or of an RO object is OK and changes nothing; one of a wrong length has LENGTH; a value
goes to its register, and an update of the engine's own in that cycle gives way to it, as does a write over an earlier link
of R366's order (R356, R361, R366, R369, Table 15-7). Points on which the manual is silent or can be read two ways are the
model's choice (log entries 38, 41, 42, 94 and 106). -/
def Obligations.DictionaryOperationsComplete : Prop :=
  (∀ (h : Held) (s : State), h.op = 1 → s.perform h = s.answer h AckCode.OK
    ((s.readOctets h.req.link h.req.role h.req.index.toNat h.req.sub.toNat).take (payloadMax h.req.link))) ∧
  (∀ (l : Link) (r : Role) (i sub : Nat) (s : State), findObject i sub = none →
    s.readOctets l r i sub = List.replicate 8 0) ∧
  (∀ (l : Link) (r : Role) (i sub : Nat) (o : Target) (s : State), findObject i sub = some o →
    (s.mayRead o r = true → s.readOctets l r i sub = s.octetsOf o.row l o.number) ∧
    (s.mayRead o r = false → s.readOctets l r i sub = zeroOctets o.row)) ∧
  (∀ (h : Held) (n : Nat) (o : Target) (s : State), h.op = 3 → h.req.payload.length = 2 → n = ofLe h.req.payload → n ≠ 0 →
    findObject h.req.index.toNat h.req.sub.toNat = some o → s.perform h = s.answer h AckCode.OK
      (((s.readOctets h.req.link h.req.role h.req.index.toNat h.req.sub.toNat).drop h.req.offset.toNat).take
        (min n (payloadMax h.req.link)))) ∧
  (∀ (h : Held) (s : State), h.op = 2 → findObject h.req.index.toNat h.req.sub.toNat = none →
    s.perform h = s.answer h AckCode.OK []) ∧
  (∀ (h : Held) (o : Target) (s : State), h.op = 2 → findObject h.req.index.toNat h.req.sub.toNat = some o →
    s.mayWrite o h.req.role h.req.payload = false ∨ (o.row.blob = false ∧ o.row.access = .ro) →
    s.perform h = s.answer h AckCode.OK []) ∧
  (∀ (h : Held) (o : Target) (s : State), h.op = 2 → findObject h.req.index.toNat h.req.sub.toNat = some o →
    s.mayWrite o h.req.role h.req.payload = true → o.row.blob = false → o.row.access ≠ .ro →
    h.req.payload.length ≠ scalarSize o.row.type → s.perform h = s.answer h AckCode.LENGTH []) ∧
  (∀ (h : Held) (o : Target) (s t : State) (code : Nat), h.op = 2 → findObject h.req.index.toNat h.req.sub.toNat = some o →
    s.mayWrite o h.req.role h.req.payload = true → o.row.blob = false → o.row.access ≠ .ro →
    h.req.payload.length = scalarSize o.row.type → s.judgeWrite o (octetsValue o.row.type h.req.payload) = .done t code →
    s.perform h = t.answer h code []) ∧
  (∀ (h : Held) (o : Target) (v : Int) (s : State), h.op = 2 → findObject h.req.index.toNat h.req.sub.toNat = some o →
    s.mayWrite o h.req.role h.req.payload = true → o.row.blob = false → o.row.access ≠ .ro →
    h.req.payload.length = scalarSize o.row.type → s.judgeWrite o (octetsValue o.row.type h.req.payload) = .run v →
    replyFirst h.source o v = false → s.refusedBy (s.put' h.source o v) h.source o v = false →
    s.perform h = (s.put' h.source o v).ackWrite h o s AckCode.OK []) ∧
  (∀ (h : Held) (o : Target) (s : State), h.op = 4 → findObject h.req.index.toNat h.req.sub.toNat = some o →
    s.mayWrite o h.req.role h.req.payload = true → o.row.access ≠ .ro → o.row.blob = true →
    s.perform h = (s.writeContent h.source o h.req.offset.toNat h.req.payload).1.answer h
      (s.writeContent h.source o h.req.offset.toNat h.req.payload).2.1
      (leBytes 4 (s.writeContent h.source o h.req.offset.toNat h.req.payload).2.2)) ∧
  (∀ (h : Held) (o : Target) (fit : List Octet) (s t : State) (code : Nat), h.op = 4 →
    findObject h.req.index.toNat h.req.sub.toNat = some o → s.mayWrite o h.req.role h.req.payload = true → o.row.access ≠ .ro →
    o.row.blob = false → fit = h.req.payload.take (scalarSize o.row.type - h.req.offset.toNat) → fit ≠ [] → code ≠ AckCode.OK →
    s.judgeWrite o (octetsValue o.row.type (overlay (s.octetsOf o.row h.req.link o.number) h.req.offset.toNat fit)) = .done t code →
    s.perform h = t.answer h code (leBytes 4 0)) ∧
  (∀ (o : Target) (w : WriteFrom) (v : Int) (s : State), o.row.access ≠ .wo →
    (s.overtaken w.link (o.at w.link) = true → s.put' w o v = s) ∧
    (s.overtaken w.link (o.at w.link) = false → o.row.write = none →
      s.put' w o v = (s.wr (o.at w.link) v).byHost w.link (o.at w.link))) ∧
  (∀ (r : Reg) (s : State), (s.byHost .fp1 r).overtaken .fp0 r = true ∧ (s.byHost .fp0 r).overtaken .pcie r = true ∧
    (s.overtaken .fp0 r = false → (s.byHost .pcie r).overtaken .fp0 r = false)) ∧
  (∀ (l : Link) (r : Reg) (v : Int) (s : State), (s.hostWrote r = false → s.hw r v = s.wr r v) ∧
    (s.hostWrote r = true → s.hw r v = s) ∧ (s.byHost l r).hostWrote r = true ∧ (s.byHost l r).book.objs = s.book.objs) ∧
  (∀ (o : Target) (v : Int) (s : State), o.row.access = .ro → s.judgeWrite o (some v) = .done s AckCode.OK) ∧
  (∀ (o : Target) (v : Int) (s : State), o.row.access ≠ .ro → (∀ m, o.row.range ≠ .sticky m) → s.inRange o.row o.number v = false →
    s.judgeWrite o (some v) = .done (s.reject o) AckCode.RANGE) ∧
  (∀ (o : Target) (v : Int) (s : State), o.row.access = .rwd → (∀ m, o.row.range ≠ .sticky m) → s.inRange o.row o.number v = true →
    s.enabled o = true → s.judgeWrite o (some v) = .done (s.cfgIgnored o.row.block o.key) AckCode.CFG_IGNORED)

/-- A subscription replaces or takes an entry, is refused with SUB_FULL where none is free, and ends with a mask of 0 or
UNSUBSCRIBE; register accesses write a scalar with the role of their path, those through BAR0 after every earlier one that
waits, STATUS_CLEAR a status word alone, and a bad access of BAR0 sets its bit (R11, R367, R370, R373, R374). What the
waiting requests wait for completes and they are executed, oldest first: the snapshot's copy, the current operation of the
public-key unit, the restoration of a block (R152, R319, R368); writes through BAR0 in the order in which they came (R374).
TEB_PIN goes HIGH once the bound has been within TEB_THR_PIN for TEB_PIN_HOLD (R168). Points on which the manual is silent
or can be read two ways are the model's choice (log entries 7, 39 and 43). -/
def Obligations.SubscriptionsAndWaitsComplete : Prop :=
  ((∀ (q : GopRequest) (s s1 : State) (d : Nat), s.arrive q = some (s1, d) → q.role = .anonymous → framed 5 q = true →
     s1.tagGood 5 q = true → exec (.gopSubscribe q) s =
       .next ((s1.subscribe q).1.answer ⟨.signing, 5, q, d⟩ (s1.subscribe q).2 []).settle) ∧
   (∀ (q : GopRequest) (s s1 s2 : State) (d : Nat), s.arrive q = some (s1, d) → q.role ≠ .anonymous → framed 5 q = true →
     s.tagWaits 5 q = false → s1.tagGood 5 q = true → s1.seqVerdict q = .fresh →
     s2 = (s1.tagChecked 5 q).setSeqCell q.link q.role ⟨q.seq.toNat, none⟩ →
     exec (.gopSubscribe q) s = .next ((s2.subscribe q).1.answer ⟨.signing, 5, q, d⟩ (s2.subscribe q).2 []).settle) ∧
   (∀ (q : GopRequest) (s s1 : State) (d : Nat), s.arrive q = some (s1, d) → q.role = .anonymous → framed 6 q = true →
     s1.tagGood 6 q = true → exec (.gopUnsubscribe q) s = .next ((s1.unsubscribe q).answer ⟨.signing, 6, q, d⟩ AckCode.OK []).settle) ∧
   (∀ (q : GopRequest) (s s1 s2 : State) (d : Nat), s.arrive q = some (s1, d) → q.role ≠ .anonymous → framed 6 q = true →
     s.tagWaits 6 q = false → s1.tagGood 6 q = true → s1.seqVerdict q = .fresh →
     s2 = (s1.tagChecked 6 q).setSeqCell q.link q.role ⟨q.seq.toNat, none⟩ →
     exec (.gopUnsubscribe q) s = .next ((s2.unsubscribe q).answer ⟨.signing, 6, q, d⟩ AckCode.OK []).settle) ∧
   (∀ (q : GopRequest) (s : State), (s.unsubscribe q).book.subs = s.book.subs.filter fun x => !GopRequest.owns q x) ∧
   (∀ (q : GopRequest) (s : State) (m : Nat), q.payload.length = 4 →
     m = maskOf (fun c => bitOn (ofLe q.payload) c && noticeAllowed c q.role) 32 → m ≠ 0 →
     s.book.subs.any (GopRequest.owns q) = false →
     (s.book.subs.filter fun x => x.link == q.link).length < (if q.link = .pcie then 4 else 8) →
     (s.subscribe q).2 = AckCode.OK ∧ (s.subscribe q).1.book.subs =
       s.book.subs ++ [⟨q.link, if q.link = .pcie then 0 else q.mac.toNat, q.role, m, 1, []⟩]) ∧
   (∀ (q : GopRequest) (s : State), q.payload.length = 4 →
     maskOf (fun c => bitOn (ofLe q.payload) c && noticeAllowed c q.role) 32 ≠ 0 → s.book.subs.any (GopRequest.owns q) = false →
     (if q.link = .pcie then 4 else 8) ≤ (s.book.subs.filter fun x => x.link == q.link).length →
     s.subscribe q = (s, AckCode.SUB_FULL)) ∧
   (∀ (p : Path) (r : Role) (i : BitVec 16) (sub : BitVec 8) (v : BitVec 64) (ds : List Posted) (o : Target) (s : State),
     s.pathRole p = some r → findObject i.toNat sub.toNat = some o → s.open = true → o.row.blob = false →
     s.waits 0 i.toNat sub.toNat = none → s.orderHeld = false → exec (.registerWrite p i sub v ds) s =
       .next (s.performWrite ⟨.signing, 0, registerRequest r i sub (slotOctets o.row.type v.toNat) ds, 0⟩).settle) ∧
   (∀ (p : Path) (r : Role) (i : BitVec 16) (sub : BitVec 8) (v : BitVec 32) (o : Target) (s : State),
     s.pathRole p = some r → findObject i.toNat sub.toNat = some o → s.open = true → o.row.blob = false → o.row.access = .sq →
     s.waits 0 i.toNat sub.toNat = none → s.orderHeld = false → exec (.statusClear p i sub v) s =
       .next (s.performWrite ⟨.signing, 0, registerRequest r i sub (slotOctets o.row.type v.toNat) [], 0⟩).settle) ∧
   (∀ (o : Target) (mask : Nat) (v : Int) (s : State), o.row.access = .sq → o.row.range = .sticky mask →
     s.judgeWrite o (some v) = .done (s.clearSticky o mask v).1 (s.clearSticky o mask v).2) ∧
   (∀ s : State, s.open = true → s.linkUp .pcie = true → exec .bar0BadAccess s = .next (s.stick Obj.OD_STATUS 4).settle) ∧
   (∀ (r : Role) (i : BitVec 16) (sub : BitVec 8) (v : BitVec 64) (ds : List Posted) (o : Target) (s : State),
     s.pathRole .bar0 = some r → findObject i.toNat sub.toNat = some o → s.open = true → o.row.blob = false →
     s.orderHeld = true ∨ (s.waits 0 i.toNat sub.toNat).isSome = true → exec (.registerWrite .bar0 i sub v ds) s =
       .next ({ s with book := { s.book with held := s.book.held ++
         [⟨.order, 0, registerRequest r i sub (slotOctets o.row.type v.toNat) ds, 0⟩] } } : State).settle) ∧
   (∀ (a n : Nat) (s : State), s.orderHeld = true → s.bar0Read a n = none) ∧
   (∀ (a n : Nat) (s : State), s.orderHeld = false → n ∉ [1, 2, 4, 8] ∨ a % n ≠ 0 → s.bar0Read a n = some 0)) ∧
  ((∀ s s1 : State, s.snap.copying = true →
     s1 = (s.wrN Obj.SNAP_TAKEN (s.snap.lastAt48.getD 0 / ns48)).bump Obj.SNAP_SEQ → exec .snapshotComplete s =
       .next (({ s1 with snap := { s1.snap with copying := false } } : State).resume .snapshot).settle) ∧
   (∀ (op : PkuOp) (rest : List PkuOp) (s s1 : State), s.ks.pku = op :: rest → s1 = { s with ks := { s.ks with pku := rest } } →
     exec .pkuOpComplete s = .next ((s1.pkuResult op).resume .signing).settle) ∧
   (∀ (subj : List Octet) (d : BitVec 256) (s : State), s.identity = some d →
     (s.pkuResult (.csr subj)).blob [] Obj.ID_CSR = Config.csr d subj) ∧
   (∀ (msg : List Octet) (d : BitVec 256) (s : State), s.identity = some d →
     (s.pkuResult (.attest msg)).blob (List.replicate 64 0) Obj.ID_ATTEST = padTo 64 (Config.sign d msg)) ∧
   (∀ s : State, s.pkuResult .install = s.installRecord) ∧
   (∀ (b : Fin 20) (ok : Bool) (s : State), bitOn s.book.guard.restoring b = true → exec (.shadowRestoreComplete b ok) s =
     .next ((s.restored b ok).settle.resume (.restoring b)).close) ∧
   (∀ (x : Wait) (s : State), (∀ h ∈ s.book.held, h.wait ≠ x ∧ h.wait ≠ .order) → s.resume x = s) ∧
   (∀ (x : Wait) (h : Held) (s : State), s.book.held = [h] → h.wait = .order → x ≠ .order →
     (s.waits h.op h.req.index.toNat h.req.sub.toNat = none →
       s.resume x = (({ s with book := { s.book with held := [] } } : State).perform h).settle) ∧
     ((s.waits h.op h.req.index.toNat h.req.sub.toNat).isSome = true → s.resume x = s)) ∧
   (∀ (x : Wait) (h g : Held) (s : State), s.book.held = [h, g] → h.wait = .order → g.wait = .order → x ≠ .order →
     (s.waits h.op h.req.index.toNat h.req.sub.toNat).isSome = true → s.resume x = s) ∧
   (∀ (x : Wait) (h : Held) (s : State), s.book.held = [h] → h.wait = x →
     s.resume x = (({ s with book := { s.book with held := [] } } : State).perform h).settle) ∧
   (∀ (t : Nat) (s s1 : State), s.teb.within48 = some t → s.teb.pin = false →
     s.runTo (t + ms48 (s.rdN Obj.TEB_PIN_HOLD)) = some s1 →
     exec .tebPinHoldExpiry s = .next ({ s1 with teb := { s1.teb with pin := true } } : State).settle))

/-! Synthesisers, clock outputs and event generators. -/

/-- A FOS enabled from 0 takes its seed and word and acquires; disabled it is OFF; FOS_FREQ out of range is rejected, and in
range is held, tracked and realigned; lock (which reports a relock and loads its seed), loss of lock and the end of its
alignment each change its state (R179, R183, R184, R188, R202). OUT_EN is judged by R186 and enables or is refused with its
bit; disabled, an output has no state. Every 1 ms the loop-back gate of the next covered output opens, and with channel 45
in RUN its error is recorded and judged; with channel 45 out of RUN checks are suspended, and stale after LB_STALE (R197,
R198). Points on which the manual is silent or can be read two ways are the model's choice (log entries 7, 64, 87 and 101). -/
def Obligations.OutputsComplete : Prop :=
  ((∀ (f : Fin 8) (s s1 : State), s.restoring 5 = false → s.rdB (Obj.FOS_EN f) = false →
     s1 = (s.wr (Obj.FOS_EN f) 1).setFos f { Fos.reset with
       seed := s.rdN (Obj.FOS_SEED f), seeded := s.clk.cycles + s.clk.frozenCycles } →
     exec (.fosEnWrite f true) s = .next ((s1.fosCompute f).fosTo f 1).settle) ∧
   (∀ (f : Fin 8) (s : State), s.restoring 5 = false → exec (.fosEnWrite f false) s =
     .next (((s.wr (Obj.FOS_EN f) 0).fosTo f 0).cond (Src.FOS_LOL f) false).settle) ∧
   (∀ (f : Fin 8) (v : Nat) (s : State), s.restoring 5 = false → v < 4800000000000000 ∨ 5600000000000000 < v →
     exec (.fosFreqWrite f v) s = .next (s.rangeReject 5 (Obj.FOS_FREQ f).key).settle) ∧
   (∀ (f : Fin 8) (v : Nat) (s : State), s.restoring 5 = false → 4800000000000000 ≤ v → v ≤ 5600000000000000 → s.fosState f = 0 →
     exec (.fosFreqWrite f v) s = .next (s.wrN (Obj.FOS_FREQ f) v).settle) ∧
   (∀ (f : Fin 8) (v : Nat) (s s1 : State), s.restoring 5 = false → 4800000000000000 ≤ v → v ≤ 5600000000000000 → s.fosState f ≠ 0 →
     s1 = (s.wrN (Obj.FOS_FREQ f) v).fosFollow f →
     (2 ≤ s1.fosState f → exec (.fosFreqWrite f v) s = .next (s1.fosTo f 2).settle) ∧
     (s1.fosState f < 2 → exec (.fosFreqWrite f v) s = .next s1.settle)) ∧
   (∀ (f : Fin 8) (s s1 s2 : State), s.fosState f = 1 → s1 = (s.wrN (Obj.FOS_STATE f) 2).cond (Src.FOS_LOL f) false →
     s2 = s1.setFos f { s.fosOf f with
       relock := false, again := false,
       seed := if (s.fosOf f).again then s.rdN (Obj.FOS_SEED f) else (s.fosOf f).seed,
       seeded := if (s.fosOf f).again then s.clk.cycles + s.clk.frozenCycles else (s.fosOf f).seeded } →
     ((s.fosOf f).relock = true → exec (.fosLock f) s = .next ((s2.stick Obj.SYN_STATUS 4).raise Src.FOS_RELOCK).settle) ∧
     ((s.fosOf f).relock = false → exec (.fosLock f) s = .next s2.settle)) ∧
   (∀ (f : Fin 8) (s s1 : State), 2 ≤ s.fosState f → s1 = (s.fosTo f 1).setFos f { (s.fosTo f 1).fosOf f with again := true } →
     exec (.fosLossOfLock f) s = .next (s1.cond (Src.FOS_LOL f) true).settle) ∧
   (∀ (f : Fin 8) (s s1 : State), s.fosState f = 2 → (s.fosOf f).aligning = true →
     s1 = (s.setFos f { s.fosOf f with aligning := false }).wrN (Obj.FOS_STATE f) 3 → s1.alignedOuts f = [] →
     exec (.fosAlignComplete f) s = .next s1.settle) ∧
   (∀ (f : Fin 8) (n : Nat) (s s1 : State), s.fosState f = 2 → (s.fosOf f).aligning = true →
     s1 = (s.setFos f { s.fosOf f with aligning := false }).wrN (Obj.FOS_STATE f) 3 → s1.alignedOuts f = [n] →
     (s1.outOf n).started = true → bitOn (s1.rdN (Obj.OUT_CFG n)) 18 = false →
     exec (.fosAlignComplete f) s = .next (s1.setOut n { s1.outOf n with run := true }).settle) ∧
   (∀ (f n : Nat) (s : State), (s.fosTo f n).rdN (Obj.FOS_STATE f) = n) ∧
   (∀ (f : Nat) (s : State), (s.fosCompute f).rd (Obj.FOS_WORD f) =
     ((s.rdN (Obj.FOS_FREQ f) : Rat) * ((2 ^ 48 + s.fosTarget f : Int) : Rat) / 250000000000000 + (s.fosOf f).rem).floor)) ∧
  ((∀ (o : Fin 16) (s : State), s.restoring 5 = false → s.rdB (Obj.OUT_EN o) = false → s.outGood o = true →
     exec (.outEnWrite o true) s = .next ((s.wr (Obj.OUT_EN o) 1).setOut o { Output.reset with swing := s.rdB (Obj.OUT_HISWING o) }).settle) ∧
   (∀ (o : Fin 16) (s : State), s.restoring 5 = false → s.rdB (Obj.OUT_EN o) = false → s.outGood o = false →
     exec (.outEnWrite o true) s = .next (s.rangeReject 5 (Obj.OUT_EN o).key).settle) ∧
   (∀ (o : Fin 16) (s : State), s.restoring 5 = false → exec (.outEnWrite o false) s =
     .next (((s.wr (Obj.OUT_EN o) 0).setOut o Output.reset).cond (Src.OUT_LB_FAIL o) false).settle) ∧
   (∀ (k : Nat) (w e : Int) (s s0 s1 s2 : State), s.reach s.nextGate = some s0 →
     s1 = { s0 with syn := { s0.syn with gate80 := some s.nextGate } } → s1.calRunning = false → s1.lbNext = some k → k < 16 →
     (s1.channel 45).state = .run →
     s2 = { s1 with syn := { s1.syn with gate := k, suspended48 := none, stale := false } } → s2.lbError k w = some e →
     exec (.loopbackCheck (some w)) s = .next ((s2.wr (Obj.OUT_LB k) (clampAbs (2 ^ 31 - 1) e)).lbResult k
       (decide (e.natAbs * 1000 ≤ s2.rdN Obj.LB_TOL * 65536))).settle) ∧
   (∀ (k : Nat) (w at16 x : Int) (s : State), at16 = (s.now48 / 2 ^ 32 : Nat) + w - s.rd (Obj.CH_OFFSET 45) →
     s.lbExpected k at16 = some x → s.lbError k w = some (at16 - x)) ∧
   (∀ (k : Nat) (s s0 s1 : State), s.reach s.nextGate = some s0 →
     s1 = { s0 with syn := { s0.syn with gate80 := some s.nextGate } } → s1.calRunning = false → s1.lbNext = some k →
     (s1.channel 45).state = .run →
     exec (.loopbackCheck none) s =
       .next ({ s1 with syn := { s1.syn with gate := k, suspended48 := none, stale := false } } : State).settle) ∧
   (∀ (w : Option Int) (s s0 s1 : State), s.reach s.nextGate = some s0 →
     s1 = { s0 with syn := { s0.syn with gate80 := some s.nextGate } } → s1.calRunning = true ∨ s1.lbNext = none →
     exec (.loopbackCheck w) s = .next s1.settle) ∧
   (∀ (k : Nat) (w : Option Int) (s s0 s1 s2 : State), s.reach s.nextGate = some s0 →
     s1 = { s0 with syn := { s0.syn with gate80 := some s.nextGate } } → s1.calRunning = false → s1.lbNext = some k →
     (s1.channel 45).state ≠ .run →
     s2 = { s1 with syn := { s1.syn with gate := k, suspended48 := some (s1.syn.suspended48.getD s1.up48) } } →
     (s1.syn.stale = true → exec (.loopbackCheck w) s = .next (s2.lbResult k false).settle) ∧
     (s1.syn.stale = false → exec (.loopbackCheck w) s = .next s2.settle)) ∧
   (∀ (t : Nat) (s s1 : State), (s.channel 45).state ≠ .run → t = s.syn.suspended48.getD s.up48 →
     s.runTo (t + s.rdN Obj.LB_STALE * sec48) = some s1 →
     exec .loopbackStale s = .next ({ s1 with syn := { s1.syn with suspended48 := some t, stale := true } } : State).settle) ∧
   (∀ (k : Nat) (s : State), k < 16 → (s.lbOf k).failed = false → s.rdN Obj.LB_FAILS ≤ (s.lbOf k).fails + 1 →
     ((s.lbResult k false).lbOf k).failed = true ∧
     ((s.lbResult k false).lbOf k).squelched = bitOn (s.rdN (Obj.OUT_CFG k)) 17) ∧
   (∀ (k : Nat) (s : State), k < 16 → (s.lbOf k).fails + 1 < s.rdN Obj.LB_FAILS →
     s.lbResult k false = s.setLb k { s.lbOf k with passes := 0, fails := (s.lbOf k).fails + 1 }))

/-- A generator's enable begins its calibration of 16 ms, which ends in RUN or FAULT; a push joins the queue or is refused
with its result; a flush empties it; EV_ENABLE 0 switches every generator and group off (R191, R192, R194, R200). Points on
which the manual is silent or can be read two ways are the model's choice (log entries 7, 16, 17, 114 and 115). -/
def Obligations.EventQueuesComplete : Prop :=
  (∀ (e : Fin 16) (s s1 : State), s.restoring 6 = false → s.rdB (Obj.EVT_EN e) = false ∨ s.evtState e = 0 → s.rdB Obj.EV_ENABLE = true →
    s.evtProgramme e = false ∨ s.programmeGood e = true → s1 = (s.wr (Obj.EVT_EN e) 1).wrN (Obj.EVT_STATE e) 1 →
    exec (.evtEnWrite e true) s = .next (s1.setEvt e { s.evt e with calStart48 := s.up48, lb := Loopback.reset }).settle) ∧
  (∀ (e : Fin 16) (s : State), s.restoring 6 = false → s.rdB (Obj.EVT_EN e) = false →
    s.rdB Obj.EV_ENABLE = false ∨ (s.evtProgramme e = true ∧ s.programmeGood e = false) →
    exec (.evtEnWrite e true) s = .next (s.rangeReject 6 (Obj.EVT_EN e).key).settle) ∧
  (∀ (e : Fin 16) (s : State), s.restoring 6 = false → exec (.evtEnWrite e false) s = .next (s.evtOff e).settle) ∧
  (∀ (e : Fin 16) (s s1 : State), s.evtState e = 1 → s.runTo ((s.evt e).calStart48 + ms48 16) = some s1 →
    s1.evtProgramme e = false → (s1.channel 45).state = .run →
    exec (.evtCalComplete e true) s = .next (s1.wrN (Obj.EVT_STATE e) 2).settle) ∧
  (∀ (e : Fin 16) (s s1 : State), s.evtState e = 1 → s.runTo ((s.evt e).calStart48 + ms48 16) = some s1 →
    s1.evtProgramme e = true → (s1.channel 45).state = .run →
    exec (.evtCalComplete e true) s = .next ((s1.wrN (Obj.EVT_STATE e) 2).anchor e).settle) ∧
  (∀ (e : Fin 16) (b : Bool) (s s1 : State), s.evtState e = 1 → s.runTo ((s.evt e).calStart48 + ms48 16) = some s1 →
    b = false ∨ (s1.channel 45).state ≠ .run →
    exec (.evtCalComplete e b) s = .next ((s1.wrN (Obj.EVT_STATE e) 4).raise Src.EVT_CAL_FAIL).settle) ∧
  (∀ (l : Link) (e : Fin 16) (x : EvEntry) (s : State), s.restoring 6 = false → x = s.staged l e → s.pushResult e x ≠ 0 → exec (.evtEntPush l e) s =
    .next ((s.wrN (Obj.EVT_PUSH_RESULT (linkCode l) e) (s.pushResult e x)).stick Obj.EV_STATUS 2).settle) ∧
  (∀ (l : Link) (e : Fin 16) (x : EvEntry) (s s1 : State), s.restoring 6 = false → x = s.staged l e → s.pushResult e x = 0 → s.evtState e ≠ 3 →
    s1 = s.wrN (Obj.EVT_PUSH_RESULT (linkCode l) e) 0 →
    exec (.evtEntPush l e) s = .next (s1.setEvt e { s1.evt e with queue := (s1.evt e).queue ++ [x] }).settle) ∧
  (∀ (e : Nat) (x y : EvEntry) (s : State), s.evtProgramme e = false → x.kind = 2 ∨ x.kind = 3 → (s.evt e).queue.length < 64 →
    (s.evt e).queue.getLast?.or (s.evt e).last = some y → s.now48 + 2000 * ns48 ≤ s.entryAt32 e x * 2 ^ 16 →
    (s.pushResult e x = 2 ↔ s.entryAt32 e x < s.entryEnd32 e y + 2 * 2 ^ 32)) ∧
  (∀ (e : Nat) (x : EvEntry) (s : State), s.evtProgramme e = true → s.pushResult e x = 5) ∧
  (∀ (e : Nat) (x : EvEntry) (s : State), s.evtProgramme e = false → x.kind = 2 ∨ x.kind = 3 → 64 ≤ (s.evt e).queue.length →
    s.pushResult e x = 1) ∧
  (∀ (e : Fin 16) (s : State), s.restoring 6 = false → exec (.evtQFlush e) s = .next (s.flush e).settle ∧ ((s.flush e).evt e).queue = [] ∧
    ((s.flush e).evt e).active = false) ∧
  (∀ s : State, s.restoring 6 = false → exec (.evEnableWrite true) s = .next (s.wr Obj.EV_ENABLE 1).settle) ∧
  (∀ s : State, s.restoring 6 = false → exec (.evEnableWrite false) s = .next ((((s.wr Obj.EV_ENABLE 0).setGrpEn 0 false).setGrpEn 1 false).setGrpEn 2 false
    |>.setGrpEn 3 false |>.forEach (l := List.range 16) (p := State.evtOff)).settle)

/-- The head entry's edge is driven at its instant, dropped late where that is past, and consumed under a squelch; a pulse's
second edge ends it, also where it is past and so not executed; a programme's edges follow its recurrence; a group is
enabled 1 ms or more ahead, and at each boundary its empty members underrun and the refilled ones rejoin (R190, R193 to
R196, R200). Points on which the manual is silent or can be read two ways are the model's choice (log entries 7, 16, 34, 64
and 114). -/
def Obligations.EdgesAndGroupsComplete : Prop :=
  (∀ (e : Fin 16) (x : EvEntry) (r : List EvEntry) (s s1 : State) (b : Int), (s.evt e).queue = x :: r → x.begun = false →
    b = s.ball9 e (s.entryAt32 e x) → s.reach (b / 512).toNat = some s1 →
    (s.now80 ≤ (b / 512).toNat → exec (.evtQueueEdge e) s = .next (s1.headEdge e x).settle) ∧
    ((b / 512).toNat < s.now80 → exec (.evtQueueEdge e) s = .next ((s1.popEntry e).lateDrop e).settle)) ∧
  (∀ (e : Fin 16) (x : EvEntry) (r : List EvEntry) (s s1 : State) (b : Int), (s.evt e).queue = x :: r → x.begun = true →
    b = s.ball9 e (s.entryEnd32 e x) → s.reach (b / 512).toNat = some s1 →
    ((b / 512).toNat < s.now80 → exec (.evtQueueEdge e) s = .next ((s1.toIdle e).popEntry e).settle) ∧
    (s.now80 ≤ (b / 512).toNat → s1.evtCauses e = 0 →
      exec (.evtQueueEdge e) s = .next ((s1.drive e false b.toNat).popEntry e).settle) ∧
    (s.now80 ≤ (b / 512).toNat → s1.evtCauses e ≠ 0 → exec (.evtQueueEdge e) s = .next (s1.popEntry e).settle)) ∧
  (∀ (e b : Nat) (x : EvEntry) (s s1 : State), s.evtState e = 2 → s.groupOf e = none → b = (s.ball9 e (s.entryAt32 e x)).toNat →
    s1 = s.drive e true b →
    (s.evtCauses e ≠ 0 → s.headEdge e x = (s.popEntry e).suppress e) ∧
    (s.evtCauses e = 0 → x.kind = 2 → s.headEdge e x = s1.popEntry e) ∧
    (s.evtCauses e = 0 → x.kind = 3 → s.headEdge e x = (s.drive e false b).popEntry e) ∧
    (s.evtCauses e = 0 → x.kind = 1 →
      s.headEdge e x = s1.setEvt e { s1.evt e with queue := s.resolved e x :: (s1.evt e).queue.tail })) ∧
  (∀ (e : Nat) (x : EvEntry) (s : State), s.evtState e < 2 → s.headEdge e x = (s.popEntry e).lateDrop e) ∧
  (∀ (e b : Nat) (active : Bool) (s : State), (s.evt e).active ≠ active → s.drive e active b =
    ((s.setEvt e { s.evt e with active := active }).emit (.eventEdge e active b)).count (0x1C0 + e) 1) ∧
  (∀ (e : Fin 16) (s s1 s2 : State) (b : Int), s.evtState e = 2 → s.evtProgramme e = true → (s.evt e).falling = false →
    b = s.ball9 e (recur9 (s.programmeBase9 e) (s.rdN (Obj.EVT_PRG_S e)) (s.rdN (Obj.EVT_PRG_N e)) (s.evt e).edge * 2 ^ 23) →
    s.reach (b / 512).toNat = some s1 → s2 = (if s1.evtCauses e = 0 then s1.drive e true b.toNat else s1) →
    ((b / 512).toNat < s.now80 → exec (.evtProgrammeEdge e) s = .next ((s1.toIdle e).anchor e).settle) ∧
    (s.now80 ≤ (b / 512).toNat → exec (.evtProgrammeEdge e) s =
      .next (s2.setEvt e { s2.evt e with falling := true, edge := (s.evt e).edge }).settle)) ∧
  (∀ (e : Fin 16) (s s1 s2 : State) (b : Int), s.evtState e = 2 → s.evtProgramme e = true → (s.evt e).falling = true →
    b = s.ball9 e ((recur9 (s.programmeBase9 e) (s.rdN (Obj.EVT_PRG_S e)) (s.rdN (Obj.EVT_PRG_N e)) (s.evt e).edge +
      s.rdN (Obj.EVT_PRG_WIDTH e) : Nat) * 2 ^ 23) →
    s.reach (b / 512).toNat = some s1 → s2 = (if s1.evtCauses e = 0 then s1.drive e false b.toNat else s1) →
    ((b / 512).toNat < s.now80 → exec (.evtProgrammeEdge e) s = .next ((s1.toIdle e).anchor e).settle) ∧
    (s.now80 ≤ (b / 512).toNat → exec (.evtProgrammeEdge e) s =
      .next (s2.setEvt e { s2.evt e with falling := false, edge := (s.evt e).edge + 1 }).settle)) ∧
  (∀ (g : Fin 4) (s : State), s.restoring 6 = false → s.rdB (Obj.GRP_EN g) = false → s.rdB Obj.EV_ENABLE = true →
    (∀ h, h < 4 → h ≠ g.val → s.rdB (Obj.GRP_EN h) = true → s.rdN (Obj.GRP_MEMBERS h) &&& s.rdN (Obj.GRP_MEMBERS g) = 0) →
    s.now80 + 1000000 ≤ s.rdN (Obj.GRP_START g) → exec (.grpEnWrite g true) s =
      .next (((s.wr (Obj.GRP_EN g) 1).setGroupNext g 0).regroup (s.rdN (Obj.GRP_MEMBERS g))).settle) ∧
  (∀ (g : Fin 4) (s : State), s.restoring 6 = false → s.rdB (Obj.GRP_EN g) = false →
    s.rdB Obj.EV_ENABLE = false ∨ s.rdN (Obj.GRP_START g) < s.now80 + 1000000 →
    exec (.grpEnWrite g true) s = .next (s.rangeReject 6 (Obj.GRP_EN g).key).settle) ∧
  (∀ (g : Fin 4) (s : State), s.restoring 6 = false → s.rdB (Obj.GRP_EN g) = true → exec (.grpEnWrite g false) s = .next (s.groupOff g).settle) ∧
  (∀ (g : Fin 4) (s s1 : State) (b : Nat), s.rdB (Obj.GRP_EN g) = true → b = s.boundary9 g (s.groupNext g) →
    s.reach (b / 512) = some s1 → exec (.groupBoundary g) s = .next ((s1.forEach (l := List.range 16)
      (p := State.memberBoundary g b)).setGroupNext g (s.groupNext g + 1)).settle) ∧
  (∀ (g b e : Nat) (s : State), g < 4 → e < 16 → bitOn (s.rdN (Obj.GRP_MEMBERS g)) e = true → s.evtProgramme e = false → s.evtState e = 2 →
    (s.evt e).queue = [] → (State.memberBoundary g b s e).evtState e = 3) ∧
  (∀ (g b e : Nat) (s : State), bitOn (s.rdN (Obj.GRP_MEMBERS g)) e = false → State.memberBoundary g b s e = s)

/-! Ports and Drover. -/

/-- PORT_EN is judged by R227 and starts the port, or is rejected; training leads to ALIGNING; the measured skew leads to UP
where its spread is at most 180 ns, with the port's SyncE slot leaving LOS, and is tried again after 10 ms where it is not;
a lost link leads to DOWN, which lasts 10 ms (R90, R228 to R230). PAUSE goes out at its boundary, its ball PORT_TX_LAT
earlier, and again after half its quanta while the buffer is not below PORT_BUF_LO, with a PAUSE of 0 where it is below by
then, and a received one ends after its quanta (R232, R238, R239). Points on which the manual is silent or can be read two
ways are the model's choice (log entries 7 and 67). -/
def Obligations.PortCommandsComplete : Prop :=
  ((∀ (p : Fin 8) (s : State), s.restoring 8 = false → s.rdB (Obj.PORT_EN p) = false → s.portConfigGood p = true →
     (s.rdB Obj.ETH_ENABLE = true → exec (.portEnWrite p true) s = .next ((s.wrN (Obj.PORT_EN p) 1).portStart p).close) ∧
     (s.rdB Obj.ETH_ENABLE = false → exec (.portEnWrite p true) s = .next (s.wrN (Obj.PORT_EN p) 1).close)) ∧
   (∀ (p : Fin 8) (s : State), s.restoring 8 = false → s.rdB (Obj.PORT_EN p) = false → s.portConfigGood p = false →
     exec (.portEnWrite p true) s = .next (s.rangeReject 8 (Obj.PORT_EN p).key).close) ∧
   (∀ (p : Fin 8) (s : State), s.restoring 8 = false → exec (.portEnWrite p false) s = .next ((s.wrN (Obj.PORT_EN p) 0).portOff p).close) ∧
   (∀ (p : Nat) (s : State), s.rdN (Obj.PORT_MAC p) = 0 ∨ s.rdN (Obj.PORT_BUF_HI p) ≤ s.rdN (Obj.PORT_BUF_LO p) ∨
     (s.speed p = 4 ∧ p % 2 = 1) → s.portConfigGood p = false) ∧
   (∀ s : State, s.restoring 8 = false → exec (.ethEnableWrite true) s = .next (s.wr Obj.ETH_ENABLE 1).close) ∧
   (∀ s : State, s.restoring 8 = false → exec (.ethEnableWrite false) s =
     .next ((s.wr Obj.ETH_ENABLE 0).forEach (l := List.range 8) (p := State.portOff)).close) ∧
   (∀ (p : Fin 8) (s : State), s.portState p = 1 → exec (.portTrainingComplete p) s = .next (s.portTo p 2).settle) ∧
   (∀ (p : Fin 8) (sp d : BitVec 32) (s : State), s.portState p = 2 → s.active (Src.PORT_DESKEW_FAIL p) = false →
     exec (.portAligned p sp d) s = .next (s.deskew p sp.toNat d.toInt).settle) ∧
   (∀ (p : Fin 8) (sp d : BitVec 32) (s s1 : State), s.portState p = 2 → s.active (Src.PORT_DESKEW_FAIL p) = true →
     s.runTo ((s.port p).since48 + ms48 10) = some s1 →
     exec (.portDeskewRetry p sp d) s = .next (s1.deskew p sp.toNat d.toInt).settle) ∧
   (∀ (p sp : Nat) (d : Int) (s : State), p < 8 → sp ≤ 11796480 →
     (s.deskew p sp d).portState p = 3 ∧ (s.deskew p sp d).rd (Obj.PORT_DESKEW p) = d) ∧
   (∀ (p sp : Nat) (d : Int) (s : State), p < 8 → sp ≤ 11796480 → s.slotState (8 + p) = Sl.LOS →
     (s.deskew p sp d).slotState (8 + p) = Sl.QUALIFYING) ∧
   (∀ (p sp : Nat) (d : Int) (s : State), p < 8 → 11796480 < sp → (s.deskew p sp d).portState p = s.portState p) ∧
   (∀ (p : Fin 8) (s : State), s.portState p = 3 →
     exec (.portLinkLoss p false) s = .next ((s.portLeave p 4).cond (Src.PORT_DOWN p) true).close ∧
     exec (.portLinkLoss p true) s = .next (((s.truncated p).portLeave p 4).cond (Src.PORT_DOWN p) true).close) ∧
   (∀ (p : Fin 8) (s s1 : State), s.portState p = 4 → s.runTo ((s.port p).since48 + ms48 10) = some s1 →
     exec (.portDownExpiry p) s = .next (s1.portStart p).settle) ∧
   (∀ (p st : Nat) (s : State), p < 8 → (s.portState p = 3 → s.portTo p st = s.portLeave p st) ∧
     (s.portState p ≠ 3 → (s.portTo p st).portState p = st))) ∧
  ((∀ (p : Fin 8) (k q : Nat) (s s1 s2 : State) (again : Option Nat), (s.port p).pause = some (k, q) → s.portSends p = true →
     s.reach (s.blockTime p k / ns48) = some s1 → s1.portSends p = true →
     again = (if 0 < q ∧ s1.rdN (Obj.PORT_BUF_LO p) ≤ s1.ingress p then some (s1.up48 + q * s1.quantum48 p / 2) else none) →
     s2 = (((s1.setPort p { s1.port p with pause := none, repeat48 := again }).stick (Obj.PORT_STICKY p) 6).portEvent p 11 1).launchAt p
       (s1.blockTime p k) (pauseFrame (s1.rdN (Obj.PORT_MAC p)) q) →
     (q = 0 ∨ s1.rdN (Obj.PORT_BUF_LO p) ≤ s1.ingress p → exec (.pauseFrameSend p) s = .next s2.settle) ∧
     (0 < q → s1.ingress p < s1.rdN (Obj.PORT_BUF_LO p) → exec (.pauseFrameSend p) s = .next (s2.pauseDue p 0).settle)) ∧
   (∀ (p : Fin 8) (k q : Nat) (s s1 : State), (s.port p).pause = some (k, q) → s.portSends p = true →
     s.reach (s.blockTime p k / ns48) = some s1 → s1.portSends p = false →
     exec (.pauseFrameSend p) s = .next (s1.setPort p { s1.port p with pause := none }).settle) ∧
   (∀ (p d48 : Nat) (o : List Octet) (s : State), s.launchAt p d48 o =
     s.emit (.launch p (d48 / 2 ^ 32) ((d48 / 2 ^ 32 : Nat) - s.rd (Obj.PORT_TX_LAT p)) o)) ∧
   (∀ (p : Fin 8) (k q : Nat) (s : State), (s.port p).pause = some (k, q) → s.portSends p = false →
     exec (.pauseFrameSend p) s = .next (s.setPort p { s.port p with pause := none }).settle) ∧
   (∀ (p : Fin 8) (due : Nat) (s s1 s2 : State), (s.port p).repeat48 = some due → s.runTo due = some s1 →
     s2 = s1.setPort p { s1.port p with repeat48 := none } →
     (s2.rdN (Obj.PORT_BUF_LO p) ≤ s2.ingress p →
       exec (.pauseRepeat p) s = .next (s2.pauseDue p (s2.rdN (Obj.PORT_PAUSE_TIME p))).settle) ∧
     (s2.ingress p < s2.rdN (Obj.PORT_BUF_LO p) → exec (.pauseRepeat p) s = .next s2.settle)) ∧
   (∀ (p : Fin 8) (due : Nat) (s s1 : State), (s.port p).held48 = some due → s.runTo due = some s1 →
     exec (.receivedPauseEnd p) s = .next (s1.setPort p { s1.port p with held48 := none }).settle))

/-- A frame received on a port that is UP is counted and takes the checks of Table 10-4 in their order, and then the action
of the first matching rule, behind its policer (R235, R280, R281, R284). Points on which the manual is silent or can be read
two ways are the model's choice (log entry 25). -/
def Obligations.FrameReceptionCompletes : Prop :=
  (∀ (p : Fin 8) (f : RxFrame) (s : State), s.portState p = 3 → s.portGood p = true →
    exec (.portFrameRx p f) s = .next (s.receive p f).settle) ∧
  (∀ (p : Nat) (f : RxFrame) (s : State), f.complete = false → s.receive p f = s.truncated p) ∧
  (∀ (p : Nat) (f : RxFrame) (s s1 : State), f.complete = true →
    s1 = (s.portEvent p 0 1).portEvent p 1 (f.octets.length + 4) →
    (f.fcsOk = false → s.receive p f = (s1.portEvent p 4 1).stick (Obj.PORT_STICKY p) 1) ∧
    (f.fcsOk = true → f.octets.length + 4 < 64 ∨ s.rdN (Obj.PORT_MTU p) < f.octets.length + 4 →
      s.receive p f = (s1.portEvent p 5 1).stick (Obj.PORT_STICKY p) 3)) ∧
  (∀ (p : Nat) (f : RxFrame) (s s1 : State) (k : Packet), f.complete = true → f.fcsOk = true → k = packetOf f.octets →
    s1 = (s.portEvent p 0 1).portEvent p 1 (f.octets.length + 4) → 64 ≤ f.octets.length + 4 →
    f.octets.length + 4 ≤ s.rdN (Obj.PORT_MTU p) → k.ethertype ≠ 0x8808 → k.header = true → k.sum ≠ 1 →
    s.ingress p + (f.octets.length + 4) ≤ 524288 →
    s.receive p f = s1.classifyFrame p k (s.ingressStamp p f).toNat false f.octets) ∧
  (∀ (p st : Nat) (k : Packet) (o : List Octet) (s : State), s.ruleFor p k = none → s.rdN Obj.DRV_DEFAULT = 0 →
    s.classifyFrame p k st false o = s.portEvent p 13 1) ∧
  (∀ (p n : Nat) (k : Packet) (s : State), s.ruleFor p k = some n →
    s.ruleMatches p k n = true ∧ ∀ m, m < n → s.ruleMatches p k m = false) ∧
  (∀ (p n : Nat) (k : Packet) (s : State), s.rdB (Obj.RULE_EN n) = false ∨ (k.fragment = true ∧ s.ruleAction n = 1) →
    s.ruleMatches p k n = false) ∧
  (∀ (q : Nat) (s : State), s.rdB (Obj.POL_EN q) = false → s.drvUnsafe (64 + q) = false → s.police q = (s, true)) ∧
  (∀ (n : Fin 64) (s : State), s.restoring 13 = false → s.rdB (Obj.RULE_EN n) = false → s.ruleGood n = false →
    exec (.ruleEnWrite n true) s = .next (s.rangeReject 13 (Obj.RULE_EN n).key).settle) ∧
  (∀ (n : Fin 64) (v : Bool) (s : State), s.restoring 13 = false → v = false ∨ s.rdB (Obj.RULE_EN n) = true ∨ s.ruleGood n = true →
    exec (.ruleEnWrite n v) s = .next (s.wr (Obj.RULE_EN n) (if v then 1 else 0)).settle)

/-- The slow path takes the next descriptor of its ring, writes it back with the status of what is wrong with it, or queues
its frame; a queued frame starts at the next block where it may, and the queues of a port that is not open are written back.
Gates are enabled, and a switch held, with a list that R297 accepts; a switch replaces the operational list at its instant,
and each entry's instant changes the gates (R23, R242, R292, R294, R295, R297, R298, R343). Points on which the manual is
silent or can be read two ways are the model's choice (log entries 7, 21, 22 and 90). -/
def Obligations.SlowPathAndGatesComplete : Prop :=
  (∀ (p : Fin 8) (o : Option (List Octet)) (s : State), (s.ahead (11 + p)).nextTaken (11 + p) = none →
    exec (.slowPathTxPost p o) s = .next (s.ahead (11 + p)).settle) ∧
  (∀ (p : Fin 8) (o : Option (List Octet)) (s s1 : State) (t : Taken) (st : Nat), s1 = s.ahead (11 + p) →
    s1.nextTaken (11 + p) = some t → s1.slowStatus p t.desc o = some st →
    exec (.slowPathTxPost p o) s =
      .next ((s1.takeStart (11 + p) t).finishUnsent (11 + p) t.count st).settle) ∧
  (∀ (p : Fin 8) (o : List Octet) (s s1 s2 : State) (t : Taken) (b : List Octet), s1 = s.ahead (11 + p) →
    s1.nextTaken (11 + p) = some t → s1.slowStatus p t.desc (some o) = none →
    s2 = s1.takeStart (11 + p) t → b = padTo (max 60 t.desc.length) (padTo t.desc.length o) →
    exec (.slowPathTxPost p (some o)) s = .next (s2.setQueue p (t.desc.aux % 8) (s2.queue p (t.desc.aux % 8) ++
      [⟨t.count, t.desc, if bitOn t.desc.aux 3 then withChecksums b else b⟩])).settle) ∧
  (∀ (p : Nat) (d : Posted) (o : Option (List Octet)) (s : State),
    (d.length < 14 → s.slowStatus p d o = some 2) ∧
    (14 ≤ d.length → s.rdN (Obj.PORT_MTU p) - 4 < d.length → s.slowStatus p d o = some 1) ∧
    (14 ≤ d.length → d.length ≤ s.rdN (Obj.PORT_MTU p) - 4 → s.slowOpen p = false → s.slowStatus p d o = some 3)) ∧
  (∀ (p : Fin 8) (s : State), s.slowOpen p = false → exec (.queuedFrameStart p) s = .next (s.queuesDown p).settle) ∧
  (∀ (p : Fin 8) (q : Nat) (s s1 s2 : State), s.slowOpen p = true → (s.port p).queues ≠ [] → s.portSends p = true →
    (s.port p).held48 = none → s.rdB Obj.VD_DATA_EN = true → s1 = (s.prune p).turnOn 80000 p →
    s1.offer p (s1.firstBlock p s1.now48) = some q → s2 = s1.holdQueues p (s1.firstBlock p s1.now48) (some q) →
    s2.leaseAt (s2.blockTime p (s1.firstBlock p s1.now48)) = true →
    exec (.queuedFrameStart p) s = .next (s2.startQueued p (s1.firstBlock p s1.now48) q).settle) ∧
  (∀ (p : Fin 8) (s s1 : State), s.slowOpen p = true → (s.port p).queues ≠ [] → s.portSends p = true →
    (s.port p).held48 = none → s.rdB Obj.VD_DATA_EN = true → s1 = (s.prune p).turnOn 80000 p →
    s1.offer p (s1.firstBlock p s1.now48) = none →
    exec (.queuedFrameStart p) s = .next (s1.holdQueues p (s1.firstBlock p s1.now48) none).settle) ∧
  (∀ (p q f : Nat) (h : QueuedFrame) (r : List QueuedFrame) (s : State), s.queue p q = h :: r → (s.port p).turn = q →
    (s.port p).gained = true → s.counted p h ≤ s.deficit p q → s.turnOn (f + 1) p = s) ∧
  (∀ (k : Nat) (d : Posted) (r : List Posted) (s : State), d.own = false ∨ s.takesOne k d = false →
    State.takeAhead k (d :: r) s = s) ∧
  (∀ (p : Fin 8) (s : State), s.restoring 13 = false → s.rdB (Obj.GATE_EN p) = false → gateListGood (s.rdN (Obj.GATE_CYCLE p)) (s.gateList p) = true →
    exec (.gateEnWrite p true) s =
      .next (((s.wrN (Obj.GATE_EN p) 1).setPort p { s.port p with gates := some s.now80 }).gatesNow p).settle) ∧
  (∀ (p : Fin 8) (s : State), s.restoring 13 = false → s.rdB (Obj.GATE_EN p) = false → gateListGood (s.rdN (Obj.GATE_CYCLE p)) (s.gateList p) = false →
    exec (.gateEnWrite p true) s = .next (s.rangeReject 13 (Obj.GATE_EN p).key).settle) ∧
  (∀ (p : Fin 8) (s : State), s.restoring 13 = false → exec (.gateEnWrite p false) s = .next
    (((s.wrN (Obj.GATE_EN p) 0).setPort p { s.port p with
      gates := none, switch := none, gateBits := 0x3FF, gateAt48 := s.now48 }).switchBit).settle) ∧
  (∀ (p : Fin 8) (sec : BitVec 48) (ns : Fin 1000000000) (s : State) (t : Nat), s.restoring 13 = false → t = sec.toNat * giga + ns →
    (t < s.now80 + 1000000 → exec (.gateSwitchAtWrite p sec ns) s = .next (s.stick Obj.DRV_STATUS 6).settle) ∧
    (s.now80 + 1000000 ≤ t → gateListGood (s.rdN (Obj.ADM_CYCLE p)) (s.adminList p) = false →
      exec (.gateSwitchAtWrite p sec ns) s = .next (s.rangeReject 13 (Obj.GATE_SWITCH_AT p).key).settle) ∧
    (s.now80 + 1000000 ≤ t → gateListGood (s.rdN (Obj.ADM_CYCLE p)) (s.adminList p) = true →
      exec (.gateSwitchAtWrite p sec ns) s =
        .next ((s.wrN (Obj.GATE_SWITCH_AT p) t).setPort p { s.port p with switch := some t }).switchBit.settle)) ∧
  (∀ (p : Fin 8) (t : Nat) (s s1 : State), (s.port p).switch = some t → s.reach t = some s1 →
    (s1.leaseCurrent = true → exec (.gateSwitch p) s = .next ((s1.gateSwitch p).gatesNow p).settle) ∧
    (s1.leaseCurrent = false → exec (.gateSwitch p) s = .next (s1.gateSwitch p).settle)) ∧
  (∀ (p : Nat) (s : State), p < 8 → s.hostWrote (Obj.GATE_LEN p) = false → s.hostWrote (Obj.GATE_CYCLE p) = false →
    (s.gateSwitch p).rdN (Obj.GATE_LEN p) = s.rdN (Obj.ADM_LEN p) ∧
    (s.gateSwitch p).rdN (Obj.GATE_CYCLE p) = s.rdN (Obj.ADM_CYCLE p)) ∧
  (∀ (p : Fin 8) (s s1 : State), (s.port p).gates.isSome = true → s.leaseCurrent = true →
    s.reach (ceilDiv (s.gateState p (s.port p).gateAt48).2 ns48) = some s1 →
    (s1.leaseCurrent = true → exec (.gateChange p) s = .next (s1.gatesNow p).settle) ∧
    (s1.leaseCurrent = false → exec (.gateChange p) s = .next s1.settle)) ∧
  (∀ (p : Nat) (s : State), s.gatesNow p =
    s.setPort p { s.port p with gateBits := (s.gateState p s.now48).1, gateAt48 := s.now48 })

/-! The GNSS baseband. -/

/-- Streams and tracking channels change state by Table 9-3: a lost stream sends its band's channels to COAST; a search ends
after its time, and what it detects above ACQ_THRESH and the second dwell confirms, or the other band hands over, takes the
lowest free channel within the quota, or waits up to 1 s; PULL_IN succeeds after 500 ms or ends after 2 s, and COAST
recovers within 2 s or ends (R204, R206 to R209, R222). RX_EN is judged by the quotas and the position and starts or stops
the receiver; RX_POS takes a position; GN_ENABLE starts the epochs from 0 or stops both receivers; the almanac is stale past
its greatest age (R209, R210, R216, R218, R224, R226). Points on which the manual is silent or can be read two ways are the
model's choice (log entries 7, 19, 88 and 100). -/
def Obligations.ReceiversAndTrackingComplete : Prop :=
  ((∀ (b : Fin 4) (s : State), s.feState b = 2 → exec (.feStreamLoss b) s = .next ((((s.wrN (Obj.FE_STATE b) 3).stick
     Obj.GN_STATUS 3).cond (Src.GN_STREAM_LOSS b) true).bandCoast b).settle) ∧
   (∀ (b : Fin 4) (s : State), s.feState b = 1 ∨ s.feState b = 3 → s.apllA = true →
     exec (.feStreamReturn b) s = .next (((s.bandSearch b).wrN
       (Obj.FE_STATE b) 2).cond (Src.GN_STREAM_LOSS b) false).settle) ∧
   (∀ (b : Nat) (i q : BitVec 4) (s : State), bitOn (s.rdN (Obj.FE_CFG b)) 0 = false →
     s.feSample b i q = (i.toInt, if bitOn (s.rdN (Obj.FE_CFG b)) 2 then -q.toInt else q.toInt)) ∧
   (∀ s : State, s.apllA = false → s.feClk = none) ∧
   (∀ (r : Fin 2) (g : Fin 9) (sv : BitVec 8) (x : SearchEnd) (s s1 : State), s.maySearch r g sv.toNat = true →
     s.handover r g sv.toNat = none → s.runTo (s.searchEnd r g sv.toNat) = some s1 →
     (s1.detects r g sv.toNat x = true →
       exec (.acqSearchComplete r g sv x) s = .next (s1.engineDone.detected r g sv.toNat (s1.engineDone.cellFound g x)).settle) ∧
     (s1.detects r g sv.toNat x = false → exec (.acqSearchComplete r g sv x) s = .next s1.engineDone.settle)) ∧
   (∀ (r g sv : Nat) (x : SearchEnd) (s : State), s.detects r g sv x = true ↔
     (x.confirmed = true ∧ s.rdN Obj.ACQ_THRESH < x.power ∧ s.inWindow r g sv x.doppler x.code = true)) ∧
   (∀ (r : Fin 2) (g : Fin 9) (sv : BitVec 8) (x : SearchEnd) (o : Oscillators) (s : State), s.maySearch r g sv.toNat = true →
     s.handover r g sv.toNat = some o → exec (.acqSearchComplete r g sv x) s = .next (s.detected r g sv.toNat o).settle) ∧
   (∀ (r g sv c : Nat) (o : Oscillators) (s : State), s.freeChannel r = some c → s.detected r g sv o = s.assign c r g sv o) ∧
   (∀ (r g sv : Nat) (o : Oscillators) (s : State), s.freeChannel r = none →
     s.detected r g sv o = ({ s with gn := { s.gn with waiting := s.gn.waiting ++ [⟨r, g, sv, s.up48, o⟩] } } : State)) ∧
   (∀ (r g sv : Nat) (s : State), s.aided r = true → s.dopplerWindow r g sv =
     (s.rdN Obj.ACQ_AID_FMARGIN : Rat) + (carrierHz g sv : Rat) * s.freqSpread) ∧
   (∀ (r g sv : Nat) (s : State), s.aided r = false → s.dopplerWindow r g sv = (s.rdN Obj.ACQ_COLD_WIN : Rat) ∧
     s.hypotheses r g = 2 * (signalCode g).1) ∧
   (∀ (r : Nat) (c : Nat) (s : State), s.freeChannel r = some c → s.trkState c = 0 ∧ (∀ d, d < c → s.trkState d ≠ 0) ∧
     (s.rxChannels r).length < s.rdN (Obj.RX_CH_QUOTA r)) ∧
   (∀ (d : Detection) (rest : List Detection) (s s1 : State), s.gn.waiting = d :: rest → s.runTo (d.at48 + sec48) = some s1 →
     exec .acqDetectionExpire s = .next ({ s1 with gn := { s1.gn with waiting := rest } } : State).settle) ∧
   (∀ (c : Fin 192) (s s1 : State), s.trkState c = 1 →
     (s.runTo ((s.tracker c).since48 + ms48 500) = some s1 → exec (.trkPullInSuccess c) s = .next (s1.trkTo c 2).settle) ∧
     (s.runTo ((s.tracker c).since48 + 2 * sec48) = some s1 → exec (.trkPullInTimeout c) s = .next (s1.trkIdle c).settle)) ∧
   (∀ (c : Fin 192) (s : State), s.trkState c = 2 → exec (.trkSignalLoss c) s = .next (s.trkTo c 3).settle) ∧
   (∀ (c : Fin 192) (s : State), s.trkState c = 3 → s.up48 ≤ (s.tracker c).since48 + 2 * sec48 → s.feState (s.trkBand c) = 2 →
     s.bandUnsafe (s.trkBand c) = false → exec (.trkCoastRecover c) s = .next (s.trkTo c 1).settle) ∧
   (∀ (c : Fin 192) (s s1 : State), s.trkState c = 3 → s.runTo ((s.tracker c).since48 + 2 * sec48) = some s1 →
     exec (.trkCoastExpiry c) s = .next (s1.trkIdle c).settle) ∧
   (∀ (c st : Nat) (s : State), c < 192 → (s.trkTo c st).trkState c = st)) ∧
  ((∀ (r : Fin 2) (s : State) (o : Nat), s.restoring 7 = false → s.rdB (Obj.RX_EN r) = false →
     o = (if s.rdB (Obj.RX_EN (1 - r.val)) then s.rdN (Obj.RX_CH_QUOTA (1 - r.val)) else 0) →
     (192 < s.rdN (Obj.RX_CH_QUOTA r) + o ∨ (s.rdN (Obj.RX_MODE r) = 1 ∧ s.rdB (Obj.RX_POS_VALID r) = false) →
       exec (.rxEnWrite r true) s = .next (s.rangeReject 7 (Obj.RX_EN r).key).settle) ∧
     (s.rdN (Obj.RX_CH_QUOTA r) + o ≤ 192 → s.rdN (Obj.RX_MODE r) ≠ 1 ∨ s.rdB (Obj.RX_POS_VALID r) = true →
       exec (.rxEnWrite r true) s =
         .next ((((s.wr (Obj.RX_EN r) 1).bandSearch (2 * r)).bandSearch (2 * r + 1)).rxTracking r).settle)) ∧
   (∀ (r : Fin 2) (s : State), s.restoring 7 = false → s.rdB (Obj.RX_EN r) = true →
     exec (.rxEnWrite r false) s = .next ((s.wr (Obj.RX_EN r) 0).rxStop r).settle) ∧
   (∀ (r : Fin 2) (x y z : Int) (s s1 : State), s.restoring 7 = false → s1 = s.wrBlob (List.replicate 24 0) (Obj.RX_POS r) (posOctets x y z) →
     exec (.rxPosWrite r x y z) s = .next ((s1.wrN (Obj.RX_POS_VALID r) 1).byHost .pcie (Obj.RX_POS r)).settle) ∧
   (∀ s s1 : State, s.restoring 7 = false → s.rdB Obj.GN_ENABLE = false → s1 = s.wr Obj.GN_ENABLE 1 → exec (.gnEnableWrite true) s =
     .next (((({ s1 with gn := { s1.gn with epochSeq := 0 } } : State).forEach (l := List.range 4) (p := State.bandSearch)).rxTracking 0
       ).rxTracking 1).settle) ∧
   (∀ s : State, s.restoring 7 = false → exec (.gnEnableWrite false) s = .next (((s.wr Obj.GN_ENABLE 0).rxStop 0).rxStop 1).settle) ∧
   (∀ (r : Fin 2) (age t : Nat) (s s1 : State), (s.rx r).almanac = some (age, t) →
     s.runTo (t + (s.rdN (Obj.RX_ALM_MAXAGE r) * 86400 + 1 - age) * sec48) = some s1 →
     exec (.almanacStale r) s = .next (s1.cond Src.GN_ALM_STALE true).settle) ∧
   (∀ (r : Fin 2) (s : State), (s.rx r).almanac = none →
     exec (.almanacStale r) s = .next (s.cond Src.GN_ALM_STALE true).settle))

/-- The next epoch, this cycle's where it is not past or done, latches every channel that is not IDLE; a solution after at
most three exclusions is applied where the receiver's last epoch is the present second's, and otherwise the receiver has
none; the pulse of its second is stamped on channel 10 or 11, less what the timescale has been steered by since the epoch,
and the notice goes out half a second before (R19, R212, R213, R215 to R221). Points on which the manual is silent or can be
read two ways are the model's choice (log entries 7, 19, 89, 100 and 116). -/
def Obligations.EpochsAndSolutionsComplete : Prop :=
  (∀ (resid : Fin 533333) (es : List (Nat × TrkMeas)) (s s1 : State), s.rdB Obj.GN_ENABLE = true →
    s.reach s.nextEpoch = some s1 → exec (.measurementEpoch resid es) s =
      .next ((s1.epochDone s.nextEpoch).epoch s.nextEpoch resid es).close) ∧
  (∀ (p c : Nat) (s : State), p = giga / s.rdN Obj.EP_RATE → c = s.now80 / p * p →
    (s.clk.before48 < c * ns48 → s.clk.epoch80 ≠ some c → s.nextEpoch = c) ∧
    (c * ns48 ≤ s.clk.before48 ∨ s.clk.epoch80 = some c → s.nextEpoch = c + p) ∧
    (1 ≤ s.rdN Obj.EP_RATE → s.rdN Obj.EP_RATE ≤ 100 → s.nextEpoch % p = 0 ∧ s.nextEpoch ≤ s.now80 + p ∧
      s.now80 < s.nextEpoch + p)) ∧
  (∀ (es : List (Nat × TrkMeas)) (c : Nat) (s : State), s.trkState c ≠ 2 ∨ s.feState (s.trkBand c) ≠ 2 →
    s.entryValid es c = none) ∧
  (∀ (r : Fin 2) (l : List TimeSol) (x : TimeSol) (s s1 : State), s.rxOn r = true → s1 = s.hearEphemerides r l →
    s1.afterExclusions r l = some x → s1.satsOf r x ≠ [] → (s1.rx r).epochSec = some s1.clk.ts.sec → s1.clk.ts.ns ≤ 400000000 →
    exec (.timeSolution r l) s = .next (s1.solve r x s1.clk.ts.sec).settle) ∧
  (∀ (r : Fin 2) (l : List TimeSol) (s s1 : State), s.rxOn r = true → s1 = s.hearEphemerides r l →
    (∀ x, s1.afterExclusions r l = some x → s1.satsOf r x = [] ∨ (s1.rx r).epochSec ≠ some s1.clk.ts.sec ∨
      400000000 < s1.clk.ts.ns) →
    exec (.timeSolution r l) s = .next (s1.rxNoSolution r).settle) ∧
  (∀ (r : Nat) (u : SatUse) (s : State), (s.rx r).entries.find? (fun e => e.1 == u.chan) = none →
    s.satUsable r u = false) ∧
  (∀ (r : Nat) (x : TimeSol) (l : List TimeSol) (s : State), s.residHigh r x = false → s.afterExclusions r (x :: l) = some x) ∧
  (∀ (r : Nat) (x : TimeSol) (b : Bool) (s : State), s.residHigh r x = true → s.traim r x b = 4) ∧
  (∀ (r : Fin 2) (p : Pulse) (tap vernier : Fin 32) (s s1 : State), (s.rx r).pulse = some p →
    s.reach (((p.second * giga * 65536 : Nat) + p.b16 - p.qerr16) / 65536).toNat = some s1 →
    s1.rxUnsafe r = true ∨ s1.apllA = false →
    exec (.receiverPps r tap vernier) s = .next (s1.setRx r { s1.rx r with pulse := none }).settle) ∧
  (∀ (r : Fin 2) (p : Pulse) (tap vernier : Fin 32) (s s1 s2 : State), (s.rx r).pulse = some p →
    s.reach (((p.second * giga * 65536 : Nat) + p.b16 - p.qerr16) / 65536).toNat = some s1 → s1.rxUnsafe r = false →
    s1.apllA = true → s2 = (s1.setRx r { s1.rx r with pulse := none }).count (0x1B2 + r) 1 →
    (s2.slotState (20 + r) = Sl.DISABLED → exec (.receiverPps r tap vernier) s =
      .next (s2.trestleEdge (10 + r) tap vernier false false
        (p.qerr16 * 64 + (s2.lead48 - p.lead48) / 2 ^ 26)).close) ∧
    (s2.slotState (20 + r) ≠ Sl.DISABLED → exec (.receiverPps r tap vernier) s =
      .next ((s2.setSlot (20 + r) { s2.slot (20 + r) with named := some ((s2.slot (20 + r)).pulses + 1, p.second) }).trestleEdge
        (10 + r) tap vernier false false (p.qerr16 * 64 + (s2.lead48 - p.lead48) / 2 ^ 26)).close)) ∧
  (∀ (r : Fin 2) (s s0 s1 : State), s.rdB (Obj.RX_EN r) = true → s.reach (s.nextNotice r) = some s0 →
    s1 = s0.setRx r { s0.rx r with notice80 := some (s.nextNotice r) } → (s1.rx r).pulse = none → exec (.gnssSecondNotice r) s =
      .next ((s1.wr (Obj.RX_QERR r) 0).notice 3 0x7563 (r + 1) (s1.secondBody r (s1.clk.ts.sec + 1) none)).settle) ∧
  (∀ (r : Fin 2) (s s0 s1 : State) (p : Pulse), s.rdB (Obj.RX_EN r) = true → s.reach (s.nextNotice r) = some s0 →
    s1 = s0.setRx r { s0.rx r with notice80 := some (s.nextNotice r) } → (s1.rx r).pulse = some p →
    p.second = s1.clk.ts.sec + 1 → s1.rxUnsafe r = false → exec (.gnssSecondNotice r) s =
      .next ((s1.wr (Obj.RX_QERR r) p.qerr16).notice 3 0x7563 (r + 1) (s1.secondBody r (s1.clk.ts.sec + 1) (some p))).settle)

/-! The timing protocol engine and its sessions. -/

/-- A message that fails the checks of counters 05 to 09 is dropped under the first of them; a Signaling message goes TLV by
TLV and is answered once, at once or, where something was granted in a holder with a twin, after its journal's
acknowledgement; a cancel ends its grant; a Delay_Req is answered or dropped by the checks of R261 in their order (R259,
R261, R276). Points on which the manual is silent or can be read two ways are the model's choice (log entries 20, 65, 103
and 105). -/
def Obligations.ClientMessagesComplete : Prop :=
  (∀ (pl : Fin 4) (w : Passage) (xx : Nat) (s : State), s.nextPassage pl = some w → s.judge w = .drop xx →
    exec (.unsupportedMessageRx pl) s = .next ((s.dropPassage w xx).watched s).settle) ∧
  (∀ (p : Nat) (k : Packet) (payload : List Octet) (s : State), s.tpeOn = false → s.judgePtp p k payload = .drop 5) ∧
  (∀ (p : Nat) (k : Packet) (payload : List Octet) (s : State), s.tpeOn = true → s.pktService = 2 → ptpParse payload = none →
    s.judgePtp p k payload = .drop 6) ∧
  (∀ (pl : Fin 4) (w : Passage) (x : Nat) (m : List Octet) (tlvs : List (Nat × List Octet)) (s : State),
    (s.nextSignal pl true = some (w, x, m, tlvs) → exec (.signalingRequest pl) s = .next ((s.signal? w x m tlvs).watched s).settle) ∧
    (s.nextSignal pl false = some (w, x, m, tlvs) → exec (.signalingCancel pl) s = .next ((s.signal? w x m tlvs).watched s).settle)) ∧
  (∀ (w : Passage) (x xx : Nat) (m : List Octet) (tlvs : List (Nat × List Octet)) (s s1 : State),
    s.clientProof x (clientKey w.port (packetOf w.octets) m) m tlvs = (s1, .bad xx) → s.signal? w x m tlvs = s1.dropPassage w xx) ∧
  (∀ (w : Passage) (x : Nat) (m reply : List Octet) (tlvs : List (Nat × List Octet)) (e : Option Nat) (s s1 s2 : State)
    (key : ClientKey) (g : Bool), key = clientKey w.port (packetOf w.octets) m → s.clientProof x key m tlvs = (s1, .good e) →
    ((s1.passed w).tpeCount 1).signalTlvs ⟨w, packetOf w.octets, key, x, e⟩ tlvs = (s2, reply, g) → s2.lookup key = none →
    reply ≠ [] → s.signal? w x m tlvs = s2.signalReply {
      jseq := s2.rdN Obj.JR_TX, record := none, write := none, due := [],
      passage := w, profile := x, body := reply, auth := e.map fun n => (n, portIdentity (key.clockId, key.portNum)) }) ∧
  (∀ (w : Passage) (x n : Nat) (m reply : List Octet) (tlvs : List (Nat × List Octet)) (e : Option Nat) (y : FoldRecord)
    (s s1 s2 s3 : State) (key : ClientKey) (g : Bool) (h : HeldReply), key = clientKey w.port (packetOf w.octets) m →
    s.clientProof x key m tlvs = (s1, .good e) →
    ((s1.passed w).tpeCount 1).signalTlvs ⟨w, packetOf w.octets, key, x, e⟩ tlvs = (s2, reply, g) → s2.lookup key = some (n, y) →
    reply ≠ [] → s3 = s2.touch n → h = {
      jseq := s3.rdN Obj.JR_TX, record := some n, write := none, due := [],
      passage := w, profile := x, body := reply, auth := replyAuth (some y) e key } →
    (g = false ∨ s3.awaits = false → s.signal? w x m tlvs = s3.signalReply h) ∧
    (g = true → s3.awaits = true → (s.signal? w x m tlvs).tpe.replies =
      (s3.unwritten ((s1.passed w).tpeCount 1) n y).tpe.replies ++ [{ h with write := some y, due := s3.entriesOf n }])) ∧
  (∀ (q : Request) (body : List Octet) (type r : Nat) (log : Int) (f : FoldRecord) (s : State), type = field body 0 1 / 16 →
    log = fieldInt body 1 1 → type = Ptp.ANNOUNCE ∨ type = Ptp.SYNC ∨ type = Ptp.DELAY_RESP →
    s.interval q.profile (intervalLo type) ≤ log → log ≤ 6 → field body 2 4 ≠ 0 → s.lookup q.key = some (r, f) →
    s.overQuota (some f) f.cls type log = false → let d := min (field body 2 4) (s.rdN (Obj.PROF_GRANT_MAXDUR q.profile))
    s.requestTlv q body = (s.grantTo r { f with mac := q.k.src } type log
      (ceilDiv (q.w.stamp16 + d * giga * 65536) (giga * 65536)) q.w.stamp16, grantTlv type log d, true)) ∧
  (∀ (q : Request) (body : List Octet) (s : State), field body 2 4 = 0 →
    s.requestTlv q body = (s.tpeCount 0x15, grantTlv (field body 0 1 / 16) (fieldInt body 1 1) 0, false)) ∧
  (∀ (q : Request) (body : List Octet) (r : Nat) (f : FoldRecord) (s : State), s.lookup q.key = some (r, f) →
    field body 0 1 / 16 = Ptp.SYNC → (grantOf f Ptp.SYNC).exp ≠ 0 → s.cancelTlv q body =
      ((s.endGrant r Ptp.SYNC).journal (.cancel q.key Ptp.SYNC), tlv Tlv.ACK_CANCEL [oct (Ptp.SYNC * 16), 0], false)) ∧
  (∀ (pl : Fin 4) (w : Passage) (x : Nat) (ses : Option Nat) (m : List Octet) (tlvs : List (Nat × List Octet)) (s : State),
    s.nextPtp pl (· == Ptp.DELAY_REQ) = some (w, x, ses, m, tlvs) → exec (.delayReqRx pl) s = .next ((s.delayReq w x m tlvs).watched s).settle) ∧
  (∀ (w : Passage) (x r : Nat) (m : List Octet) (tlvs : List (Nat × List Octet)) (e : Option Nat) (f f1 : FoldRecord)
    (s s1 : State) (key : ClientKey), key = clientKey w.port (packetOf w.octets) m → s.clientProof x key m tlvs = (s1, .good e) →
    s1.lookup key = some (r, f) → dreqDrop (some f) w.stamp16 (ptpSeq m) = none →
    f1 = { f with mac := (packetOf w.octets).src, dreqLastSeq := ptpSeq m, dreqLastNs := some (w.stamp16 / 65536),
                  exempt := false, dreqRcvd := wrapSucc f.dreqRcvd } →
    s.delayReq w x m tlvs =
      ((((s1.touch r).setRecord r f1).passed w).tpeCount 1).delayResp w x r f1 (packetOf w.octets) m) ∧
  (∀ (f : FoldRecord) (t q : Nat), f.dresp.exp = 0 ∨ f.dresp.exp * giga * 65536 ≤ t → dreqDrop (some f) t q = some 0xE) ∧
  (∀ t q : Nat, dreqDrop none t q = some 0xE)

/-- Peer delay: a request is answered, a response to the one that is out gives the mean link delay, and a request goes out
at its interval; the first grant to expire ends at its second and a record is freed 60 s after its last; FOLD_QUERY looks up
a record by its key fields (R254, R255, R262). Points on which the manual is silent or can be read two ways are the model's
choice (log entries 1, 7, 24 and 103). -/
def Obligations.PeerDelayAndRecordEndsComplete : Prop :=
  (∀ (pl : Fin 4) (w : Passage) (x : Nat) (ses : Option Nat) (m : List Octet) (tlvs : List (Nat × List Octet)) (s s1 : State)
    (e : Option Nat), s.nextPtp pl (· == Ptp.PDELAY_REQ) = some (w, x, ses, m, tlvs) →
    s.clientProof x (clientKey w.port (packetOf w.octets) m) m tlvs = (s1, .good e) →
    exec (.pdelayReqRx pl) s = .next ((s1.pdelayReply w x e m).watched s).settle) ∧
  (∀ (pl : Fin 4) (w : Passage) (x xx : Nat) (ses : Option Nat) (m : List Octet) (tlvs : List (Nat × List Octet)) (s s1 : State),
    s.nextPtp pl (· == Ptp.PDELAY_REQ) = some (w, x, ses, m, tlvs) →
    s.clientProof x (clientKey w.port (packetOf w.octets) m) m tlvs = (s1, .bad xx) →
    exec (.pdelayReqRx pl) s = .next ((s1.dropPassage w xx).watched s).settle) ∧
  (∀ (pl : Fin 4) (w : Passage) (x : Nat) (ses : Option Nat) (m : List Octet) (tlvs : List (Nat × List Octet)) (s s1 : State)
    (e : Option Nat),
    s.nextPtp pl (fun t => t == Ptp.PDELAY_RESP || t == Ptp.PDELAY_RESP_FOLLOW_UP) = some (w, x, ses, m, tlvs) →
    s.clientProof x (clientKey w.port (packetOf w.octets) m) m tlvs = (s1, .good e) →
    exec (.pdelayRespRx pl) s = .next ((((s1.passed w).tpeCount 1).pdelayResp w x m).watched s).settle) ∧
  (∀ (w : Passage) (x : Nat) (m : List Octet) (t1 : Int) (s : State), (s.peer (peerKey w.port x)).t1 = some t1 →
    slice m 44 10 = portIdentity (s.ownPort w.port) → ptpSeq m = (s.peer (peerKey w.port x)).seq →
    ptpType m = Ptp.PDELAY_RESP → ptpTwoStep m = false →
    (s.pdelayResp w x m).rd (Obj.TPE_PEER_DELAY w.port) = truncDiv ((w.stamp16 : Int) - t1 - ptpCorrection m) 2) ∧
  (∀ (p : Fin 8) (x : Fin 16) (s s1 s2 : State) (n seq i : Nat), n = peerKey p x → s.bound? p x = true → s.profP2p x = true →
    s.runTo (max ((s.peer n).sent48 + period48 (s.interval x 8)) (s.freeFrom (p % 4))) = some s1 → s1.tpeOn = true →
    s1.pktService = 2 → s1.roomFor (p % 4) p = true → seq = ((s1.peer n).seq + 1) % 65536 →
    ((s1.taken (p % 4)).setPeer n ⟨seq, none, none, s1.up48⟩).newId = (s2, i) →
    ∃ d : Draft, d.id = i ∧ d.port = p ∧ d.kind = .pdelayReq n seq ∧ exec (.pdelayReqSend p x) s =
      .next ((s2.sendMessage d 54 fun dep48 => ptpMessage Ptp.PDELAY_REQ (s1.rdN (Obj.PROF_DOMAIN x))
        (s1.flagField p false (dep48 / ns48)) 0 (s1.ownPort p) seq (s1.interval x 8)
        (ptpTimestamp (Config.pdelayOrigin i) ++ List.replicate 10 0)).watched s).settle) ∧
  (∀ (p : Fin 8) (x : Fin 16) (s s1 : State) (n : Nat), n = peerKey p x → s.bound? p x = true → s.profP2p x = true →
    s.runTo (max ((s.peer n).sent48 + period48 (s.interval x 8)) (s.freeFrom (p % 4))) = some s1 →
    (s1.tpeOn = false ∨ s1.pktService ≠ 2 →
      exec (.pdelayReqSend p x) s = .next (s1.setPeer n { s1.peer n with sent48 := s1.up48 }).settle) ∧
    (s1.tpeOn = true → s1.pktService = 2 → s1.roomFor (p % 4) p = false →
      exec (.pdelayReqSend p x) s = .next s1.settle)) ∧
  (∀ (r type exp : Nat) (s s1 : State), s.nextExpiry = some (r, type, exp) → s.reach (exp * giga) = some s1 →
    exec .grantExpiry s = .next (s1.endGrant r type).settle) ∧
  (∀ (r t : Nat) (s s1 : State), s.nextFree = some (r, t) → s.reach (t + 60 * giga) = some s1 →
    exec .foldRecordFree s = .next ({ s1 with tpe := { s1.tpe with fold := SMap.del r s1.tpe.fold } } : State).settle) ∧
  (∀ (image : List Octet) (s s1 : State), s.restoring 12 = false → s1 = s.wrBlob (List.replicate 128 0) Obj.FOLD_QUERY (padTo 128 image) →
    s.lookup (imageKey image) = none →
    exec (.foldQuery image) s = .next (s1.wrBlob (List.replicate 128 0) Obj.FOLD_RESULT (List.replicate 128 0)).settle) ∧
  (∀ (image : List Octet) (r : Nat) (f : FoldRecord) (s s1 : State), s.restoring 12 = false →
    s1 = s.wrBlob (List.replicate 128 0) Obj.FOLD_QUERY (padTo 128 image) → s.lookup (imageKey image) = some (r, f) →
    exec (.foldQuery image) s = .next (s1.wrBlob (List.replicate 128 0) Obj.FOLD_RESULT (s.recordOctets r f)).settle)

/-- The calendar's next entry becomes eligible and is handed to its pipeline; a frame is launched at its departure instant,
or counted as SVC_OFF or LATE (R25, R251, R285 to R288). The engine's enable, a fence and its completion, a profile's enable
and a rotation of keys each have the effect of their rule (R251, R252, R258, R265, R268, R272). Points on which the manual
is silent or can be read two ways are the model's choice (log entries 7, 66, 91 and 103). -/
def Obligations.CalendarAndEngineControlComplete : Prop :=
  (∀ (e : CalEntry) (s s1 : State), s.nextEntry = some e → s.reach (wheelNs e) = some s1 →
    (e.elig16 = none → exec .calendarEntryDue s = .next (s1.entryDue e).settle) ∧
    (e.elig16.isSome = true → exec .calendarEntryDue s = .next (s1.setEntry { e with ready := true }).settle)) ∧
  (∀ (pl : Fin 4) (e : CalEntry) (s s1 : State), s.nextReady pl = some e → s.roomFor pl (s.ownerPort e.owner) = true →
    s.runTo (s.freeFrom pl) = some s1 → exec (.calendarHandover pl) s = .next ((s1.handOver pl e).watched s).settle) ∧
  (∀ (pl p : Nat) (s : State), 256 ≤ s.built pl ∨ s.jobsFull = true ∨ s.rdB Obj.VD_DATA_EN = false → s.roomFor pl p = false) ∧
  (∀ (pl t : Nat) (s : State), s.tpe.handed.find? (fun e => e.1 == pl) = some (pl, t) → s.freeFrom pl = t + 25 * ns48) ∧
  (∀ (e : CalEntry) (s : State), s.generates e.owner = false → s.entryDue e = s.advance e) ∧
  (∀ (p : Fin 8) (f : Frame) (s s1 : State), s.nextFrame p = some f → s.reach (f.dep48 / ns48) = some s1 →
    exec (.frameLaunch p) s = .next (((s1.prune p).launch f).watched s).settle) ∧
  (∀ (f : Frame) (s : State), s.tpeOn = false → s.launch f = (s.dropFrame f).tpeCount 5) ∧
  (∀ (f : Frame) (s : State), s.tpeOn = true → s.pktService = 2 →
    (s.portSends f.port = true → (s.port f.port).held48 = none → tagJob f.tag = none → s.rdB Obj.VD_DATA_EN = true →
      s.launch f = s.onAir f) ∧
    (s.portSends f.port = false ∨ s.rdB Obj.VD_DATA_EN = false ∨ (tagJob f.tag).isSome = true →
      s.launch f = (s.dropFrame f).lateFrame f.port)) ∧
  (∀ s : State, s.restoring 12 = false → s.rdB Obj.TPE_ENABLE = true → exec (.tpeEnableWrite false) s =
    .next (((s.wrN Obj.TPE_ENABLE 0).discardAll 5).watched (s.wrN Obj.TPE_ENABLE 0)).settle) ∧
  (∀ s : State, s.restoring 12 = false → s.rdB Obj.TPE_ENABLE = false →
    (s.foldGood = true → exec (.tpeEnableWrite true) s = .next (s.wrN Obj.TPE_ENABLE 1).settle) ∧
    (s.foldGood = false → exec (.tpeEnableWrite true) s = .next (s.rangeReject 12 Obj.TPE_ENABLE.key).settle)) ∧
  (∀ s : State, s.restoring 12 = false → exec .tpeFence s =
    .next ({ s with tpe := { s.tpe with fences := s.tpe.fences ++ [s.tpe.nextId] } } : State).settle) ∧
  (∀ (id : Nat) (rest : List Nat) (s : State), s.tpe.fences = id :: rest → s.fenceOver id = true →
    exec .tpeFenceComplete s = .next (({ s with tpe := { s.tpe with fences := rest } } : State).releaseFence id).settle) ∧
  (∀ (x : Fin 16) (s : State), s.restoring 12 = false → s.rdB (Obj.PROF_EN x) = false →
    (s.profGood x = true → exec (.profEnWrite x true) s = .next ((s.wrN (Obj.PROF_EN x) 1).forEach (l := List.range 8)
      (p := fun s p => s.multicastEntries p x)).settle) ∧
    (s.profGood x = false → exec (.profEnWrite x true) s = .next (s.rangeReject 12 (Obj.PROF_EN x).key).settle)) ∧
  (∀ (x : Fin 16) (s : State), s.restoring 12 = false → exec (.profEnWrite x false) s = .next ((s.wrN (Obj.PROF_EN x) 0).forEach (l := List.range 8)
    (p := fun s p => s.multicastEntries p x)).settle) ∧
  (∀ (e : Fin 17) (s s1 : State), s.rdN (rotation e).2.1 ≠ 0xFFFF → s.reach (s.rdN (rotation e).2.2.2) = some s1 →
    exec (.keyRotation e) s = .next (s1.rotate e).settle) ∧
  (∀ (e n : Nat) (s : State), e < 16 → s.rdN (Obj.SPP_NEXT_SLOT e) = n → n ≠ 0xFFFF → s.rotate e =
    ((((s.hw (Obj.SPP_PREV_SLOT e) (s.rdN (Obj.SPP_CUR_SLOT e))).hw (Obj.SPP_CUR_SLOT e) n).hw (Obj.SPP_NEXT_SLOT e)
      0xFFFF).journalKey e 0).journalKey e 2)

/-- A plain NTP request is answered or, with NTP_PLAIN_EN at 0, dropped; an NTS request takes the checks of R268 in their
order; a completed crypto job gives its frame its tag, or drops it as KEY_FAIL (R263 to R268, R316). Points on which the
manual is silent or can be read two ways are the model's choice (log entries 20, 65, 66, 103 and 105). -/
def Obligations.NtpAndCryptoJobsComplete : Prop :=
  (∀ (pl : Fin 4) (w : Passage) (src : Nat) (m : List Octet) (exts : List (Nat × List Octet)) (s : State),
    s.nextNtp pl false = some (w, src, m, exts) →
    (s.rdB Obj.NTP_PLAIN_EN = true → exec (.ntpRequest pl) s = .next ((((s.passed w).tpeCount 3).sendMessage (s.ntpDraft w src) 48
      fun dep48 => s.ntpHeader w m false dep48).watched s).settle) ∧
    (s.rdB Obj.NTP_PLAIN_EN = false → exec (.ntpRequest pl) s = .next ((s.dropPassage w 0x13).watched s).settle)) ∧
  (∀ (pl : Fin 4) (w : Passage) (src : Nat) (m : List Octet) (exts : List (Nat × List Octet)) (s : State),
    s.nextNtp pl true = some (w, src, m, exts) → exec (.ntsRequest pl) s = .next ((s.nts w src m exts).watched s).settle) ∧
  (∀ (w : Passage) (src : Nat) (m uid body : List Octet) (rest : List (List Octet)) (exts : List (Nat × List Octet)) (s : State)
    (cookie : List Octet), extOf exts Ext.UNIQUE_ID = [uid] → extOf exts Ext.AUTHENTICATOR = body :: rest → 32 ≤ uid.length →
    cookie = ((extOf exts Ext.COOKIE).head?).getD [] →
    s.nts w src m exts = match s.unseal cookie with
      | .unknown => s.nak w src m uid
      | .keyFailed status => (s.jobsDone status 1).dropPassage w 0xC
      | .bad status => (s.jobsDone status 1).nak w src m uid
      | .opened text => if authGood (slice text 4 32) m body then
          s.ntsReply w src m uid text (min (1 + ((extOf exts Ext.PLACEHOLDER).filter fun b =>
            b.length == cookie.length).length) (s.rdN Obj.NTS_MAX_COOKIES))
        else (s.jobsDone Ks.OK 2).dropPassage w 0x11) ∧
  (∀ (lane : Fin 9) (j : Job) (s : State), s.ks.jobs.find? (fun x => x.lane == some lane.val) = some j →
    exec (.cryptoJobComplete lane) s = .next ((s.jobComplete j).sendReplies.watched s).settle) ∧
  (∀ (j : Job) (s s1 : State),
    s1 = ((({ s with ks := { s.ks with jobs := s.ks.jobs.filter fun x => x.id != j.id } } : State).jobsDone j.status
      j.parts).keyJobDone j.id).admitJobs → (s1.tpe.frames.find? fun f => tagJob f.tag == some j.id) = none →
    s.jobComplete j = s1) ∧
  (∀ (j : Job) (f f1 : Frame) (s s1 : State),
    s1 = ((({ s with ks := { s.ks with jobs := s.ks.jobs.filter fun x => x.id != j.id } } : State).jobsDone j.status
      j.parts).keyJobDone j.id).admitJobs → (s1.tpe.frames.find? fun f => tagJob f.tag == some j.id) = some f →
    f1 = { f with msg := f.msg ++ tagOctets j.key f.msg f.tag, tag := .ready } →
    (j.status ≠ Ks.OK → s.jobComplete j = (s1.dropFrame f).keyFail) ∧
    (j.status = Ks.OK → s.jobComplete j =
      { s1 with tpe := { s1.tpe with frames := s1.tpe.frames.map fun x => if x.id = f.id then f1 else x } }))

/-- A session's messages, once authenticated, each have their effect: Sync and Follow_Up a measurement, Delay_Resp the path
delay, Announce the quality and UTC of the session's slot, a grant its renewal (R274, R275, R171). SES_EN starts a session,
or rejects a P2P profile, or ends it with its slot in LOS. A session's timers: a grant is renewed after 3/4 of it, a request
without reply or refused is tried again after 10 s, a two-step Sync waits 1 s, the Delay_Req goes out at its period, and a
session without measurements or Announces times out, with its slot in LOS (R85, R270, R274, R275). Points on which the
manual is silent or can be read two ways are the model's choice (log entries 7, 28, 30 and 103). -/
def Obligations.SessionCommandsComplete : Prop :=
  ((∀ (n : Fin 4) (s : State), s.restoring 12 = false → s.rdB (Obj.SES_EN n) = false → s.profP2p (s.sesProfile n) = false →
     exec (.sesEnWrite n true) s = .next ((s.wrN (Obj.SES_EN n) 1).sesStart n).close) ∧
   (∀ (n : Fin 4) (s : State), s.restoring 12 = false → s.rdB (Obj.SES_EN n) = false → s.profP2p (s.sesProfile n) = true →
     exec (.sesEnWrite n true) s = .next (s.rangeReject 12 (Obj.SES_EN n).key).close) ∧
   (∀ (n : Fin 4) (s s1 : State), s.restoring 12 = false → s1 = ((s.wrN (Obj.SES_EN n) 0).wrN (Obj.SES_STATE n) 0).setSession n Session.reset →
     exec (.sesEnWrite n false) s = .next ((s1.cond (Src.SES_TIMEOUT n) false).slotLos (16 + n)).close) ∧
   (∀ (pl : Fin 4) (w : Passage) (n : Nat) (m : List Octet) (tlvs : List (Nat × List Octet)) (s : State),
     (s.nextSes pl (fun t _ => t == Ptp.SYNC || t == Ptp.FOLLOW_UP) = some (w, n, m, tlvs) →
       exec (.sessionSyncRx pl) s = .next ((s.sesMessage w n m tlvs (State.sesSyncMessage w n m)).watched s).close) ∧
     (s.nextSes pl (fun t _ => t == Ptp.DELAY_RESP) = some (w, n, m, tlvs) →
       exec (.sessionDelayRespRx pl) s = .next ((s.sesMessage w n m tlvs (State.sesDelayResp n m)).watched s).settle) ∧
     (s.nextSes pl (fun t _ => t == Ptp.ANNOUNCE) = some (w, n, m, tlvs) →
       exec (.sessionAnnounceRx pl) s = .next ((s.sesMessage w n m tlvs (State.sesAnnounce n m tlvs)).watched s).close) ∧
     (s.nextSes pl (fun t tlvs => t == Ptp.SIGNALING && hasTlv tlvs Tlv.GRANT) = some (w, n, m, tlvs) →
       exec (.sessionGrantRx pl) s = .next ((s.sesMessage w n m tlvs (State.sesGrants n tlvs)).watched s).settle)) ∧
   (∀ (w : Passage) (n xx : Nat) (m : List Octet) (tlvs : List (Nat × List Octet)) (f : State → State) (s s1 : State),
     s.authenticate ((s.sesAuth n).isSome || bitOn (s.profCfg (s.sesProfile n)) 12) (portIdentity (s.ownPort (s.sesPort n)))
       m tlvs = (s1, .bad xx) → s.sesMessage w n m tlvs f = s1.dropPassage w xx) ∧
   (∀ (w : Passage) (n : Nat) (m : List Octet) (tlvs : List (Nat × List Octet)) (f : State → State) (e : Option Nat) (s s1 : State),
     s.authenticate ((s.sesAuth n).isSome || bitOn (s.profCfg (s.sesProfile n)) 12) (portIdentity (s.ownPort (s.sesPort n)))
       m tlvs = (s1, .good e) → ((s1.passed w).tpeCount 1).rdN (Obj.SES_STATE n) ≠ 3 →
     s.sesMessage w n m tlvs f = f ((s1.passed w).tpeCount 1)) ∧
   (∀ (w : Passage) (n : Nat) (m : List Octet) (s : State), ptpType m = Ptp.SYNC →
     (ptpTwoStep m = false → State.sesSyncMessage w n m s =
       s.sesSync n ((timestampOf (slice m 34 10) * 65536 : Nat) + ptpCorrection m) w.stamp16) ∧
     (ptpTwoStep m = true → State.sesSyncMessage w n m s = s.setSession n
       { s.session n with waiting := some ⟨ptpSeq m, ptpCorrection m, w.stamp16, s.up48⟩ })) ∧
   (∀ (n : Nat) (t1 t2 path : Int) (s s1 : State), s1 = s.setSession n { s.session n with last := some (t1, t2), waiting := none } →
     (s1.recentPath n = none → s.sesSync n t1 t2 = s1) ∧
     (∀ (o : Int) (s2 : State), s1.recentPath n = some path → o = t2 - t1 - path - s1.rd (Obj.SES_ASYM n) →
       s2 = (s1.wr (Obj.SES_OFFSET n) o).sesRun n →
       s.sesSync n t1 t2 = s2.measure (16 + n)
         { base48 := t2 * 2 ^ 32 - s2.lead48, ready48 := s2.base48, phase48 := ((-o * 2 ^ 32 : Int) : Rat) + s2.lead48 })) ∧
   (∀ (n seq : Nat) (m : List Octet) (t1 t2 t3 t4 : Int) (s : State), slice m 44 10 = portIdentity (s.ownPort (s.sesPort n)) →
     (s.session n).request = some (seq, some t3) → (s.session n).last = some (t1, t2) → seq = ptpSeq m →
     t4 = (timestampOf (slice m 34 10) * 65536 : Nat) - ptpCorrection m →
     (State.sesDelayResp n m s).rd (Obj.SES_PATH_DELAY n) = truncDiv (t2 - t1 + (t4 - t3)) 2)) ∧
  ((∀ (n : Fin 4) (ty : Nat) (g g1 : SesGrant) (s s1 : State), s.sesOn n = true → s.sesUnicast n = true →
     s.nextRenewal n = some (ty, g) → s.runTo g.renew48 = some s1 → g1 = { g with renew48 := g.end48 } → exec (.sesGrantRenew n) s =
       .next (((s1.setSession n { s1.session n with grants := SMap.ins ty g1 (s1.session n).grants }).sesRequest n [ty]).watched s).settle) ∧
   (∀ (n : Fin 4) (t : Nat) (s s1 : State), earliest (s.session n).retry48 = some t →
     s.runTo (max t (s.freeFrom (s.sesPipeline n))) = some s1 →
     (s1.sesOn n = true → s1.sesUnicast n = true → s1.rdN (Obj.SES_STATE n) ≠ 3 → exec (.sesRetry n) s =
       .next ((s1.sesRequest n (typesBy (s1.session n).retry48 s1.up48)).watched s).settle) ∧
     (s1.sesOn n = false ∨ s1.sesUnicast n = false → exec (.sesRetry n) s = .next s1.settle)) ∧
   (∀ (n : Fin 4) (t : Nat) (s s1 : State) (l : List Nat), earliest (s.session n).asked48 = some t →
     s.runTo (t + sec48) = some s1 → l = typesBy (s1.session n).asked48 (s1.up48 - sec48) →
     exec (.sesReplyTimeout n) s = .next (s1.setSession n { s1.session n with
       asked48 := without (s1.session n).asked48 l,
       retry48 := stampAll (s1.session n).retry48 l (s1.up48 + 10 * sec48) }).settle) ∧
   (∀ (n : Fin 4) (y : WaitingSync) (s s1 : State), (s.session n).waiting = some y → s.runTo (y.at48 + sec48) = some s1 →
     exec (.sesFollowUpTimeout n) s = .next (s1.setSession n { s1.session n with waiting := none }).settle) ∧
   (∀ (n : Fin 4) (log : Int) (s s1 s2 : State) (seq : Nat), s.sesDelayLog n = some log →
     s.runTo (max ((s.session n).dreqAt48 + period48 log) (s.freeFrom (s.sesPipeline n))) = some s1 →
     seq = ((s1.session n).dreqSeq + 1) % 65536 →
     s2 = s1.setSession n { s1.session n with dreqAt48 := s1.up48, dreqSeq := seq, request := some (seq, none) } →
     (s1.sesServed = true → s1.sesRoom n = true → exec (.sesDelayReqSend n) s =
       .next ((s2.sesSend n (.delayReq n seq) true 44 fun dep48 =>
         ptpMessage Ptp.DELAY_REQ (s1.rdN (Obj.PROF_DOMAIN (s1.sesProfile n)))
           (s1.flagField (s1.sesPort n) (s1.sesUnicast n) (dep48 / ns48)) 0 (s1.ownPort (s1.sesPort n)) seq log
           (ptpTimestamp (dep48 / ns48))).watched s).settle) ∧
     (s1.sesServed = false → exec (.sesDelayReqSend n) s =
       .next (s1.setSession n { s1.session n with dreqAt48 := s1.up48 }).settle)) ∧
   (∀ (n : Fin 4) (s s1 : State) (r : List (Nat × Nat)), s.sesOn n = true → s.rdN (Obj.SES_STATE n) ≠ 3 →
     s.runTo (s.sesTimeoutAt n) = some s1 →
     r = (if s1.sesUnicast n && (s1.session n).retry48.isEmpty then stampAll [] sesTypes s1.up48 else (s1.session n).retry48) →
     exec (.sesTimeout n) s = .next ((((s1.wrN (Obj.SES_STATE n) 3).setSession n { s1.session n with retry48 := r }).cond
       (Src.SES_TIMEOUT n) true).slotLos (16 + n)).close) ∧
   (∀ (n dur : Nat) (b : List Octet) (s : State) (x : Session), dur = field b 2 4 →
     x = { s.session n with asked48 := without (s.session n).asked48 [field b 0 1 / 16] } →
     (dur = 0 → State.sesGrants n [(Tlv.GRANT, b)] s = s.setSession n { x with
       retry48 := stampAll x.retry48 [field b 0 1 / 16] (s.up48 + 10 * sec48) }) ∧
     (dur ≠ 0 → State.sesGrants n [(Tlv.GRANT, b)] s = s.setSession n { x with
       grants := SMap.ins (field b 0 1 / 16) {
         end48 := s.up48 + dur * sec48, log := fieldInt b 1 1,
         renew48 := s.up48 + dur * sec48 * 3 / 4 } x.grants,
       retry48 := without x.retry48 [field b 0 1 / 16] })) ∧
   (∀ (n : Nat) (s : State), s.sesTimeoutAt n ≤ (s.session n).measured48 + ms48 (s.rdN (Obj.SES_TIMEOUT n))))
end

