-- ==== Sys2Proof/Laws/Bits.lean ====
section
/-! SUPPORT. What the bit operations do to each bit of a word. -/

namespace Sys2Proof.Machine
theorem bitOn_eq_testBit (w k : Nat) : bitOn w k = w.testBit k := by
  simp [bitOn, Nat.testBit, Nat.shiftRight_eq_div_pow]

theorem bit_split (w k : Nat) (h : bitOn w k = false) :
    w = 2 ^ (k + 1) * (w / 2 ^ (k + 1)) + w % 2 ^ k ∧ w + 2 ^ k = 2 ^ (k + 1) * (w / 2 ^ (k + 1)) + (2 ^ k + w % 2 ^ k) := by
  have h0 : w / 2 ^ k % 2 = 0 := by simpa [bitOn] using h
  have h1 : w = 2 ^ k * (w / 2 ^ k) + w % 2 ^ k := (Nat.div_add_mod _ _).symm
  have h2 : w / 2 ^ k = 2 * (w / 2 ^ (k + 1)) := by
    rw [Nat.pow_succ, ← Nat.div_div_eq_div_mul]; omega
  have h3 : w = 2 ^ (k + 1) * (w / 2 ^ (k + 1)) + w % 2 ^ k := by
    rw [Nat.pow_succ, Nat.mul_assoc, ← Nat.pow_succ, ← h2]; exact h1
  refine ⟨h3, ?_⟩
  omega

theorem bitOn_add (w k j : Nat) (h : bitOn w k = false) : bitOn (w + 2 ^ k) j = (bitOn w j || j == k) := by
  obtain ⟨h1, h2⟩ := bit_split w k h
  have hl : w % 2 ^ k < 2 ^ k := Nat.mod_lt _ (Nat.two_pow_pos k)
  have e : 2 ^ (k + 1) = 2 ^ k + 2 ^ k := by rw [Nat.pow_succ]; omega
  rw [bitOn_eq_testBit, bitOn_eq_testBit, h2]
  conv => rhs; rw [h1]
  rw [Nat.testBit_two_pow_mul_add _ (by omega), Nat.testBit_two_pow_mul_add _ (by omega)]
  by_cases hj : j < k + 1
  · simp only [hj, if_true]
    by_cases hk : j = k
    · subst hk; rw [Nat.testBit_two_pow_add_eq, Nat.testBit_lt_two_pow hl]; simp
    · rw [Nat.testBit_two_pow_add_gt (by omega)]; simp [hk]
  · simp only [hj, if_false]
    have : (j == k) = false := by simp; omega
    simp [this]

/-- The bits of a word with one bit set. -/
@[simp] theorem bitOn_setBit (w k j : Nat) : bitOn (setBit w k) j = (bitOn w j || j == k) := by
  unfold setBit
  cases h : bitOn w k
  · simpa using bitOn_add w k j h
  · by_cases hj : j = k
    · subst hj; simp [h]
    · simp [hj]

/-- The bits of a word with one bit clear. -/
@[simp] theorem bitOn_clearBit (w k j : Nat) : bitOn (clearBit w k) j = (bitOn w j && j != k) := by
  unfold clearBit
  cases h : bitOn w k
  · by_cases hj : j = k
    · subst hj; simp [h]
    · simp [hj]
  · have hge : 2 ^ k ≤ w := by
      rw [bitOn_eq_testBit] at h; exact Nat.ge_two_pow_of_testBit h
    have hw : w = (w - 2 ^ k) + 2 ^ k := by omega
    have h0 : bitOn (w - 2 ^ k) k = false := by
      have : bitOn ((w - 2 ^ k) + 2 ^ k) k = true := by rw [← hw]; exact h
      unfold bitOn at this ⊢
      rw [Nat.add_div_right _ (Nat.two_pow_pos k)] at this
      simp at this ⊢; omega
    have := bitOn_add (w - 2 ^ k) k j h0
    rw [← hw] at this
    rw [this]
    by_cases hj : j = k
    · subst hj; simp [h0]
    · have e : (j == k) = false := by simp [hj]
      simp [e, bne]

/-- The bits of a word with one bit put. -/
@[simp] theorem bitOn_putBit (w k j : Nat) (b : Bool) : bitOn (putBit w k b) j = if j = k then b else bitOn w j := by
  unfold putBit
  cases b <;> by_cases hj : j = k <;> simp [hj]

theorem bitOn_setBitsAt (w lo n v j : Nat) :
    bitOn (setBitsAt w lo n v) j = if j < lo then bitOn w j else if j < lo + n then bitOn v (j - lo) else bitOn w j := by
  have e : setBitsAt w lo n v = 2 ^ (lo + n) * (w / 2 ^ (lo + n)) + (2 ^ lo * (v % 2 ^ n) + w % 2 ^ lo) := by
    unfold setBitsAt; rw [Nat.mul_comm (w / _), Nat.mul_comm (v % _)]; omega
  have h1 : w % 2 ^ lo < 2 ^ lo := Nat.mod_lt _ (Nat.two_pow_pos _)
  have h2 : v % 2 ^ n < 2 ^ n := Nat.mod_lt _ (Nat.two_pow_pos _)
  have h3 : 2 ^ lo * (v % 2 ^ n) + w % 2 ^ lo < 2 ^ (lo + n) := by
    rw [Nat.pow_add]
    calc _ < 2 ^ lo * (v % 2 ^ n) + 2 ^ lo := by omega
      _ = 2 ^ lo * (v % 2 ^ n + 1) := (Nat.mul_succ _ _).symm
      _ ≤ 2 ^ lo * 2 ^ n := Nat.mul_le_mul_left _ h2
  simp only [bitOn_eq_testBit]
  rw [e, Nat.testBit_two_pow_mul_add _ h3, Nat.testBit_two_pow_mul_add _ h1]
  by_cases hj : j < lo
  · have : j < lo + n := by omega
    simp [hj, this, Nat.testBit_mod_two_pow]
  · by_cases hk : j < lo + n
    · have : j - lo < n := by omega
      simp [hj, hk, this, Nat.testBit_mod_two_pow]
    · simp only [hj, hk, if_false, Nat.testBit_div_two_pow]
      congr 1; omega
/-- A field reads what was put into it. -/
@[simp] theorem bitsAt_setBitsAt (w lo n v : Nat) : bitsAt (setBitsAt w lo n v) lo n = v % 2 ^ n := by
  unfold bitsAt setBitsAt
  have h1 : w % 2 ^ lo < 2 ^ lo := Nat.mod_lt _ (Nat.two_pow_pos _)
  have e : w / 2 ^ (lo + n) * 2 ^ (lo + n) + v % 2 ^ n * 2 ^ lo + w % 2 ^ lo =
      w % 2 ^ lo + 2 ^ lo * (v % 2 ^ n + 2 ^ n * (w / 2 ^ (lo + n))) := by
    rw [Nat.mul_add, ← Nat.mul_assoc, ← Nat.pow_add, Nat.mul_comm (2 ^ lo) (v % 2 ^ n),
      Nat.mul_comm (2 ^ (lo + n))]
    omega
  rw [e, Nat.add_mul_div_left _ _ (Nat.two_pow_pos _), Nat.div_eq_of_lt h1, Nat.zero_add, Nat.add_mul_mod_self_left,
    Nat.mod_mod]

/-- A hardware set sets its bit, and leaves every other sticky bit as it was (R14). -/
theorem bitOn_sqSet (w b j : Nat) (hj : j < 16) : bitOn (sqSet w b) j = (bitOn w j || j == b) := by
  unfold sqSet
  rw [bitOn_setBitsAt]
  simp [hj]

/-- A hardware set advances the sequence number (R14). -/
theorem seqOf_sqSet (w b : Nat) : seqOf (sqSet w b) = (seqOf w + 1) % 65536 := by
  unfold sqSet
  rw [show seqOf (setBitsAt (setBit w b) 16 16 (seqOf w + 1)) = (seqOf w + 1) % 65536 from bitsAt_setBitsAt _ _ _ _]

end Sys2Proof.Machine
end

