-- ==== Sys2Proof/Laws/Maps.lean ====
section
/-! SUPPORT. The sparse map: what a read finds after a write, and that every operation keeps its canonical form. -/

namespace Sys2Proof.Machine

variable {α : Type}

theorem SMap.get_ins_same (d v : α) (m : List (Nat × α)) (k : Nat) : SMap.get d (SMap.ins k v m) k = v := by
  induction m with
  | nil => simp [SMap.ins, SMap.get]
  | cons e m ih =>
    obtain ⟨k', v'⟩ := e
    unfold SMap.ins
    split
    · simp [SMap.get]
    · split
      · simp [SMap.get]
      · rename_i h
        simp [SMap.get, h, ih]

theorem SMap.get_ins_ne (d v : α) (m : List (Nat × α)) {k j : Nat} (h : j ≠ k) :
    SMap.get d (SMap.ins k v m) j = SMap.get d m j := by
  induction m with
  | nil => simp [SMap.ins, SMap.get, h]
  | cons e m ih =>
    obtain ⟨k', v'⟩ := e
    unfold SMap.ins
    split
    · simp [SMap.get, h]
    · split
      · rename_i h1 h2
        subst h2
        simp [SMap.get, h]
      · simp [SMap.get, ih]

theorem SMap.get_del_same (d : α) (m : List (Nat × α)) (k : Nat) : SMap.get d (SMap.del k m) k = d := by
  induction m with
  | nil => rfl
  | cons e m ih =>
    obtain ⟨k', v'⟩ := e
    unfold SMap.del at ih ⊢
    rw [List.filter_cons]
    split
    · rename_i h
      have : k ≠ k' := by intro e; simp [e] at h
      simp [SMap.get, this, ih]
    · exact ih

theorem SMap.get_del_ne (d : α) (m : List (Nat × α)) {k j : Nat} (h : j ≠ k) :
    SMap.get d (SMap.del k m) j = SMap.get d m j := by
  induction m with
  | nil => rfl
  | cons e m ih =>
    obtain ⟨k', v'⟩ := e
    unfold SMap.del at ih ⊢
    rw [List.filter_cons]
    split
    · simp [SMap.get, ih]
    · rename_i hk
      have : k' = k := by simpa using hk
      subst this
      simp [SMap.get, h, ih]

variable [DecidableEq α]

@[simp] theorem SMap.get_put_same (d v : α) (m : List (Nat × α)) (k : Nat) : SMap.get d (SMap.put d m k v) k = v := by
  unfold SMap.put
  split
  · rename_i h; rw [SMap.get_del_same, h]
  · exact SMap.get_ins_same d v m k

theorem SMap.get_put_ne (d v : α) (m : List (Nat × α)) {k j : Nat} (h : j ≠ k) (d' : α) :
    SMap.get d' (SMap.put d m k v) j = SMap.get d' m j := by
  unfold SMap.put
  split
  · exact SMap.get_del_ne d' m h
  · exact SMap.get_ins_ne d' v m h

/-- A map is strictly above a key. -/
def SMap.above (k : Nat) : List (Nat × α) → Prop
  | [] => True
  | (k', _) :: _ => k < k'

omit [DecidableEq α] in
theorem SMap.sorted_cons (k : Nat) (v : α) (m : List (Nat × α)) :
    SMap.sorted ((k, v) :: m) = true ↔ SMap.above k m ∧ SMap.sorted m = true := by
  cases m with
  | nil => simp [SMap.sorted, SMap.above]
  | cons e m => simp [SMap.sorted, SMap.above]

omit [DecidableEq α] in
theorem SMap.sorted_lt {k : Nat} {v : α} {m : List (Nat × α)} (h : SMap.sorted ((k, v) :: m) = true) :
    ∀ e ∈ m, k < e.1 := by
  induction m generalizing k v with
  | nil => simp
  | cons e m ih =>
    obtain ⟨k', v'⟩ := e
    have h1 := (SMap.sorted_cons k v _).1 h
    intro x hx
    rcases List.mem_cons.1 hx with rfl | hx
    · exact h1.1
    · exact Nat.lt_trans h1.1 (ih h1.2 x hx)

omit [DecidableEq α] in
theorem SMap.above_ins {k j : Nat} {v : α} {m : List (Nat × α)} (h : k < j) (hm : SMap.above k m) :
    SMap.above k (SMap.ins j v m) := by
  cases m with
  | nil => exact h
  | cons e m =>
    obtain ⟨k', v'⟩ := e
    unfold SMap.ins
    split
    · exact h
    · split
      · exact h
      · exact hm

omit [DecidableEq α] in
theorem SMap.sorted_ins (k : Nat) (v : α) (m : List (Nat × α)) (h : SMap.sorted m = true) :
    SMap.sorted (SMap.ins k v m) = true := by
  induction m with
  | nil => rfl
  | cons e m ih =>
    obtain ⟨k', v'⟩ := e
    have hm := (SMap.sorted_cons k' v' m).1 h
    unfold SMap.ins
    split
    · rename_i hk; exact (SMap.sorted_cons _ _ _).2 ⟨hk, h⟩
    · split
      · rename_i hk; subst hk; exact (SMap.sorted_cons _ _ _).2 hm
      · rename_i h1 h2
        exact (SMap.sorted_cons _ _ _).2 ⟨SMap.above_ins (by omega) hm.1, ih hm.2⟩

omit [DecidableEq α] in
theorem SMap.sorted_del (k : Nat) (m : List (Nat × α)) (h : SMap.sorted m = true) : SMap.sorted (SMap.del k m) = true := by
  induction m with
  | nil => rfl
  | cons e m ih =>
    obtain ⟨k', v'⟩ := e
    have hm := (SMap.sorted_cons k' v' m).1 h
    have hl := SMap.sorted_lt h
    unfold SMap.del at ih ⊢
    rw [List.filter_cons]
    split
    · refine (SMap.sorted_cons _ _ _).2 ⟨?_, ih hm.2⟩
      generalize hf : m.filter (fun e => e.1 != k) = f
      cases f with
      | nil => trivial
      | cons x f =>
        have : x ∈ m.filter (fun e => e.1 != k) := by rw [hf]; exact List.mem_cons_self
        exact hl x (List.mem_filter.1 this).1
    · exact ih hm.2

/-- A write keeps the keys rising. -/
theorem SMap.sorted_put (d : α) (m : List (Nat × α)) (k : Nat) (v : α) (h : SMap.sorted m = true) :
    SMap.sorted (SMap.put d m k v) = true := by
  unfold SMap.put
  split
  · exact SMap.sorted_del k m h
  · exact SMap.sorted_ins k v m h

/-- Writing what an unlisted key reads as removes the entry, so equal maps are equal lists. -/
theorem SMap.put_default (d : α) (m : List (Nat × α)) (k : Nat) : ∀ e ∈ SMap.put d m k d, e.1 ≠ k := by
  intro e he
  simp only [SMap.put, SMap.del] at he
  simpa using (List.mem_filter.1 he).2

end Sys2Proof.Machine
end

