-- ==== Sys2Proof/Laws/State.lean ====
section
/-! SUPPORT. What each update of the state leaves alone: one lemma for each field that it does not write. -/

namespace Sys2Proof.Machine

@[simp] theorem State.wr_pending (a0 : State) (a1 : Reg) (a2 : Int) : (State.wr a0 a1 a2).pending = a0.pending := rfl
@[simp] theorem State.wr_ctl (a0 : State) (a1 : Reg) (a2 : Int) : (State.wr a0 a1 a2).ctl = a0.ctl := rfl
@[simp] theorem State.wr_clk (a0 : State) (a1 : Reg) (a2 : Int) : (State.wr a0 a1 a2).clk = a0.clk := rfl
@[simp] theorem State.wr_snap (a0 : State) (a1 : Reg) (a2 : Int) : (State.wr a0 a1 a2).snap = a0.snap := rfl
@[simp] theorem State.wr_aon (a0 : State) (a1 : Reg) (a2 : Int) : (State.wr a0 a1 a2).aon = a0.aon := rfl
@[simp] theorem State.wr_jtag (a0 : State) (a1 : Reg) (a2 : Int) : (State.wr a0 a1 a2).jtag = a0.jtag := rfl
@[simp] theorem State.wr_tr (a0 : State) (a1 : Reg) (a2 : Int) : (State.wr a0 a1 a2).tr = a0.tr := rfl
@[simp] theorem State.wr_ks (a0 : State) (a1 : Reg) (a2 : Int) : (State.wr a0 a1 a2).ks = a0.ks := rfl
@[simp] theorem State.wr_hd (a0 : State) (a1 : Reg) (a2 : Int) : (State.wr a0 a1 a2).hd = a0.hd := rfl
@[simp] theorem State.wr_utc (a0 : State) (a1 : Reg) (a2 : Int) : (State.wr a0 a1 a2).utc = a0.utc := rfl
@[simp] theorem State.wr_sl (a0 : State) (a1 : Reg) (a2 : Int) : (State.wr a0 a1 a2).sl = a0.sl := rfl
@[simp] theorem State.wr_syn (a0 : State) (a1 : Reg) (a2 : Int) : (State.wr a0 a1 a2).syn = a0.syn := rfl
@[simp] theorem State.wr_ev (a0 : State) (a1 : Reg) (a2 : Int) : (State.wr a0 a1 a2).ev = a0.ev := rfl
@[simp] theorem State.wr_teb (a0 : State) (a1 : Reg) (a2 : Int) : (State.wr a0 a1 a2).teb = a0.teb := rfl
@[simp] theorem State.wr_gn (a0 : State) (a1 : Reg) (a2 : Int) : (State.wr a0 a1 a2).gn = a0.gn := rfl
@[simp] theorem State.wr_net (a0 : State) (a1 : Reg) (a2 : Int) : (State.wr a0 a1 a2).net = a0.net := rfl
@[simp] theorem State.wr_tpe (a0 : State) (a1 : Reg) (a2 : Int) : (State.wr a0 a1 a2).tpe = a0.tpe := rfl
@[simp] theorem State.wr_bw (a0 : State) (a1 : Reg) (a2 : Int) : (State.wr a0 a1 a2).bw = a0.bw := rfl
@[simp] theorem State.wrN_pending (a0 : State) (a1 : Reg) (a2 : Nat) : (State.wrN a0 a1 a2).pending = a0.pending := rfl
@[simp] theorem State.wrN_ctl (a0 : State) (a1 : Reg) (a2 : Nat) : (State.wrN a0 a1 a2).ctl = a0.ctl := rfl
@[simp] theorem State.wrN_clk (a0 : State) (a1 : Reg) (a2 : Nat) : (State.wrN a0 a1 a2).clk = a0.clk := rfl
@[simp] theorem State.wrN_snap (a0 : State) (a1 : Reg) (a2 : Nat) : (State.wrN a0 a1 a2).snap = a0.snap := rfl
@[simp] theorem State.wrN_aon (a0 : State) (a1 : Reg) (a2 : Nat) : (State.wrN a0 a1 a2).aon = a0.aon := rfl
@[simp] theorem State.wrN_jtag (a0 : State) (a1 : Reg) (a2 : Nat) : (State.wrN a0 a1 a2).jtag = a0.jtag := rfl
@[simp] theorem State.wrN_tr (a0 : State) (a1 : Reg) (a2 : Nat) : (State.wrN a0 a1 a2).tr = a0.tr := rfl
@[simp] theorem State.wrN_ks (a0 : State) (a1 : Reg) (a2 : Nat) : (State.wrN a0 a1 a2).ks = a0.ks := rfl
@[simp] theorem State.wrN_hd (a0 : State) (a1 : Reg) (a2 : Nat) : (State.wrN a0 a1 a2).hd = a0.hd := rfl
@[simp] theorem State.wrN_utc (a0 : State) (a1 : Reg) (a2 : Nat) : (State.wrN a0 a1 a2).utc = a0.utc := rfl
@[simp] theorem State.wrN_sl (a0 : State) (a1 : Reg) (a2 : Nat) : (State.wrN a0 a1 a2).sl = a0.sl := rfl
@[simp] theorem State.wrN_syn (a0 : State) (a1 : Reg) (a2 : Nat) : (State.wrN a0 a1 a2).syn = a0.syn := rfl
@[simp] theorem State.wrN_ev (a0 : State) (a1 : Reg) (a2 : Nat) : (State.wrN a0 a1 a2).ev = a0.ev := rfl
@[simp] theorem State.wrN_teb (a0 : State) (a1 : Reg) (a2 : Nat) : (State.wrN a0 a1 a2).teb = a0.teb := rfl
@[simp] theorem State.wrN_gn (a0 : State) (a1 : Reg) (a2 : Nat) : (State.wrN a0 a1 a2).gn = a0.gn := rfl
@[simp] theorem State.wrN_net (a0 : State) (a1 : Reg) (a2 : Nat) : (State.wrN a0 a1 a2).net = a0.net := rfl
@[simp] theorem State.wrN_tpe (a0 : State) (a1 : Reg) (a2 : Nat) : (State.wrN a0 a1 a2).tpe = a0.tpe := rfl
@[simp] theorem State.wrN_bw (a0 : State) (a1 : Reg) (a2 : Nat) : (State.wrN a0 a1 a2).bw = a0.bw := rfl
@[simp] theorem State.wrBlob_pending (a0 : State) (a1 : List Octet) (a2 : Reg) (a3 : List Octet) : (State.wrBlob a0 a1 a2 a3).pending = a0.pending := rfl
@[simp] theorem State.wrBlob_ctl (a0 : State) (a1 : List Octet) (a2 : Reg) (a3 : List Octet) : (State.wrBlob a0 a1 a2 a3).ctl = a0.ctl := rfl
@[simp] theorem State.wrBlob_clk (a0 : State) (a1 : List Octet) (a2 : Reg) (a3 : List Octet) : (State.wrBlob a0 a1 a2 a3).clk = a0.clk := rfl
@[simp] theorem State.wrBlob_snap (a0 : State) (a1 : List Octet) (a2 : Reg) (a3 : List Octet) : (State.wrBlob a0 a1 a2 a3).snap = a0.snap := rfl
@[simp] theorem State.wrBlob_aon (a0 : State) (a1 : List Octet) (a2 : Reg) (a3 : List Octet) : (State.wrBlob a0 a1 a2 a3).aon = a0.aon := rfl
@[simp] theorem State.wrBlob_jtag (a0 : State) (a1 : List Octet) (a2 : Reg) (a3 : List Octet) : (State.wrBlob a0 a1 a2 a3).jtag = a0.jtag := rfl
@[simp] theorem State.wrBlob_tr (a0 : State) (a1 : List Octet) (a2 : Reg) (a3 : List Octet) : (State.wrBlob a0 a1 a2 a3).tr = a0.tr := rfl
@[simp] theorem State.wrBlob_ks (a0 : State) (a1 : List Octet) (a2 : Reg) (a3 : List Octet) : (State.wrBlob a0 a1 a2 a3).ks = a0.ks := rfl
@[simp] theorem State.wrBlob_hd (a0 : State) (a1 : List Octet) (a2 : Reg) (a3 : List Octet) : (State.wrBlob a0 a1 a2 a3).hd = a0.hd := rfl
@[simp] theorem State.wrBlob_utc (a0 : State) (a1 : List Octet) (a2 : Reg) (a3 : List Octet) : (State.wrBlob a0 a1 a2 a3).utc = a0.utc := rfl
@[simp] theorem State.wrBlob_sl (a0 : State) (a1 : List Octet) (a2 : Reg) (a3 : List Octet) : (State.wrBlob a0 a1 a2 a3).sl = a0.sl := rfl
@[simp] theorem State.wrBlob_syn (a0 : State) (a1 : List Octet) (a2 : Reg) (a3 : List Octet) : (State.wrBlob a0 a1 a2 a3).syn = a0.syn := rfl
@[simp] theorem State.wrBlob_ev (a0 : State) (a1 : List Octet) (a2 : Reg) (a3 : List Octet) : (State.wrBlob a0 a1 a2 a3).ev = a0.ev := rfl
@[simp] theorem State.wrBlob_teb (a0 : State) (a1 : List Octet) (a2 : Reg) (a3 : List Octet) : (State.wrBlob a0 a1 a2 a3).teb = a0.teb := rfl
@[simp] theorem State.wrBlob_gn (a0 : State) (a1 : List Octet) (a2 : Reg) (a3 : List Octet) : (State.wrBlob a0 a1 a2 a3).gn = a0.gn := rfl
@[simp] theorem State.wrBlob_net (a0 : State) (a1 : List Octet) (a2 : Reg) (a3 : List Octet) : (State.wrBlob a0 a1 a2 a3).net = a0.net := rfl
@[simp] theorem State.wrBlob_tpe (a0 : State) (a1 : List Octet) (a2 : Reg) (a3 : List Octet) : (State.wrBlob a0 a1 a2 a3).tpe = a0.tpe := rfl
@[simp] theorem State.wrBlob_bw (a0 : State) (a1 : List Octet) (a2 : Reg) (a3 : List Octet) : (State.wrBlob a0 a1 a2 a3).bw = a0.bw := rfl
@[simp] theorem State.stick_pending (a0 : State) (a1 : Reg) (a2 : Nat) : (State.stick a0 a1 a2).pending = a0.pending := rfl
@[simp] theorem State.stick_ctl (a0 : State) (a1 : Reg) (a2 : Nat) : (State.stick a0 a1 a2).ctl = a0.ctl := rfl
@[simp] theorem State.stick_clk (a0 : State) (a1 : Reg) (a2 : Nat) : (State.stick a0 a1 a2).clk = a0.clk := rfl
@[simp] theorem State.stick_snap (a0 : State) (a1 : Reg) (a2 : Nat) : (State.stick a0 a1 a2).snap = a0.snap := rfl
@[simp] theorem State.stick_aon (a0 : State) (a1 : Reg) (a2 : Nat) : (State.stick a0 a1 a2).aon = a0.aon := rfl
@[simp] theorem State.stick_jtag (a0 : State) (a1 : Reg) (a2 : Nat) : (State.stick a0 a1 a2).jtag = a0.jtag := rfl
@[simp] theorem State.stick_tr (a0 : State) (a1 : Reg) (a2 : Nat) : (State.stick a0 a1 a2).tr = a0.tr := rfl
@[simp] theorem State.stick_ks (a0 : State) (a1 : Reg) (a2 : Nat) : (State.stick a0 a1 a2).ks = a0.ks := rfl
@[simp] theorem State.stick_hd (a0 : State) (a1 : Reg) (a2 : Nat) : (State.stick a0 a1 a2).hd = a0.hd := rfl
@[simp] theorem State.stick_utc (a0 : State) (a1 : Reg) (a2 : Nat) : (State.stick a0 a1 a2).utc = a0.utc := rfl
@[simp] theorem State.stick_sl (a0 : State) (a1 : Reg) (a2 : Nat) : (State.stick a0 a1 a2).sl = a0.sl := rfl
@[simp] theorem State.stick_syn (a0 : State) (a1 : Reg) (a2 : Nat) : (State.stick a0 a1 a2).syn = a0.syn := rfl
@[simp] theorem State.stick_ev (a0 : State) (a1 : Reg) (a2 : Nat) : (State.stick a0 a1 a2).ev = a0.ev := rfl
@[simp] theorem State.stick_teb (a0 : State) (a1 : Reg) (a2 : Nat) : (State.stick a0 a1 a2).teb = a0.teb := rfl
@[simp] theorem State.stick_gn (a0 : State) (a1 : Reg) (a2 : Nat) : (State.stick a0 a1 a2).gn = a0.gn := rfl
@[simp] theorem State.stick_net (a0 : State) (a1 : Reg) (a2 : Nat) : (State.stick a0 a1 a2).net = a0.net := rfl
@[simp] theorem State.stick_tpe (a0 : State) (a1 : Reg) (a2 : Nat) : (State.stick a0 a1 a2).tpe = a0.tpe := rfl
@[simp] theorem State.stick_bw (a0 : State) (a1 : Reg) (a2 : Nat) : (State.stick a0 a1 a2).bw = a0.bw := rfl
@[simp] theorem State.bump_pending (a0 : State) (a1 : Reg) : (State.bump a0 a1).pending = a0.pending := rfl
@[simp] theorem State.bump_ctl (a0 : State) (a1 : Reg) : (State.bump a0 a1).ctl = a0.ctl := rfl
@[simp] theorem State.bump_clk (a0 : State) (a1 : Reg) : (State.bump a0 a1).clk = a0.clk := rfl
@[simp] theorem State.bump_snap (a0 : State) (a1 : Reg) : (State.bump a0 a1).snap = a0.snap := rfl
@[simp] theorem State.bump_aon (a0 : State) (a1 : Reg) : (State.bump a0 a1).aon = a0.aon := rfl
@[simp] theorem State.bump_jtag (a0 : State) (a1 : Reg) : (State.bump a0 a1).jtag = a0.jtag := rfl
@[simp] theorem State.bump_tr (a0 : State) (a1 : Reg) : (State.bump a0 a1).tr = a0.tr := rfl
@[simp] theorem State.bump_ks (a0 : State) (a1 : Reg) : (State.bump a0 a1).ks = a0.ks := rfl
@[simp] theorem State.bump_hd (a0 : State) (a1 : Reg) : (State.bump a0 a1).hd = a0.hd := rfl
@[simp] theorem State.bump_utc (a0 : State) (a1 : Reg) : (State.bump a0 a1).utc = a0.utc := rfl
@[simp] theorem State.bump_sl (a0 : State) (a1 : Reg) : (State.bump a0 a1).sl = a0.sl := rfl
@[simp] theorem State.bump_syn (a0 : State) (a1 : Reg) : (State.bump a0 a1).syn = a0.syn := rfl
@[simp] theorem State.bump_ev (a0 : State) (a1 : Reg) : (State.bump a0 a1).ev = a0.ev := rfl
@[simp] theorem State.bump_teb (a0 : State) (a1 : Reg) : (State.bump a0 a1).teb = a0.teb := rfl
@[simp] theorem State.bump_gn (a0 : State) (a1 : Reg) : (State.bump a0 a1).gn = a0.gn := rfl
@[simp] theorem State.bump_net (a0 : State) (a1 : Reg) : (State.bump a0 a1).net = a0.net := rfl
@[simp] theorem State.bump_tpe (a0 : State) (a1 : Reg) : (State.bump a0 a1).tpe = a0.tpe := rfl
@[simp] theorem State.bump_bw (a0 : State) (a1 : Reg) : (State.bump a0 a1).bw = a0.bw := rfl
@[simp] theorem State.bumpSat_pending (a0 : State) (a1 : Nat) (a2 : Reg) : (State.bumpSat a0 a1 a2).pending = a0.pending := rfl
@[simp] theorem State.bumpSat_ctl (a0 : State) (a1 : Nat) (a2 : Reg) : (State.bumpSat a0 a1 a2).ctl = a0.ctl := rfl
@[simp] theorem State.bumpSat_clk (a0 : State) (a1 : Nat) (a2 : Reg) : (State.bumpSat a0 a1 a2).clk = a0.clk := rfl
@[simp] theorem State.bumpSat_snap (a0 : State) (a1 : Nat) (a2 : Reg) : (State.bumpSat a0 a1 a2).snap = a0.snap := rfl
@[simp] theorem State.bumpSat_aon (a0 : State) (a1 : Nat) (a2 : Reg) : (State.bumpSat a0 a1 a2).aon = a0.aon := rfl
@[simp] theorem State.bumpSat_jtag (a0 : State) (a1 : Nat) (a2 : Reg) : (State.bumpSat a0 a1 a2).jtag = a0.jtag := rfl
@[simp] theorem State.bumpSat_tr (a0 : State) (a1 : Nat) (a2 : Reg) : (State.bumpSat a0 a1 a2).tr = a0.tr := rfl
@[simp] theorem State.bumpSat_ks (a0 : State) (a1 : Nat) (a2 : Reg) : (State.bumpSat a0 a1 a2).ks = a0.ks := rfl
@[simp] theorem State.bumpSat_hd (a0 : State) (a1 : Nat) (a2 : Reg) : (State.bumpSat a0 a1 a2).hd = a0.hd := rfl
@[simp] theorem State.bumpSat_utc (a0 : State) (a1 : Nat) (a2 : Reg) : (State.bumpSat a0 a1 a2).utc = a0.utc := rfl
@[simp] theorem State.bumpSat_sl (a0 : State) (a1 : Nat) (a2 : Reg) : (State.bumpSat a0 a1 a2).sl = a0.sl := rfl
@[simp] theorem State.bumpSat_syn (a0 : State) (a1 : Nat) (a2 : Reg) : (State.bumpSat a0 a1 a2).syn = a0.syn := rfl
@[simp] theorem State.bumpSat_ev (a0 : State) (a1 : Nat) (a2 : Reg) : (State.bumpSat a0 a1 a2).ev = a0.ev := rfl
@[simp] theorem State.bumpSat_teb (a0 : State) (a1 : Nat) (a2 : Reg) : (State.bumpSat a0 a1 a2).teb = a0.teb := rfl
@[simp] theorem State.bumpSat_gn (a0 : State) (a1 : Nat) (a2 : Reg) : (State.bumpSat a0 a1 a2).gn = a0.gn := rfl
@[simp] theorem State.bumpSat_net (a0 : State) (a1 : Nat) (a2 : Reg) : (State.bumpSat a0 a1 a2).net = a0.net := rfl
@[simp] theorem State.bumpSat_tpe (a0 : State) (a1 : Nat) (a2 : Reg) : (State.bumpSat a0 a1 a2).tpe = a0.tpe := rfl
@[simp] theorem State.bumpSat_bw (a0 : State) (a1 : Nat) (a2 : Reg) : (State.bumpSat a0 a1 a2).bw = a0.bw := rfl
@[simp] theorem State.put_pending (a0 : State) (a1 : Due) : (State.put a0 a1).pending = a0.pending := rfl
@[simp] theorem State.put_ctl (a0 : State) (a1 : Due) : (State.put a0 a1).ctl = a0.ctl := rfl
@[simp] theorem State.put_clk (a0 : State) (a1 : Due) : (State.put a0 a1).clk = a0.clk := rfl
@[simp] theorem State.put_snap (a0 : State) (a1 : Due) : (State.put a0 a1).snap = a0.snap := rfl
@[simp] theorem State.put_aon (a0 : State) (a1 : Due) : (State.put a0 a1).aon = a0.aon := rfl
@[simp] theorem State.put_jtag (a0 : State) (a1 : Due) : (State.put a0 a1).jtag = a0.jtag := rfl
@[simp] theorem State.put_tr (a0 : State) (a1 : Due) : (State.put a0 a1).tr = a0.tr := rfl
@[simp] theorem State.put_ks (a0 : State) (a1 : Due) : (State.put a0 a1).ks = a0.ks := rfl
@[simp] theorem State.put_hd (a0 : State) (a1 : Due) : (State.put a0 a1).hd = a0.hd := rfl
@[simp] theorem State.put_utc (a0 : State) (a1 : Due) : (State.put a0 a1).utc = a0.utc := rfl
@[simp] theorem State.put_sl (a0 : State) (a1 : Due) : (State.put a0 a1).sl = a0.sl := rfl
@[simp] theorem State.put_syn (a0 : State) (a1 : Due) : (State.put a0 a1).syn = a0.syn := rfl
@[simp] theorem State.put_ev (a0 : State) (a1 : Due) : (State.put a0 a1).ev = a0.ev := rfl
@[simp] theorem State.put_teb (a0 : State) (a1 : Due) : (State.put a0 a1).teb = a0.teb := rfl
@[simp] theorem State.put_gn (a0 : State) (a1 : Due) : (State.put a0 a1).gn = a0.gn := rfl
@[simp] theorem State.put_net (a0 : State) (a1 : Due) : (State.put a0 a1).net = a0.net := rfl
@[simp] theorem State.put_tpe (a0 : State) (a1 : Due) : (State.put a0 a1).tpe = a0.tpe := rfl
@[simp] theorem State.put_bw (a0 : State) (a1 : Due) : (State.put a0 a1).bw = a0.bw := rfl
@[simp] theorem State.raise_pending (a0 : State) (a1 : Nat) : (State.raise a0 a1).pending = a0.pending := rfl
@[simp] theorem State.raise_ctl (a0 : State) (a1 : Nat) : (State.raise a0 a1).ctl = a0.ctl := rfl
@[simp] theorem State.raise_clk (a0 : State) (a1 : Nat) : (State.raise a0 a1).clk = a0.clk := rfl
@[simp] theorem State.raise_snap (a0 : State) (a1 : Nat) : (State.raise a0 a1).snap = a0.snap := rfl
@[simp] theorem State.raise_aon (a0 : State) (a1 : Nat) : (State.raise a0 a1).aon = a0.aon := rfl
@[simp] theorem State.raise_jtag (a0 : State) (a1 : Nat) : (State.raise a0 a1).jtag = a0.jtag := rfl
@[simp] theorem State.raise_tr (a0 : State) (a1 : Nat) : (State.raise a0 a1).tr = a0.tr := rfl
@[simp] theorem State.raise_ks (a0 : State) (a1 : Nat) : (State.raise a0 a1).ks = a0.ks := rfl
@[simp] theorem State.raise_hd (a0 : State) (a1 : Nat) : (State.raise a0 a1).hd = a0.hd := rfl
@[simp] theorem State.raise_utc (a0 : State) (a1 : Nat) : (State.raise a0 a1).utc = a0.utc := rfl
@[simp] theorem State.raise_sl (a0 : State) (a1 : Nat) : (State.raise a0 a1).sl = a0.sl := rfl
@[simp] theorem State.raise_syn (a0 : State) (a1 : Nat) : (State.raise a0 a1).syn = a0.syn := rfl
@[simp] theorem State.raise_ev (a0 : State) (a1 : Nat) : (State.raise a0 a1).ev = a0.ev := rfl
@[simp] theorem State.raise_teb (a0 : State) (a1 : Nat) : (State.raise a0 a1).teb = a0.teb := rfl
@[simp] theorem State.raise_gn (a0 : State) (a1 : Nat) : (State.raise a0 a1).gn = a0.gn := rfl
@[simp] theorem State.raise_net (a0 : State) (a1 : Nat) : (State.raise a0 a1).net = a0.net := rfl
@[simp] theorem State.raise_tpe (a0 : State) (a1 : Nat) : (State.raise a0 a1).tpe = a0.tpe := rfl
@[simp] theorem State.raise_bw (a0 : State) (a1 : Nat) : (State.raise a0 a1).bw = a0.bw := rfl
@[simp] theorem State.causes_pending (a0 : State) (a1 : Nat) : (State.causes a0 a1).pending = a0.pending := rfl
@[simp] theorem State.causes_ctl (a0 : State) (a1 : Nat) : (State.causes a0 a1).ctl = a0.ctl := rfl
@[simp] theorem State.causes_clk (a0 : State) (a1 : Nat) : (State.causes a0 a1).clk = a0.clk := rfl
@[simp] theorem State.causes_snap (a0 : State) (a1 : Nat) : (State.causes a0 a1).snap = a0.snap := rfl
@[simp] theorem State.causes_aon (a0 : State) (a1 : Nat) : (State.causes a0 a1).aon = a0.aon := rfl
@[simp] theorem State.causes_jtag (a0 : State) (a1 : Nat) : (State.causes a0 a1).jtag = a0.jtag := rfl
@[simp] theorem State.causes_tr (a0 : State) (a1 : Nat) : (State.causes a0 a1).tr = a0.tr := rfl
@[simp] theorem State.causes_ks (a0 : State) (a1 : Nat) : (State.causes a0 a1).ks = a0.ks := rfl
@[simp] theorem State.causes_hd (a0 : State) (a1 : Nat) : (State.causes a0 a1).hd = a0.hd := rfl
@[simp] theorem State.causes_utc (a0 : State) (a1 : Nat) : (State.causes a0 a1).utc = a0.utc := rfl
@[simp] theorem State.causes_sl (a0 : State) (a1 : Nat) : (State.causes a0 a1).sl = a0.sl := rfl
@[simp] theorem State.causes_syn (a0 : State) (a1 : Nat) : (State.causes a0 a1).syn = a0.syn := rfl
@[simp] theorem State.causes_ev (a0 : State) (a1 : Nat) : (State.causes a0 a1).ev = a0.ev := rfl
@[simp] theorem State.causes_teb (a0 : State) (a1 : Nat) : (State.causes a0 a1).teb = a0.teb := rfl
@[simp] theorem State.causes_gn (a0 : State) (a1 : Nat) : (State.causes a0 a1).gn = a0.gn := rfl
@[simp] theorem State.causes_net (a0 : State) (a1 : Nat) : (State.causes a0 a1).net = a0.net := rfl
@[simp] theorem State.causes_tpe (a0 : State) (a1 : Nat) : (State.causes a0 a1).tpe = a0.tpe := rfl
@[simp] theorem State.causes_bw (a0 : State) (a1 : Nat) : (State.causes a0 a1).bw = a0.bw := rfl
@[simp] theorem State.setRing_pending (a0 : State) (a1 : Nat) (a2 : Ring) : (State.setRing a0 a1 a2).pending = a0.pending := rfl
@[simp] theorem State.setRing_ctl (a0 : State) (a1 : Nat) (a2 : Ring) : (State.setRing a0 a1 a2).ctl = a0.ctl := rfl
@[simp] theorem State.setRing_clk (a0 : State) (a1 : Nat) (a2 : Ring) : (State.setRing a0 a1 a2).clk = a0.clk := rfl
@[simp] theorem State.setRing_snap (a0 : State) (a1 : Nat) (a2 : Ring) : (State.setRing a0 a1 a2).snap = a0.snap := rfl
@[simp] theorem State.setRing_aon (a0 : State) (a1 : Nat) (a2 : Ring) : (State.setRing a0 a1 a2).aon = a0.aon := rfl
@[simp] theorem State.setRing_jtag (a0 : State) (a1 : Nat) (a2 : Ring) : (State.setRing a0 a1 a2).jtag = a0.jtag := rfl
@[simp] theorem State.setRing_tr (a0 : State) (a1 : Nat) (a2 : Ring) : (State.setRing a0 a1 a2).tr = a0.tr := rfl
@[simp] theorem State.setRing_ks (a0 : State) (a1 : Nat) (a2 : Ring) : (State.setRing a0 a1 a2).ks = a0.ks := rfl
@[simp] theorem State.setRing_hd (a0 : State) (a1 : Nat) (a2 : Ring) : (State.setRing a0 a1 a2).hd = a0.hd := rfl
@[simp] theorem State.setRing_utc (a0 : State) (a1 : Nat) (a2 : Ring) : (State.setRing a0 a1 a2).utc = a0.utc := rfl
@[simp] theorem State.setRing_sl (a0 : State) (a1 : Nat) (a2 : Ring) : (State.setRing a0 a1 a2).sl = a0.sl := rfl
@[simp] theorem State.setRing_syn (a0 : State) (a1 : Nat) (a2 : Ring) : (State.setRing a0 a1 a2).syn = a0.syn := rfl
@[simp] theorem State.setRing_ev (a0 : State) (a1 : Nat) (a2 : Ring) : (State.setRing a0 a1 a2).ev = a0.ev := rfl
@[simp] theorem State.setRing_teb (a0 : State) (a1 : Nat) (a2 : Ring) : (State.setRing a0 a1 a2).teb = a0.teb := rfl
@[simp] theorem State.setRing_gn (a0 : State) (a1 : Nat) (a2 : Ring) : (State.setRing a0 a1 a2).gn = a0.gn := rfl
@[simp] theorem State.setRing_net (a0 : State) (a1 : Nat) (a2 : Ring) : (State.setRing a0 a1 a2).net = a0.net := rfl
@[simp] theorem State.setRing_tpe (a0 : State) (a1 : Nat) (a2 : Ring) : (State.setRing a0 a1 a2).tpe = a0.tpe := rfl
@[simp] theorem State.setRing_bw (a0 : State) (a1 : Nat) (a2 : Ring) : (State.setRing a0 a1 a2).bw = a0.bw := rfl
@[simp] theorem State.emit_pending (a0 : State) (a1 : Emission) : (State.emit a0 a1).pending = a0.pending := rfl
@[simp] theorem State.emit_ctl (a0 : State) (a1 : Emission) : (State.emit a0 a1).ctl = a0.ctl := rfl
@[simp] theorem State.emit_clk (a0 : State) (a1 : Emission) : (State.emit a0 a1).clk = a0.clk := rfl
@[simp] theorem State.emit_snap (a0 : State) (a1 : Emission) : (State.emit a0 a1).snap = a0.snap := rfl
@[simp] theorem State.emit_aon (a0 : State) (a1 : Emission) : (State.emit a0 a1).aon = a0.aon := rfl
@[simp] theorem State.emit_jtag (a0 : State) (a1 : Emission) : (State.emit a0 a1).jtag = a0.jtag := rfl
@[simp] theorem State.emit_tr (a0 : State) (a1 : Emission) : (State.emit a0 a1).tr = a0.tr := rfl
@[simp] theorem State.emit_ks (a0 : State) (a1 : Emission) : (State.emit a0 a1).ks = a0.ks := rfl
@[simp] theorem State.emit_hd (a0 : State) (a1 : Emission) : (State.emit a0 a1).hd = a0.hd := rfl
@[simp] theorem State.emit_utc (a0 : State) (a1 : Emission) : (State.emit a0 a1).utc = a0.utc := rfl
@[simp] theorem State.emit_sl (a0 : State) (a1 : Emission) : (State.emit a0 a1).sl = a0.sl := rfl
@[simp] theorem State.emit_syn (a0 : State) (a1 : Emission) : (State.emit a0 a1).syn = a0.syn := rfl
@[simp] theorem State.emit_ev (a0 : State) (a1 : Emission) : (State.emit a0 a1).ev = a0.ev := rfl
@[simp] theorem State.emit_teb (a0 : State) (a1 : Emission) : (State.emit a0 a1).teb = a0.teb := rfl
@[simp] theorem State.emit_gn (a0 : State) (a1 : Emission) : (State.emit a0 a1).gn = a0.gn := rfl
@[simp] theorem State.emit_net (a0 : State) (a1 : Emission) : (State.emit a0 a1).net = a0.net := rfl
@[simp] theorem State.emit_tpe (a0 : State) (a1 : Emission) : (State.emit a0 a1).tpe = a0.tpe := rfl
@[simp] theorem State.emit_bw (a0 : State) (a1 : Emission) : (State.emit a0 a1).bw = a0.bw := rfl
@[simp] theorem State.setSub_pending (a0 : State) (a1 : Subscription) : (State.setSub a0 a1).pending = a0.pending := rfl
@[simp] theorem State.setSub_ctl (a0 : State) (a1 : Subscription) : (State.setSub a0 a1).ctl = a0.ctl := rfl
@[simp] theorem State.setSub_clk (a0 : State) (a1 : Subscription) : (State.setSub a0 a1).clk = a0.clk := rfl
@[simp] theorem State.setSub_snap (a0 : State) (a1 : Subscription) : (State.setSub a0 a1).snap = a0.snap := rfl
@[simp] theorem State.setSub_aon (a0 : State) (a1 : Subscription) : (State.setSub a0 a1).aon = a0.aon := rfl
@[simp] theorem State.setSub_jtag (a0 : State) (a1 : Subscription) : (State.setSub a0 a1).jtag = a0.jtag := rfl
@[simp] theorem State.setSub_tr (a0 : State) (a1 : Subscription) : (State.setSub a0 a1).tr = a0.tr := rfl
@[simp] theorem State.setSub_ks (a0 : State) (a1 : Subscription) : (State.setSub a0 a1).ks = a0.ks := rfl
@[simp] theorem State.setSub_hd (a0 : State) (a1 : Subscription) : (State.setSub a0 a1).hd = a0.hd := rfl
@[simp] theorem State.setSub_utc (a0 : State) (a1 : Subscription) : (State.setSub a0 a1).utc = a0.utc := rfl
@[simp] theorem State.setSub_sl (a0 : State) (a1 : Subscription) : (State.setSub a0 a1).sl = a0.sl := rfl
@[simp] theorem State.setSub_syn (a0 : State) (a1 : Subscription) : (State.setSub a0 a1).syn = a0.syn := rfl
@[simp] theorem State.setSub_ev (a0 : State) (a1 : Subscription) : (State.setSub a0 a1).ev = a0.ev := rfl
@[simp] theorem State.setSub_teb (a0 : State) (a1 : Subscription) : (State.setSub a0 a1).teb = a0.teb := rfl
@[simp] theorem State.setSub_gn (a0 : State) (a1 : Subscription) : (State.setSub a0 a1).gn = a0.gn := rfl
@[simp] theorem State.setSub_net (a0 : State) (a1 : Subscription) : (State.setSub a0 a1).net = a0.net := rfl
@[simp] theorem State.setSub_tpe (a0 : State) (a1 : Subscription) : (State.setSub a0 a1).tpe = a0.tpe := rfl
@[simp] theorem State.setSub_bw (a0 : State) (a1 : Subscription) : (State.setSub a0 a1).bw = a0.bw := rfl
@[simp] theorem State.setFp_pending (a0 : State) (a1 : Nat) (a2 : FieldPort) : (State.setFp a0 a1 a2).pending = a0.pending := rfl
@[simp] theorem State.setFp_book (a0 : State) (a1 : Nat) (a2 : FieldPort) : (State.setFp a0 a1 a2).book = a0.book := rfl
@[simp] theorem State.setFp_ctl (a0 : State) (a1 : Nat) (a2 : FieldPort) : (State.setFp a0 a1 a2).ctl = a0.ctl := rfl
@[simp] theorem State.setFp_clk (a0 : State) (a1 : Nat) (a2 : FieldPort) : (State.setFp a0 a1 a2).clk = a0.clk := rfl
@[simp] theorem State.setFp_snap (a0 : State) (a1 : Nat) (a2 : FieldPort) : (State.setFp a0 a1 a2).snap = a0.snap := rfl
@[simp] theorem State.setFp_aon (a0 : State) (a1 : Nat) (a2 : FieldPort) : (State.setFp a0 a1 a2).aon = a0.aon := rfl
@[simp] theorem State.setFp_jtag (a0 : State) (a1 : Nat) (a2 : FieldPort) : (State.setFp a0 a1 a2).jtag = a0.jtag := rfl
@[simp] theorem State.setFp_tr (a0 : State) (a1 : Nat) (a2 : FieldPort) : (State.setFp a0 a1 a2).tr = a0.tr := rfl
@[simp] theorem State.setFp_ks (a0 : State) (a1 : Nat) (a2 : FieldPort) : (State.setFp a0 a1 a2).ks = a0.ks := rfl
@[simp] theorem State.setFp_hd (a0 : State) (a1 : Nat) (a2 : FieldPort) : (State.setFp a0 a1 a2).hd = a0.hd := rfl
@[simp] theorem State.setFp_utc (a0 : State) (a1 : Nat) (a2 : FieldPort) : (State.setFp a0 a1 a2).utc = a0.utc := rfl
@[simp] theorem State.setFp_sl (a0 : State) (a1 : Nat) (a2 : FieldPort) : (State.setFp a0 a1 a2).sl = a0.sl := rfl
@[simp] theorem State.setFp_syn (a0 : State) (a1 : Nat) (a2 : FieldPort) : (State.setFp a0 a1 a2).syn = a0.syn := rfl
@[simp] theorem State.setFp_ev (a0 : State) (a1 : Nat) (a2 : FieldPort) : (State.setFp a0 a1 a2).ev = a0.ev := rfl
@[simp] theorem State.setFp_teb (a0 : State) (a1 : Nat) (a2 : FieldPort) : (State.setFp a0 a1 a2).teb = a0.teb := rfl
@[simp] theorem State.setFp_gn (a0 : State) (a1 : Nat) (a2 : FieldPort) : (State.setFp a0 a1 a2).gn = a0.gn := rfl
@[simp] theorem State.setFp_tpe (a0 : State) (a1 : Nat) (a2 : FieldPort) : (State.setFp a0 a1 a2).tpe = a0.tpe := rfl
@[simp] theorem State.setFp_bw (a0 : State) (a1 : Nat) (a2 : FieldPort) : (State.setFp a0 a1 a2).bw = a0.bw := rfl
@[simp] theorem State.setSlot_pending (a0 : State) (a1 : Nat) (a2 : Slot) : (State.setSlot a0 a1 a2).pending = a0.pending := rfl
@[simp] theorem State.setSlot_book (a0 : State) (a1 : Nat) (a2 : Slot) : (State.setSlot a0 a1 a2).book = a0.book := rfl
@[simp] theorem State.setSlot_ctl (a0 : State) (a1 : Nat) (a2 : Slot) : (State.setSlot a0 a1 a2).ctl = a0.ctl := rfl
@[simp] theorem State.setSlot_clk (a0 : State) (a1 : Nat) (a2 : Slot) : (State.setSlot a0 a1 a2).clk = a0.clk := rfl
@[simp] theorem State.setSlot_snap (a0 : State) (a1 : Nat) (a2 : Slot) : (State.setSlot a0 a1 a2).snap = a0.snap := rfl
@[simp] theorem State.setSlot_aon (a0 : State) (a1 : Nat) (a2 : Slot) : (State.setSlot a0 a1 a2).aon = a0.aon := rfl
@[simp] theorem State.setSlot_jtag (a0 : State) (a1 : Nat) (a2 : Slot) : (State.setSlot a0 a1 a2).jtag = a0.jtag := rfl
@[simp] theorem State.setSlot_tr (a0 : State) (a1 : Nat) (a2 : Slot) : (State.setSlot a0 a1 a2).tr = a0.tr := rfl
@[simp] theorem State.setSlot_ks (a0 : State) (a1 : Nat) (a2 : Slot) : (State.setSlot a0 a1 a2).ks = a0.ks := rfl
@[simp] theorem State.setSlot_hd (a0 : State) (a1 : Nat) (a2 : Slot) : (State.setSlot a0 a1 a2).hd = a0.hd := rfl
@[simp] theorem State.setSlot_utc (a0 : State) (a1 : Nat) (a2 : Slot) : (State.setSlot a0 a1 a2).utc = a0.utc := rfl
@[simp] theorem State.setSlot_syn (a0 : State) (a1 : Nat) (a2 : Slot) : (State.setSlot a0 a1 a2).syn = a0.syn := rfl
@[simp] theorem State.setSlot_ev (a0 : State) (a1 : Nat) (a2 : Slot) : (State.setSlot a0 a1 a2).ev = a0.ev := rfl
@[simp] theorem State.setSlot_teb (a0 : State) (a1 : Nat) (a2 : Slot) : (State.setSlot a0 a1 a2).teb = a0.teb := rfl
@[simp] theorem State.setSlot_gn (a0 : State) (a1 : Nat) (a2 : Slot) : (State.setSlot a0 a1 a2).gn = a0.gn := rfl
@[simp] theorem State.setSlot_net (a0 : State) (a1 : Nat) (a2 : Slot) : (State.setSlot a0 a1 a2).net = a0.net := rfl
@[simp] theorem State.setSlot_tpe (a0 : State) (a1 : Nat) (a2 : Slot) : (State.setSlot a0 a1 a2).tpe = a0.tpe := rfl
@[simp] theorem State.setSlot_bw (a0 : State) (a1 : Nat) (a2 : Slot) : (State.setSlot a0 a1 a2).bw = a0.bw := rfl
@[simp] theorem State.setChannel_pending (a0 : State) (a1 : Nat) (a2 : Channel) : (State.setChannel a0 a1 a2).pending = a0.pending := rfl
@[simp] theorem State.setChannel_book (a0 : State) (a1 : Nat) (a2 : Channel) : (State.setChannel a0 a1 a2).book = a0.book := rfl
@[simp] theorem State.setChannel_ctl (a0 : State) (a1 : Nat) (a2 : Channel) : (State.setChannel a0 a1 a2).ctl = a0.ctl := rfl
@[simp] theorem State.setChannel_clk (a0 : State) (a1 : Nat) (a2 : Channel) : (State.setChannel a0 a1 a2).clk = a0.clk := rfl
@[simp] theorem State.setChannel_snap (a0 : State) (a1 : Nat) (a2 : Channel) : (State.setChannel a0 a1 a2).snap = a0.snap := rfl
@[simp] theorem State.setChannel_aon (a0 : State) (a1 : Nat) (a2 : Channel) : (State.setChannel a0 a1 a2).aon = a0.aon := rfl
@[simp] theorem State.setChannel_jtag (a0 : State) (a1 : Nat) (a2 : Channel) : (State.setChannel a0 a1 a2).jtag = a0.jtag := rfl
@[simp] theorem State.setChannel_ks (a0 : State) (a1 : Nat) (a2 : Channel) : (State.setChannel a0 a1 a2).ks = a0.ks := rfl
@[simp] theorem State.setChannel_hd (a0 : State) (a1 : Nat) (a2 : Channel) : (State.setChannel a0 a1 a2).hd = a0.hd := rfl
@[simp] theorem State.setChannel_utc (a0 : State) (a1 : Nat) (a2 : Channel) : (State.setChannel a0 a1 a2).utc = a0.utc := rfl
@[simp] theorem State.setChannel_sl (a0 : State) (a1 : Nat) (a2 : Channel) : (State.setChannel a0 a1 a2).sl = a0.sl := rfl
@[simp] theorem State.setChannel_syn (a0 : State) (a1 : Nat) (a2 : Channel) : (State.setChannel a0 a1 a2).syn = a0.syn := rfl
@[simp] theorem State.setChannel_ev (a0 : State) (a1 : Nat) (a2 : Channel) : (State.setChannel a0 a1 a2).ev = a0.ev := rfl
@[simp] theorem State.setChannel_teb (a0 : State) (a1 : Nat) (a2 : Channel) : (State.setChannel a0 a1 a2).teb = a0.teb := rfl
@[simp] theorem State.setChannel_gn (a0 : State) (a1 : Nat) (a2 : Channel) : (State.setChannel a0 a1 a2).gn = a0.gn := rfl
@[simp] theorem State.setChannel_net (a0 : State) (a1 : Nat) (a2 : Channel) : (State.setChannel a0 a1 a2).net = a0.net := rfl
@[simp] theorem State.setChannel_tpe (a0 : State) (a1 : Nat) (a2 : Channel) : (State.setChannel a0 a1 a2).tpe = a0.tpe := rfl
@[simp] theorem State.setChannel_bw (a0 : State) (a1 : Nat) (a2 : Channel) : (State.setChannel a0 a1 a2).bw = a0.bw := rfl
@[simp] theorem State.setPair_pending (a0 : State) (a1 : Nat) (a2 : Pair) : (State.setPair a0 a1 a2).pending = a0.pending := rfl
@[simp] theorem State.setPair_book (a0 : State) (a1 : Nat) (a2 : Pair) : (State.setPair a0 a1 a2).book = a0.book := rfl
@[simp] theorem State.setPair_ctl (a0 : State) (a1 : Nat) (a2 : Pair) : (State.setPair a0 a1 a2).ctl = a0.ctl := rfl
@[simp] theorem State.setPair_clk (a0 : State) (a1 : Nat) (a2 : Pair) : (State.setPair a0 a1 a2).clk = a0.clk := rfl
@[simp] theorem State.setPair_snap (a0 : State) (a1 : Nat) (a2 : Pair) : (State.setPair a0 a1 a2).snap = a0.snap := rfl
@[simp] theorem State.setPair_aon (a0 : State) (a1 : Nat) (a2 : Pair) : (State.setPair a0 a1 a2).aon = a0.aon := rfl
@[simp] theorem State.setPair_jtag (a0 : State) (a1 : Nat) (a2 : Pair) : (State.setPair a0 a1 a2).jtag = a0.jtag := rfl
@[simp] theorem State.setPair_ks (a0 : State) (a1 : Nat) (a2 : Pair) : (State.setPair a0 a1 a2).ks = a0.ks := rfl
@[simp] theorem State.setPair_hd (a0 : State) (a1 : Nat) (a2 : Pair) : (State.setPair a0 a1 a2).hd = a0.hd := rfl
@[simp] theorem State.setPair_utc (a0 : State) (a1 : Nat) (a2 : Pair) : (State.setPair a0 a1 a2).utc = a0.utc := rfl
@[simp] theorem State.setPair_sl (a0 : State) (a1 : Nat) (a2 : Pair) : (State.setPair a0 a1 a2).sl = a0.sl := rfl
@[simp] theorem State.setPair_syn (a0 : State) (a1 : Nat) (a2 : Pair) : (State.setPair a0 a1 a2).syn = a0.syn := rfl
@[simp] theorem State.setPair_ev (a0 : State) (a1 : Nat) (a2 : Pair) : (State.setPair a0 a1 a2).ev = a0.ev := rfl
@[simp] theorem State.setPair_teb (a0 : State) (a1 : Nat) (a2 : Pair) : (State.setPair a0 a1 a2).teb = a0.teb := rfl
@[simp] theorem State.setPair_gn (a0 : State) (a1 : Nat) (a2 : Pair) : (State.setPair a0 a1 a2).gn = a0.gn := rfl
@[simp] theorem State.setPair_net (a0 : State) (a1 : Nat) (a2 : Pair) : (State.setPair a0 a1 a2).net = a0.net := rfl
@[simp] theorem State.setPair_tpe (a0 : State) (a1 : Nat) (a2 : Pair) : (State.setPair a0 a1 a2).tpe = a0.tpe := rfl
@[simp] theorem State.setPair_bw (a0 : State) (a1 : Nat) (a2 : Pair) : (State.setPair a0 a1 a2).bw = a0.bw := rfl
@[simp] theorem State.setEvt_pending (a0 : State) (a1 : Nat) (a2 : Evt) : (State.setEvt a0 a1 a2).pending = a0.pending := rfl
@[simp] theorem State.setEvt_book (a0 : State) (a1 : Nat) (a2 : Evt) : (State.setEvt a0 a1 a2).book = a0.book := rfl
@[simp] theorem State.setEvt_ctl (a0 : State) (a1 : Nat) (a2 : Evt) : (State.setEvt a0 a1 a2).ctl = a0.ctl := rfl
@[simp] theorem State.setEvt_clk (a0 : State) (a1 : Nat) (a2 : Evt) : (State.setEvt a0 a1 a2).clk = a0.clk := rfl
@[simp] theorem State.setEvt_snap (a0 : State) (a1 : Nat) (a2 : Evt) : (State.setEvt a0 a1 a2).snap = a0.snap := rfl
@[simp] theorem State.setEvt_aon (a0 : State) (a1 : Nat) (a2 : Evt) : (State.setEvt a0 a1 a2).aon = a0.aon := rfl
@[simp] theorem State.setEvt_jtag (a0 : State) (a1 : Nat) (a2 : Evt) : (State.setEvt a0 a1 a2).jtag = a0.jtag := rfl
@[simp] theorem State.setEvt_tr (a0 : State) (a1 : Nat) (a2 : Evt) : (State.setEvt a0 a1 a2).tr = a0.tr := rfl
@[simp] theorem State.setEvt_ks (a0 : State) (a1 : Nat) (a2 : Evt) : (State.setEvt a0 a1 a2).ks = a0.ks := rfl
@[simp] theorem State.setEvt_hd (a0 : State) (a1 : Nat) (a2 : Evt) : (State.setEvt a0 a1 a2).hd = a0.hd := rfl
@[simp] theorem State.setEvt_utc (a0 : State) (a1 : Nat) (a2 : Evt) : (State.setEvt a0 a1 a2).utc = a0.utc := rfl
@[simp] theorem State.setEvt_sl (a0 : State) (a1 : Nat) (a2 : Evt) : (State.setEvt a0 a1 a2).sl = a0.sl := rfl
@[simp] theorem State.setEvt_syn (a0 : State) (a1 : Nat) (a2 : Evt) : (State.setEvt a0 a1 a2).syn = a0.syn := rfl
@[simp] theorem State.setEvt_teb (a0 : State) (a1 : Nat) (a2 : Evt) : (State.setEvt a0 a1 a2).teb = a0.teb := rfl
@[simp] theorem State.setEvt_gn (a0 : State) (a1 : Nat) (a2 : Evt) : (State.setEvt a0 a1 a2).gn = a0.gn := rfl
@[simp] theorem State.setEvt_net (a0 : State) (a1 : Nat) (a2 : Evt) : (State.setEvt a0 a1 a2).net = a0.net := rfl
@[simp] theorem State.setEvt_tpe (a0 : State) (a1 : Nat) (a2 : Evt) : (State.setEvt a0 a1 a2).tpe = a0.tpe := rfl
@[simp] theorem State.setEvt_bw (a0 : State) (a1 : Nat) (a2 : Evt) : (State.setEvt a0 a1 a2).bw = a0.bw := rfl
@[simp] theorem State.setFilter_pending (a0 : State) (a1 : Nat) (a2 : Filter) : (State.setFilter a0 a1 a2).pending = a0.pending := rfl
@[simp] theorem State.setFilter_book (a0 : State) (a1 : Nat) (a2 : Filter) : (State.setFilter a0 a1 a2).book = a0.book := rfl
@[simp] theorem State.setFilter_ctl (a0 : State) (a1 : Nat) (a2 : Filter) : (State.setFilter a0 a1 a2).ctl = a0.ctl := rfl
@[simp] theorem State.setFilter_clk (a0 : State) (a1 : Nat) (a2 : Filter) : (State.setFilter a0 a1 a2).clk = a0.clk := rfl
@[simp] theorem State.setFilter_snap (a0 : State) (a1 : Nat) (a2 : Filter) : (State.setFilter a0 a1 a2).snap = a0.snap := rfl
@[simp] theorem State.setFilter_aon (a0 : State) (a1 : Nat) (a2 : Filter) : (State.setFilter a0 a1 a2).aon = a0.aon := rfl
@[simp] theorem State.setFilter_jtag (a0 : State) (a1 : Nat) (a2 : Filter) : (State.setFilter a0 a1 a2).jtag = a0.jtag := rfl
@[simp] theorem State.setFilter_tr (a0 : State) (a1 : Nat) (a2 : Filter) : (State.setFilter a0 a1 a2).tr = a0.tr := rfl
@[simp] theorem State.setFilter_ks (a0 : State) (a1 : Nat) (a2 : Filter) : (State.setFilter a0 a1 a2).ks = a0.ks := rfl
@[simp] theorem State.setFilter_utc (a0 : State) (a1 : Nat) (a2 : Filter) : (State.setFilter a0 a1 a2).utc = a0.utc := rfl
@[simp] theorem State.setFilter_sl (a0 : State) (a1 : Nat) (a2 : Filter) : (State.setFilter a0 a1 a2).sl = a0.sl := rfl
@[simp] theorem State.setFilter_syn (a0 : State) (a1 : Nat) (a2 : Filter) : (State.setFilter a0 a1 a2).syn = a0.syn := rfl
@[simp] theorem State.setFilter_ev (a0 : State) (a1 : Nat) (a2 : Filter) : (State.setFilter a0 a1 a2).ev = a0.ev := rfl
@[simp] theorem State.setFilter_teb (a0 : State) (a1 : Nat) (a2 : Filter) : (State.setFilter a0 a1 a2).teb = a0.teb := rfl
@[simp] theorem State.setFilter_gn (a0 : State) (a1 : Nat) (a2 : Filter) : (State.setFilter a0 a1 a2).gn = a0.gn := rfl
@[simp] theorem State.setFilter_net (a0 : State) (a1 : Nat) (a2 : Filter) : (State.setFilter a0 a1 a2).net = a0.net := rfl
@[simp] theorem State.setFilter_tpe (a0 : State) (a1 : Nat) (a2 : Filter) : (State.setFilter a0 a1 a2).tpe = a0.tpe := rfl
@[simp] theorem State.setFilter_bw (a0 : State) (a1 : Nat) (a2 : Filter) : (State.setFilter a0 a1 a2).bw = a0.bw := rfl
@[simp] theorem State.setTune_pending (a0 : State) (a1 : Tuning) : (State.setTune a0 a1).pending = a0.pending := rfl
@[simp] theorem State.setTune_book (a0 : State) (a1 : Tuning) : (State.setTune a0 a1).book = a0.book := rfl
@[simp] theorem State.setTune_ctl (a0 : State) (a1 : Tuning) : (State.setTune a0 a1).ctl = a0.ctl := rfl
@[simp] theorem State.setTune_clk (a0 : State) (a1 : Tuning) : (State.setTune a0 a1).clk = a0.clk := rfl
@[simp] theorem State.setTune_snap (a0 : State) (a1 : Tuning) : (State.setTune a0 a1).snap = a0.snap := rfl
@[simp] theorem State.setTune_aon (a0 : State) (a1 : Tuning) : (State.setTune a0 a1).aon = a0.aon := rfl
@[simp] theorem State.setTune_jtag (a0 : State) (a1 : Tuning) : (State.setTune a0 a1).jtag = a0.jtag := rfl
@[simp] theorem State.setTune_tr (a0 : State) (a1 : Tuning) : (State.setTune a0 a1).tr = a0.tr := rfl
@[simp] theorem State.setTune_ks (a0 : State) (a1 : Tuning) : (State.setTune a0 a1).ks = a0.ks := rfl
@[simp] theorem State.setTune_utc (a0 : State) (a1 : Tuning) : (State.setTune a0 a1).utc = a0.utc := rfl
@[simp] theorem State.setTune_sl (a0 : State) (a1 : Tuning) : (State.setTune a0 a1).sl = a0.sl := rfl
@[simp] theorem State.setTune_syn (a0 : State) (a1 : Tuning) : (State.setTune a0 a1).syn = a0.syn := rfl
@[simp] theorem State.setTune_ev (a0 : State) (a1 : Tuning) : (State.setTune a0 a1).ev = a0.ev := rfl
@[simp] theorem State.setTune_teb (a0 : State) (a1 : Tuning) : (State.setTune a0 a1).teb = a0.teb := rfl
@[simp] theorem State.setTune_gn (a0 : State) (a1 : Tuning) : (State.setTune a0 a1).gn = a0.gn := rfl
@[simp] theorem State.setTune_net (a0 : State) (a1 : Tuning) : (State.setTune a0 a1).net = a0.net := rfl
@[simp] theorem State.setTune_tpe (a0 : State) (a1 : Tuning) : (State.setTune a0 a1).tpe = a0.tpe := rfl
@[simp] theorem State.setTune_bw (a0 : State) (a1 : Tuning) : (State.setTune a0 a1).bw = a0.bw := rfl
@[simp] theorem State.setLease_pending (a0 : State) (a1 : Lease → Lease) : (State.setLease a0 a1).pending = a0.pending := rfl
@[simp] theorem State.setLease_book (a0 : State) (a1 : Lease → Lease) : (State.setLease a0 a1).book = a0.book := rfl
@[simp] theorem State.setLease_clk (a0 : State) (a1 : Lease → Lease) : (State.setLease a0 a1).clk = a0.clk := rfl
@[simp] theorem State.setLease_snap (a0 : State) (a1 : Lease → Lease) : (State.setLease a0 a1).snap = a0.snap := rfl
@[simp] theorem State.setLease_aon (a0 : State) (a1 : Lease → Lease) : (State.setLease a0 a1).aon = a0.aon := rfl
@[simp] theorem State.setLease_jtag (a0 : State) (a1 : Lease → Lease) : (State.setLease a0 a1).jtag = a0.jtag := rfl
@[simp] theorem State.setLease_tr (a0 : State) (a1 : Lease → Lease) : (State.setLease a0 a1).tr = a0.tr := rfl
@[simp] theorem State.setLease_ks (a0 : State) (a1 : Lease → Lease) : (State.setLease a0 a1).ks = a0.ks := rfl
@[simp] theorem State.setLease_hd (a0 : State) (a1 : Lease → Lease) : (State.setLease a0 a1).hd = a0.hd := rfl
@[simp] theorem State.setLease_utc (a0 : State) (a1 : Lease → Lease) : (State.setLease a0 a1).utc = a0.utc := rfl
@[simp] theorem State.setLease_sl (a0 : State) (a1 : Lease → Lease) : (State.setLease a0 a1).sl = a0.sl := rfl
@[simp] theorem State.setLease_syn (a0 : State) (a1 : Lease → Lease) : (State.setLease a0 a1).syn = a0.syn := rfl
@[simp] theorem State.setLease_ev (a0 : State) (a1 : Lease → Lease) : (State.setLease a0 a1).ev = a0.ev := rfl
@[simp] theorem State.setLease_teb (a0 : State) (a1 : Lease → Lease) : (State.setLease a0 a1).teb = a0.teb := rfl
@[simp] theorem State.setLease_gn (a0 : State) (a1 : Lease → Lease) : (State.setLease a0 a1).gn = a0.gn := rfl
@[simp] theorem State.setLease_net (a0 : State) (a1 : Lease → Lease) : (State.setLease a0 a1).net = a0.net := rfl
@[simp] theorem State.setLease_tpe (a0 : State) (a1 : Lease → Lease) : (State.setLease a0 a1).tpe = a0.tpe := rfl
@[simp] theorem State.setLease_bw (a0 : State) (a1 : Lease → Lease) : (State.setLease a0 a1).bw = a0.bw := rfl
@[simp] theorem State.hrstTo_pending (a0 : State) (a1 : Bool) : (State.hrstTo a0 a1).pending = a0.pending := rfl
@[simp] theorem State.hrstTo_book (a0 : State) (a1 : Bool) : (State.hrstTo a0 a1).book = a0.book := rfl
@[simp] theorem State.hrstTo_clk (a0 : State) (a1 : Bool) : (State.hrstTo a0 a1).clk = a0.clk := rfl
@[simp] theorem State.hrstTo_snap (a0 : State) (a1 : Bool) : (State.hrstTo a0 a1).snap = a0.snap := rfl
@[simp] theorem State.hrstTo_aon (a0 : State) (a1 : Bool) : (State.hrstTo a0 a1).aon = a0.aon := rfl
@[simp] theorem State.hrstTo_jtag (a0 : State) (a1 : Bool) : (State.hrstTo a0 a1).jtag = a0.jtag := rfl
@[simp] theorem State.hrstTo_tr (a0 : State) (a1 : Bool) : (State.hrstTo a0 a1).tr = a0.tr := rfl
@[simp] theorem State.hrstTo_ks (a0 : State) (a1 : Bool) : (State.hrstTo a0 a1).ks = a0.ks := rfl
@[simp] theorem State.hrstTo_hd (a0 : State) (a1 : Bool) : (State.hrstTo a0 a1).hd = a0.hd := rfl
@[simp] theorem State.hrstTo_utc (a0 : State) (a1 : Bool) : (State.hrstTo a0 a1).utc = a0.utc := rfl
@[simp] theorem State.hrstTo_sl (a0 : State) (a1 : Bool) : (State.hrstTo a0 a1).sl = a0.sl := rfl
@[simp] theorem State.hrstTo_syn (a0 : State) (a1 : Bool) : (State.hrstTo a0 a1).syn = a0.syn := rfl
@[simp] theorem State.hrstTo_ev (a0 : State) (a1 : Bool) : (State.hrstTo a0 a1).ev = a0.ev := rfl
@[simp] theorem State.hrstTo_teb (a0 : State) (a1 : Bool) : (State.hrstTo a0 a1).teb = a0.teb := rfl
@[simp] theorem State.hrstTo_gn (a0 : State) (a1 : Bool) : (State.hrstTo a0 a1).gn = a0.gn := rfl
@[simp] theorem State.hrstTo_net (a0 : State) (a1 : Bool) : (State.hrstTo a0 a1).net = a0.net := rfl
@[simp] theorem State.hrstTo_tpe (a0 : State) (a1 : Bool) : (State.hrstTo a0 a1).tpe = a0.tpe := rfl
@[simp] theorem State.hrstTo_bw (a0 : State) (a1 : Bool) : (State.hrstTo a0 a1).bw = a0.bw := rfl
@[simp] theorem State.setBw_pending (a0 : State) (a1 : Bellwether → Bellwether) : (State.setBw a0 a1).pending = a0.pending := rfl
@[simp] theorem State.setBw_book (a0 : State) (a1 : Bellwether → Bellwether) : (State.setBw a0 a1).book = a0.book := rfl
@[simp] theorem State.setBw_ctl (a0 : State) (a1 : Bellwether → Bellwether) : (State.setBw a0 a1).ctl = a0.ctl := rfl
@[simp] theorem State.setBw_clk (a0 : State) (a1 : Bellwether → Bellwether) : (State.setBw a0 a1).clk = a0.clk := rfl
@[simp] theorem State.setBw_snap (a0 : State) (a1 : Bellwether → Bellwether) : (State.setBw a0 a1).snap = a0.snap := rfl
@[simp] theorem State.setBw_aon (a0 : State) (a1 : Bellwether → Bellwether) : (State.setBw a0 a1).aon = a0.aon := rfl
@[simp] theorem State.setBw_jtag (a0 : State) (a1 : Bellwether → Bellwether) : (State.setBw a0 a1).jtag = a0.jtag := rfl
@[simp] theorem State.setBw_tr (a0 : State) (a1 : Bellwether → Bellwether) : (State.setBw a0 a1).tr = a0.tr := rfl
@[simp] theorem State.setBw_ks (a0 : State) (a1 : Bellwether → Bellwether) : (State.setBw a0 a1).ks = a0.ks := rfl
@[simp] theorem State.setBw_hd (a0 : State) (a1 : Bellwether → Bellwether) : (State.setBw a0 a1).hd = a0.hd := rfl
@[simp] theorem State.setBw_utc (a0 : State) (a1 : Bellwether → Bellwether) : (State.setBw a0 a1).utc = a0.utc := rfl
@[simp] theorem State.setBw_sl (a0 : State) (a1 : Bellwether → Bellwether) : (State.setBw a0 a1).sl = a0.sl := rfl
@[simp] theorem State.setBw_syn (a0 : State) (a1 : Bellwether → Bellwether) : (State.setBw a0 a1).syn = a0.syn := rfl
@[simp] theorem State.setBw_ev (a0 : State) (a1 : Bellwether → Bellwether) : (State.setBw a0 a1).ev = a0.ev := rfl
@[simp] theorem State.setBw_teb (a0 : State) (a1 : Bellwether → Bellwether) : (State.setBw a0 a1).teb = a0.teb := rfl
@[simp] theorem State.setBw_gn (a0 : State) (a1 : Bellwether → Bellwether) : (State.setBw a0 a1).gn = a0.gn := rfl
@[simp] theorem State.setBw_net (a0 : State) (a1 : Bellwether → Bellwether) : (State.setBw a0 a1).net = a0.net := rfl
@[simp] theorem State.setBw_tpe (a0 : State) (a1 : Bellwether → Bellwether) : (State.setBw a0 a1).tpe = a0.tpe := rfl
@[simp] theorem State.setSession_pending (a0 : State) (a1 : Nat) (a2 : Session) : (State.setSession a0 a1 a2).pending = a0.pending := rfl
@[simp] theorem State.setSession_book (a0 : State) (a1 : Nat) (a2 : Session) : (State.setSession a0 a1 a2).book = a0.book := rfl
@[simp] theorem State.setSession_ctl (a0 : State) (a1 : Nat) (a2 : Session) : (State.setSession a0 a1 a2).ctl = a0.ctl := rfl
@[simp] theorem State.setSession_clk (a0 : State) (a1 : Nat) (a2 : Session) : (State.setSession a0 a1 a2).clk = a0.clk := rfl
@[simp] theorem State.setSession_snap (a0 : State) (a1 : Nat) (a2 : Session) : (State.setSession a0 a1 a2).snap = a0.snap := rfl
@[simp] theorem State.setSession_aon (a0 : State) (a1 : Nat) (a2 : Session) : (State.setSession a0 a1 a2).aon = a0.aon := rfl
@[simp] theorem State.setSession_jtag (a0 : State) (a1 : Nat) (a2 : Session) : (State.setSession a0 a1 a2).jtag = a0.jtag := rfl
@[simp] theorem State.setSession_tr (a0 : State) (a1 : Nat) (a2 : Session) : (State.setSession a0 a1 a2).tr = a0.tr := rfl
@[simp] theorem State.setSession_ks (a0 : State) (a1 : Nat) (a2 : Session) : (State.setSession a0 a1 a2).ks = a0.ks := rfl
@[simp] theorem State.setSession_hd (a0 : State) (a1 : Nat) (a2 : Session) : (State.setSession a0 a1 a2).hd = a0.hd := rfl
@[simp] theorem State.setSession_utc (a0 : State) (a1 : Nat) (a2 : Session) : (State.setSession a0 a1 a2).utc = a0.utc := rfl
@[simp] theorem State.setSession_sl (a0 : State) (a1 : Nat) (a2 : Session) : (State.setSession a0 a1 a2).sl = a0.sl := rfl
@[simp] theorem State.setSession_syn (a0 : State) (a1 : Nat) (a2 : Session) : (State.setSession a0 a1 a2).syn = a0.syn := rfl
@[simp] theorem State.setSession_ev (a0 : State) (a1 : Nat) (a2 : Session) : (State.setSession a0 a1 a2).ev = a0.ev := rfl
@[simp] theorem State.setSession_teb (a0 : State) (a1 : Nat) (a2 : Session) : (State.setSession a0 a1 a2).teb = a0.teb := rfl
@[simp] theorem State.setSession_gn (a0 : State) (a1 : Nat) (a2 : Session) : (State.setSession a0 a1 a2).gn = a0.gn := rfl
@[simp] theorem State.setSession_net (a0 : State) (a1 : Nat) (a2 : Session) : (State.setSession a0 a1 a2).net = a0.net := rfl
@[simp] theorem State.setSession_bw (a0 : State) (a1 : Nat) (a2 : Session) : (State.setSession a0 a1 a2).bw = a0.bw := rfl
@[simp] theorem State.setPeer_pending (a0 : State) (a1 : Nat) (a2 : Peer) : (State.setPeer a0 a1 a2).pending = a0.pending := rfl
@[simp] theorem State.setPeer_book (a0 : State) (a1 : Nat) (a2 : Peer) : (State.setPeer a0 a1 a2).book = a0.book := rfl
@[simp] theorem State.setPeer_ctl (a0 : State) (a1 : Nat) (a2 : Peer) : (State.setPeer a0 a1 a2).ctl = a0.ctl := rfl
@[simp] theorem State.setPeer_clk (a0 : State) (a1 : Nat) (a2 : Peer) : (State.setPeer a0 a1 a2).clk = a0.clk := rfl
@[simp] theorem State.setPeer_snap (a0 : State) (a1 : Nat) (a2 : Peer) : (State.setPeer a0 a1 a2).snap = a0.snap := rfl
@[simp] theorem State.setPeer_aon (a0 : State) (a1 : Nat) (a2 : Peer) : (State.setPeer a0 a1 a2).aon = a0.aon := rfl
@[simp] theorem State.setPeer_jtag (a0 : State) (a1 : Nat) (a2 : Peer) : (State.setPeer a0 a1 a2).jtag = a0.jtag := rfl
@[simp] theorem State.setPeer_tr (a0 : State) (a1 : Nat) (a2 : Peer) : (State.setPeer a0 a1 a2).tr = a0.tr := rfl
@[simp] theorem State.setPeer_ks (a0 : State) (a1 : Nat) (a2 : Peer) : (State.setPeer a0 a1 a2).ks = a0.ks := rfl
@[simp] theorem State.setPeer_hd (a0 : State) (a1 : Nat) (a2 : Peer) : (State.setPeer a0 a1 a2).hd = a0.hd := rfl
@[simp] theorem State.setPeer_utc (a0 : State) (a1 : Nat) (a2 : Peer) : (State.setPeer a0 a1 a2).utc = a0.utc := rfl
@[simp] theorem State.setPeer_sl (a0 : State) (a1 : Nat) (a2 : Peer) : (State.setPeer a0 a1 a2).sl = a0.sl := rfl
@[simp] theorem State.setPeer_syn (a0 : State) (a1 : Nat) (a2 : Peer) : (State.setPeer a0 a1 a2).syn = a0.syn := rfl
@[simp] theorem State.setPeer_ev (a0 : State) (a1 : Nat) (a2 : Peer) : (State.setPeer a0 a1 a2).ev = a0.ev := rfl
@[simp] theorem State.setPeer_teb (a0 : State) (a1 : Nat) (a2 : Peer) : (State.setPeer a0 a1 a2).teb = a0.teb := rfl
@[simp] theorem State.setPeer_gn (a0 : State) (a1 : Nat) (a2 : Peer) : (State.setPeer a0 a1 a2).gn = a0.gn := rfl
@[simp] theorem State.setPeer_net (a0 : State) (a1 : Nat) (a2 : Peer) : (State.setPeer a0 a1 a2).net = a0.net := rfl
@[simp] theorem State.setPeer_bw (a0 : State) (a1 : Nat) (a2 : Peer) : (State.setPeer a0 a1 a2).bw = a0.bw := rfl
@[simp] theorem State.setEntry_pending (a0 : State) (a1 : CalEntry) : (State.setEntry a0 a1).pending = a0.pending := rfl
@[simp] theorem State.setEntry_book (a0 : State) (a1 : CalEntry) : (State.setEntry a0 a1).book = a0.book := rfl
@[simp] theorem State.setEntry_ctl (a0 : State) (a1 : CalEntry) : (State.setEntry a0 a1).ctl = a0.ctl := rfl
@[simp] theorem State.setEntry_clk (a0 : State) (a1 : CalEntry) : (State.setEntry a0 a1).clk = a0.clk := rfl
@[simp] theorem State.setEntry_snap (a0 : State) (a1 : CalEntry) : (State.setEntry a0 a1).snap = a0.snap := rfl
@[simp] theorem State.setEntry_aon (a0 : State) (a1 : CalEntry) : (State.setEntry a0 a1).aon = a0.aon := rfl
@[simp] theorem State.setEntry_jtag (a0 : State) (a1 : CalEntry) : (State.setEntry a0 a1).jtag = a0.jtag := rfl
@[simp] theorem State.setEntry_tr (a0 : State) (a1 : CalEntry) : (State.setEntry a0 a1).tr = a0.tr := rfl
@[simp] theorem State.setEntry_ks (a0 : State) (a1 : CalEntry) : (State.setEntry a0 a1).ks = a0.ks := rfl
@[simp] theorem State.setEntry_hd (a0 : State) (a1 : CalEntry) : (State.setEntry a0 a1).hd = a0.hd := rfl
@[simp] theorem State.setEntry_utc (a0 : State) (a1 : CalEntry) : (State.setEntry a0 a1).utc = a0.utc := rfl
@[simp] theorem State.setEntry_sl (a0 : State) (a1 : CalEntry) : (State.setEntry a0 a1).sl = a0.sl := rfl
@[simp] theorem State.setEntry_syn (a0 : State) (a1 : CalEntry) : (State.setEntry a0 a1).syn = a0.syn := rfl
@[simp] theorem State.setEntry_ev (a0 : State) (a1 : CalEntry) : (State.setEntry a0 a1).ev = a0.ev := rfl
@[simp] theorem State.setEntry_teb (a0 : State) (a1 : CalEntry) : (State.setEntry a0 a1).teb = a0.teb := rfl
@[simp] theorem State.setEntry_gn (a0 : State) (a1 : CalEntry) : (State.setEntry a0 a1).gn = a0.gn := rfl
@[simp] theorem State.setEntry_net (a0 : State) (a1 : CalEntry) : (State.setEntry a0 a1).net = a0.net := rfl
@[simp] theorem State.setEntry_bw (a0 : State) (a1 : CalEntry) : (State.setEntry a0 a1).bw = a0.bw := rfl
@[simp] theorem State.setPort_pending (a0 : State) (a1 : Nat) (a2 : Port) : (State.setPort a0 a1 a2).pending = a0.pending := rfl
@[simp] theorem State.setPort_book (a0 : State) (a1 : Nat) (a2 : Port) : (State.setPort a0 a1 a2).book = a0.book := rfl
@[simp] theorem State.setPort_ctl (a0 : State) (a1 : Nat) (a2 : Port) : (State.setPort a0 a1 a2).ctl = a0.ctl := rfl
@[simp] theorem State.setPort_clk (a0 : State) (a1 : Nat) (a2 : Port) : (State.setPort a0 a1 a2).clk = a0.clk := rfl
@[simp] theorem State.setPort_snap (a0 : State) (a1 : Nat) (a2 : Port) : (State.setPort a0 a1 a2).snap = a0.snap := rfl
@[simp] theorem State.setPort_aon (a0 : State) (a1 : Nat) (a2 : Port) : (State.setPort a0 a1 a2).aon = a0.aon := rfl
@[simp] theorem State.setPort_jtag (a0 : State) (a1 : Nat) (a2 : Port) : (State.setPort a0 a1 a2).jtag = a0.jtag := rfl
@[simp] theorem State.setPort_tr (a0 : State) (a1 : Nat) (a2 : Port) : (State.setPort a0 a1 a2).tr = a0.tr := rfl
@[simp] theorem State.setPort_ks (a0 : State) (a1 : Nat) (a2 : Port) : (State.setPort a0 a1 a2).ks = a0.ks := rfl
@[simp] theorem State.setPort_hd (a0 : State) (a1 : Nat) (a2 : Port) : (State.setPort a0 a1 a2).hd = a0.hd := rfl
@[simp] theorem State.setPort_utc (a0 : State) (a1 : Nat) (a2 : Port) : (State.setPort a0 a1 a2).utc = a0.utc := rfl
@[simp] theorem State.setPort_sl (a0 : State) (a1 : Nat) (a2 : Port) : (State.setPort a0 a1 a2).sl = a0.sl := rfl
@[simp] theorem State.setPort_syn (a0 : State) (a1 : Nat) (a2 : Port) : (State.setPort a0 a1 a2).syn = a0.syn := rfl
@[simp] theorem State.setPort_ev (a0 : State) (a1 : Nat) (a2 : Port) : (State.setPort a0 a1 a2).ev = a0.ev := rfl
@[simp] theorem State.setPort_teb (a0 : State) (a1 : Nat) (a2 : Port) : (State.setPort a0 a1 a2).teb = a0.teb := rfl
@[simp] theorem State.setPort_gn (a0 : State) (a1 : Nat) (a2 : Port) : (State.setPort a0 a1 a2).gn = a0.gn := rfl
@[simp] theorem State.setPort_tpe (a0 : State) (a1 : Nat) (a2 : Port) : (State.setPort a0 a1 a2).tpe = a0.tpe := rfl
@[simp] theorem State.setPort_bw (a0 : State) (a1 : Nat) (a2 : Port) : (State.setPort a0 a1 a2).bw = a0.bw := rfl
@[simp] theorem State.setTracker_pending (a0 : State) (a1 : Nat) (a2 : Tracker) : (State.setTracker a0 a1 a2).pending = a0.pending := rfl
@[simp] theorem State.setTracker_book (a0 : State) (a1 : Nat) (a2 : Tracker) : (State.setTracker a0 a1 a2).book = a0.book := rfl
@[simp] theorem State.setTracker_ctl (a0 : State) (a1 : Nat) (a2 : Tracker) : (State.setTracker a0 a1 a2).ctl = a0.ctl := rfl
@[simp] theorem State.setTracker_clk (a0 : State) (a1 : Nat) (a2 : Tracker) : (State.setTracker a0 a1 a2).clk = a0.clk := rfl
@[simp] theorem State.setTracker_snap (a0 : State) (a1 : Nat) (a2 : Tracker) : (State.setTracker a0 a1 a2).snap = a0.snap := rfl
@[simp] theorem State.setTracker_aon (a0 : State) (a1 : Nat) (a2 : Tracker) : (State.setTracker a0 a1 a2).aon = a0.aon := rfl
@[simp] theorem State.setTracker_jtag (a0 : State) (a1 : Nat) (a2 : Tracker) : (State.setTracker a0 a1 a2).jtag = a0.jtag := rfl
@[simp] theorem State.setTracker_tr (a0 : State) (a1 : Nat) (a2 : Tracker) : (State.setTracker a0 a1 a2).tr = a0.tr := rfl
@[simp] theorem State.setTracker_ks (a0 : State) (a1 : Nat) (a2 : Tracker) : (State.setTracker a0 a1 a2).ks = a0.ks := rfl
@[simp] theorem State.setTracker_hd (a0 : State) (a1 : Nat) (a2 : Tracker) : (State.setTracker a0 a1 a2).hd = a0.hd := rfl
@[simp] theorem State.setTracker_utc (a0 : State) (a1 : Nat) (a2 : Tracker) : (State.setTracker a0 a1 a2).utc = a0.utc := rfl
@[simp] theorem State.setTracker_sl (a0 : State) (a1 : Nat) (a2 : Tracker) : (State.setTracker a0 a1 a2).sl = a0.sl := rfl
@[simp] theorem State.setTracker_syn (a0 : State) (a1 : Nat) (a2 : Tracker) : (State.setTracker a0 a1 a2).syn = a0.syn := rfl
@[simp] theorem State.setTracker_ev (a0 : State) (a1 : Nat) (a2 : Tracker) : (State.setTracker a0 a1 a2).ev = a0.ev := rfl
@[simp] theorem State.setTracker_teb (a0 : State) (a1 : Nat) (a2 : Tracker) : (State.setTracker a0 a1 a2).teb = a0.teb := rfl
@[simp] theorem State.setTracker_net (a0 : State) (a1 : Nat) (a2 : Tracker) : (State.setTracker a0 a1 a2).net = a0.net := rfl
@[simp] theorem State.setTracker_tpe (a0 : State) (a1 : Nat) (a2 : Tracker) : (State.setTracker a0 a1 a2).tpe = a0.tpe := rfl
@[simp] theorem State.setTracker_bw (a0 : State) (a1 : Nat) (a2 : Tracker) : (State.setTracker a0 a1 a2).bw = a0.bw := rfl
@[simp] theorem State.setFos_pending (a0 : State) (a1 : Nat) (a2 : Fos) : (State.setFos a0 a1 a2).pending = a0.pending := rfl
@[simp] theorem State.setFos_book (a0 : State) (a1 : Nat) (a2 : Fos) : (State.setFos a0 a1 a2).book = a0.book := rfl
@[simp] theorem State.setFos_ctl (a0 : State) (a1 : Nat) (a2 : Fos) : (State.setFos a0 a1 a2).ctl = a0.ctl := rfl
@[simp] theorem State.setFos_clk (a0 : State) (a1 : Nat) (a2 : Fos) : (State.setFos a0 a1 a2).clk = a0.clk := rfl
@[simp] theorem State.setFos_snap (a0 : State) (a1 : Nat) (a2 : Fos) : (State.setFos a0 a1 a2).snap = a0.snap := rfl
@[simp] theorem State.setFos_aon (a0 : State) (a1 : Nat) (a2 : Fos) : (State.setFos a0 a1 a2).aon = a0.aon := rfl
@[simp] theorem State.setFos_jtag (a0 : State) (a1 : Nat) (a2 : Fos) : (State.setFos a0 a1 a2).jtag = a0.jtag := rfl
@[simp] theorem State.setFos_tr (a0 : State) (a1 : Nat) (a2 : Fos) : (State.setFos a0 a1 a2).tr = a0.tr := rfl
@[simp] theorem State.setFos_ks (a0 : State) (a1 : Nat) (a2 : Fos) : (State.setFos a0 a1 a2).ks = a0.ks := rfl
@[simp] theorem State.setFos_hd (a0 : State) (a1 : Nat) (a2 : Fos) : (State.setFos a0 a1 a2).hd = a0.hd := rfl
@[simp] theorem State.setFos_utc (a0 : State) (a1 : Nat) (a2 : Fos) : (State.setFos a0 a1 a2).utc = a0.utc := rfl
@[simp] theorem State.setFos_sl (a0 : State) (a1 : Nat) (a2 : Fos) : (State.setFos a0 a1 a2).sl = a0.sl := rfl
@[simp] theorem State.setFos_ev (a0 : State) (a1 : Nat) (a2 : Fos) : (State.setFos a0 a1 a2).ev = a0.ev := rfl
@[simp] theorem State.setFos_teb (a0 : State) (a1 : Nat) (a2 : Fos) : (State.setFos a0 a1 a2).teb = a0.teb := rfl
@[simp] theorem State.setFos_gn (a0 : State) (a1 : Nat) (a2 : Fos) : (State.setFos a0 a1 a2).gn = a0.gn := rfl
@[simp] theorem State.setFos_net (a0 : State) (a1 : Nat) (a2 : Fos) : (State.setFos a0 a1 a2).net = a0.net := rfl
@[simp] theorem State.setFos_tpe (a0 : State) (a1 : Nat) (a2 : Fos) : (State.setFos a0 a1 a2).tpe = a0.tpe := rfl
@[simp] theorem State.setFos_bw (a0 : State) (a1 : Nat) (a2 : Fos) : (State.setFos a0 a1 a2).bw = a0.bw := rfl
@[simp] theorem State.setOut_pending (a0 : State) (a1 : Nat) (a2 : Output) : (State.setOut a0 a1 a2).pending = a0.pending := rfl
@[simp] theorem State.setOut_book (a0 : State) (a1 : Nat) (a2 : Output) : (State.setOut a0 a1 a2).book = a0.book := rfl
@[simp] theorem State.setOut_ctl (a0 : State) (a1 : Nat) (a2 : Output) : (State.setOut a0 a1 a2).ctl = a0.ctl := rfl
@[simp] theorem State.setOut_clk (a0 : State) (a1 : Nat) (a2 : Output) : (State.setOut a0 a1 a2).clk = a0.clk := rfl
@[simp] theorem State.setOut_snap (a0 : State) (a1 : Nat) (a2 : Output) : (State.setOut a0 a1 a2).snap = a0.snap := rfl
@[simp] theorem State.setOut_aon (a0 : State) (a1 : Nat) (a2 : Output) : (State.setOut a0 a1 a2).aon = a0.aon := rfl
@[simp] theorem State.setOut_jtag (a0 : State) (a1 : Nat) (a2 : Output) : (State.setOut a0 a1 a2).jtag = a0.jtag := rfl
@[simp] theorem State.setOut_tr (a0 : State) (a1 : Nat) (a2 : Output) : (State.setOut a0 a1 a2).tr = a0.tr := rfl
@[simp] theorem State.setOut_ks (a0 : State) (a1 : Nat) (a2 : Output) : (State.setOut a0 a1 a2).ks = a0.ks := rfl
@[simp] theorem State.setOut_hd (a0 : State) (a1 : Nat) (a2 : Output) : (State.setOut a0 a1 a2).hd = a0.hd := rfl
@[simp] theorem State.setOut_utc (a0 : State) (a1 : Nat) (a2 : Output) : (State.setOut a0 a1 a2).utc = a0.utc := rfl
@[simp] theorem State.setOut_sl (a0 : State) (a1 : Nat) (a2 : Output) : (State.setOut a0 a1 a2).sl = a0.sl := rfl
@[simp] theorem State.setOut_ev (a0 : State) (a1 : Nat) (a2 : Output) : (State.setOut a0 a1 a2).ev = a0.ev := rfl
@[simp] theorem State.setOut_teb (a0 : State) (a1 : Nat) (a2 : Output) : (State.setOut a0 a1 a2).teb = a0.teb := rfl
@[simp] theorem State.setOut_gn (a0 : State) (a1 : Nat) (a2 : Output) : (State.setOut a0 a1 a2).gn = a0.gn := rfl
@[simp] theorem State.setOut_net (a0 : State) (a1 : Nat) (a2 : Output) : (State.setOut a0 a1 a2).net = a0.net := rfl
@[simp] theorem State.setOut_tpe (a0 : State) (a1 : Nat) (a2 : Output) : (State.setOut a0 a1 a2).tpe = a0.tpe := rfl
@[simp] theorem State.setOut_bw (a0 : State) (a1 : Nat) (a2 : Output) : (State.setOut a0 a1 a2).bw = a0.bw := rfl
@[simp] theorem State.setSeqCell_pending (a0 : State) (a1 : Link) (a2 : Role) (a3 : SeqCell) : (State.setSeqCell a0 a1 a2 a3).pending = a0.pending := rfl
@[simp] theorem State.setSeqCell_ctl (a0 : State) (a1 : Link) (a2 : Role) (a3 : SeqCell) : (State.setSeqCell a0 a1 a2 a3).ctl = a0.ctl := rfl
@[simp] theorem State.setSeqCell_clk (a0 : State) (a1 : Link) (a2 : Role) (a3 : SeqCell) : (State.setSeqCell a0 a1 a2 a3).clk = a0.clk := rfl
@[simp] theorem State.setSeqCell_snap (a0 : State) (a1 : Link) (a2 : Role) (a3 : SeqCell) : (State.setSeqCell a0 a1 a2 a3).snap = a0.snap := rfl
@[simp] theorem State.setSeqCell_aon (a0 : State) (a1 : Link) (a2 : Role) (a3 : SeqCell) : (State.setSeqCell a0 a1 a2 a3).aon = a0.aon := rfl
@[simp] theorem State.setSeqCell_jtag (a0 : State) (a1 : Link) (a2 : Role) (a3 : SeqCell) : (State.setSeqCell a0 a1 a2 a3).jtag = a0.jtag := rfl
@[simp] theorem State.setSeqCell_tr (a0 : State) (a1 : Link) (a2 : Role) (a3 : SeqCell) : (State.setSeqCell a0 a1 a2 a3).tr = a0.tr := rfl
@[simp] theorem State.setSeqCell_ks (a0 : State) (a1 : Link) (a2 : Role) (a3 : SeqCell) : (State.setSeqCell a0 a1 a2 a3).ks = a0.ks := rfl
@[simp] theorem State.setSeqCell_hd (a0 : State) (a1 : Link) (a2 : Role) (a3 : SeqCell) : (State.setSeqCell a0 a1 a2 a3).hd = a0.hd := rfl
@[simp] theorem State.setSeqCell_utc (a0 : State) (a1 : Link) (a2 : Role) (a3 : SeqCell) : (State.setSeqCell a0 a1 a2 a3).utc = a0.utc := rfl
@[simp] theorem State.setSeqCell_sl (a0 : State) (a1 : Link) (a2 : Role) (a3 : SeqCell) : (State.setSeqCell a0 a1 a2 a3).sl = a0.sl := rfl
@[simp] theorem State.setSeqCell_syn (a0 : State) (a1 : Link) (a2 : Role) (a3 : SeqCell) : (State.setSeqCell a0 a1 a2 a3).syn = a0.syn := rfl
@[simp] theorem State.setSeqCell_ev (a0 : State) (a1 : Link) (a2 : Role) (a3 : SeqCell) : (State.setSeqCell a0 a1 a2 a3).ev = a0.ev := rfl
@[simp] theorem State.setSeqCell_teb (a0 : State) (a1 : Link) (a2 : Role) (a3 : SeqCell) : (State.setSeqCell a0 a1 a2 a3).teb = a0.teb := rfl
@[simp] theorem State.setSeqCell_gn (a0 : State) (a1 : Link) (a2 : Role) (a3 : SeqCell) : (State.setSeqCell a0 a1 a2 a3).gn = a0.gn := rfl
@[simp] theorem State.setSeqCell_net (a0 : State) (a1 : Link) (a2 : Role) (a3 : SeqCell) : (State.setSeqCell a0 a1 a2 a3).net = a0.net := rfl
@[simp] theorem State.setSeqCell_tpe (a0 : State) (a1 : Link) (a2 : Role) (a3 : SeqCell) : (State.setSeqCell a0 a1 a2 a3).tpe = a0.tpe := rfl
@[simp] theorem State.setSeqCell_bw (a0 : State) (a1 : Link) (a2 : Role) (a3 : SeqCell) : (State.setSeqCell a0 a1 a2 a3).bw = a0.bw := rfl
@[simp] theorem State.bootTo_pending (a0 : State) (a1 : Nat) : (State.bootTo a0 a1).pending = a0.pending := rfl
@[simp] theorem State.bootTo_book (a0 : State) (a1 : Nat) : (State.bootTo a0 a1).book = a0.book := rfl
@[simp] theorem State.bootTo_clk (a0 : State) (a1 : Nat) : (State.bootTo a0 a1).clk = a0.clk := rfl
@[simp] theorem State.bootTo_snap (a0 : State) (a1 : Nat) : (State.bootTo a0 a1).snap = a0.snap := rfl
@[simp] theorem State.bootTo_aon (a0 : State) (a1 : Nat) : (State.bootTo a0 a1).aon = a0.aon := rfl
@[simp] theorem State.bootTo_jtag (a0 : State) (a1 : Nat) : (State.bootTo a0 a1).jtag = a0.jtag := rfl
@[simp] theorem State.bootTo_tr (a0 : State) (a1 : Nat) : (State.bootTo a0 a1).tr = a0.tr := rfl
@[simp] theorem State.bootTo_ks (a0 : State) (a1 : Nat) : (State.bootTo a0 a1).ks = a0.ks := rfl
@[simp] theorem State.bootTo_hd (a0 : State) (a1 : Nat) : (State.bootTo a0 a1).hd = a0.hd := rfl
@[simp] theorem State.bootTo_utc (a0 : State) (a1 : Nat) : (State.bootTo a0 a1).utc = a0.utc := rfl
@[simp] theorem State.bootTo_sl (a0 : State) (a1 : Nat) : (State.bootTo a0 a1).sl = a0.sl := rfl
@[simp] theorem State.bootTo_syn (a0 : State) (a1 : Nat) : (State.bootTo a0 a1).syn = a0.syn := rfl
@[simp] theorem State.bootTo_ev (a0 : State) (a1 : Nat) : (State.bootTo a0 a1).ev = a0.ev := rfl
@[simp] theorem State.bootTo_teb (a0 : State) (a1 : Nat) : (State.bootTo a0 a1).teb = a0.teb := rfl
@[simp] theorem State.bootTo_gn (a0 : State) (a1 : Nat) : (State.bootTo a0 a1).gn = a0.gn := rfl
@[simp] theorem State.bootTo_net (a0 : State) (a1 : Nat) : (State.bootTo a0 a1).net = a0.net := rfl
@[simp] theorem State.bootTo_tpe (a0 : State) (a1 : Nat) : (State.bootTo a0 a1).tpe = a0.tpe := rfl
@[simp] theorem State.bootTo_bw (a0 : State) (a1 : Nat) : (State.bootTo a0 a1).bw = a0.bw := rfl
@[simp] theorem State.takeStart_pending (a0 : State) (a1 : Nat) (a2 : Taken) : (State.takeStart a0 a1 a2).pending = a0.pending := rfl
@[simp] theorem State.takeStart_ctl (a0 : State) (a1 : Nat) (a2 : Taken) : (State.takeStart a0 a1 a2).ctl = a0.ctl := rfl
@[simp] theorem State.takeStart_clk (a0 : State) (a1 : Nat) (a2 : Taken) : (State.takeStart a0 a1 a2).clk = a0.clk := rfl
@[simp] theorem State.takeStart_snap (a0 : State) (a1 : Nat) (a2 : Taken) : (State.takeStart a0 a1 a2).snap = a0.snap := rfl
@[simp] theorem State.takeStart_aon (a0 : State) (a1 : Nat) (a2 : Taken) : (State.takeStart a0 a1 a2).aon = a0.aon := rfl
@[simp] theorem State.takeStart_jtag (a0 : State) (a1 : Nat) (a2 : Taken) : (State.takeStart a0 a1 a2).jtag = a0.jtag := rfl
@[simp] theorem State.takeStart_tr (a0 : State) (a1 : Nat) (a2 : Taken) : (State.takeStart a0 a1 a2).tr = a0.tr := rfl
@[simp] theorem State.takeStart_ks (a0 : State) (a1 : Nat) (a2 : Taken) : (State.takeStart a0 a1 a2).ks = a0.ks := rfl
@[simp] theorem State.takeStart_hd (a0 : State) (a1 : Nat) (a2 : Taken) : (State.takeStart a0 a1 a2).hd = a0.hd := rfl
@[simp] theorem State.takeStart_utc (a0 : State) (a1 : Nat) (a2 : Taken) : (State.takeStart a0 a1 a2).utc = a0.utc := rfl
@[simp] theorem State.takeStart_sl (a0 : State) (a1 : Nat) (a2 : Taken) : (State.takeStart a0 a1 a2).sl = a0.sl := rfl
@[simp] theorem State.takeStart_syn (a0 : State) (a1 : Nat) (a2 : Taken) : (State.takeStart a0 a1 a2).syn = a0.syn := rfl
@[simp] theorem State.takeStart_ev (a0 : State) (a1 : Nat) (a2 : Taken) : (State.takeStart a0 a1 a2).ev = a0.ev := rfl
@[simp] theorem State.takeStart_teb (a0 : State) (a1 : Nat) (a2 : Taken) : (State.takeStart a0 a1 a2).teb = a0.teb := rfl
@[simp] theorem State.takeStart_gn (a0 : State) (a1 : Nat) (a2 : Taken) : (State.takeStart a0 a1 a2).gn = a0.gn := rfl
@[simp] theorem State.takeStart_net (a0 : State) (a1 : Nat) (a2 : Taken) : (State.takeStart a0 a1 a2).net = a0.net := rfl
@[simp] theorem State.takeStart_tpe (a0 : State) (a1 : Nat) (a2 : Taken) : (State.takeStart a0 a1 a2).tpe = a0.tpe := rfl
@[simp] theorem State.takeStart_bw (a0 : State) (a1 : Nat) (a2 : Taken) : (State.takeStart a0 a1 a2).bw = a0.bw := rfl
@[simp] theorem State.takeHead_pending (a0 : State) (a1 : Nat) : (State.takeHead a0 a1).pending = a0.pending := rfl
@[simp] theorem State.takeHead_ctl (a0 : State) (a1 : Nat) : (State.takeHead a0 a1).ctl = a0.ctl := rfl
@[simp] theorem State.takeHead_clk (a0 : State) (a1 : Nat) : (State.takeHead a0 a1).clk = a0.clk := rfl
@[simp] theorem State.takeHead_snap (a0 : State) (a1 : Nat) : (State.takeHead a0 a1).snap = a0.snap := rfl
@[simp] theorem State.takeHead_aon (a0 : State) (a1 : Nat) : (State.takeHead a0 a1).aon = a0.aon := rfl
@[simp] theorem State.takeHead_jtag (a0 : State) (a1 : Nat) : (State.takeHead a0 a1).jtag = a0.jtag := rfl
@[simp] theorem State.takeHead_tr (a0 : State) (a1 : Nat) : (State.takeHead a0 a1).tr = a0.tr := rfl
@[simp] theorem State.takeHead_ks (a0 : State) (a1 : Nat) : (State.takeHead a0 a1).ks = a0.ks := rfl
@[simp] theorem State.takeHead_hd (a0 : State) (a1 : Nat) : (State.takeHead a0 a1).hd = a0.hd := rfl
@[simp] theorem State.takeHead_utc (a0 : State) (a1 : Nat) : (State.takeHead a0 a1).utc = a0.utc := rfl
@[simp] theorem State.takeHead_sl (a0 : State) (a1 : Nat) : (State.takeHead a0 a1).sl = a0.sl := rfl
@[simp] theorem State.takeHead_syn (a0 : State) (a1 : Nat) : (State.takeHead a0 a1).syn = a0.syn := rfl
@[simp] theorem State.takeHead_ev (a0 : State) (a1 : Nat) : (State.takeHead a0 a1).ev = a0.ev := rfl
@[simp] theorem State.takeHead_teb (a0 : State) (a1 : Nat) : (State.takeHead a0 a1).teb = a0.teb := rfl
@[simp] theorem State.takeHead_gn (a0 : State) (a1 : Nat) : (State.takeHead a0 a1).gn = a0.gn := rfl
@[simp] theorem State.takeHead_net (a0 : State) (a1 : Nat) : (State.takeHead a0 a1).net = a0.net := rfl
@[simp] theorem State.takeHead_tpe (a0 : State) (a1 : Nat) : (State.takeHead a0 a1).tpe = a0.tpe := rfl
@[simp] theorem State.takeHead_bw (a0 : State) (a1 : Nat) : (State.takeHead a0 a1).bw = a0.bw := rfl
@[simp] theorem State.fence_pending (a0 : State) : (State.fence a0).pending = a0.pending := rfl
@[simp] theorem State.fence_book (a0 : State) : (State.fence a0).book = a0.book := rfl
@[simp] theorem State.fence_ctl (a0 : State) : (State.fence a0).ctl = a0.ctl := rfl
@[simp] theorem State.fence_clk (a0 : State) : (State.fence a0).clk = a0.clk := rfl
@[simp] theorem State.fence_snap (a0 : State) : (State.fence a0).snap = a0.snap := rfl
@[simp] theorem State.fence_aon (a0 : State) : (State.fence a0).aon = a0.aon := rfl
@[simp] theorem State.fence_jtag (a0 : State) : (State.fence a0).jtag = a0.jtag := rfl
@[simp] theorem State.fence_tr (a0 : State) : (State.fence a0).tr = a0.tr := rfl
@[simp] theorem State.fence_ks (a0 : State) : (State.fence a0).ks = a0.ks := rfl
@[simp] theorem State.fence_hd (a0 : State) : (State.fence a0).hd = a0.hd := rfl
@[simp] theorem State.fence_utc (a0 : State) : (State.fence a0).utc = a0.utc := rfl
@[simp] theorem State.fence_sl (a0 : State) : (State.fence a0).sl = a0.sl := rfl
@[simp] theorem State.fence_syn (a0 : State) : (State.fence a0).syn = a0.syn := rfl
@[simp] theorem State.fence_ev (a0 : State) : (State.fence a0).ev = a0.ev := rfl
@[simp] theorem State.fence_teb (a0 : State) : (State.fence a0).teb = a0.teb := rfl
@[simp] theorem State.fence_gn (a0 : State) : (State.fence a0).gn = a0.gn := rfl
@[simp] theorem State.fence_net (a0 : State) : (State.fence a0).net = a0.net := rfl
@[simp] theorem State.fence_bw (a0 : State) : (State.fence a0).bw = a0.bw := rfl
@[simp] theorem State.snapNow_pending (a0 : State) : (State.snapNow a0).pending = a0.pending := rfl
@[simp] theorem State.snapNow_book (a0 : State) : (State.snapNow a0).book = a0.book := rfl
@[simp] theorem State.snapNow_ctl (a0 : State) : (State.snapNow a0).ctl = a0.ctl := rfl
@[simp] theorem State.snapNow_clk (a0 : State) : (State.snapNow a0).clk = a0.clk := rfl
@[simp] theorem State.snapNow_aon (a0 : State) : (State.snapNow a0).aon = a0.aon := rfl
@[simp] theorem State.snapNow_jtag (a0 : State) : (State.snapNow a0).jtag = a0.jtag := rfl
@[simp] theorem State.snapNow_tr (a0 : State) : (State.snapNow a0).tr = a0.tr := rfl
@[simp] theorem State.snapNow_ks (a0 : State) : (State.snapNow a0).ks = a0.ks := rfl
@[simp] theorem State.snapNow_hd (a0 : State) : (State.snapNow a0).hd = a0.hd := rfl
@[simp] theorem State.snapNow_utc (a0 : State) : (State.snapNow a0).utc = a0.utc := rfl
@[simp] theorem State.snapNow_sl (a0 : State) : (State.snapNow a0).sl = a0.sl := rfl
@[simp] theorem State.snapNow_syn (a0 : State) : (State.snapNow a0).syn = a0.syn := rfl
@[simp] theorem State.snapNow_ev (a0 : State) : (State.snapNow a0).ev = a0.ev := rfl
@[simp] theorem State.snapNow_teb (a0 : State) : (State.snapNow a0).teb = a0.teb := rfl
@[simp] theorem State.snapNow_gn (a0 : State) : (State.snapNow a0).gn = a0.gn := rfl
@[simp] theorem State.snapNow_net (a0 : State) : (State.snapNow a0).net = a0.net := rfl
@[simp] theorem State.snapNow_tpe (a0 : State) : (State.snapNow a0).tpe = a0.tpe := rfl
@[simp] theorem State.snapNow_bw (a0 : State) : (State.snapNow a0).bw = a0.bw := rfl
@[simp] theorem State.rangeReject_pending (a0 : State) (a1 : Nat) (a2 : Nat) : (State.rangeReject a0 a1 a2).pending = a0.pending := rfl
@[simp] theorem State.rangeReject_ctl (a0 : State) (a1 : Nat) (a2 : Nat) : (State.rangeReject a0 a1 a2).ctl = a0.ctl := rfl
@[simp] theorem State.rangeReject_clk (a0 : State) (a1 : Nat) (a2 : Nat) : (State.rangeReject a0 a1 a2).clk = a0.clk := rfl
@[simp] theorem State.rangeReject_snap (a0 : State) (a1 : Nat) (a2 : Nat) : (State.rangeReject a0 a1 a2).snap = a0.snap := rfl
@[simp] theorem State.rangeReject_aon (a0 : State) (a1 : Nat) (a2 : Nat) : (State.rangeReject a0 a1 a2).aon = a0.aon := rfl
@[simp] theorem State.rangeReject_jtag (a0 : State) (a1 : Nat) (a2 : Nat) : (State.rangeReject a0 a1 a2).jtag = a0.jtag := rfl
@[simp] theorem State.rangeReject_tr (a0 : State) (a1 : Nat) (a2 : Nat) : (State.rangeReject a0 a1 a2).tr = a0.tr := rfl
@[simp] theorem State.rangeReject_ks (a0 : State) (a1 : Nat) (a2 : Nat) : (State.rangeReject a0 a1 a2).ks = a0.ks := rfl
@[simp] theorem State.rangeReject_hd (a0 : State) (a1 : Nat) (a2 : Nat) : (State.rangeReject a0 a1 a2).hd = a0.hd := rfl
@[simp] theorem State.rangeReject_utc (a0 : State) (a1 : Nat) (a2 : Nat) : (State.rangeReject a0 a1 a2).utc = a0.utc := rfl
@[simp] theorem State.rangeReject_sl (a0 : State) (a1 : Nat) (a2 : Nat) : (State.rangeReject a0 a1 a2).sl = a0.sl := rfl
@[simp] theorem State.rangeReject_syn (a0 : State) (a1 : Nat) (a2 : Nat) : (State.rangeReject a0 a1 a2).syn = a0.syn := rfl
@[simp] theorem State.rangeReject_ev (a0 : State) (a1 : Nat) (a2 : Nat) : (State.rangeReject a0 a1 a2).ev = a0.ev := rfl
@[simp] theorem State.rangeReject_teb (a0 : State) (a1 : Nat) (a2 : Nat) : (State.rangeReject a0 a1 a2).teb = a0.teb := rfl
@[simp] theorem State.rangeReject_gn (a0 : State) (a1 : Nat) (a2 : Nat) : (State.rangeReject a0 a1 a2).gn = a0.gn := rfl
@[simp] theorem State.rangeReject_net (a0 : State) (a1 : Nat) (a2 : Nat) : (State.rangeReject a0 a1 a2).net = a0.net := rfl
@[simp] theorem State.rangeReject_tpe (a0 : State) (a1 : Nat) (a2 : Nat) : (State.rangeReject a0 a1 a2).tpe = a0.tpe := rfl
@[simp] theorem State.rangeReject_bw (a0 : State) (a1 : Nat) (a2 : Nat) : (State.rangeReject a0 a1 a2).bw = a0.bw := rfl
@[simp] theorem State.endSession_pending (a0 : State) (a1 : Link) : (State.endSession a0 a1).pending = a0.pending := rfl
@[simp] theorem State.endSession_ctl (a0 : State) (a1 : Link) : (State.endSession a0 a1).ctl = a0.ctl := rfl
@[simp] theorem State.endSession_clk (a0 : State) (a1 : Link) : (State.endSession a0 a1).clk = a0.clk := rfl
@[simp] theorem State.endSession_snap (a0 : State) (a1 : Link) : (State.endSession a0 a1).snap = a0.snap := rfl
@[simp] theorem State.endSession_aon (a0 : State) (a1 : Link) : (State.endSession a0 a1).aon = a0.aon := rfl
@[simp] theorem State.endSession_jtag (a0 : State) (a1 : Link) : (State.endSession a0 a1).jtag = a0.jtag := rfl
@[simp] theorem State.endSession_tr (a0 : State) (a1 : Link) : (State.endSession a0 a1).tr = a0.tr := rfl
@[simp] theorem State.endSession_ks (a0 : State) (a1 : Link) : (State.endSession a0 a1).ks = a0.ks := rfl
@[simp] theorem State.endSession_hd (a0 : State) (a1 : Link) : (State.endSession a0 a1).hd = a0.hd := rfl
@[simp] theorem State.endSession_utc (a0 : State) (a1 : Link) : (State.endSession a0 a1).utc = a0.utc := rfl
@[simp] theorem State.endSession_sl (a0 : State) (a1 : Link) : (State.endSession a0 a1).sl = a0.sl := rfl
@[simp] theorem State.endSession_syn (a0 : State) (a1 : Link) : (State.endSession a0 a1).syn = a0.syn := rfl
@[simp] theorem State.endSession_ev (a0 : State) (a1 : Link) : (State.endSession a0 a1).ev = a0.ev := rfl
@[simp] theorem State.endSession_teb (a0 : State) (a1 : Link) : (State.endSession a0 a1).teb = a0.teb := rfl
@[simp] theorem State.endSession_gn (a0 : State) (a1 : Link) : (State.endSession a0 a1).gn = a0.gn := rfl
@[simp] theorem State.endSession_net (a0 : State) (a1 : Link) : (State.endSession a0 a1).net = a0.net := rfl
@[simp] theorem State.endSession_tpe (a0 : State) (a1 : Link) : (State.endSession a0 a1).tpe = a0.tpe := rfl
@[simp] theorem State.endSession_bw (a0 : State) (a1 : Link) : (State.endSession a0 a1).bw = a0.bw := rfl
@[simp] theorem State.strapped_pending (a0 : State) (a1 : Bool) (a2 : Nat) : (State.strapped a0 a1 a2).pending = a0.pending := rfl
@[simp] theorem State.strapped_book (a0 : State) (a1 : Bool) (a2 : Nat) : (State.strapped a0 a1 a2).book = a0.book := rfl
@[simp] theorem State.strapped_clk (a0 : State) (a1 : Bool) (a2 : Nat) : (State.strapped a0 a1 a2).clk = a0.clk := rfl
@[simp] theorem State.strapped_snap (a0 : State) (a1 : Bool) (a2 : Nat) : (State.strapped a0 a1 a2).snap = a0.snap := rfl
@[simp] theorem State.strapped_aon (a0 : State) (a1 : Bool) (a2 : Nat) : (State.strapped a0 a1 a2).aon = a0.aon := rfl
@[simp] theorem State.strapped_jtag (a0 : State) (a1 : Bool) (a2 : Nat) : (State.strapped a0 a1 a2).jtag = a0.jtag := rfl
@[simp] theorem State.strapped_tr (a0 : State) (a1 : Bool) (a2 : Nat) : (State.strapped a0 a1 a2).tr = a0.tr := rfl
@[simp] theorem State.strapped_ks (a0 : State) (a1 : Bool) (a2 : Nat) : (State.strapped a0 a1 a2).ks = a0.ks := rfl
@[simp] theorem State.strapped_hd (a0 : State) (a1 : Bool) (a2 : Nat) : (State.strapped a0 a1 a2).hd = a0.hd := rfl
@[simp] theorem State.strapped_utc (a0 : State) (a1 : Bool) (a2 : Nat) : (State.strapped a0 a1 a2).utc = a0.utc := rfl
@[simp] theorem State.strapped_sl (a0 : State) (a1 : Bool) (a2 : Nat) : (State.strapped a0 a1 a2).sl = a0.sl := rfl
@[simp] theorem State.strapped_syn (a0 : State) (a1 : Bool) (a2 : Nat) : (State.strapped a0 a1 a2).syn = a0.syn := rfl
@[simp] theorem State.strapped_ev (a0 : State) (a1 : Bool) (a2 : Nat) : (State.strapped a0 a1 a2).ev = a0.ev := rfl
@[simp] theorem State.strapped_teb (a0 : State) (a1 : Bool) (a2 : Nat) : (State.strapped a0 a1 a2).teb = a0.teb := rfl
@[simp] theorem State.strapped_gn (a0 : State) (a1 : Bool) (a2 : Nat) : (State.strapped a0 a1 a2).gn = a0.gn := rfl
@[simp] theorem State.strapped_net (a0 : State) (a1 : Bool) (a2 : Nat) : (State.strapped a0 a1 a2).net = a0.net := rfl
@[simp] theorem State.strapped_tpe (a0 : State) (a1 : Bool) (a2 : Nat) : (State.strapped a0 a1 a2).tpe = a0.tpe := rfl
@[simp] theorem State.strapped_bw (a0 : State) (a1 : Bool) (a2 : Nat) : (State.strapped a0 a1 a2).bw = a0.bw := rfl
@[simp] theorem State.setRequest_pending (a0 : State) (a1 : Option SetRequest) : (State.setRequest a0 a1).pending = a0.pending := rfl
@[simp] theorem State.setRequest_book (a0 : State) (a1 : Option SetRequest) : (State.setRequest a0 a1).book = a0.book := rfl
@[simp] theorem State.setRequest_clk (a0 : State) (a1 : Option SetRequest) : (State.setRequest a0 a1).clk = a0.clk := rfl
@[simp] theorem State.setRequest_snap (a0 : State) (a1 : Option SetRequest) : (State.setRequest a0 a1).snap = a0.snap := rfl
@[simp] theorem State.setRequest_aon (a0 : State) (a1 : Option SetRequest) : (State.setRequest a0 a1).aon = a0.aon := rfl
@[simp] theorem State.setRequest_jtag (a0 : State) (a1 : Option SetRequest) : (State.setRequest a0 a1).jtag = a0.jtag := rfl
@[simp] theorem State.setRequest_tr (a0 : State) (a1 : Option SetRequest) : (State.setRequest a0 a1).tr = a0.tr := rfl
@[simp] theorem State.setRequest_ks (a0 : State) (a1 : Option SetRequest) : (State.setRequest a0 a1).ks = a0.ks := rfl
@[simp] theorem State.setRequest_hd (a0 : State) (a1 : Option SetRequest) : (State.setRequest a0 a1).hd = a0.hd := rfl
@[simp] theorem State.setRequest_utc (a0 : State) (a1 : Option SetRequest) : (State.setRequest a0 a1).utc = a0.utc := rfl
@[simp] theorem State.setRequest_sl (a0 : State) (a1 : Option SetRequest) : (State.setRequest a0 a1).sl = a0.sl := rfl
@[simp] theorem State.setRequest_syn (a0 : State) (a1 : Option SetRequest) : (State.setRequest a0 a1).syn = a0.syn := rfl
@[simp] theorem State.setRequest_ev (a0 : State) (a1 : Option SetRequest) : (State.setRequest a0 a1).ev = a0.ev := rfl
@[simp] theorem State.setRequest_teb (a0 : State) (a1 : Option SetRequest) : (State.setRequest a0 a1).teb = a0.teb := rfl
@[simp] theorem State.setRequest_gn (a0 : State) (a1 : Option SetRequest) : (State.setRequest a0 a1).gn = a0.gn := rfl
@[simp] theorem State.setRequest_net (a0 : State) (a1 : Option SetRequest) : (State.setRequest a0 a1).net = a0.net := rfl
@[simp] theorem State.setRequest_tpe (a0 : State) (a1 : Option SetRequest) : (State.setRequest a0 a1).tpe = a0.tpe := rfl
@[simp] theorem State.setRequest_bw (a0 : State) (a1 : Option SetRequest) : (State.setRequest a0 a1).bw = a0.bw := rfl
@[simp] theorem State.pkuStart_pending (a0 : State) (a1 : PkuOp) : (State.pkuStart a0 a1).pending = a0.pending := rfl
@[simp] theorem State.pkuStart_book (a0 : State) (a1 : PkuOp) : (State.pkuStart a0 a1).book = a0.book := rfl
@[simp] theorem State.pkuStart_ctl (a0 : State) (a1 : PkuOp) : (State.pkuStart a0 a1).ctl = a0.ctl := rfl
@[simp] theorem State.pkuStart_clk (a0 : State) (a1 : PkuOp) : (State.pkuStart a0 a1).clk = a0.clk := rfl
@[simp] theorem State.pkuStart_snap (a0 : State) (a1 : PkuOp) : (State.pkuStart a0 a1).snap = a0.snap := rfl
@[simp] theorem State.pkuStart_aon (a0 : State) (a1 : PkuOp) : (State.pkuStart a0 a1).aon = a0.aon := rfl
@[simp] theorem State.pkuStart_jtag (a0 : State) (a1 : PkuOp) : (State.pkuStart a0 a1).jtag = a0.jtag := rfl
@[simp] theorem State.pkuStart_tr (a0 : State) (a1 : PkuOp) : (State.pkuStart a0 a1).tr = a0.tr := rfl
@[simp] theorem State.pkuStart_hd (a0 : State) (a1 : PkuOp) : (State.pkuStart a0 a1).hd = a0.hd := rfl
@[simp] theorem State.pkuStart_utc (a0 : State) (a1 : PkuOp) : (State.pkuStart a0 a1).utc = a0.utc := rfl
@[simp] theorem State.pkuStart_sl (a0 : State) (a1 : PkuOp) : (State.pkuStart a0 a1).sl = a0.sl := rfl
@[simp] theorem State.pkuStart_syn (a0 : State) (a1 : PkuOp) : (State.pkuStart a0 a1).syn = a0.syn := rfl
@[simp] theorem State.pkuStart_ev (a0 : State) (a1 : PkuOp) : (State.pkuStart a0 a1).ev = a0.ev := rfl
@[simp] theorem State.pkuStart_teb (a0 : State) (a1 : PkuOp) : (State.pkuStart a0 a1).teb = a0.teb := rfl
@[simp] theorem State.pkuStart_gn (a0 : State) (a1 : PkuOp) : (State.pkuStart a0 a1).gn = a0.gn := rfl
@[simp] theorem State.pkuStart_net (a0 : State) (a1 : PkuOp) : (State.pkuStart a0 a1).net = a0.net := rfl
@[simp] theorem State.pkuStart_tpe (a0 : State) (a1 : PkuOp) : (State.pkuStart a0 a1).tpe = a0.tpe := rfl
@[simp] theorem State.pkuStart_bw (a0 : State) (a1 : PkuOp) : (State.pkuStart a0 a1).bw = a0.bw := rfl
@[simp] theorem State.filterRestart_pending (a0 : State) (a1 : Nat) : (State.filterRestart a0 a1).pending = a0.pending := rfl
@[simp] theorem State.filterRestart_book (a0 : State) (a1 : Nat) : (State.filterRestart a0 a1).book = a0.book := rfl
@[simp] theorem State.filterRestart_ctl (a0 : State) (a1 : Nat) : (State.filterRestart a0 a1).ctl = a0.ctl := rfl
@[simp] theorem State.filterRestart_clk (a0 : State) (a1 : Nat) : (State.filterRestart a0 a1).clk = a0.clk := rfl
@[simp] theorem State.filterRestart_snap (a0 : State) (a1 : Nat) : (State.filterRestart a0 a1).snap = a0.snap := rfl
@[simp] theorem State.filterRestart_aon (a0 : State) (a1 : Nat) : (State.filterRestart a0 a1).aon = a0.aon := rfl
@[simp] theorem State.filterRestart_jtag (a0 : State) (a1 : Nat) : (State.filterRestart a0 a1).jtag = a0.jtag := rfl
@[simp] theorem State.filterRestart_tr (a0 : State) (a1 : Nat) : (State.filterRestart a0 a1).tr = a0.tr := rfl
@[simp] theorem State.filterRestart_ks (a0 : State) (a1 : Nat) : (State.filterRestart a0 a1).ks = a0.ks := rfl
@[simp] theorem State.filterRestart_utc (a0 : State) (a1 : Nat) : (State.filterRestart a0 a1).utc = a0.utc := rfl
@[simp] theorem State.filterRestart_sl (a0 : State) (a1 : Nat) : (State.filterRestart a0 a1).sl = a0.sl := rfl
@[simp] theorem State.filterRestart_syn (a0 : State) (a1 : Nat) : (State.filterRestart a0 a1).syn = a0.syn := rfl
@[simp] theorem State.filterRestart_ev (a0 : State) (a1 : Nat) : (State.filterRestart a0 a1).ev = a0.ev := rfl
@[simp] theorem State.filterRestart_teb (a0 : State) (a1 : Nat) : (State.filterRestart a0 a1).teb = a0.teb := rfl
@[simp] theorem State.filterRestart_gn (a0 : State) (a1 : Nat) : (State.filterRestart a0 a1).gn = a0.gn := rfl
@[simp] theorem State.filterRestart_net (a0 : State) (a1 : Nat) : (State.filterRestart a0 a1).net = a0.net := rfl
@[simp] theorem State.filterRestart_tpe (a0 : State) (a1 : Nat) : (State.filterRestart a0 a1).tpe = a0.tpe := rfl
@[simp] theorem State.filterRestart_bw (a0 : State) (a1 : Nat) : (State.filterRestart a0 a1).bw = a0.bw := rfl

end Sys2Proof.Machine
end

