-- ==== Sys2Proof/Laws/Ops.lean ====
section
/-! SUPPORT. What the shared operations do: reads after writes, and what counting, logging, notices and rings leave alone. -/

namespace Sys2Proof.Machine

/-! Registers. -/

@[simp] theorem State.rd_wr_same (s : State) (r : Reg) (v : Int) : (s.wr r v).rd r = v :=
  SMap.get_put_same _ _ _ _

theorem State.rd_wr_ne (s : State) {r q : Reg} (v : Int) (h : q.key ≠ r.key) : (s.wr r v).rd q = s.rd q :=
  SMap.get_put_ne _ _ _ h _

@[simp] theorem State.rd_wrN_same (s : State) (r : Reg) (v : Nat) : (s.wrN r v).rd r = v := s.rd_wr_same r v

theorem State.rd_wrN_ne (s : State) {r q : Reg} (v : Nat) (h : q.key ≠ r.key) : (s.wrN r v).rd q = s.rd q :=
  s.rd_wr_ne v h

@[simp] theorem State.rdN_wrN_same (s : State) (r : Reg) (v : Nat) : (s.wrN r v).rdN r = v := by simp [State.rdN]

theorem State.rdN_wrN_ne (s : State) {r q : Reg} (v : Nat) (h : q.key ≠ r.key) : (s.wrN r v).rdN q = s.rdN q := by
  simp [State.rdN, s.rd_wrN_ne v h]

theorem State.rdN_wr_ne (s : State) {r q : Reg} (v : Int) (h : q.key ≠ r.key) : (s.wr r v).rdN q = s.rdN q := by
  simp [State.rdN, s.rd_wr_ne v h]

theorem State.rd_stick_ne (s : State) {r q : Reg} (b : Nat) (h : q.key ≠ r.key) : (s.stick r b).rd q = s.rd q :=
  s.rd_wrN_ne _ h

@[simp] theorem State.rdN_stick_same (s : State) (r : Reg) (b : Nat) : (s.stick r b).rdN r = sqSet (s.rdN r) b :=
  s.rdN_wrN_same r _

@[simp] theorem State.blob_wrBlob_same (s : State) (d : List Octet) (r : Reg) (v : List Octet) :
    (s.wrBlob d r v).blob d r = v := SMap.get_put_same _ _ _ _

theorem State.blob_wrBlob_ne (s : State) (d d' : List Octet) {r q : Reg} (v : List Octet) (h : q.key ≠ r.key) :
    (s.wrBlob d r v).blob d' q = s.blob d' q := SMap.get_put_ne _ _ _ h _

@[simp] theorem State.rd_wrBlob (s : State) (d : List Octet) (r q : Reg) (v : List Octet) :
    (s.wrBlob d r v).rd q = s.rd q := rfl

/-- A write keeps the registers in their one canonical form. -/
theorem State.wr_sorted (s : State) (r : Reg) (v : Int) (h : SMap.sorted s.book.objs = true) :
    SMap.sorted (s.wr r v).book.objs = true := SMap.sorted_put _ _ _ _ h

/-- So does a write of octets. -/
theorem State.wrBlob_sorted (s : State) (d : List Octet) (r : Reg) (v : List Octet) (h : SMap.sorted s.book.blobs = true) :
    SMap.sorted (s.wrBlob d r v).book.blobs = true := SMap.sorted_put _ _ _ _ h

/-! Control. -/

@[simp] theorem State.when_true (s : State) (p : State → State) : s.when true p = p s := rfl
@[simp] theorem State.when_false (s : State) (p : State → State) : s.when false p = s := rfl

/-- What every call of `p` keeps, the conditional call keeps. -/
theorem State.when_keeps {α : Sort _} (f : State → α) (s : State) (b : Bool) (p : State → State)
    (h : ∀ t, f (p t) = f t) : f (s.when b p) = f s := by
  cases b
  · rfl
  · exact h s

/-- What every call of `p` keeps, the loop keeps. -/
theorem State.forEach_keeps {α : Type} {β : Sort _} (f : State → β) (p : State → α → State) (l : List α) (s : State)
    (h : ∀ t a, f (p t a) = f t) : f (State.forEach p l s) = f s := by
  induction l generalizing s with
  | nil => rfl
  | cons a l ih => exact (ih (p s a)).trans (h s a)

/-! What only bookkeeping writes. -/

theorem Agrees.refl (s : State) : Agrees s s := by constructor <;> intros <;> rfl

theorem Agrees.trans {s t u : State} (h : Agrees s t) (k : Agrees t u) : Agrees s u := by
  constructor
  case rd => intro r hr; rw [k.rd r hr, h.rd r hr]
  all_goals first
    | exact k.pending.trans h.pending | exact k.ctl.trans h.ctl | exact k.clk.trans h.clk | exact k.snap.trans h.snap
    | exact k.aon.trans h.aon | exact k.jtag.trans h.jtag | exact k.tr.trans h.tr | exact k.ks.trans h.ks
    | exact k.hd.trans h.hd | exact k.utc.trans h.utc | exact k.sl.trans h.sl | exact k.syn.trans h.syn
    | exact k.ev.trans h.ev | exact k.teb.trans h.teb | exact k.gn.trans h.gn | exact k.tpe.trans h.tpe
    | exact k.bw.trans h.bw | exact k.ports.trans h.ports | exact k.buckets.trans h.buckets
    | exact k.blobs.trans h.blobs | exact k.guard.trans h.guard | exact k.held.trans h.held

/-- A write of a register at D000 or above. -/
theorem Agrees.wr {s t : State} (h : Agrees s t) (r : Reg) (v : Int) (hr : 0xD00000 ≤ r.key) : Agrees s (t.wr r v) := by
  refine h.trans ?_
  constructor
  case rd => intro q hq; exact t.rd_wr_ne v (by unfold Reg.low at hq; omega)
  all_goals rfl

theorem Agrees.wrN {s t : State} (h : Agrees s t) (r : Reg) (v : Nat) (hr : 0xD00000 ≤ r.key) : Agrees s (t.wrN r v) :=
  h.wr r v hr

theorem Agrees.stick {s t : State} (h : Agrees s t) (r : Reg) (b : Nat) (hr : 0xD00000 ≤ r.key) : Agrees s (t.stick r b) :=
  h.wr r _ hr

theorem Agrees.bump {s t : State} (h : Agrees s t) (r : Reg) (hr : 0xD00000 ≤ r.key) : Agrees s (t.bump r) :=
  h.wr r _ hr

/-- Any change of bookkeeping that leaves the registers, the octets, the guards and what waits alone. -/
theorem Agrees.book {s t : State} (h : Agrees s t) (b : Book) (ho : b.objs = t.book.objs) (hb : b.blobs = t.book.blobs)
    (hg : b.guard = t.book.guard) (hh : b.held = t.book.held) : Agrees s { t with book := b } := by
  refine h.trans ?_
  constructor
  case rd => intro q _; simp only [State.rd, ho]
  case blobs => exact hb
  case guard => exact hg
  case held => exact hh
  all_goals rfl

theorem Agrees.put {s t : State} (h : Agrees s t) (d : Due) : Agrees s (t.put d) := h.book _ rfl rfl rfl rfl
theorem Agrees.raise {s t : State} (h : Agrees s t) (n : Nat) : Agrees s (t.raise n) := h.put _
theorem Agrees.emit {s t : State} (h : Agrees s t) (e : Emission) : Agrees s (t.emit e) := h.book _ rfl rfl rfl rfl
theorem Agrees.setRing {s t : State} (h : Agrees s t) (k : Nat) (x : Ring) : Agrees s (t.setRing k x) :=
  h.book _ rfl rfl rfl rfl

theorem Agrees.when {s t : State} (h : Agrees s t) (b : Bool) (p : State → State) (hp : ∀ u, Agrees u (p u)) :
    Agrees s (t.when b p) := by
  cases b
  · exact h
  · exact h.trans (hp t)

theorem Agrees.forEach {α : Type} {s t : State} (h : Agrees s t) (p : State → α → State) (l : List α)
    (hp : ∀ u a, Agrees u (p u a)) : Agrees s (State.forEach p l t) := by
  induction l generalizing t with
  | nil => exact h
  | cons a l ih => exact ih (h.trans (hp t a))

/-! The registers that bookkeeping writes lie above. -/

theorem key_SRC_STATE (n : Nat) : 0xD00000 ≤ (Obj.SRC_STATE n).key := by
  simp only [Obj.SRC_STATE, regKey]; omega

theorem key_CTR_VALUE (n : Nat) : 0xD00000 ≤ (Obj.CTR_VALUE n).key := by
  simp only [Obj.CTR_VALUE, regKey]; omega

theorem key_CTR_FLAGS (n : Nat) : 0xD00000 ≤ (Obj.CTR_FLAGS n).key := by
  simp only [Obj.CTR_FLAGS, regKey]; omega

theorem key_RING_HEAD (n : Nat) : 0xD00000 ≤ (Obj.RING_HEAD n).key := by
  simp only [Obj.RING_HEAD, regKey]; omega

theorem key_RING_DONE (n : Nat) : 0xD00000 ≤ (Obj.RING_DONE n).key := by
  simp only [Obj.RING_DONE, regKey]; omega

/-! Event counters. -/

theorem Agrees.dropCarry {s t : State} (h : Agrees s t) (n : Nat) : Agrees s (t.dropCarry n) := by
  have h1 : Agrees s (t.stick (Obj.CTR_FLAGS n) 1) := h.stick _ 1 (key_CTR_FLAGS n)
  have h2 : Agrees s ((t.stick (Obj.CTR_FLAGS n) 1).stick Obj.CTR_STATUS 3) := h1.stick _ _ (by decide)
  exact h2.raise _

theorem Agrees.addTo {s : State} (f : Nat) {t : State} (h : Agrees s t) (n amt : Nat) : Agrees s (State.addTo f t n amt) := by
  induction f generalizing t n amt with
  | zero => exact h
  | succ f ih =>
    unfold State.addTo
    dsimp only
    have h1 := h.wrN (Obj.CTR_VALUE n) ((t.rdN (Obj.CTR_VALUE n) + amt) % 2 ^ 32) (key_CTR_VALUE n)
    generalize t.wrN (Obj.CTR_VALUE n) ((t.rdN (Obj.CTR_VALUE n) + amt) % 2 ^ 32) = u at h1 ⊢
    split
    · exact h1
    · split
      · split
        · exact ih h1 _ _
        · exact h1.dropCarry n
      · exact h1.stick _ _ (key_CTR_FLAGS n)

/-- Counting an event changes counters alone. -/
theorem Agrees.count {s t : State} (h : Agrees s t) (ev amt : Nat) : Agrees s (t.count ev amt) := by
  unfold State.count
  split
  · exact h
  · refine h.forEach _ _ fun u n => ?_
    split
    · exact (Agrees.refl u).addTo _ _ _
    · exact Agrees.refl u

/-! Conditions. -/

/-- The begin or the end of a condition shows in its source alone. -/
theorem Agrees.cond {s t : State} (h : Agrees s t) (n : Nat) (on : Bool) : Agrees s (t.cond n on) := by
  unfold State.cond
  split
  · exact h
  · exact (h.wrN _ _ (key_SRC_STATE n)).put _

/-! Rings and the log. -/

theorem Agrees.message {s t : State} (h : Agrees s t) (v : Nat) : Agrees s (t.message v) := by
  unfold State.message
  dsimp only
  split
  · exact h.book _ rfl rfl rfl rfl
  · exact h.emit _

theorem Agrees.signal {s t : State} (h : Agrees s t) (k : Nat) : Agrees s (t.signal k) := (h.setRing _ _).message _

theorem Agrees.trailer {s t : State} (h : Agrees s t) (k : Nat) : Agrees s (t.trailer k) := by
  unfold State.trailer
  split
  · exact h.setRing _ _
  · exact (h.setRing _ _).emit _

theorem Agrees.qualify {s t : State} (h : Agrees s t) (k : Nat) (i : Bool) : Agrees s (t.qualify k i) := by
  unfold State.qualify
  repeat' first | exact h | exact h.signal _ | exact h.setRing _ _ | split

theorem Agrees.takeHead {s t : State} (h : Agrees s t) (k : Nat) : Agrees s (t.takeHead k) :=
  (h.setRing _ _).wrN _ _ (key_RING_HEAD k)

theorem Agrees.wroteBack {s t : State} (h : Agrees s t) (k d st : Nat) (i : Bool) : Agrees s (t.wroteBack k d st i) :=
  ((((h.wrN _ _ (key_RING_DONE k)).count _ _).when _ _ fun u => (Agrees.refl u).count _ _).trailer _).qualify _ _

theorem Agrees.writeBack {s t : State} (h : Agrees s t) (k c : Nat) (p : Posted) (ns aux len st : Nat) :
    Agrees s (t.writeBack k c p ns aux len st) := h.emit _

theorem Agrees.ownGap {s t : State} (h : Agrees s t) (k : Nat) : Agrees s (t.ownGap k) := by
  unfold State.ownGap
  exact ((h.setRing _ _).stick Obj.HL_STATUS 4 (by decide)).raise _

theorem Agrees.fill {s : State} (k aux ns : Nat) (rec : List Octet) (l : List Posted) {t : State} (h : Agrees s t) :
    Agrees s (State.fill k aux ns rec l t).1 := by
  induction l generalizing t with
  | nil => exact h
  | cons p l ih =>
    unfold State.fill
    dsimp only
    split
    · exact h.ownGap _
    · generalize (if p.length = 0 then 2 else if p.length < rec.length then 1 else 0 : Nat) = st
      have h1 : ∀ (p : Posted) (n : Nat), Agrees s (((((t.takeHead k).when (st == 0) (·.emit (.buffer p.addr rec))).writeBack k
          (t.rdN (Obj.RING_HEAD k)) p ns aux n st).wroteBack k (wrapSucc (t.rdN (Obj.RING_HEAD k))) st p.interrupt)) := fun p n =>
        (((h.takeHead k).when (st == 0) _ fun u => (Agrees.refl u).emit (.buffer p.addr rec)).writeBack _ _ _ _ _ _ _).wroteBack
          _ _ _ _
      split
      · exact h1 _ _
      · exact ih (h1 _ _)

/-- A record for a ring changes the ring, and counters. -/
theorem Agrees.toRing {s t : State} (h : Agrees s t) (k aux ns : Nat) (rec : List Octet) :
    Agrees s (t.toRing k aux ns rec).1 := by
  unfold State.toRing
  split
  · exact h
  · split
    · exact h
    · exact Agrees.fill _ _ _ _ _ h

theorem Agrees.logToRing {s t : State} (h : Agrees s t) (e : LogEntry) : Agrees s (t.logToRing e) := by
  unfold State.logToRing
  have h1 := h.toRing 23 0 t.stampNs ({ e with lostBefore := t.book.logLostBefore } : LogEntry).octets
  generalize t.toRing 23 0 t.stampNs ({ e with lostBefore := t.book.logLostBefore } : LogEntry).octets = r at h1
  dsimp only
  split
  · exact h
  · exact h1.book _ rfl rfl rfl rfl
  · have h2 := h1.book { r.1.book with logLostBefore := true } rfl rfl rfl rfl
    exact (((h2.bump Obj.FLOG_RING_LOST (by decide)).stick Obj.SD_STATUS 2 (by decide)).count _ _).raise _

/-- An entry of the fault log changes the log and ring 23. -/
theorem Agrees.log {s t : State} (h : Agrees s t) (kind src sev rea : Nat) (c f i : Bool) (d : Nat) :
    Agrees s (t.log kind src sev rea c f i d) := by
  unfold State.log
  have h1 : Agrees s (t.bump Obj.FLOG_NEXT) := h.bump Obj.FLOG_NEXT (by decide)
  dsimp only
  generalize t.bump Obj.FLOG_NEXT = u at h1 ⊢
  generalize u.book.flog ++ [_] = all
  generalize all.drop (all.length - 256) = l
  exact (h1.book { u.book with flog := l } rfl rfl rfl rfl).logToRing _

theorem Agrees.logFs {s t : State} (h : Agrees s t) (kind : Nat) : Agrees s (t.logFs kind) := h.log _ _ _ _ _ _ _ _

/-! Notices. -/

theorem Agrees.setSub {s t : State} (h : Agrees s t) (x : Subscription) : Agrees s (t.setSub x) :=
  h.book _ rfl rfl rfl rfl

theorem Agrees.setFp {s t : State} (h : Agrees s t) (f : Nat) (x : FieldPort) : Agrees s (t.setFp f x) := by
  refine h.trans ?_
  constructor
  case rd => intro q _; rfl
  all_goals rfl

theorem Agrees.sendFp {s t : State} (h : Agrees s t) (f mac : Nat) (m : List Octet) : Agrees s (t.sendFp f mac m) := by
  unfold State.sendFp
  dsimp only
  split
  · exact h.setFp _ _
  · exact h

theorem Agrees.notifyOne {s t : State} (h : Agrees s t) (c i b : Nat) (body : List Octet) (x : Subscription) :
    Agrees s (State.notifyOne c i b body t x) := by
  unfold State.notifyOne
  dsimp only
  repeat' first | exact h | exact h.setSub _ | exact ((h.setSub _).count _ _).toRing _ _ _ _ |
    exact ((h.setSub _).count _ _).sendFp _ _ _ | split

/-- A notice changes subscriptions, ring 2 and the field ports' queues. -/
theorem Agrees.notice {s t : State} (h : Agrees s t) (c i b : Nat) (body : List Octet) : Agrees s (t.notice c i b body) :=
  h.forEach _ _ fun u _ => (Agrees.refl u).notifyOne _ _ _ _ _

/-! The clock. -/

/-- A cycle that passes while the clock stands changes nothing. -/
theorem State.runCycles_stopped (s : State) (n : Nat) (h : s.clk.running = false) : s.runCycles n = s := by
  cases n <;> simp [State.runCycles, State.runPlain, h]

/-! The end of a cycle. -/

/-- The end of a cycle leaves no raise over (R406). -/
theorem State.settleIn_due (n : Nat) (s : State) : (State.settleIn n s).book.due = [] := by
  induction n generalizing s with
  | zero => rfl
  | succ n ih =>
    unfold State.settleIn
    split
    · rename_i h; simpa using h
    · dsimp only
      repeat' first | exact ih _ | rfl | split

theorem State.settle_due (s : State) : s.settle.book.due = [] := State.settleIn_due _ _
theorem State.close_due (s : State) : s.close.book.due = [] := State.settle_due _

/-- With nothing raised, the first pass does nothing. -/
theorem State.settleIn_nil (n : Nat) (s : State) (h : s.book.due = []) : State.settleIn n s = s := by
  cases n with
  | zero =>
    unfold State.settleIn
    obtain ⟨_, b, _⟩ := s
    cases b
    simp_all
  | succ n => unfold State.settleIn; simp [h]

/-- Without a bound that has become finite or unbounded since the last look, the log on ring 22 gets no entry (R174). -/
theorem State.tebWatch_calm (s : State) (h : s.teb.finite = if s.rdB Obj.TEB_LOG_EN then some s.finiteBounds else none) :
    s.tebWatch = s := by
  unfold State.tebWatch
  rw [← h]
  simp [State.when]

/-- An unpaired unit that has raised nothing, with no bound to log: the end of the cycle changes nothing. -/
theorem State.settle_calm (s : State) (h : s.book.due = []) (hp : s.paired = false)
    (ht : s.teb.finite = if s.rdB Obj.TEB_LOG_EN then some s.finiteBounds else none) : s.settle = s := by
  have hr : s.readiness = s := by unfold State.readiness; simp [hp]
  unfold State.settle
  rw [State.settleIn_nil _ _ h, hr, State.tebWatch_calm _ ht, State.settleIn_nil _ _ h]

end Sys2Proof.Machine
end

