-- ==== Sys2Proof/Laws/Parts.lean ====
section
/-! SUPPORT. What is read of a numbered part (a field port, a slot, a channel, a generator and so on) after one of them is put
down, and that neither touches a register. -/

namespace Sys2Proof.Machine

@[simp] theorem State.fosOf_setFos_same (s : State) (f : Nat) (x : Fos) : (s.setFos f x).fosOf f = x := SMap.get_put_same _ _ _ _

theorem State.fosOf_setFos_ne (s : State) {f j : Nat} (x : Fos) (h : j ≠ f) : (s.setFos f x).fosOf j = s.fosOf j :=
  SMap.get_put_ne _ _ _ h _

@[simp] theorem State.rd_setFos (s : State) (f : Nat) (x : Fos) (r : Reg) : (s.setFos f x).rd r = s.rd r := rfl
@[simp] theorem State.rdN_setFos (s : State) (f : Nat) (x : Fos) (r : Reg) : (s.setFos f x).rdN r = s.rdN r := rfl
@[simp] theorem State.rdB_setFos (s : State) (f : Nat) (x : Fos) (r : Reg) : (s.setFos f x).rdB r = s.rdB r := rfl

@[simp] theorem State.outOf_setOut_same (s : State) (n : Nat) (x : Output) : (s.setOut n x).outOf n = x := SMap.get_put_same _ _ _ _

theorem State.outOf_setOut_ne (s : State) {n j : Nat} (x : Output) (h : j ≠ n) : (s.setOut n x).outOf j = s.outOf j :=
  SMap.get_put_ne _ _ _ h _

@[simp] theorem State.rd_setOut (s : State) (n : Nat) (x : Output) (r : Reg) : (s.setOut n x).rd r = s.rd r := rfl
@[simp] theorem State.rdN_setOut (s : State) (n : Nat) (x : Output) (r : Reg) : (s.setOut n x).rdN r = s.rdN r := rfl
@[simp] theorem State.rdB_setOut (s : State) (n : Nat) (x : Output) (r : Reg) : (s.setOut n x).rdB r = s.rdB r := rfl

@[simp] theorem State.ring_setRing_same (s : State) (k : Nat) (x : Ring) : (s.setRing k x).ring k = x := SMap.get_put_same _ _ _ _

theorem State.ring_setRing_ne (s : State) {k j : Nat} (x : Ring) (h : j ≠ k) : (s.setRing k x).ring j = s.ring j :=
  SMap.get_put_ne _ _ _ h _

@[simp] theorem State.rd_setRing (s : State) (k : Nat) (x : Ring) (r : Reg) : (s.setRing k x).rd r = s.rd r := rfl
@[simp] theorem State.rdN_setRing (s : State) (k : Nat) (x : Ring) (r : Reg) : (s.setRing k x).rdN r = s.rdN r := rfl
@[simp] theorem State.rdB_setRing (s : State) (k : Nat) (x : Ring) (r : Reg) : (s.setRing k x).rdB r = s.rdB r := rfl

@[simp] theorem State.fp_setFp_same (s : State) (f : Nat) (x : FieldPort) : (s.setFp f x).fp f = x := SMap.get_put_same _ _ _ _

theorem State.fp_setFp_ne (s : State) {f j : Nat} (x : FieldPort) (h : j ≠ f) : (s.setFp f x).fp j = s.fp j :=
  SMap.get_put_ne _ _ _ h _

@[simp] theorem State.rd_setFp (s : State) (f : Nat) (x : FieldPort) (r : Reg) : (s.setFp f x).rd r = s.rd r := rfl
@[simp] theorem State.rdN_setFp (s : State) (f : Nat) (x : FieldPort) (r : Reg) : (s.setFp f x).rdN r = s.rdN r := rfl
@[simp] theorem State.rdB_setFp (s : State) (f : Nat) (x : FieldPort) (r : Reg) : (s.setFp f x).rdB r = s.rdB r := rfl

@[simp] theorem State.slot_setSlot_same (s : State) (n : Nat) (x : Slot) : (s.setSlot n x).slot n = x := SMap.get_put_same _ _ _ _

theorem State.slot_setSlot_ne (s : State) {n j : Nat} (x : Slot) (h : j ≠ n) : (s.setSlot n x).slot j = s.slot j :=
  SMap.get_put_ne _ _ _ h _

@[simp] theorem State.rd_setSlot (s : State) (n : Nat) (x : Slot) (r : Reg) : (s.setSlot n x).rd r = s.rd r := rfl
@[simp] theorem State.rdN_setSlot (s : State) (n : Nat) (x : Slot) (r : Reg) : (s.setSlot n x).rdN r = s.rdN r := rfl
@[simp] theorem State.rdB_setSlot (s : State) (n : Nat) (x : Slot) (r : Reg) : (s.setSlot n x).rdB r = s.rdB r := rfl

@[simp] theorem State.evt_setEvt_same (s : State) (n : Nat) (x : Evt) : (s.setEvt n x).evt n = x := SMap.get_put_same _ _ _ _

theorem State.evt_setEvt_ne (s : State) {n j : Nat} (x : Evt) (h : j ≠ n) : (s.setEvt n x).evt j = s.evt j :=
  SMap.get_put_ne _ _ _ h _

@[simp] theorem State.rd_setEvt (s : State) (n : Nat) (x : Evt) (r : Reg) : (s.setEvt n x).rd r = s.rd r := rfl
@[simp] theorem State.rdN_setEvt (s : State) (n : Nat) (x : Evt) (r : Reg) : (s.setEvt n x).rdN r = s.rdN r := rfl
@[simp] theorem State.rdB_setEvt (s : State) (n : Nat) (x : Evt) (r : Reg) : (s.setEvt n x).rdB r = s.rdB r := rfl

@[simp] theorem State.tracker_setTracker_same (s : State) (c : Nat) (x : Tracker) : (s.setTracker c x).tracker c = x := SMap.get_put_same _ _ _ _

theorem State.tracker_setTracker_ne (s : State) {c j : Nat} (x : Tracker) (h : j ≠ c) : (s.setTracker c x).tracker j = s.tracker j :=
  SMap.get_put_ne _ _ _ h _

@[simp] theorem State.rd_setTracker (s : State) (c : Nat) (x : Tracker) (r : Reg) : (s.setTracker c x).rd r = s.rd r := rfl
@[simp] theorem State.rdN_setTracker (s : State) (c : Nat) (x : Tracker) (r : Reg) : (s.setTracker c x).rdN r = s.rdN r := rfl
@[simp] theorem State.rdB_setTracker (s : State) (c : Nat) (x : Tracker) (r : Reg) : (s.setTracker c x).rdB r = s.rdB r := rfl

@[simp] theorem State.port_setPort_same (s : State) (p : Nat) (x : Port) : (s.setPort p x).port p = x := SMap.get_put_same _ _ _ _

theorem State.port_setPort_ne (s : State) {p j : Nat} (x : Port) (h : j ≠ p) : (s.setPort p x).port j = s.port j :=
  SMap.get_put_ne _ _ _ h _

@[simp] theorem State.rd_setPort (s : State) (p : Nat) (x : Port) (r : Reg) : (s.setPort p x).rd r = s.rd r := rfl
@[simp] theorem State.rdN_setPort (s : State) (p : Nat) (x : Port) (r : Reg) : (s.setPort p x).rdN r = s.rdN r := rfl
@[simp] theorem State.rdB_setPort (s : State) (p : Nat) (x : Port) (r : Reg) : (s.setPort p x).rdB r = s.rdB r := rfl

@[simp] theorem State.session_setSession_same (s : State) (n : Nat) (x : Session) : (s.setSession n x).session n = x := SMap.get_put_same _ _ _ _

theorem State.session_setSession_ne (s : State) {n j : Nat} (x : Session) (h : j ≠ n) : (s.setSession n x).session j = s.session j :=
  SMap.get_put_ne _ _ _ h _

@[simp] theorem State.rd_setSession (s : State) (n : Nat) (x : Session) (r : Reg) : (s.setSession n x).rd r = s.rd r := rfl
@[simp] theorem State.rdN_setSession (s : State) (n : Nat) (x : Session) (r : Reg) : (s.setSession n x).rdN r = s.rdN r := rfl
@[simp] theorem State.rdB_setSession (s : State) (n : Nat) (x : Session) (r : Reg) : (s.setSession n x).rdB r = s.rdB r := rfl

@[simp] theorem State.channel_setChannel_same (s : State) (c : Nat) (x : Channel) : (s.setChannel c x).channel c = x := SMap.get_put_same _ _ _ _

theorem State.channel_setChannel_ne (s : State) {c j : Nat} (x : Channel) (h : j ≠ c) : (s.setChannel c x).channel j = s.channel j :=
  SMap.get_put_ne _ _ _ h _

@[simp] theorem State.rd_setChannel (s : State) (c : Nat) (x : Channel) (r : Reg) : (s.setChannel c x).rd r = s.rd r := rfl
@[simp] theorem State.rdN_setChannel (s : State) (c : Nat) (x : Channel) (r : Reg) : (s.setChannel c x).rdN r = s.rdN r := rfl
@[simp] theorem State.rdB_setChannel (s : State) (c : Nat) (x : Channel) (r : Reg) : (s.setChannel c x).rdB r = s.rdB r := rfl

@[simp] theorem State.pair_setPair_same (s : State) (p : Nat) (x : Pair) : (s.setPair p x).pair p = x := SMap.get_put_same _ _ _ _

theorem State.pair_setPair_ne (s : State) {p j : Nat} (x : Pair) (h : j ≠ p) : (s.setPair p x).pair j = s.pair j :=
  SMap.get_put_ne _ _ _ h _

@[simp] theorem State.rd_setPair (s : State) (p : Nat) (x : Pair) (r : Reg) : (s.setPair p x).rd r = s.rd r := rfl
@[simp] theorem State.rdN_setPair (s : State) (p : Nat) (x : Pair) (r : Reg) : (s.setPair p x).rdN r = s.rdN r := rfl
@[simp] theorem State.rdB_setPair (s : State) (p : Nat) (x : Pair) (r : Reg) : (s.setPair p x).rdB r = s.rdB r := rfl

@[simp] theorem State.filter_setFilter_same (s : State) (n : Nat) (x : Filter) : (s.setFilter n x).filter n = x := SMap.get_put_same _ _ _ _

theorem State.filter_setFilter_ne (s : State) {n j : Nat} (x : Filter) (h : j ≠ n) : (s.setFilter n x).filter j = s.filter j :=
  SMap.get_put_ne _ _ _ h _

@[simp] theorem State.rd_setFilter (s : State) (n : Nat) (x : Filter) (r : Reg) : (s.setFilter n x).rd r = s.rd r := rfl
@[simp] theorem State.rdN_setFilter (s : State) (n : Nat) (x : Filter) (r : Reg) : (s.setFilter n x).rdN r = s.rdN r := rfl
@[simp] theorem State.rdB_setFilter (s : State) (n : Nat) (x : Filter) (r : Reg) : (s.setFilter n x).rdB r = s.rdB r := rfl

@[simp] theorem State.peer_setPeer_same (s : State) (n : Nat) (x : Peer) : (s.setPeer n x).peer n = x := SMap.get_put_same _ _ _ _

theorem State.peer_setPeer_ne (s : State) {n j : Nat} (x : Peer) (h : j ≠ n) : (s.setPeer n x).peer j = s.peer j :=
  SMap.get_put_ne _ _ _ h _

@[simp] theorem State.rd_setPeer (s : State) (n : Nat) (x : Peer) (r : Reg) : (s.setPeer n x).rd r = s.rd r := rfl
@[simp] theorem State.rdN_setPeer (s : State) (n : Nat) (x : Peer) (r : Reg) : (s.setPeer n x).rdN r = s.rdN r := rfl
@[simp] theorem State.rdB_setPeer (s : State) (n : Nat) (x : Peer) (r : Reg) : (s.setPeer n x).rdB r = s.rdB r := rfl

@[simp] theorem State.rx_setRx_same (s : State) (r : Nat) (x : Receiver) : (s.setRx r x).rx r = x := by
  unfold State.rx State.setRx; split <;> rfl

@[simp] theorem State.lo_setLo_same (s : State) (n : Nat) (x : LoState) : (s.setLo n x).lo n = x := by
  unfold State.lo State.setLo; split <;> rfl

/-! A register that is written, a raise and an emission leave every part alone. -/

@[simp] theorem State.fosOf_wr (s : State) (r : Reg) (v : Int) (f' : Nat) : (s.wr r v).fosOf f' = s.fosOf f' := rfl
@[simp] theorem State.outOf_wr (s : State) (r : Reg) (v : Int) (n' : Nat) : (s.wr r v).outOf n' = s.outOf n' := rfl
@[simp] theorem State.ring_wr (s : State) (r : Reg) (v : Int) (k' : Nat) : (s.wr r v).ring k' = s.ring k' := rfl
@[simp] theorem State.fp_wr (s : State) (r : Reg) (v : Int) (f' : Nat) : (s.wr r v).fp f' = s.fp f' := rfl
@[simp] theorem State.slot_wr (s : State) (r : Reg) (v : Int) (n' : Nat) : (s.wr r v).slot n' = s.slot n' := rfl
@[simp] theorem State.evt_wr (s : State) (r : Reg) (v : Int) (n' : Nat) : (s.wr r v).evt n' = s.evt n' := rfl
@[simp] theorem State.tracker_wr (s : State) (r : Reg) (v : Int) (c' : Nat) : (s.wr r v).tracker c' = s.tracker c' := rfl
@[simp] theorem State.port_wr (s : State) (r : Reg) (v : Int) (p' : Nat) : (s.wr r v).port p' = s.port p' := rfl
@[simp] theorem State.session_wr (s : State) (r : Reg) (v : Int) (n' : Nat) : (s.wr r v).session n' = s.session n' := rfl
@[simp] theorem State.channel_wr (s : State) (r : Reg) (v : Int) (c' : Nat) : (s.wr r v).channel c' = s.channel c' := rfl
@[simp] theorem State.pair_wr (s : State) (r : Reg) (v : Int) (p' : Nat) : (s.wr r v).pair p' = s.pair p' := rfl
@[simp] theorem State.filter_wr (s : State) (r : Reg) (v : Int) (n' : Nat) : (s.wr r v).filter n' = s.filter n' := rfl
@[simp] theorem State.peer_wr (s : State) (r : Reg) (v : Int) (n' : Nat) : (s.wr r v).peer n' = s.peer n' := rfl

@[simp] theorem State.fosOf_wrN (s : State) (r : Reg) (v : Nat) (f' : Nat) : (s.wrN r v).fosOf f' = s.fosOf f' := rfl
@[simp] theorem State.outOf_wrN (s : State) (r : Reg) (v : Nat) (n' : Nat) : (s.wrN r v).outOf n' = s.outOf n' := rfl
@[simp] theorem State.ring_wrN (s : State) (r : Reg) (v : Nat) (k' : Nat) : (s.wrN r v).ring k' = s.ring k' := rfl
@[simp] theorem State.fp_wrN (s : State) (r : Reg) (v : Nat) (f' : Nat) : (s.wrN r v).fp f' = s.fp f' := rfl
@[simp] theorem State.slot_wrN (s : State) (r : Reg) (v : Nat) (n' : Nat) : (s.wrN r v).slot n' = s.slot n' := rfl
@[simp] theorem State.evt_wrN (s : State) (r : Reg) (v : Nat) (n' : Nat) : (s.wrN r v).evt n' = s.evt n' := rfl
@[simp] theorem State.tracker_wrN (s : State) (r : Reg) (v : Nat) (c' : Nat) : (s.wrN r v).tracker c' = s.tracker c' := rfl
@[simp] theorem State.port_wrN (s : State) (r : Reg) (v : Nat) (p' : Nat) : (s.wrN r v).port p' = s.port p' := rfl
@[simp] theorem State.session_wrN (s : State) (r : Reg) (v : Nat) (n' : Nat) : (s.wrN r v).session n' = s.session n' := rfl
@[simp] theorem State.channel_wrN (s : State) (r : Reg) (v : Nat) (c' : Nat) : (s.wrN r v).channel c' = s.channel c' := rfl
@[simp] theorem State.pair_wrN (s : State) (r : Reg) (v : Nat) (p' : Nat) : (s.wrN r v).pair p' = s.pair p' := rfl
@[simp] theorem State.filter_wrN (s : State) (r : Reg) (v : Nat) (n' : Nat) : (s.wrN r v).filter n' = s.filter n' := rfl
@[simp] theorem State.peer_wrN (s : State) (r : Reg) (v : Nat) (n' : Nat) : (s.wrN r v).peer n' = s.peer n' := rfl

@[simp] theorem State.fosOf_stick (s : State) (r : Reg) (b : Nat) (f' : Nat) : (s.stick r b).fosOf f' = s.fosOf f' := rfl
@[simp] theorem State.outOf_stick (s : State) (r : Reg) (b : Nat) (n' : Nat) : (s.stick r b).outOf n' = s.outOf n' := rfl
@[simp] theorem State.ring_stick (s : State) (r : Reg) (b : Nat) (k' : Nat) : (s.stick r b).ring k' = s.ring k' := rfl
@[simp] theorem State.fp_stick (s : State) (r : Reg) (b : Nat) (f' : Nat) : (s.stick r b).fp f' = s.fp f' := rfl
@[simp] theorem State.slot_stick (s : State) (r : Reg) (b : Nat) (n' : Nat) : (s.stick r b).slot n' = s.slot n' := rfl
@[simp] theorem State.evt_stick (s : State) (r : Reg) (b : Nat) (n' : Nat) : (s.stick r b).evt n' = s.evt n' := rfl
@[simp] theorem State.tracker_stick (s : State) (r : Reg) (b : Nat) (c' : Nat) : (s.stick r b).tracker c' = s.tracker c' := rfl
@[simp] theorem State.port_stick (s : State) (r : Reg) (b : Nat) (p' : Nat) : (s.stick r b).port p' = s.port p' := rfl
@[simp] theorem State.session_stick (s : State) (r : Reg) (b : Nat) (n' : Nat) : (s.stick r b).session n' = s.session n' := rfl
@[simp] theorem State.channel_stick (s : State) (r : Reg) (b : Nat) (c' : Nat) : (s.stick r b).channel c' = s.channel c' := rfl
@[simp] theorem State.pair_stick (s : State) (r : Reg) (b : Nat) (p' : Nat) : (s.stick r b).pair p' = s.pair p' := rfl
@[simp] theorem State.filter_stick (s : State) (r : Reg) (b : Nat) (n' : Nat) : (s.stick r b).filter n' = s.filter n' := rfl
@[simp] theorem State.peer_stick (s : State) (r : Reg) (b : Nat) (n' : Nat) : (s.stick r b).peer n' = s.peer n' := rfl

@[simp] theorem State.fosOf_raise (s : State) (a : Nat) (f' : Nat) : (s.raise a).fosOf f' = s.fosOf f' := rfl
@[simp] theorem State.outOf_raise (s : State) (a : Nat) (n' : Nat) : (s.raise a).outOf n' = s.outOf n' := rfl
@[simp] theorem State.ring_raise (s : State) (a : Nat) (k' : Nat) : (s.raise a).ring k' = s.ring k' := rfl
@[simp] theorem State.fp_raise (s : State) (a : Nat) (f' : Nat) : (s.raise a).fp f' = s.fp f' := rfl
@[simp] theorem State.slot_raise (s : State) (a : Nat) (n' : Nat) : (s.raise a).slot n' = s.slot n' := rfl
@[simp] theorem State.evt_raise (s : State) (a : Nat) (n' : Nat) : (s.raise a).evt n' = s.evt n' := rfl
@[simp] theorem State.tracker_raise (s : State) (a : Nat) (c' : Nat) : (s.raise a).tracker c' = s.tracker c' := rfl
@[simp] theorem State.port_raise (s : State) (a : Nat) (p' : Nat) : (s.raise a).port p' = s.port p' := rfl
@[simp] theorem State.session_raise (s : State) (a : Nat) (n' : Nat) : (s.raise a).session n' = s.session n' := rfl
@[simp] theorem State.channel_raise (s : State) (a : Nat) (c' : Nat) : (s.raise a).channel c' = s.channel c' := rfl
@[simp] theorem State.pair_raise (s : State) (a : Nat) (p' : Nat) : (s.raise a).pair p' = s.pair p' := rfl
@[simp] theorem State.filter_raise (s : State) (a : Nat) (n' : Nat) : (s.raise a).filter n' = s.filter n' := rfl
@[simp] theorem State.peer_raise (s : State) (a : Nat) (n' : Nat) : (s.raise a).peer n' = s.peer n' := rfl

@[simp] theorem State.fosOf_emit (s : State) (e : Emission) (f' : Nat) : (s.emit e).fosOf f' = s.fosOf f' := rfl
@[simp] theorem State.outOf_emit (s : State) (e : Emission) (n' : Nat) : (s.emit e).outOf n' = s.outOf n' := rfl
@[simp] theorem State.ring_emit (s : State) (e : Emission) (k' : Nat) : (s.emit e).ring k' = s.ring k' := rfl
@[simp] theorem State.fp_emit (s : State) (e : Emission) (f' : Nat) : (s.emit e).fp f' = s.fp f' := rfl
@[simp] theorem State.slot_emit (s : State) (e : Emission) (n' : Nat) : (s.emit e).slot n' = s.slot n' := rfl
@[simp] theorem State.evt_emit (s : State) (e : Emission) (n' : Nat) : (s.emit e).evt n' = s.evt n' := rfl
@[simp] theorem State.tracker_emit (s : State) (e : Emission) (c' : Nat) : (s.emit e).tracker c' = s.tracker c' := rfl
@[simp] theorem State.port_emit (s : State) (e : Emission) (p' : Nat) : (s.emit e).port p' = s.port p' := rfl
@[simp] theorem State.session_emit (s : State) (e : Emission) (n' : Nat) : (s.emit e).session n' = s.session n' := rfl
@[simp] theorem State.channel_emit (s : State) (e : Emission) (c' : Nat) : (s.emit e).channel c' = s.channel c' := rfl
@[simp] theorem State.pair_emit (s : State) (e : Emission) (p' : Nat) : (s.emit e).pair p' = s.pair p' := rfl
@[simp] theorem State.filter_emit (s : State) (e : Emission) (n' : Nat) : (s.emit e).filter n' = s.filter n' := rfl
@[simp] theorem State.peer_emit (s : State) (e : Emission) (n' : Nat) : (s.emit e).peer n' = s.peer n' := rfl

@[simp] theorem State.rd_raise (s : State) (n : Nat) (r : Reg) : (s.raise n).rd r = s.rd r := rfl
@[simp] theorem State.rdN_raise (s : State) (n : Nat) (r : Reg) : (s.raise n).rdN r = s.rdN r := rfl
@[simp] theorem State.rd_emit (s : State) (e : Emission) (r : Reg) : (s.emit e).rd r = s.rd r := rfl
@[simp] theorem State.rdN_emit (s : State) (e : Emission) (r : Reg) : (s.emit e).rdN r = s.rdN r := rfl

end Sys2Proof.Machine
end

