-- ==== Sys2Proof/Laws/Viaduct.lean ====
section
/-! SUPPORT. The wait edges of R395 close no cycle: only the Fold cache and the crypto lanes call other targets, and neither DRAM
nor SRAM calls any. -/

namespace Sys2Proof.Machine

/-- Every outstanding wait edge is that of a crypto lane. -/
theorem State.waitEdges_from (s : State) (e : VdTarget × VdTarget) (h : e ∈ s.waitEdges) : e.1 = .cryptoLanes := by
  simp only [State.waitEdges, List.mem_flatMap, List.mem_map] at h
  obtain ⟨_, _, _, _, rfl⟩ := h
  rfl

/-- A target that no outstanding edge starts from reaches itself alone. -/
theorem reaches_alone (n : Nat) (l : List (VdTarget × VdTarget)) (a b : VdTarget) (h : ∀ e ∈ l, e.1 ≠ a) :
    reaches n l a b = (a == b) := by
  cases n with
  | zero => rfl
  | succ n =>
    have hl : (l.any fun e => e.1 == a && reaches n l e.2 b) = false := by
      simp only [List.any_eq_false, Bool.and_eq_true, not_and]
      intro e he h1
      exact absurd (by simpa using h1) (h e he)
    simp [reaches, hl]

/-- No call that serving a request makes is ever held (R395). -/
theorem State.called_calls (s : State) (t c : VdTarget) (h : c ∈ t.calls) : s.called t c = s := by
  have hc : c ≠ .cryptoLanes ∧ c ≠ t := by cases t <;> simp_all [VdTarget.calls]
  have h1 := reaches_alone 5 s.waitEdges c t fun e he => by rw [State.waitEdges_from s e he]; exact Ne.symm hc.1
  unfold State.called
  rw [h1]
  simp [hc.2]

/-- A request is admitted at once. -/
@[simp] theorem State.requested_self (s : State) (t : VdTarget) : s.requested t = s := by
  have go : ∀ l : List VdTarget, (∀ c ∈ l, c ∈ t.calls) → ∀ s : State, State.forEach (fun (s : State) c => s.called t c) l s = s := by
    intro l
    induction l with
    | nil => intro _ s; rfl
    | cons c l ih =>
      intro h s
      show State.forEach (fun (s : State) c => s.called t c) l (s.called t c) = s
      rw [State.called_calls s t c (h c (by simp))]
      exact ih (fun x hx => h x (by simp [hx])) s
  exact go _ (fun _ h => h) s

end Sys2Proof.Machine
end

