-- ==== Sys2Proof/WellFormed.lean ====
section
/-! DEFINITION. The checks on a command's operands that their types do not make: sizes of octet strings and counts, and ranges
of numbers as the command's event carries them. -/

namespace Sys2Proof

/-- A list of numbers that rise strictly. -/
def rising : List Nat → Bool
  | [] => true
  | [_] => true
  | a :: b :: l => decide (a < b) && rising (b :: l)

/-- The value of an I64. -/
def fits64 (v : Int) : Bool := decide (-(2 ^ 63) ≤ v ∧ v < 2 ^ 63)

/-- A frame of an Ethernet port: not longer than its length fields can say. -/
def frameGood (f : RxFrame) : Bool := decide (f.octets.length ≤ 65535)

/-- A descriptor within its layout (Table 16-4). -/
def descGood (p : Posted) : Bool :=
  decide (p.addr < 2 ^ 64 ∧ p.cookie < 2 ^ 64 ∧ p.aux < 2 ^ 32 ∧ p.length < 2 ^ 16)

/-- A GOP message: as long as an Ethernet payload over a field port, or a command's buffer over PCIe (R360, R389). -/
def requestGood (q : GopRequest) : Bool :=
  decide (q.rest.length ≤ if q.link = .pcie then 4112 else 1472) && q.descs.all descGood

/-- A HELLO frame's fields (Table 14-1). -/
def helloGood (h : Hello) : Bool :=
  decide (h.unit < 2 ∧ h.role < 5 ∧ h.clockId < 2 ^ 64 ∧ h.lease < 2 ^ 32 ∧ h.guard < 2 ^ 32 ∧ h.keyGen < 2 ^ 48)

/-- A STATE frame's fields (Table 14-1). -/
def twinGood (t : TwinState) : Bool :=
  decide (t.mode < 16 ∧ -(2 ^ 15) ≤ t.utcOffset ∧ t.utcOffset < 2 ^ 15 ∧ t.timeSource < 256 ∧ t.refid < 2 ^ 32)

/-- The operands are such as the command's event can carry. -/
def Instr.wellFormed (i : Instr) : Bool :=
  match i with
  | .powerOnResetRelease _ _ _ => true
  | .vddBelowThreshold => true
  | .hrstNLow => true
  | .hrstNRelease _ _ => true
  | .softReset _ => true
  | .blockReset _ => true
  | .firmwareVerifyComplete _ _ => true
  | .pufRegeneration _ _ => true
  | .rootGeneration => true
  | .loEligible => true
  | .dramTrainingComplete _ => true
  | .bootComplete => true
  | .lockBitSet _ => true
  | .supplyInhibitAssert _ => true
  | .supplyInhibitRelease _ => true
  | .journalPersistRetry => true
  | .keyCellWriteComplete => true
  | .zeroisationComplete => true
  | .trestleEdge _ _ _ _ _ => true
  | .pairTimeout _ => true
  | .trRingFlush => true
  | .dllLock _ => true
  | .dllLoss _ => true
  | .codeDensityComplete _ counts => counts.length == 1024
  | .codeDensityTimeout _ => true
  | .calFailRetry _ => true
  | .tableMonitorUpdate counts => counts.length == 1024
  | .chRecal _ => true
  | .chEnWrite _ _ => true
  | .trEnableWrite _ => true
  | .slotEnWrite _ _ => true
  | .slEnableWrite _ => true
  | .slotSuspend _ => true
  | .slotResume _ => true
  | .slotRequalify _ => true
  | .slotMissingEdge _ => true
  | .pinActivityLoss _ => true
  | .slotQualified _ => true
  | .slotSuspHoldExpiry _ => true
  | .slotDisqHoldExpiry _ => true
  | .todMessage _ octets _ => decide (octets.length ≤ 255)
  | .todMessageMissing => true
  | .esmcPdu _ _ _ => true
  | .esmcTimeout _ => true
  | .herdUpdate synce => rising (synce.map fun e => e.1.val)
  | .herdEffect => true
  | .tebPinHoldExpiry => true
  | .herdUpdateMiss => true
  | .hdEnableWrite _ => true
  | .loWarmChange _ _ => true
  | .loLoss _ => true
  | .loReturn _ => true
  | .loFreqMeasurement _ hz => decide (hz < 2 ^ 32)
  | .loaTuneEnWrite _ => true
  | .loaTuneStep => true
  | .loaTuneFrameEnd => true
  | .swlTag _ => true
  | .swlTimeout => true
  | .tsSetStep => true
  | .tsSetSlew => true
  | .tsSetCancel => true
  | .tsSetApply => true
  | .secondBoundary => true
  | .utcAutoHoldExpiry => true
  | .snapNow => true
  | .snapAtWrite _ _ => true
  | .snapshot => true
  | .snapshotComplete => true
  | .apllConfigWrite _ _ value => decide (value < 2 ^ 32)
  | .apllLock _ => true
  | .apllLossOfLock _ => true
  | .fosEnWrite _ _ => true
  | .fosFreqWrite _ microHz => decide (microHz < 2 ^ 64)
  | .fosLock _ => true
  | .fosLossOfLock _ => true
  | .fosAlignComplete _ => true
  | .outEnWrite _ _ => true
  | .evtEnWrite _ _ => true
  | .evtCalComplete _ _ => true
  | .evtEntPush _ _ => true
  | .evtQFlush _ => true
  | .evtQueueEdge _ => true
  | .evtProgrammeEdge _ => true
  | .grpEnWrite _ _ => true
  | .groupBoundary _ => true
  | .evEnableWrite _ => true
  | .loopbackCheck _ => true
  | .loopbackStale => true
  | .feStreamLoss _ => true
  | .feStreamReturn _ => true
  | .acqSearchComplete _ _ _ _ => true
  | .acqDetectionExpire => true
  | .trkPullInSuccess _ => true
  | .trkPullInTimeout _ => true
  | .trkSignalLoss _ => true
  | .trkCoastRecover _ => true
  | .trkCoastExpiry _ => true
  | .measurementEpoch _ entries => rising (entries.map (·.1)) && entries.all fun e => decide (e.1 < 192)
  | .timeSolution _ solutions => decide (solutions.length ≤ 4) && solutions.all fun x => decide (x.sats.length ≤ 192) && x.sats.all fun e => decide (e.chan < 192)
  | .receiverPps _ _ _ => true
  | .gnssSecondNotice _ => true
  | .rxEnWrite _ _ => true
  | .rxPosWrite _ x y z => fits64 x && fits64 y && fits64 z
  | .gnEnableWrite _ => true
  | .portEnWrite _ _ => true
  | .ethEnableWrite _ => true
  | .portTrainingComplete _ => true
  | .portAligned _ _ _ => true
  | .portDeskewRetry _ _ _ => true
  | .portLinkLoss _ _ => true
  | .portDownExpiry _ => true
  | .portFrameRx _ frame => frameGood frame
  | .pauseFrameSend _ => true
  | .pauseRepeat _ => true
  | .slowPathTxPost _ octets => match octets with | some l => decide (l.length ≤ 65535) | none => true
  | .queuedFrameStart _ => true
  | .fpFrameRx _ frame => frameGood frame
  | .fpCollision _ _ => true
  | .fpBackoffExpiry _ => true
  | .fpLinkPoll _ _ => true
  | .fpEnWrite _ _ => true
  | .tpeEnableWrite _ => true
  | .signalingRequest _ => true
  | .signalingCancel _ => true
  | .delayReqRx _ => true
  | .pdelayReqRx _ => true
  | .pdelayRespRx _ => true
  | .sessionSyncRx _ => true
  | .sessionDelayRespRx _ => true
  | .sessionAnnounceRx _ => true
  | .sessionGrantRx _ => true
  | .ntpRequest _ => true
  | .ntsRequest _ => true
  | .unsupportedMessageRx _ => true
  | .calendarEntryDue => true
  | .calendarHandover _ => true
  | .cryptoJobComplete _ => true
  | .frameLaunch _ => true
  | .grantExpiry => true
  | .foldRecordFree => true
  | .foldQuery image => image.length == 128
  | .tpeFence => true
  | .tpeFenceComplete => true
  | .profEnWrite _ _ => true
  | .keyRotation _ => true
  | .sesEnWrite _ _ => true
  | .sesGrantRenew _ => true
  | .sesRetry _ => true
  | .sesReplyTimeout _ => true
  | .sesFollowUpTimeout _ => true
  | .sesDelayReqSend _ => true
  | .pdelayReqSend _ _ => true
  | .sesTimeout _ => true
  | .ruleEnWrite _ _ => true
  | .gateEnWrite _ _ => true
  | .gateSwitchAtWrite _ _ _ => true
  | .gateSwitch _ => true
  | .gateChange _ => true
  | .keyImport _ _ => true
  | .keyDerive _ _ => true
  | .keyRetire _ _ => true
  | .keyReactivate _ _ => true
  | .keyInvalidate _ _ => true
  | .keyDelete _ _ => true
  | .laneSelfTest _ => true
  | .trngHealthFail => true
  | .trngRetest _ => true
  | .drbgReseed => true
  | .idCsrSubjectWrite subject => decide (subject.length ≤ 255)
  | .idChallengeWrite challenge => decide (challenge.length ≤ 32)
  | .pkuOpComplete => true
  | .provInstall => true
  | .provInstallComplete => true
  | .fwUpdBegin => true
  | .fwUpdData block => decide (block.length ≤ 4096)
  | .fwUpdCommit => true
  | .fwUpdAbort => true
  | .fwSvnCommit => true
  | .ksZeroiseCmd _ => true
  | .tamperEvent _ => true
  | .helloSend => true
  | .helloRx _ hello => helloGood hello
  | .leaseRenewal _ => true
  | .leaseExpiry => true
  | .leaseRelease => true
  | .renewRx _ _ _ => true
  | .releaseRx _ => true
  | .takeRx _ => true
  | .stateRx _ state => twinGood state
  | .causewayAuthFail => true
  | .leaseAcquire => true
  | .contendHoldExpiry => true
  | .leaseInChange _ => true
  | .splitDetect => true
  | .cwLaneChange _ _ => true
  | .journalRx _ _ entries => decide (entries.length ≤ 1500)
  | .journalAckRx _ _ _ => true
  | .resyncReqRx _ => true
  | .resyncComplete => true
  | .journalAckTimeout => true
  | .pairRecordPersist => true
  | .bwForceRelease => true
  | .bwForceHoldOff => true
  | .bwEnableWrite _ => true
  | .gopRead q => requestGood q
  | .gopWrite q => requestGood q
  | .gopReadBlock q => requestGood q
  | .gopWriteBlock q => requestGood q
  | .gopSubscribe q => requestGood q
  | .gopUnsubscribe q => requestGood q
  | .gopInvalidRequest _ q => requestGood q
  | .registerWrite _ _ _ _ descs => descs.all descGood
  | .statusClear _ _ _ _ => true
  | .bar0BadAccess => true
  | .parityMismatch _ element _ _ => match element with | some i => decide (i < 1024) | none => true
  | .shadowRestoreComplete _ _ => true
  | .ringDb _ _ descs => descs.all descGood
  | .ringEnWrite _ _ => true
  | .ringDescriptorWriteback _ _ => true
  | .ringDmaError _ => true
  | .ringOwnGap _ => true
  | .irqHoldoffExpiry _ => true
  | .hostLinkLoss _ => true
  | .hostLinkUp _ _ => true
  | .vdDataEnWrite _ => true
  | .tempBypassRevoke => true
  | .tempBypassRestore => true
  | .sramEccError _ _ => true
  | .dramEccError _ => true
  | .coreWdog _ => true
  | .faultsafeExit => true
  | .fsAnnHoldExpiry => true
  | .fsRelease => true
  | .sdInject _ => true
  | .ctrFreezeWrite _ => true
  | .ctrValueWrite _ _ _ => true
  | .receivedPauseEnd _ => true
  | .busMasterEnableChange _ => true
  | .jtagInstructionLoad _ => true
  | .fpDeferralEnd _ => true
  | .almanacStale _ => true

end Sys2Proof
end

