-- ==== Sys2Proof/Tests/Slice0.lean ====
section
/-! SUPPORT. The operand checks refuse ill-formed commands, single steps give values worked out by hand from the spec's rules, and
each statement with conditions has states and operands that meet them, clause by clause. -/

namespace Sys2Proof.Tests

open Sys2Proof.Machine

set_option maxRecDepth 20000

/-- An ordinary state: the timescale runs, the engine is in LOCKED, unpaired. -/
def st : State := { State.reset.wrN Obj.MODE_CURRENT Mode.LOCKED with clk.running := true, clk.cycles := 9, clk.up48 := 9 * 2 ^ 48 }

theorem runTo_runs {s : State} {d : Nat} (h : s.clk.running = true) (f : s.clk.frozen = false) :
    s.runTo d = some (State.runGap (fun s => d - s.up48) (d - s.up48) s) := by simp [State.runTo, h, f]

theorem reach_runs {s : State} {t : Nat} (h : s.clk.running = true) (f : s.clk.frozen = false) :
    s.reach t = some (State.runGap (fun s => t * ns48 - s.now48) (t * ns48 - s.now48) s) := by simp [State.reach, h, f]

theorem liveTo_runs {s : State} {d : Nat} (h : s.clk.running = true) :
    s.liveTo d = some (State.runGap (fun s => d - s.live48) (d - s.live48) s) := by
  simp [State.liveTo, h]

def bcf : BootConfig := { dramMib := 512, dramRate := 3200, ranks := 1, timing := [], subsystem := 0 }

def img : FwImage :=
  { signatureOk := true, lengthOk := true, svn := 7, config := bcf }

def dsc : Posted :=
  { addr := 4096, cookie := 7, aux := 0, length := 64, own := true, interrupt := false, fence := false, ordered := false }

def tak : Taken := { count := 0, desc := dsc, started := false }

def hel : Hello :=
  { unit := 1, role := 1, ready := true, epochSeen := 5, clockId := 9, lease := 1000, guard := 10, keyGen := 3 }

def twn : TwinState :=
  { mode := 6, cls := 2, bound := 40, utcOffset := 37, leap := 0, utcValid := true, timeSource := 0x20, refid := 0 }

def fr : RxFrame :=
  { octets := List.replicate 60 0, complete := true, fcsOk := true, fraction := 0, start4 := false }

def gq : GopRequest :=
  { link := .pcie, mac := 0, nth := 0, version := 1, roleOctet := 0, status := 0, seq := 1, index := 0, sub := 0, aux := 0,
    length := 0, offset := 0, stamp := 0, rest := List.replicate 16 0, descs := [] }

def rrec : RootRecord := { number := 0, helper := 0, under := 0, value := 7, recordGen := 1 }

def hld : Held := { wait := .snapshot, op := 1, req := gq, desc := 0 }

def ckey : ClientKey :=
  { eport := 0, transport := 0, addr := 1, udpPort := 319, mac := 0, domain := 0, clockId := 5, portNum := 1 }

def gra : Grant := { exp := 1000, log := 0, seq := 0, res := 0 }

def fold : FoldRecord :=
  { key := ckey, mac := 1, ordered := false, auth := false, profile := 0, spp := 255, cls := 0, sync := gra, ann := gra,
    dresp := gra, dreqLastSeq := 0, dreqLastNs := none, exempt := false, sigSeq := 0, lastDep := 0, grantAt := 0,
    syncSent := 0, dreqRcvd := 0, authFail := 0, dreqExcess := 0, ended := none }

def pas : Passage := { id := 1, port := 7, pl := 3, stamp16 := 65536, cls := 0, octets := List.replicate 60 0 }

def pkt : Packet := packetOf fr.octets

def hrp : HeldReply :=
  { jseq := 1, record := none, write := none, due := [], passage := pas, profile := 0, body := [], auth := none }

def ent : EvEntry := { at112 := 0, kind := 1, width9 := 0, begun := false }

def pul : Pulse := { second := 1, b16 := 0, qerr16 := 0, lead48 := 0 }

def cal : CalEntry := { owner := .multicast 7 15 false, due := 4096, elig16 := none, ready := false, rest := none }

def sat (c : Nat) : SatUse := { chan := c, elevation := 4500, healthy := true, decoded := some 600 }

def sol : TimeSol :=
  { leads := { gps := 0, galileo := 0, beidou := 0, utcGps := 0, utcGalileo := 0 }, qerr16 := 0, sigma16 := 1, sats := [sat 0, sat 1, sat 2, sat 3], maxResid16 := 0, position := (0, 0, 0),
    positionSigma := 1, utc := none }

def jobz : Job := { id := 1, kind := .cmacGenerate, slot := 4, lane := some 8, status := 0, key := 0, parts := 1 }

def sgr : SesGrant := { end48 := 0, log := 0, renew48 := 0 }

def wsy : WaitingSync := { seq := 0, correction16 := 0, t2 := 0, at48 := 0 }

def osc : Oscillators := { code := 0, periods := 0, carrier := 0, doppler := 0, mpDisc := 0, at48 := 0 }

def det : Detection := { rx := 1, signal := 8, sv := 63, at48 := 0, osc := osc }

def eff : HerdEffect :=
  { due48 := 0, timeSet := [], freqSet := [], wTime := [], wFreq := [], rate := none, fpWord := 0, step48 := none, e := none, eHeld := none,
    vars := [], amb := 0, drift := 0, model := false, assisted := false, sigmaY := 0, sigmaD := 0, switched := false,
    refs := [], drifts := [], revert := false, tune := none, tebIn := ⟨4, [], [], 0, []⟩ }

def setq : SetRequest := { slew := true, at80 := 1000000000, val112 := 0, unc := 100 }

def adr : Addressing :=
  { dst := 1, src := 2, tci := none, transport := 0, srcIp := 0, dstIp := 1, srcUdp := 319, dstUdp := 319 }

def frm : Frame :=
  { id := 1, port := 7, pl := 3, kind := .announce, block := 0, dep48 := 0, addr := adr, msg := List.replicate 44 0, tag := .ready }

/-- A time-of-day message (Table 4-3), with its CRC. -/
def tod : List Octet :=
  let m : List Octet := [0x47, 0x54, 0x01, 0, 0, 0, 0, 0, 0, 9, 0, 37, 0, 0]
  m ++ beBytes 2 (crc16 m)

/-- A channel whose bins are all of one width. -/
def run : Channel := { Channel.reset with state := .run, hist := List.replicate 1024 4096 }

/-- A unit that hears its twin: paired, a lane up, and a pair key in force. -/
def cw : State :=
  let s := (st.wrN Obj.CW_LANE_STATE 3).wrN Obj.CW_KEY_SLOT 8
  { s with ctl.boot.cwrole := 1
           ctl.lease.current := false
           ks.slots := [(8, { KeySlot.none with state := .active, value := 5, usage := 31 })] }

/-- A state in which every link is up and every role has its key. -/
def op : State :=
  let s := ((st.wrN (Obj.FP_STATE 0) 2).wrN (Obj.FP_STATE 1) 2).wrN Obj.HL_LINK 0x300
  let k : KeySlot := { KeySlot.none with state := .active, value := 5, usage := 31 }
  { s with ks.slots := [(0, k), (4, k), (5, k), (6, k), (7, k)] }

/-- A request on field port 0. -/
def fq : GopRequest := { gq with link := .fp0 }

/-- The Custodian's, without a payload. -/
def cq : GopRequest := { fq with roleOctet := 4 }

/-- A request without a payload and its tag. -/
def sgn (s : State) (n : Nat) (q : GopRequest) : GopRequest := { q with rest := s.tagOf q.role (q.header n) }

theorem le_length (n x : Nat) : (leBytes n x).length = n := by
  induction n generalizing x with
  | zero => rfl
  | succ n ih => simp [leBytes, ih]

theorem sgn_good (s : State) (n : Nat) (h : (s.roleKey .custodian).isSome = true) : s.tagGood n (sgn s n cq) = true := by
  have e : (sgn s n cq).tag = s.tagOf .custodian (cq.header n) := by
    have r : (sgn s n cq).rest = s.tagOf .custodian (cq.header n) := rfl
    have l : (s.tagOf .custodian (cq.header n)).length = 16 := by simp [State.tagOf, beBytes, le_length]
    simp only [GopRequest.tag, r, slice, show (sgn s n cq).length.toNat = 0 from rfl, List.drop_zero]
    rw [← l]; exact List.take_length
  simp only [State.tagGood, e, show (sgn s n cq).role = .custodian from rfl, h]
  simp [GopRequest.payload, sgn, cq, fq, gq, GopRequest.header]

theorem sgn_framed (s : State) (n : Nat) (h : 1 ≤ n ∧ n ≤ 8) : framed n (sgn s n cq) = true := by
  have l : (sgn s n cq).rest.length = 16 := by
    simp [sgn, State.tagOf, beBytes, le_length, show cq.role = .custodian from rfl]
  simp only [framed, l]
  simp [sgn, cq, fq, gq, payloadMax, h]

/-- The Custodian's write of BAR0_ROLE with its operation, waiting. -/
def hold (code : Nat) (payload : List Octet) : Held :=
  { hld with op := code, req := { gq with
      roleOctet := 4, index := 0x1030, sub := 1, length := BitVec.ofNat 16 payload.length, rest := payload ++ List.replicate 16 0 } }

/-- A writable object with a range. -/
def tgt (a : Access) (r : ValueRange) : Target :=
  { row := { index := 0x1100, sub := 6, type := .u32, access := a, range := r, cls := .cfg, block := 1,
             enable := some fun _ => Obj.CTR_FREEZE, reg := fun _ _ => Obj.MODE_LOCK_DWELL },
    number := 0, index := 0x1100, sub := 6 }

/-- A state in which the outputs may run. -/
def out : State := (st.wrN Obj.APLLB_STATE 1).wrN Obj.EV_ENABLE 1

/-- A PTP message of a type and a length with its TLVs, domain 0. -/
def ptp (type : Octet) (len : Octet) (tlvs : List Octet) : List Octet :=
  [type, 2, 0, len, 0] ++ List.replicate (len.toNat - 5 - tlvs.length) 0 ++ tlvs

/-- The passage that carries a PTP message over IEEE 802.3. -/
def l2 (m : List Octet) : Passage := { pas with octets := List.replicate 12 0 ++ [0x88, 0xF7] ++ m }

/-- An engine whose port 7 serves profile 0 over IEEE 802.3, with session 3 running there; `cfg` has profile 0's further
bits. -/
def eng (cfg : Nat) (w : Passage) : State :=
  let s := ((st.wrN (Obj.PROF_EN 0) 1).wrN (Obj.PROF_CFG 0) (0x80 + cfg)).wrN (Obj.PORT_PROFILES 7) 1
  let s1 := (s.wrN (Obj.SES_STATE 3) 1).wrN (Obj.SES_CFG 3) 0x700
  { s1 with tpe.waiting := [w] }

/-- An NTP request over UDP and IPv4, with extension fields. -/
def ntpw (exts : List Octet) : Passage :=
  { pas with octets := encapsulate { adr with srcUdp := 123, dstUdp := 123 } (0x23 :: List.replicate 47 0 ++ exts) }

/-- A record where the Fold looks first. -/
def folded (s : State) (f : FoldRecord) : State :=
  { s with tpe.fold := [(8 * (bucketsOf (s.hash f.key)).1, f)] }

theorem lookup_folded (s : State) (f : FoldRecord) :
    (folded s f).lookup f.key = some (8 * (bucketsOf (s.hash f.key)).1, f) := by
  have h : (folded s f).hash f.key = s.hash f.key := rfl
  simp only [State.lookup, h, bucketRecords, List.range, List.range.loop, List.map_cons, List.cons_append,
    List.findSome?_cons, Nat.add_zero]
  simp [State.record, folded]

/-! A holder with a twin that knows a client: what a cancel and a renewed grant do to it, with its place in the Fold opaque. -/

def hkey : ClientKey := ⟨7, 2, 0, 0, 0, 0, 0, 0⟩

def hrec : FoldRecord := { fold with key := hkey }

def hbase : State := (((eng 0 pas).wrN Obj.BW_ROLE 1).wrN (Obj.CLASS_EN 0) 1).wrN (Obj.CLASS_RATE 0) 1000000

def hpas : Passage := pas

theorem lookup_first (s : State) (f : FoldRecord) (h : s.tpe.fold = [(8 * (bucketsOf (s.hash f.key)).1, f)]) :
    s.lookup f.key = some (8 * (bucketsOf (s.hash f.key)).1, f) := by
  simp only [State.lookup, bucketRecords, List.range, List.range.loop, List.map_cons, List.cons_append,
    List.findSome?_cons, Nat.add_zero]
  simp [State.record, h]

theorem hfold : (((folded hbase hrec).passed hpas).tpeCount 1).tpe.fold =
    [(8 * (bucketsOf (hbase.hash hkey)).1, hrec)] := by rfl

theorem hlookup : (((folded hbase hrec).passed hpas).tpeCount 1).lookup hkey =
    some (8 * (bucketsOf (hbase.hash hkey)).1, hrec) :=
  lookup_first _ hrec hfold

def hpassed : State := ((folded hbase hrec).passed hpas).tpeCount 1

def hreq : Request := ⟨hpas, packetOf hpas.octets, clientKey hpas.port (packetOf hpas.octets) [], 0, none⟩

theorem hreq_key : hreq.key = hkey := by decide

theorem hcancel : hpassed.signalTlvs hreq [(Tlv.CANCEL, [0x50, 0])] = (hpassed, tlv Tlv.ACK_CANCEL [0x50, 0], false) := by
  have h : hpassed.cancelTlv hreq [0x50, 0] = (hpassed, tlv Tlv.ACK_CANCEL [0x50, 0], false) := by
    unfold State.cancelTlv; rw [hreq_key, show hpassed.lookup hkey = _ from hlookup]; rfl
  show ((hpassed.cancelTlv hreq [0x50, 0]).1, [] ++ (hpassed.cancelTlv hreq [0x50, 0]).2.1, false) = _
  rw [h]; rfl

/-- A REQUEST for Delay_Resp at 64 s for 1 s. -/
def hbody : List Octet := [0x90, 6, 0, 0, 0, 1]

theorem hproof7 : (folded hbase hrec).clientProof 0 hkey [] [(Tlv.CANCEL, [0x50, 0])] =
    (folded hbase hrec, .good none) := by rfl

theorem hproof8 : (folded hbase hrec).clientProof 0 hkey [] [(Tlv.REQUEST, hbody)] = (folded hbase hrec, .good none) := by rfl

theorem hquota : hpassed.overQuota (some hrec) 0 9 6 = false := by decide

def hnum : Nat := 8 * (bucketsOf (hbase.hash hkey)).1

def hexp : Nat := ceilDiv (hreq.w.stamp16 + 1 * giga * 65536) (giga * 65536)

def hgranted : State := hpassed.grantTo hnum { hrec with mac := hreq.k.src } 9 6 hexp hreq.w.stamp16

theorem hrequest : hpassed.requestTlv hreq hbody = (hgranted, grantTlv 9 6 1, true) := by
  unfold State.requestTlv; dsimp only
  rw [if_neg (by decide), hreq_key, show hpassed.lookup hkey = some (hnum, hrec) from hlookup]
  simp only [Option.map_some]
  rw [if_neg (by rw [show hpassed.overQuota (some hrec) (classOf (some hrec) hreq.w) (field hbody 0 1 / 16)
    (fieldInt hbody 1 1) = false from hquota]; decide)]
  rfl

theorem hgrant : hpassed.signalTlvs hreq [(Tlv.REQUEST, hbody)] = (hgranted, grantTlv 9 6 1, true) := by
  show ((hpassed.requestTlv hreq hbody).1, [] ++ (hpassed.requestTlv hreq hbody).2.1,
    false || (hpassed.requestTlv hreq hbody).2.2) = _
  rw [hrequest]; rfl

def hrec1 : FoldRecord :=
  { hrec with mac := hreq.k.src, dresp := { hrec.dresp with exp := hexp, log := 6 }, ordered := false, exempt := true, ended := none }

theorem hgranted_fold : hgranted.tpe.fold = [(hnum, hrec1)] := by
  show SMap.ins hnum hrec1 [(hnum, hrec)] = _
  simp [SMap.ins]

theorem hgranted_lookup : hgranted.lookup hkey = some (hnum, hrec1) := lookup_first hgranted hrec1 hgranted_fold

theorem hawaits : (hgranted.touch hnum).awaits = true := by decide

/-! An INSTALL whose exchange and unwrap succeed: what they give is left open, so the theorem takes it as given. -/

/-- UNPROVISIONED with an identity key. -/
def hins : State :=
  { st.wrN Obj.MODE_CURRENT Mode.UNPROVISIONED with ks.slots := [(0, { KeySlot.none with state := .active, value := 5, usage := 8 })] }

/-- The key that unwraps an INSTALL of empty objects. -/
def hkek (z : List Octet) : BitVec 256 :=
  keyOf (hkdfExpand (Config.hmac (keyOf (padTo 32 (hins.blob (List.replicate 16 0) Obj.KS_BOOT_NONCE))) z)
    [0x50, 0x52, 0x4F, 0x56] 32)

theorem meets_install (z : List Octet) (key : BitVec 256) (h : Config.ecdh 5 (hins.blob (List.replicate 64 0) Obj.PROV_EPHEM) = some z)
    (h1 : Config.unwrap (hkek z) (hins.blob (List.replicate 40 0) Obj.PROV_WRAPPED) = some key) :
    hins.ksClosed = false ∧ hins.mode = Mode.UNPROVISIONED ∧ hins.unsafeBlock 14 = false ∧ hins.installKey = (Ks.OK, key) ∧
      hins.inhibited = false ∧ hins.rdN Obj.KS_GEN_HIGH + 1 < 2 ^ 48 := by
  refine ⟨by decide, by decide, by decide, ?_, by decide, by decide⟩
  unfold State.installKey
  rw [show hins.identity = some 5 by decide]
  dsimp only
  rw [h]
  dsimp only
  rw [if_neg (by decide)]
  unfold hkek at h1
  rw [h1]

/-! The operand checks refuse each of these. -/

theorem smoke_histogram_size : (Instr.codeDensityComplete 0 [1]).wellFormed = false := by decide
theorem smoke_monitor_size : (Instr.tableMonitorUpdate []).wellFormed = false := by decide
theorem smoke_tod_length : (Instr.todMessage 0 (List.replicate 256 0) true).wellFormed = false := by decide
theorem smoke_synce_order : (Instr.herdUpdate [(3, 0), (3, 1)]).wellFormed = false := by decide
theorem smoke_lo_frequency : (Instr.loFreqMeasurement .a (2 ^ 32)).wellFormed = false := by decide
theorem smoke_apll_value : (Instr.apllConfigWrite .a 0 (2 ^ 32)).wellFormed = false := by decide
theorem smoke_fos_frequency : (Instr.fosFreqWrite 0 (2 ^ 64)).wellFormed = false := by decide
theorem smoke_epoch_channel :
    (Instr.measurementEpoch 0 [(192, ⟨true, 0, 0, 0, 0, 0, 0, false, false⟩)]).wellFormed = false := by decide
theorem smoke_solutions : (Instr.timeSolution 0 (List.replicate 5 sol)).wellFormed = false := by decide
theorem smoke_satellites : (Instr.timeSolution 0 [{ sol with sats := List.replicate 193 (sat 0) }]).wellFormed = false := by decide
theorem smoke_position : (Instr.rxPosWrite 0 (2 ^ 63) 0 0).wellFormed = false := by decide
theorem smoke_frame_length : (Instr.portFrameRx 0 { fr with octets := List.replicate 65536 0 }).wellFormed = false := by
  simp only [Instr.wellFormed, frameGood, List.length_replicate]; decide
theorem smoke_fp_frame_length : (Instr.fpFrameRx 0 { fr with octets := List.replicate 65536 0 }).wellFormed = false := by
  simp only [Instr.wellFormed, frameGood, List.length_replicate]; decide
theorem smoke_slow_path_length : (Instr.slowPathTxPost 0 (some (List.replicate 65536 0))).wellFormed = false := by
  simp only [Instr.wellFormed, List.length_replicate]; decide
theorem smoke_fold_query_size : (Instr.foldQuery []).wellFormed = false := by decide
theorem smoke_subject_length : (Instr.idCsrSubjectWrite (List.replicate 256 0)).wellFormed = false := by decide
theorem smoke_challenge_length : (Instr.idChallengeWrite (List.replicate 33 0)).wellFormed = false := by decide
theorem smoke_image_block : (Instr.fwUpdData (List.replicate 4097 0)).wellFormed = false := by decide +kernel
theorem smoke_hello : (Instr.helloRx 0 { hel with unit := 2 }).wellFormed = false := by decide
theorem smoke_twin_state : (Instr.stateRx 0 { twn with mode := 16 }).wellFormed = false := by decide
theorem smoke_journal_entries :
    (Instr.journalRx 0 0 (List.replicate 1501 (.keyInvalid 0))).wellFormed = false := by decide +kernel
theorem smoke_payload : (Instr.gopWrite { gq with rest := List.replicate 131072 0 }).wellFormed = false := by
  simp only [Instr.wellFormed, requestGood, List.length_replicate]; decide
theorem smoke_request_descriptor : (Instr.gopRead { gq with descs := [{ dsc with addr := 2 ^ 64 }] }).wellFormed = false := by
  decide
theorem smoke_write_descriptor :
    (Instr.registerWrite .bar0 0 0 0 [{ dsc with cookie := 2 ^ 64 }]).wellFormed = false := by decide
theorem smoke_parity_element : (Instr.parityMismatch 0 (some 1024) 0 0).wellFormed = false := by decide
theorem smoke_ring_descriptor : (Instr.ringDb 0 0 [{ dsc with length := 2 ^ 32 }]).wellFormed = false := by decide
theorem smoke_well_formed : (Instr.gopRead gq).wellFormed = true := by decide

/-! One step each, on values worked out by hand from the rule named. -/

/-- What a command's next state holds; false where there is none. -/
def after (c : Instr) (s : State) (p : State → Bool) : Bool :=
  match exec c s with
  | .next t => p t
  | _ => false

/-- R133: 5 s and 999,999,999 ns are 5,999,999,999 ns, which is 1,705,032,703 modulo 2^32. -/
theorem test_short_stamp : shortStamp (TsCount.to48 ⟨5, 999999999, 2 ^ 47⟩) = (1705032703, 32768) := by decide

/-- R14: with SEQ 3 and bits 0 and 2 set, a clear of bit 0 that names SEQ 3 leaves bit 2. -/
theorem test_sticky_clear : sqClear 0xFFFF 0x30005 0x30001 = some 0x30004 := by decide

/-- R14: the same clear with SEQ 2 is stale. -/
theorem test_sticky_stale : sqClear 0xFFFF 0x30005 0x20001 = none := by decide

/-- R46: SOFT_RESET takes effect for 0x5A17 alone. -/
theorem test_soft_reset : after (.softReset 0x5A17) st (fun t => t.mode == Mode.BOOT) = true := by decide +kernel
theorem test_soft_reset_other : after (.softReset 0x5A16) st (fun t => t.mode == Mode.LOCKED) = true := by decide +kernel

/-- R44: a hard reset is transition 2 to COLD. -/
theorem test_hard_reset : after .hrstNLow st (fun t => t.mode == Mode.COLD) = true := by decide +kernel

/-- R80: an enable of a REFIN slot at 1.25 GHz plus 1 µHz is refused (Table 4-9). -/
theorem test_slot_frequency :
    after (.slotEnWrite 0 true) (st.wrN (Obj.SLOT_NOMFREQ 0) 1250000000000001) (fun t => !t.rdB (Obj.SLOT_EN 0)) = true := by
  decide +kernel

/-- R84: the time-of-day CRC over "123456789" is the check value 0x29B1 of its polynomial and preset (Table 4-3). -/
theorem test_crc16 : crc16 [49, 50, 51, 52, 53, 54, 55, 56, 57] = 0x29B1 := by decide

/-- R151: SNAP_AT 10 µs ahead less 1 ns is refused with SNAP_LATE; the instant itself is held. -/
theorem test_snap_late : after (.snapAtWrite 0 9999) { st with clk.ts := ⟨0, 0, 0⟩ } (fun t => t.snap.atPending.isNone) = true := by
  decide +kernel
theorem test_snap_at : after (.snapAtWrite 0 10000) { st with clk.ts := ⟨0, 0, 0⟩ } (fun t => t.snap.atPending.isSome) = true := by
  decide +kernel

/-- R418: a chained counter carries into its partner. -/
theorem test_counter_carry :
    let s := (((st.wrN (Obj.CTR_CFG 0) 0x10000).wrN (Obj.CTR_EN 0) 1).wrN (Obj.CTR_EN 1) 1).wrN (Obj.CTR_VALUE 0) (2 ^ 32 - 1)
    ((s.addTo 2 0 3).rdN (Obj.CTR_VALUE 0), (s.addTo 2 0 3).rdN (Obj.CTR_VALUE 1)) = (2, 1) := by decide +kernel

/-- The front of the queue is taken, and what waits behind it stays. -/
theorem test_queue :
    (match step { st with pending := [.hrstNLow, .bootComplete] } with
      | .next t => t.pending == [.bootComplete] | _ => false) = true := by decide +kernel

/-- R32, R44: power-on reset released with HRST_N low leaves the block in COLD. -/
theorem test_power_on_held :
    after (.powerOnResetRelease false 0 true)
      { State.reset.wrN Obj.MODE_CURRENT Mode.COLD with ctl.supply.hrstLow := true, ks.voltageArmed := false }
      (fun t => t.mode == Mode.COLD) = true := by
  decide +kernel

/-- R9, Table 15-4: STAMP is in network order, seconds first. -/
theorem test_stamp_order : time80Net (5 * giga + 258) = [0, 0, 0, 0, 0, 5, 0, 0, 1, 2] := by decide

/-! States and operands that meet the conditions of each statement, one for each of its clauses. -/

theorem meets_StepRunsFrontCommand :
    ∃ (c : Instr) (rest : List Instr) (s : State), s.pending = c :: rest :=
  ⟨.hrstNLow, [.bootComplete], { st with pending := [.hrstNLow, .bootComplete] }, rfl⟩

theorem meets_QuietCycles :
    (∃ (s : State), s.pending = []) ∧
    (∃ (s : State), s.pending = [] ∧ s.clk.running = false ∧ s.settled ∧ s.paired = false ∧ s.boundsSeen) ∧
    (∃ (s : State), s.book.due = [] ∧ s.paired = false ∧ s.boundsSeen) ∧
    (∃ (s : State), serviceMode s.mode = false) ∧
    (∃ (s : State), s.book.due = [] ∧ s.paired = false ∧ s.boundsSeen ∧ serviceMode s.mode = false) :=
  ⟨⟨st, by decide⟩,
   ⟨{ st with clk.running := false, ctl.boot.cwrole := 0 }, by decide, by decide, rfl, by decide,
     (by unfold State.boundsSeen; decide)⟩,
   ⟨{ st with book.due := [], ctl.boot.cwrole := 0 }, rfl, by decide, (by unfold State.boundsSeen; decide)⟩,
   ⟨st.wrN Obj.MODE_CURRENT Mode.BOOT, by decide⟩,
   ⟨({ st with book.due := [], ctl.boot.cwrole := 0 }).wrN Obj.MODE_CURRENT Mode.BOOT, by decide, by decide,
     (by unfold State.boundsSeen; decide), by decide⟩⟩

theorem meets_EveryStepSettlesItsRaises :
    ∃ (s : State) (t : State), s.settled ∧ step s = .next t :=
  ⟨{ st with clk.running := false }, _, rfl, rfl⟩

theorem meets_RegisterReadAfterWrite :
    (∃ (r : Reg) (q : Reg), q.key ≠ r.key) ∧
    (∃ (r : Reg) (q : Reg), q.key ≠ r.key) ∧
    (∃ (s : State), s.book.wf) ∧
    (∃ (s : State), s.book.wf) :=
  ⟨⟨Obj.MODE_CURRENT, Obj.CTR_FREEZE, by decide⟩,
   ⟨Obj.MODE_CURRENT, Obj.CTR_FREEZE, by decide⟩,
   ⟨st, ⟨rfl, rfl⟩⟩,
   ⟨st, ⟨rfl, rfl⟩⟩⟩

theorem meets_StaleFlagClearIsIgnored :
    ∃ (w : Nat) (sets : List Nat) (b : Nat) (m : Nat), w < 2 ^ 32 ∧ (∀ x ∈ sets, x < 16) ∧ b ∈ sets ∧ sets.length <
      65536 ∧ m < 65536 :=
  ⟨2 ^ 32 - 1, [15], 15, 65535, by decide, by decide, by decide, by decide, by decide⟩

theorem meets_CurrentFlagClearClearsTheMaskedBits :
    ∃ (w : Nat) (mask : Nat) (m : Nat), w < 2 ^ 32 ∧ mask < 65536 ∧ m < 65536 :=
  ⟨0, 65535, 65535, by decide, by decide, by decide⟩

theorem meets_FreezeStopsEveryCounter :
    (∃ (s : State), s.rdB Obj.CTR_FREEZE = true) ∧
    (∃ (s : State), s.restoring 17 = false) :=
  ⟨⟨st.wrN Obj.CTR_FREEZE 1, by decide⟩,
   ⟨st, by decide⟩⟩

theorem meets_ShortStampOfATime :
    ∃ (t : TsCount), t.ns < giga ∧ t.frac < ns48 :=
  ⟨⟨5, giga - 1, ns48 - 1⟩, by decide, by decide⟩

theorem meets_TimescaleCounts :
    (∃ (c : Clock), c.running = true ∧ c.frozen = false) ∧
    (∃ (c : Clock), c.running = true ∧ c.frozen = true) ∧
    (∃ (c : Clock), c.running = false) ∧
    (∃ (s : State), s.ramping = false ∧ s.clk.running = true) ∧
    (∃ (s : State), s.ramping = true ∧ s.clk.running = true ∧ s.clk.frozen = false) ∧
    (∃ (s : State), 0 ≤ ns48 + s.ctl.slew.rateWord + s.ctl.slew.term) :=
  ⟨⟨st.clk, by decide, by decide⟩,
   ⟨{ st.clk with frozen := true }, by decide, by decide⟩,
   ⟨State.reset.clk, by decide⟩,
   ⟨{ st with clk.running := true }, by decide, by decide⟩,
   ⟨{ st with clk.running := true, clk.frozen := false, hd.tune.ramps := [⟨1, 0, 1, 0, 0⟩] }, by decide +kernel,
     by decide, by decide⟩,
   ⟨st, by decide⟩⟩

theorem meets_HardResetsComplete :
    (∃ (s : State), s.mode = Mode.COLD ∧ s.ks.voltageArmed = false ∧ s.ctl.supply.hrstLow = false) ∧
    (∃ (s : State), s.mode = Mode.COLD ∧ s.ks.voltageArmed = false ∧ s.ctl.supply.hrstLow = true) ∧
    (∃ (s : State), s.mode = Mode.COLD ∧ s.ks.voltageArmed = true) ∧
    (∃ (s : State), s.ks.voltageArmed = false) ∧
    (∃ (s : State), s.mode ≠ Mode.COLD ∧ s.ks.voltageArmed = true) ∧
    (∃ (s : State), s.mode = Mode.COLD) ∧
    (∃ (s : State), s.mode ≠ Mode.COLD) ∧
    (∃ (s : State), s.mode = Mode.COLD) :=
  ⟨⟨{ (st.wrN Obj.MODE_CURRENT Mode.COLD) with ks.voltageArmed := false, ctl.supply.hrstLow := false }, by decide,
     by decide, by decide⟩,
   ⟨{ (st.wrN Obj.MODE_CURRENT Mode.COLD) with ks.voltageArmed := false, ctl.supply.hrstLow := true }, by decide,
     by decide, by decide⟩,
   ⟨{ (st.wrN Obj.MODE_CURRENT Mode.COLD) with ks.voltageArmed := true }, by decide, by decide⟩,
   ⟨{ st with ks.voltageArmed := false }, by decide⟩,
   ⟨{ st with ks.voltageArmed := true }, by decide, by decide⟩,
   ⟨st.wrN Obj.MODE_CURRENT Mode.COLD, by decide⟩,
   ⟨st, by decide⟩,
   ⟨st.wrN Obj.MODE_CURRENT Mode.COLD, by decide⟩⟩

theorem meets_SoftAndBlockResetsComplete :
    (∃ (s : State), s.restoring 1 = false ∧ s.open = true) ∧
    (∃ (v : BitVec 32) (s : State), s.restoring 1 = false ∧ v ≠ 0x5A17) ∧
    (∃ (s : State), s.restoring 1 = false ∧ s.open = true) ∧
    (∃ (s : State), s.restoring 1 = false ∧ s.open = false) ∧
    (∃ (m : Nat), (∀ b, b < 20 → bitOn m b = true → resettable b = false)) :=
  ⟨⟨st, by decide, by decide⟩,
   ⟨0, st, by decide, by decide⟩,
   ⟨st, by decide, by decide⟩,
   ⟨st.wrN Obj.MODE_CURRENT Mode.BOOT, by decide, by decide⟩,
   ⟨0, by decide⟩⟩

theorem meets_BootSequenceCompletes :
    (∃ (i0 : FwImage) (s : State) (s1 : State), s.mode = Mode.BOOT ∧ s.ctl.boot.step = 3 ∧ s.ctl.boot.noImage = false
      ∧ s1 = s.wrN Obj.FW_RUN (i0.svn % 2 ^ 32) ∧ bitsAt (s.rdN Obj.FW_BOOT_BANK) 0 1 = 0 ∧ s.accepts i0 = true) ∧
    (∃ (i1 : FwImage) (s : State) (s1 : State), s.mode = Mode.BOOT ∧ s.ctl.boot.step = 3 ∧ s.ctl.boot.noImage = false
      ∧ s1 = s.wrN Obj.FW_RUN (2 ^ 32 + i1.svn % 2 ^ 32) ∧ bitsAt (s.rdN Obj.FW_BOOT_BANK) 0 1 = 1 ∧ s.accepts i1 =
      true) ∧
    (∃ (i0 : FwImage) (i1 : FwImage) (s : State), s.mode = Mode.BOOT ∧ s.ctl.boot.step = 3 ∧ s.ctl.boot.noImage =
      false ∧ s.accepts i0 = false ∧ s.accepts i1 = false) ∧
    (∃ (n : Fin 9) (ber : Fin 10001) (r : RootRecord) (key : BitVec 256) (s : State), s.mode = Mode.BOOT ∧
      s.ctl.boot.step = 4 ∧ s.ctl.boot.zeroised = false ∧ s.ks.root = some r ∧ r.unwrapped = some key ∧ n.val < 8 ∧
      ber.val ≤ 800) ∧
    (∃ (n : Fin 9) (ber : Fin 10001) (r : RootRecord) (key : BitVec 256) (s : State), s.mode = Mode.BOOT ∧
      s.ctl.boot.step = 4 ∧ s.ctl.boot.zeroised = false ∧ s.ks.root = some r ∧ r.unwrapped = some key ∧ n.val < 8 ∧
      800 < ber.val ∧ s.inhibited = false) ∧
    (∃ (n : Fin 9) (r : RootRecord) (s : State), s.mode = Mode.BOOT ∧ s.ctl.boot.step = 4 ∧ s.ctl.boot.zeroised =
      false ∧ s.ks.root = some r ∧ (n.val = 8 ∨ r.unwrapped = none)) ∧
    (∃ (s : State), s.mode = Mode.BOOT ∧ s.ctl.boot.step = 4 ∧ s.ctl.boot.zeroised = false ∧ s.ks.root = none) ∧
    (∃ (s : State), s.mode = Mode.BOOT ∧ s.ctl.boot.step = 5 ∧ s.ctl.boot.zeroised = false ∧ s.inhibited = false ∧
      s.ks.trngFailed = false ∧ s.ks.cells = []) ∧
    (∃ (s : State), s.mode = Mode.BOOT ∧ s.ctl.boot.step = 6 ∧ s.hd.loA.warm = true ∧ s.hd.loA.seen = true) ∧
    (∃ (c : BootConfig) (s : State) (u : State), s.ctl.boot.config = some c ∧ u = s.dramTrains) ∧
    (∃ (s : State), s.mode = Mode.BOOT ∧ s.ctl.boot.step = 11) ∧
    (∃ (s : State) (s1 : State), s.mode = Mode.BOOT ∧ s.ctl.boot.step = 13 ∧ s1 = (s.bootTo 14).forEach (l := [0, 1])
      (p := fun s f => s.when (s.rdB (Obj.FP_EN f)) (·.wrN (Obj.FP_STATE f) 1))) ∧
    (∃ (s : State), s.ctl.boot.zeroised = true) ∧
    (∃ (s : State), s.ctl.boot.zeroised = false ∧ s.ctl.boot.fault = true) ∧
    (∃ (s : State), s.ctl.boot.zeroised = false ∧ s.ctl.boot.fault = false ∧ s.keyState 7 = Key.ACTIVE) ∧
    (∃ (s : State), s.ctl.boot.zeroised = false ∧ s.ctl.boot.fault = false ∧ s.keyState 7 = Key.EMPTY) ∧
    (∃ (s : State), s.mode = Mode.UNPROVISIONED ∧ s.ctl.boot.factoryEn = true ∧ s.locked 1 = false) ∧
    (∃ (s : State), (s.mode ≠ Mode.UNPROVISIONED ∨ s.ctl.boot.factoryEn = false ∨ s.locked 1 = true)) ∧
    (∃ (mode : Nat), mode < 10) :=
  ⟨⟨img, { (st.wrN Obj.MODE_CURRENT Mode.BOOT) with ctl.boot.step := 3, ctl.boot.noImage := false }, _, by decide,
     by decide, by decide, rfl, by decide, by decide⟩,
   ⟨img, ({ (st.wrN Obj.MODE_CURRENT Mode.BOOT) with ctl.boot.step := 3, ctl.boot.noImage := false }).wrN
     Obj.FW_BOOT_BANK 1, _, by decide, by decide, by decide, rfl, by decide, by decide⟩,
   ⟨{ img with signatureOk := false }, { img with lengthOk := false },
     { (st.wrN Obj.MODE_CURRENT Mode.BOOT) with ctl.boot.step := 3, ctl.boot.noImage := false }, by decide, by decide,
     by decide, by decide, by decide⟩,
   ⟨7, 800, rrec, _,
     { (st.wrN Obj.MODE_CURRENT Mode.BOOT) with ctl.boot.step := 4, ctl.boot.zeroised := false, ks.root := some ⟨0, 0, 0, 7, 1⟩ },
     by decide, by decide, by decide, rfl, rfl, by decide, by decide⟩,
   ⟨7, 10000, rrec, _,
     { (st.wrN Obj.MODE_CURRENT Mode.BOOT) with ctl.boot.step := 4, ctl.boot.zeroised := false, ks.root := some ⟨0, 0, 0, 7, 1⟩ },
     by decide, by decide, by decide, rfl, rfl, by decide, by decide, by decide⟩,
   ⟨8, rrec,
     { (st.wrN Obj.MODE_CURRENT Mode.BOOT) with ctl.boot.step := 4, ctl.boot.zeroised := false, ks.root := some ⟨0, 0, 0, 7, 1⟩ },
     by decide, by decide, by decide, rfl, by decide⟩,
   ⟨{ (st.wrN Obj.MODE_CURRENT Mode.BOOT) with ctl.boot.step := 4, ctl.boot.zeroised := false, ks.root := none },
     by decide, by decide, by decide, by decide⟩,
   ⟨{ (st.wrN Obj.MODE_CURRENT Mode.BOOT) with ctl.boot.step := 5, ctl.boot.zeroised := false, ks.trngFailed := false, ks.cells := [] },
     by decide, by decide, by decide, by decide, by decide, by decide⟩,
   ⟨{ (st.wrN Obj.MODE_CURRENT Mode.BOOT) with ctl.boot.step := 6, hd.loA.warm := true, hd.loA.seen := true },
     by decide, by decide, by decide, by decide⟩,
   ⟨default, { st with ctl.boot.config := some default }, _, rfl, rfl⟩,
   ⟨{ (st.wrN Obj.MODE_CURRENT Mode.BOOT) with ctl.boot.step := 11 }, by decide, by decide⟩,
   ⟨{ (st.wrN Obj.MODE_CURRENT Mode.BOOT) with ctl.boot.step := 13 }, _, by decide, by decide, rfl⟩,
   ⟨{ st with ctl.boot.zeroised := true }, by decide⟩,
   ⟨{ st with ctl.boot.zeroised := false, ctl.boot.fault := true }, by decide, by decide⟩,
   ⟨{ st with ctl.boot.zeroised := false, ctl.boot.fault := false, ks.slots := [(7, { KeySlot.none with state := .active, value := 5, usage := 31 })] },
     by decide, by decide, by decide⟩,
   ⟨{ st with ctl.boot.zeroised := false, ctl.boot.fault := false }, by decide, by decide, by decide⟩,
   ⟨{ (st.wrN Obj.MODE_CURRENT Mode.UNPROVISIONED) with ctl.boot.factoryEn := true }, by decide, by decide, by decide⟩,
   ⟨st, by decide⟩,
   ⟨9, by decide⟩⟩

theorem meets_LocksAndSuppliesComplete :
    (∃ (s : State), s.restoring 1 = false) ∧
    (∃ (s : State), s.mode ≠ Mode.COLD ∧ s.ctl.supply.vddauxLow = false) ∧
    (∃ (s : State), s.mode ≠ Mode.COLD ∧ s.ctl.supply.vbatLow = false ∧ s.ctl.supply.vbatAbsent = false) ∧
    (∃ (s : State), s.mode ≠ Mode.COLD ∧ s.ctl.supply.vddauxLow = true) :=
  ⟨⟨st, by decide⟩,
   ⟨{ st with ctl.supply.vddauxLow := false }, by decide, by decide⟩,
   ⟨{ st with ctl.supply.vbatLow := false, ctl.supply.vbatAbsent := false }, by decide, by decide, by decide⟩,
   ⟨{ st with ctl.supply.vddauxLow := true }, by decide, by decide⟩⟩

theorem meets_KeySlotCommandsComplete :
    (∃ (l : Link) (k : Fin 1024) (s : State), s.restoring 14 = false ∧ s.ksMode = Ks.OK ∧ s.unsafeBlock 14 = false ∧ 4
      ≤ k.val ∧ k.val ≠ 7 ∧ s.keysAhead.keyState k = Key.EMPTY ∧ s.locked 4 = false ∧ s.rdN (Obj.KEY_USAGE (linkCode
      l) k) < 32 ∧ s.rdN (Obj.KEY_KDF (linkCode l) k) ≤ 1 ∧ s.rdN (Obj.KEY_GEN_REQ (linkCode l) k) = 0 ∧ s.rdN
      Obj.KS_GEN_HIGH + 1 < 2 ^ 48 ∧ s.inhibited = false ∧ (s.lanesFor false).isEmpty = false) ∧
    (∃ (l : Link) (k : Fin 1024) (s : State), s.restoring 14 = false ∧ s.ksMode = Ks.OK ∧ s.unsafeBlock 14 = false ∧ 8
      ≤ k.val ∧ s.keysAhead.keyState k = Key.EMPTY ∧ s.rdN (Obj.KEY_USAGE (linkCode l) k) < 32 ∧ s.rdN (Obj.KEY_KDF
      (linkCode l) k) ≤ 1 ∧ s.rdN (Obj.KEY_PARENT (linkCode l) k) ≤ 1023 ∧ s.stagedLabel l k ≠ [] ∧ s.rdN
      (Obj.KEY_GEN_REQ (linkCode l) k) = 0 ∧ s.rdN Obj.KS_GEN_HIGH + 1 < 2 ^ 48 ∧ s.keysAhead.parentStatus (s.rdN
      (Obj.KEY_PARENT (linkCode l) k)) = Ks.OK ∧ s.inhibited = false ∧ (s.lanesFor ((s.keysAhead.slotOf (s.rdN
      (Obj.KEY_PARENT (linkCode l) k))).kdf == 0)).isEmpty = false) ∧
    (∃ (k : Fin 1024) (s : State), s.restoring 14 = false ∧ s.ksMode = Ks.OK ∧ s.unsafeBlock 14 = false ∧ 4 ≤ k.val ∧
      k.val ≠ 7) ∧
    (∃ (k : Fin 1024) (s : State), s.restoring 14 = false ∧ s.ksMode = Ks.OK ∧ k.val < 4) ∧
    (∃ (s : State), s.restoring 14 = false ∧ s.mode = Mode.ZEROISED) :=
  ⟨⟨.pcie, 1023, st.wrN (Obj.KEY_GEN_REQ (linkCode .pcie) 1023) 0, by decide, by decide, by decide, by decide,
     by decide, by decide, by decide, by decide, by decide, by decide, by decide, by decide, by decide⟩,
   ⟨.pcie, 1023,
     (({ (st.wrN (Obj.KEY_GEN_REQ (linkCode .pcie) 1023) 0) with ks.slots := [(8, { KeySlot.none with state := .active, value := 5, usage := 31 })] }).wrN
     (Obj.KEY_PARENT (linkCode .pcie) 1023) 8).wrBlob [] (Obj.KEY_LABEL (linkCode .pcie) 1023) [1], by decide,
     by decide, by decide, by decide, by decide, by decide, by decide, by decide, by decide, by decide, by decide,
     by decide, by decide, by decide⟩,
   ⟨1023, st, by decide, by decide, by decide, by decide, by decide⟩,
   ⟨3, st, by decide, by decide, by decide⟩,
   ⟨st.wrN Obj.MODE_CURRENT Mode.ZEROISED, by decide, by decide⟩⟩

theorem meets_RecordsAndFirmwareComplete :
    (∃ (op : CellOp) (rest : List CellOp) (s : State), s.ks.cells = op :: rest ∧ s.ks.zeroising = false ∧ 1 <
      op.recordsLeft ∧ s.inhibited = false) ∧
    (∃ (op : CellOp) (rest : List CellOp) (s : State), s.ks.cells = op :: rest ∧ s.ks.zeroising = false ∧ 1 <
      op.recordsLeft ∧ s.inhibited = true) ∧
    (∃ (r : RootRecord) (s : State), s.ks.cells = [{ recordsLeft := 1, commit := .root r }] ∧ s.ks.zeroising = false) ∧
    (∃ (r : RootRecord) (s : State), s.ks.cells = [{ recordsLeft := 1, commit := .helper r }] ∧ s.ks.zeroising =
      false) ∧
    (∃ (key : BitVec 256) (g : Nat) (s : State), s.ks.cells = [{ recordsLeft := 1, commit := .provision key g }] ∧
      s.ks.zeroising = false) ∧
    (∃ (l : Link) (k : Nat) (cmd : Nat) (x : KeySlot) (rest : List CellOp) (s : State), s.ks.cells =
      { recordsLeft := 1, commit := .slot (some l) k cmd x } :: rest ∧ s.ks.zeroising = false) ∧
    (∃ (l : Link) (k : Nat) (cmd : Nat) (x : KeySlot) (rest : List CellOp) (s : State), s.ks.cells =
      { recordsLeft := 1, commit := .slot (some l) k cmd x } :: rest ∧ s.ks.zeroising = false ∧ (cmd = 3 ∨ cmd = 4)) ∧
    (∃ (s : State), s.ks.cells = []) ∧
    (∃ (l : Option Link) (n : Nat) (k : Nat) (cmd : Nat) (x : KeySlot) (rest : List CellOp) (s : State), s.ks.cells =
      { recordsLeft := n, commit := .slot l k cmd x } :: rest ∧ s.inhibited = false ∧ (s.replan k cmd x).1 = Ks.OK) ∧
    (∃ (l : Link) (n : Nat) (k : Nat) (cmd : Nat) (x : KeySlot) (s : State), s.ks.cells =
      [{ recordsLeft := n, commit := .slot (some l) k cmd x }] ∧ s.inhibited = false ∧ (s.replan k cmd x).1 ≠ Ks.OK) ∧
    (∃ (l : Link) (k : Nat) (cmd : Nat) (x : KeySlot) (s : State), (cmd = 1 ∨ cmd = 2) ∧ s.inhibited = true ∧ x.gen ≠
      0 ∧ s.ks.cells = [{ recordsLeft := 1, commit := .slot (some l) k cmd x }]) ∧
    (∃ (s : State), s.restoring 14 = false ∧ s.ksMode = Ks.OK ∧ s.unsafeBlock 14 = false ∧ s.locked 7 = false ∧
      s.inhibited = false) ∧
    (∃ (s : State) (block : List Octet), s.restoring 14 = false ∧ s.ksMode = Ks.OK ∧ s.unsafeBlock 14 = false ∧
      s.locked 7 = false ∧ s.inhibited = false ∧ block.length ≤ 4096 ∧ s.ks.fwUpdate.active = true) ∧
    (∃ (s : State) (s1 : State), s.restoring 14 = false ∧ s.ksMode = Ks.OK ∧ s.unsafeBlock 14 = false ∧ s.locked 7 =
      false ∧ s.inhibited = false ∧ s.ks.fwUpdate.active = true ∧ s1 =
      { s with ks := { s.ks with fwUpdate := { active := false, image := [] } } }) :=
  ⟨⟨⟨3, .helper rrec⟩, [], { st with ks.cells := (⟨3, .helper rrec⟩) :: [], ks.zeroising := false }, rfl, by decide,
     by decide, by decide⟩,
   ⟨⟨3, .helper rrec⟩, [],
     { st with ks.cells := (⟨3, .helper rrec⟩) :: [], ks.zeroising := false, ctl.supply.vddauxLow := true }, rfl,
     by decide, by decide, by decide⟩,
   ⟨rrec, { st with ks.cells := [{ recordsLeft := 1, commit := .root rrec }], ks.zeroising := false }, by decide,
     by decide⟩,
   ⟨rrec, { st with ks.cells := [{ recordsLeft := 1, commit := .helper rrec }], ks.zeroising := false }, by decide,
     by decide⟩,
   ⟨0, 0, { st with ks.cells := [{ recordsLeft := 1, commit := .provision 0 0 }], ks.zeroising := false }, by decide,
     by decide⟩,
   ⟨.pcie, 0, 0, KeySlot.none, [],
     { st with ks.cells := { recordsLeft := 1, commit := .slot (some .pcie) 0 0 KeySlot.none } :: [], ks.zeroising := false },
     by decide, by decide⟩,
   ⟨.pcie, 0, 4, KeySlot.none, [],
     { st with ks.cells := { recordsLeft := 1, commit := .slot (some .pcie) 0 4 KeySlot.none } :: [], ks.zeroising := false },
     by decide, by decide, by decide⟩,
   ⟨{ st with ks.cells := [] }, by decide⟩,
   ⟨none, 1, 8, 1, KeySlot.none, [], { st with ks.cells := [⟨1, .slot none 8 1 KeySlot.none⟩] }, rfl, by decide,
     by decide⟩,
   ⟨.pcie, 0, 0, 0, KeySlot.none,
     { st with ks.cells := [{ recordsLeft := 0, commit := .slot (some .pcie) 0 0 KeySlot.none }] }, by decide,
     by decide, by decide⟩,
   ⟨.pcie, 8, 1, { KeySlot.none with gen := 3 },
     { st with ks.cells := [⟨1, .slot (some .pcie) 8 1 { KeySlot.none with gen := 3 }⟩], ctl.supply.vddauxLow := true },
     by decide, by decide, by decide, rfl⟩,
   ⟨st, by decide, by decide, by decide, by decide, by decide⟩,
   ⟨{ st with ks.fwUpdate.active := true }, [], by decide, by decide, by decide, by decide, by decide, by decide,
     by decide⟩,
   ⟨{ st with ks.fwUpdate.active := true }, _, by decide, by decide, by decide, by decide, by decide, by decide, rfl⟩⟩

theorem meets_ServicesAndZeroisationComplete :
    (∃ (n : Nat), n < 8) ∧
    (∃ (n : Nat) (m : Nat), n < 8 ∧ m < 8 ∧ m ≠ n) ∧
    (∃ (s : State), s.ks.trngFailed = true ∧ s.ks.passes + 1 < 64) ∧
    (∃ (s : State), s.ks.trngFailed = true ∧ 64 ≤ s.ks.passes + 1) ∧
    (∃ (s : State), s.ks.trngFailed = true) ∧
    (∃ (s : State), s.ks.trngFailed = false) ∧
    (∃ (v : List Octet) (s : State), s.restoring 1 = false ∧ s.identity.isSome = true ∧ v ≠ []) ∧
    (∃ (v : List Octet) (s : State), s.restoring 1 = false ∧ s.identity.isSome = true ∧ v.length = 32 ∧ s.blob
      (List.replicate 32 0) Obj.ID_CHALLENGE = List.replicate 32 0) ∧
    (∃ (s : State), s.restoring 1 = false ∧ s.mode = Mode.UNPROVISIONED ∧ s.unsafeBlock 14 = false) ∧
    (∃ (status : Nat) (rest : List Nat) (s : State) (s1 : State), s.ks.installs = status :: rest ∧ s1 =
      ({ s with ks := { s.ks with installs := rest } } : State).wrN Obj.PROV_RESULT status ∧ status ≠ Ks.OK) ∧
    (∃ (status : Nat) (rest : List Nat) (s : State) (s1 : State), s.ks.installs = status :: rest ∧ s1 =
      ({ s with ks := { s.ks with installs := rest } } : State).wrN Obj.PROV_RESULT status ∧ status = Ks.OK ∧ s.mode =
      Mode.UNPROVISIONED) ∧
    (∃ (status : Nat) (key : BitVec 256) (s : State), s.ksClosed = false ∧ s.mode = Mode.UNPROVISIONED ∧ s.unsafeBlock
      14 = false ∧ s.installKey = (status, key) ∧ status ≠ Ks.OK) ∧
    (∃ (s : State), s.mode = Mode.UNPROVISIONED) ∧
    (∃ (s : State), s.mode = Mode.UNPROVISIONED ∧ (s.fp 0).tx ≠ []) ∧
    (∃ (s : State), s.restoring 14 = false ∧ serviceMode s.mode = true) ∧
    (∃ (v : BitVec 32) (s : State), s.restoring 14 = false ∧ v ≠ 0x5A170000) ∧
    (∃ (s : State) (u : State), s.ks.zeroising = true ∧ u = s.erased) ∧
    (∃ (s : State) (u : State), s.ks.zeroising = true ∧ u = s.erased) ∧
    (∃ (n : Fin 9) (s : State), s.mode ≠ Mode.COLD ∧ (n = 5 → s.ks.voltageArmed = true) ∧ s.rdN (Obj.TAMP_POLICY n) =
      1) ∧
    (∃ (n : Fin 9) (s : State), s.mode ≠ Mode.COLD ∧ (n = 5 → s.ks.voltageArmed = true) ∧ s.rdN (Obj.TAMP_POLICY n) =
      2) ∧
    (∃ (n : Nat) (s : State), n < 9 ∧ s.rdN (Obj.TAMP_POLICY n) = 2) :=
  ⟨⟨7, by decide⟩,
   ⟨7, 0, by decide, by decide, by decide⟩,
   ⟨{ st with ks.trngFailed := true }, by decide, by decide⟩,
   ⟨{ st with ks.trngFailed := true, ks.passes := 63 }, by decide, by decide⟩,
   ⟨{ st with ks.trngFailed := true }, by decide⟩,
   ⟨{ st with ks.trngFailed := false }, by decide⟩,
   ⟨[1], { st with ks.slots := [(0, { KeySlot.none with state := .active, value := 5, usage := 31 })] }, by decide,
     by decide, by decide⟩,
   ⟨List.replicate 32 1,
     { st with ks.slots := [(0, { KeySlot.none with state := .active, value := 5, usage := 31 })] }, by decide,
     by decide, by decide, by decide⟩,
   ⟨st.wrN Obj.MODE_CURRENT Mode.UNPROVISIONED, by decide, by decide, by decide⟩,
   ⟨9, [], { st with ks.installs := [9] }, _, rfl, rfl, by decide⟩,
   ⟨(Ks.OK), [], ({ st with ks.installs := ((Ks.OK)) :: [] }).wrN Obj.MODE_CURRENT Mode.UNPROVISIONED, _, rfl, rfl,
     rfl, by decide⟩,
   ⟨_, _, (st.wrN Obj.MODE_CURRENT Mode.UNPROVISIONED).wrN Obj.MODE_CURRENT Mode.UNPROVISIONED, by decide, by decide,
     by decide, rfl, by decide⟩,
   ⟨st.wrN Obj.MODE_CURRENT Mode.UNPROVISIONED, by decide⟩,
   ⟨((fun z : State => z.setFp 0 { z.fp 0 with tx := [[1]] }) (st.wrN Obj.MODE_CURRENT Mode.UNPROVISIONED)).wrN
     Obj.MODE_CURRENT Mode.UNPROVISIONED, by decide, by decide⟩,
   ⟨st, by decide, by decide⟩,
   ⟨0, st, by decide, by decide⟩,
   ⟨{ st with ks.zeroising := true }, _, by decide, rfl⟩,
   ⟨{ st with ks.zeroising := true }, _, by decide, rfl⟩,
   ⟨8, st.wrN (Obj.TAMP_POLICY 8) 1, by decide, by decide, by decide⟩,
   ⟨8, st.wrN (Obj.TAMP_POLICY 8) 2, by decide, by decide, by decide⟩,
   ⟨8, st.wrN (Obj.TAMP_POLICY 8) 2, by decide, by decide⟩⟩

theorem meets_ProtectionAndFaultsafeComplete :
    (∃ (s : State), s.mode ≠ Mode.COLD) ∧
    (∃ (b : Fin 20) (s : State), s.mode ≠ Mode.COLD ∧ wholeBlock b = true ∧ b ≠ 4 ∧ b ≠ 10 ∧ b ≠ 11 ∧ s.active (0x040
      + b) = false) ∧
    (∃ (s : State), s.mode ≠ Mode.COLD ∧ s.active (0x040 + 4) = false) ∧
    (∃ (i : Nat) (s : State), s.mode ≠ Mode.COLD ∧ i < 128 ∧ s.active (0x040 + 17) = false) ∧
    (∃ (b : Fin 20) (s : State), bitOn s.book.guard.restoring b = true) ∧
    (∃ (b : Fin 20) (s : State), bitOn s.book.guard.failed b = true) ∧
    (∃ (b : Nat) (s : State), s.restoring b = true) ∧
    (∃ (s : State), s.restoring 2 = true) ∧
    (∃ (s : State), s.restoring 3 = true) ∧
    (∃ (s : State), s.restoring 4 = true) ∧
    (∃ (s : State), s.restoring 9 = true) ∧
    (∃ (s : State), s.restoring 14 = true) ∧
    (∃ (s : State), bitOn s.book.guard.restoring 17 = true ∧ bitOn s.book.guard.failed 17 = false) ∧
    (∃ (s : State), bitOn s.book.guard.restoring 17 = true ∧ bitOn s.book.guard.failed 17 = false) ∧
    (∃ (s : State) (s1 : State), s.mode = Mode.FAULTSAFE ∧ s.rdB Obj.FS_LATCHED = false ∧ (∀ n ∈ s.causing, s.active n
      = false) ∧ s.liveTo s.quietEnd = some s1) ∧
    (∃ (s : State), s.rdB Obj.FS_LATCHED = true) ∧
    (∃ (s : State) (s1 : State), s.mode = Mode.FAULTSAFE ∧ s.liveTo (s.ctl.fs.entered48 + s.rdN Obj.FS_ANN_HOLD *
      sec48) = some s1) ∧
    (∃ (s : State), s.mode = Mode.FAULTSAFE ∧ s.rdN Obj.FS_PKT_POLICY = 1 ∧ s.ctl.fs.entered48 + s.rdN Obj.FS_ANN_HOLD
      * sec48 ≤ s.live48) ∧
    (∃ (s : State) (s1 : State) (s2 : State), s.restoring 16 = false ∧ s.rdB Obj.FS_LATCHED = true ∧ s1 = (s.wrN
      Obj.FS_LATCHED 0).cond Src.FS_LATCHED false ∧ s2 =
      ({ s1 with ctl := { s1.ctl with fs := { s1.ctl.fs with exits48 := [] } } } : State).logFs 5) ∧
    (∃ (s : State), s.restoring 16 = false ∧ s.rdB Obj.FS_LATCHED = false) ∧
    (∃ (s : State), s.clk.running = true) ∧
    (∃ (s : State), s.clk.running = true ∧ s.clk.frozen = false) ∧
    (∃ (s : State), s.clk.frozen = true) :=
  ⟨⟨st, by decide⟩,
   ⟨19, st.cond (0x040 + 19) false, by decide, by decide, by decide, by decide, by decide, by decide⟩,
   ⟨st.cond (0x040 + 4) false, by decide, by decide⟩,
   ⟨127, { (st.cond (0x040 + 17) false) with book.guard.restoring := 2 ^ 19 }, by decide, by decide, by decide⟩,
   ⟨19, { st with book.guard.restoring := 2 ^ 19 }, by decide⟩,
   ⟨19, { st with book.guard.failed := 2 ^ 19 }, by decide⟩,
   ⟨19, { st with book.guard.restoring := 2 ^ 19 }, by decide⟩,
   ⟨{ st with book.guard.restoring := 2 ^ 2 }, by decide⟩,
   ⟨{ st with book.guard.restoring := 2 ^ 3 }, by decide⟩,
   ⟨{ st with book.guard.restoring := 2 ^ 4 }, by decide⟩,
   ⟨{ st with book.guard.restoring := 2 ^ 9 }, by decide⟩,
   ⟨{ st with book.guard.restoring := 2 ^ 14 }, by decide⟩,
   ⟨{ st with book.guard.restoring := 2 ^ 17 }, by decide, by decide⟩,
   ⟨{ st with book.guard.restoring := 2 ^ 17 }, by decide, by decide⟩,
   ⟨(st.wrN Obj.MODE_CURRENT Mode.FAULTSAFE).wrN Obj.FS_LATCHED 0, _, by decide, by decide, by decide, liveTo_runs
     rfl⟩,
   ⟨st.wrN Obj.FS_LATCHED 1, by decide⟩,
   ⟨(st.wrN Obj.MODE_CURRENT Mode.FAULTSAFE).wrN Obj.FS_ANN_HOLD 0, _, by decide, liveTo_runs rfl⟩,
   ⟨((st.wrN Obj.MODE_CURRENT Mode.FAULTSAFE).wrN Obj.FS_PKT_POLICY 1).wrN Obj.FS_ANN_HOLD 0, by decide, by decide,
     by decide⟩,
   ⟨st.wrN Obj.FS_LATCHED 1, _, _, by decide, by decide, rfl, rfl⟩,
   ⟨st.wrN Obj.FS_LATCHED 0, by decide, by decide⟩,
   ⟨{ st with clk.running := true }, by decide⟩,
   ⟨{ st with clk.running := true, clk.frozen := false }, by decide, by decide⟩,
   ⟨{ st with clk.frozen := true }, by decide⟩⟩

theorem meets_InjectionAndTestPort :
    (∃ (n : BitVec 16) (s : State), s.restoring 16 = false ∧ s.mode = Mode.FACTORY ∧ (sourceRow? n.toNat).isSome =
      true) ∧
    (∃ (s : State), s.restoring 16 = false ∧ s.mode ≠ Mode.FACTORY) ∧
    (∃ (i : Jtag) (s : State), (s.mode ≠ Mode.FACTORY ∨ i ≠ .other)) :=
  ⟨⟨0x40, st.wrN Obj.MODE_CURRENT Mode.FACTORY, by decide, by decide, by decide⟩,
   ⟨st, by decide, by decide⟩,
   ⟨.extest, st, by decide⟩⟩

theorem meets_CountersComplete :
    (∃ (n : Fin 128) (lost : Fin 9221) (s : State), s.restoring 17 = false ∧ s.rdN (Obj.CTR_VALUE n) + lost < 2 ^ 32) ∧
    (∃ (n : Fin 128) (s : State), s.restoring 17 = false ∧ s.chained n = false) ∧
    (∃ (n : Fin 128) (lost : Fin 9221) (s : State), s.restoring 17 = false ∧ s.chained n = true ∧ s.rdB (Obj.CTR_EN n)
      = true ∧ s.rdB Obj.CTR_FREEZE = false ∧ 2 ^ 32 ≤ s.rdN (Obj.CTR_VALUE n) + lost) ∧
    (∃ (s : State), s.restoring 17 = false) ∧
    (∃ (n : Nat) (amt : Nat) (s : State), s.rdN (Obj.CTR_VALUE n) + amt < 2 ^ 32) ∧
    (∃ (n : Nat) (amt : Nat) (s : State), 2 ^ 32 ≤ s.rdN (Obj.CTR_VALUE n) + amt ∧ s.chained n = false) ∧
    (∃ (n : Nat) (amt : Nat) (s : State), n < 127 ∧ 2 ^ 32 ≤ s.rdN (Obj.CTR_VALUE n) + amt ∧ amt < 2 ^ 32 ∧ s.rdN
      (Obj.CTR_VALUE n) < 2 ^ 32 ∧ s.chained n = true ∧ s.rdB (Obj.CTR_EN (n + 1)) = true ∧ s.rdN (Obj.CTR_VALUE (n +
      1)) + 1 < 2 ^ 32) :=
  ⟨⟨127, 9220, st, by decide, by decide⟩,
   ⟨127, st, by decide, by decide⟩,
   ⟨126, 9220, ((((st.wrN (Obj.CTR_EN 126) 1).wrN Obj.CTR_FREEZE 0).wrN (Obj.CTR_EN 126) 1).wrN (Obj.CTR_VALUE 126) (2
     ^ 32 - 1)).wrN (Obj.CTR_CFG 126) (2 ^ 16), by decide, by decide, by decide, by decide, by decide⟩,
   ⟨st, by decide⟩,
   ⟨0, 0, st, by decide⟩,
   ⟨127, 1, st.wrN (Obj.CTR_VALUE 127) (2 ^ 32 - 1), by decide, by decide⟩,
   ⟨126, 1, ((st.wrN (Obj.CTR_EN (126 + 1)) 1).wrN (Obj.CTR_VALUE 126) (2 ^ 32 - 1)).wrN (Obj.CTR_CFG 126) (2 ^ 16),
     by decide, by decide, by decide, by decide, by decide, by decide, by decide⟩⟩

theorem meets_RingsAndDoorbellsComplete :
    (∃ (k : Fin 64) (s : State), s.restoring 19 = false ∧ ringExists k = true ∧ s.rdB (Obj.RING_EN k) = false ∧ s.rdN
      (Obj.RING_BASE k) % 4096 = 0 ∧ (s.ring k).taken = []) ∧
    (∃ (k : Fin 64) (s : State), s.restoring 19 = false ∧ ringExists k = true ∧ s.rdB (Obj.RING_EN k) = false ∧ s.rdN
      (Obj.RING_BASE k) % 4096 = 0 ∧ (s.ring k).taken ≠ []) ∧
    (∃ (k : Fin 64) (s : State), s.restoring 19 = false ∧ ringExists k = true ∧ s.rdB (Obj.RING_EN k) = false ∧ s.rdN
      (Obj.RING_BASE k) % 4096 ≠ 0) ∧
    (∃ (k : Fin 64) (s : State), s.restoring 19 = false ∧ ringExists k = true ∧ s.rdB (Obj.RING_EN k) = true ∧ k ≠ 20
      ∧ (s.ring k).taken = [] ∧ s.rdN (Obj.RING_STATE k) ≠ 0) ∧
    (∃ (k : Fin 64) (s : State), s.takes k = true) ∧
    (∃ (k : Fin 64) (s : State), s.restoring 19 = false ∧ ringExists k = true ∧ s.rdN (Obj.RING_STATE k) = 1 ∧ s.rdB
      (Obj.RING_EN k) = true) ∧
    (∃ (k : Fin 64) (s : State), s.restoring 19 = false ∧ s.rdN (Obj.RING_STATE k) ≠ 1) ∧
    (∃ (k : Fin 64) (d : Posted) (rest : List Posted) (s : State), (s.ring k).posted = d :: rest ∧ d.own = false ∧
      s.takes k = true) :=
  ⟨⟨63, (fun z : State => z.setRing 63 { z.ring 63 with taken := [] }) (st.wrN (Obj.RING_EN 63) 0), by decide,
     by decide, by decide, by decide, by decide⟩,
   ⟨63, (fun z : State => z.setRing 63 { z.ring 63 with taken := [tak] }) (st.wrN (Obj.RING_EN 63) 0), by decide,
     by decide, by decide, by decide, by decide⟩,
   ⟨63, (st.wrN (Obj.RING_EN 63) 0).wrN (Obj.RING_BASE 63) 1, by decide, by decide, by decide, by decide⟩,
   ⟨63, ((fun z : State => z.setRing 63 { z.ring 63 with taken := [] }) (st.wrN (Obj.RING_EN 63) 1)).wrN
     (Obj.RING_STATE 63) 1, by decide, by decide, by decide, by decide, by decide, by decide⟩,
   ⟨63, ((st.wrN (Obj.RING_EN 63) 1).wrN (Obj.RING_STATE 63) 1).wrN Obj.HL_LINK 0x300, by decide⟩,
   ⟨63, (st.wrN (Obj.RING_STATE 63) 1).wrN (Obj.RING_EN 63) 1, by decide, by decide, by decide, by decide⟩,
   ⟨63, st, by decide, by decide⟩,
   ⟨63, { dsc with own := false }, [], ((((fun z : State => z.setRing 63
     { z.ring 63 with posted := [{ dsc with own := false }] }) ((fun z : State => z.setRing 63
     { z.ring 63 with posted := ({ dsc with own := false }) :: [] }) st)).wrN (Obj.RING_EN 63) 1).wrN (Obj.RING_STATE
     63) 1).wrN Obj.HL_LINK 0x300, rfl, by decide, by decide⟩⟩

theorem meets_HostLinkEventsComplete :
    (∃ (dma : Bool) (t : Taken) (s : State), (s.ahead 0).nextTaken 0 = some t ∧ (t.desc.length = 0 ∨ 4140 <
      t.desc.length ∨ dma = true)) ∧
    (∃ (k : Fin 64) (s : State), h2eRing k = true ∧ (s.ahead k).nextTaken k = none) ∧
    (∃ (k : Fin 64) (t : Nat) (s : State) (s1 : State), (s.ring k).irqWaiting = true ∧ (s.ring k).lastIrq48 = some t ∧
      s.dmaPaused = false ∧ s.runTo (t + us48 (bitsAt (s.rdN (Obj.RING_IRQ k)) 16 16)) = some s1) ∧
    (∃ (k : Nat) (v : Nat) (s : State), v = bitsAt (s.rdN (Obj.RING_IRQ k)) 0 6 ∧ (s.msixEntry v).masked = false) ∧
    (∃ (k : Nat) (v : Nat) (s : State), v = bitsAt (s.rdN (Obj.RING_IRQ k)) 0 6 ∧ (s.msixEntry v).masked = true) ∧
    (∃ (s : State), s.dmaPaused = false) ∧
    (∃ (s : State), s.dmaPaused = true) ∧
    (∃ (s : State), s.dmaPaused = true) ∧
    (∃ (s : State), bitOn (s.rdN Obj.HL_LINK) 8 = true) ∧
    (∃ (k : Nat), k < 64) ∧
    (∃ (s : State), bitOn (s.rdN Obj.HL_LINK) 9 = true) ∧
    (∃ (s : State), bitOn (s.rdN Obj.HL_LINK) 9 = false) :=
  ⟨⟨true, ⟨0, dsc, false⟩, ((((fun z : State => z.setRing 0 { z.ring 0 with taken := [⟨0, dsc, false⟩] }) st).wrN
     (Obj.RING_EN 0) 1).wrN (Obj.RING_STATE 0) 1).wrN Obj.HL_LINK 0x300, rfl, by decide⟩,
   ⟨18, st, by decide, by decide⟩,
   ⟨63, 7, ((fun z : State => z.setRing 63 { z.ring 63 with lastIrq48 := some 7 }) ((fun z : State => z.setRing 63
     { z.ring 63 with irqWaiting := true }) st)).wrN Obj.HL_LINK 0x300, _, by decide, rfl, by decide, runTo_runs rfl
     rfl⟩,
   ⟨5, 0, ({ st with book.msix := [(0, ⟨0, 0, false⟩)] }).wrN (Obj.RING_IRQ 5) 0, by decide, by decide⟩,
   ⟨0, _, st, rfl, by decide⟩,
   ⟨st.wrN Obj.HL_LINK 0x300, by decide⟩,
   ⟨st, by decide⟩,
   ⟨st, by decide⟩,
   ⟨st.wrN Obj.HL_LINK 0x300, by decide⟩,
   ⟨63, by decide⟩,
   ⟨st.wrN Obj.HL_LINK 0x300, by decide⟩,
   ⟨st, by decide⟩⟩

theorem meets_ViaductAndMemoryEventsComplete :
    (∃ (t : VdTarget) (c : VdTarget) (s : State), reaches 5 s.waitEdges c t = true) ∧
    (∃ (t : VdTarget) (c : VdTarget), c ∈ t.calls) ∧
    (∃ (s : State), s.restoring 18 = false) ∧
    (∃ (s : State), s.rdB Obj.VD_DATA_EN = false) :=
  ⟨⟨.sram, .sram, st, by decide⟩,
   ⟨.foldCache, .dram, by decide⟩,
   ⟨st, by decide⟩,
   ⟨st.wrN Obj.VD_DATA_EN 0, by decide⟩⟩

theorem meets_SlotStatesAndEnablesComplete :
    (∃ (n : Nat) (new : Nat), n < 24 ∧ new < 6) ∧
    (∃ (n : Nat) (new : Nat) (m : Nat), n < 24 ∧ new < 6 ∧ m < 24 ∧ m ≠ n) ∧
    (∃ (n : Nat) (new : Nat) (s : State), n < 24 ∧ new < 6 ∧ new ≠ Sl.QUALIFIED ∧ s.slotState n = Sl.QUALIFIED) ∧
    (∃ (n : Nat) (s : State), n < 24 ∧ s.slotState n ≠ Sl.DISABLED) ∧
    (∃ (n : Nat), n ≠ 23) ∧
    (∃ (n : Fin 24) (s : State), s.restoring 2 = false ∧ 8 ≤ n.val ∧ s.rdB (Obj.SLOT_EN n) = false ∧ s.rdB
      Obj.SL_ENABLE = true ∧ s.monitorsRun = true) ∧
    (∃ (n : Fin 24) (s : State), s.restoring 2 = false ∧ n.val < 8 ∧ s.rdB (Obj.SLOT_EN n) = false ∧ s.refinGood n =
      true ∧ s.rdB Obj.SL_ENABLE = false) ∧
    (∃ (n : Fin 24) (s : State), s.restoring 2 = false ∧ n.val < 8 ∧ s.rdB (Obj.SLOT_EN n) = false ∧ s.refinGood n =
      true ∧ s.rdB Obj.SL_ENABLE = true) ∧
    (∃ (n : Fin 24) (s : State), s.restoring 2 = false ∧ n.val < 8 ∧ s.rdB (Obj.SLOT_EN n) = false ∧ s.refinGood n =
      false) ∧
    (∃ (n : Fin 24) (s : State) (s1 : State), s.restoring 2 = false ∧ s.slotState n ≠ Sl.DISABLED ∧ s1 = (s.wr
      (Obj.SLOT_EN n) 0).slotTo n Sl.DISABLED (some .host) ∧ s.composite n = false) ∧
    (∃ (n : Fin 24) (s : State) (s1 : State), s.restoring 2 = false ∧ s.slotState n ≠ Sl.DISABLED ∧ s1 = (s.wr
      (Obj.SLOT_EN n) 0).slotTo n Sl.DISABLED (some .host) ∧ s.composite n = true) ∧
    (∃ (n : Nat) (m : Nat), m ≠ n) ∧
    (∃ (s : State), s.restoring 2 = false) ∧
    (∃ (s : State), s.restoring 2 = false ∧ s.rdB Obj.SL_ENABLE = false) :=
  ⟨⟨23, 5, by decide, by decide⟩,
   ⟨23, 5, 0, by decide, by decide, by decide, by decide⟩,
   ⟨23, 5, st.wrN (Obj.SLOT_STATE 23) 3, by decide, by decide, by decide, by decide⟩,
   ⟨23, st.wrN (Obj.SLOT_STATE 23) 3, by decide, by decide⟩,
   ⟨0, by decide⟩,
   ⟨23, (st.wrN (Obj.SLOT_EN 23) 0).wrN Obj.SL_ENABLE 1, by decide, by decide, by decide, by decide, by decide⟩,
   ⟨7, (st.wrN (Obj.SLOT_EN 7) 0).wrN Obj.SL_ENABLE 0, by decide, by decide, by decide, by decide, by decide⟩,
   ⟨7, (st.wrN (Obj.SLOT_EN 7) 0).wrN Obj.SL_ENABLE 1, by decide, by decide, by decide, by decide, by decide⟩,
   ⟨7, (st.wrN (Obj.SLOT_EN 7) 0).wrN (Obj.SLOT_NOMFREQ 7) 1, by decide, by decide, by decide, by decide⟩,
   ⟨23, st.wrN (Obj.SLOT_STATE 23) 3, _, by decide, by decide, rfl, by decide⟩,
   ⟨0, ((st.wrN (Obj.SLOT_STATE 0) 3).wrN (Obj.SLOT_EN 0) 1).wrN (Obj.SLOT_CFG 0) 0x200, _, by decide, by decide, rfl,
     by decide⟩,
   ⟨1, 0, by decide⟩,
   ⟨st, by decide⟩,
   ⟨st.wrN Obj.SL_ENABLE 0, by decide, by decide⟩⟩

theorem meets_EdgesComplete :
    (∃ (c : Fin 48) (tap : Fin 32) (vernier : Fin 32) (f : Bool) (s : State), s.edgeFate c (32 * tap.val +
      vernier.val) f = .ignored) ∧
    (∃ (c : Fin 48) (tap : Fin 32) (vernier : Fin 32) (f : Bool) (s : State), s.edgeFate c (32 * tap.val +
      vernier.val) f = .skipped) ∧
    (∃ (c : Fin 48) (tap : Fin 32) (vernier : Fin 32) (f : Bool) (s : State) (s1 : State), s.edgeFate c (32 * tap.val
      + vernier.val) f = .dropped ∧ s1 = s.setChannel c
      { s.channel c with dropsSince := (s.channel c).dropsSince + 1, skip := s.prescale c - 1 }) ∧
    (∃ (c : Fin 48) (tap : Fin 32) (vernier : Fin 32) (f : Bool) (s : State), s.edgeFate c (32 * tap.val +
      vernier.val) f = .stamped) ∧
    (∃ (c : Nat), 12 ≤ c ∧ c ≠ 44) :=
  ⟨⟨47, 31, 31, true, st, by decide⟩,
   ⟨47, 31, 31, false, st.setChannel 47 { run with skip := 1 }, by decide⟩,
   ⟨47, 31, 31, false, { (st.setChannel 47 { run with lastEdge22 := some 0 }) with clk.up48 := 0 }, _, by decide, rfl⟩,
   ⟨47, 31, 31, false, st.setChannel 47 run, by decide⟩,
   ⟨47, by decide, by decide⟩⟩

theorem meets_SlotCommandsAndTimersComplete :
    (∃ (n : Fin 24) (s : State) (s1 : State), s.restoring 2 = false ∧ s.slotState n = Sl.QUALIFIED ∧ s.composite n =
      false ∧ s.unsafeElement 2 n = false ∧ s1 = s.slotTo n Sl.SUSPENDED (some .host)) ∧
    (∃ (n : Fin 24) (s : State) (s1 : State), s.restoring 2 = false ∧ s.slotState n = Sl.SUSPENDED ∧ s.slotReason n =
      8 ∧ s.composite n = false ∧ s.unsafeElement 2 n = false ∧ s1 = s.slotTo n Sl.QUALIFYING none) ∧
    (∃ (n : Fin 24) (s : State) (s1 : State), s.restoring 2 = false ∧ s.slotState n = Sl.DISQUALIFIED ∧ s.composite n
      = false ∧ s.unsafeElement 2 n = false ∧ s1 = s.slotTo n Sl.QUALIFYING none) ∧
    (∃ (n : Fin 24) (s : State), s.restoring 2 = false ∧ s.slotState n ≠ Sl.QUALIFIED) ∧
    (∃ (n : Fin 24) (s : State), s.restoring 2 = false ∧ s.slotState n ≠ Sl.SUSPENDED) ∧
    (∃ (n : Fin 24) (s : State), s.restoring 2 = false ∧ s.slotState n ≠ Sl.DISQUALIFIED) ∧
    (∃ (n : Fin 24) (s : State) (s1 : State), s.pulseSlot n = true ∧ s.slotState n ≠ Sl.DISABLED ∧ s.slotState n ≠
      Sl.LOS ∧ (s.slot n).lastBase48 ≠ none ∧ s.runTo (s.missAt n) = some s1 ∧ (s1.slot n).misses < 2) ∧
    (∃ (n : Fin 24) (s : State) (s1 : State), s.pulseSlot n = true ∧ s.slotState n ≠ Sl.DISABLED ∧ s.slotState n ≠
      Sl.LOS ∧ (s.slot n).lastBase48 ≠ none ∧ s.runTo (s.missAt n) = some s1 ∧ 2 ≤ (s1.slot n).misses) ∧
    (∃ (n : Fin 24) (s : State), (n = 22 ∨ (n.val < 8 ∧ s.slotMode n = 0))) ∧
    (∃ (n : Fin 24) (s : State) (s1 : State), s.slotState n = Sl.QUALIFYING ∧ s.slotClass n < 15 ∧ s.composite n =
      false ∧ s.runTo (s.slot n).qualEnd48 = some s1) ∧
    (∃ (n : Fin 24) (s : State) (s1 : State), s.slotState n = Sl.SUSPENDED ∧ s.slotReason n = 2 ∧ s.composite n =
      false ∧ s.runTo (s.slot n).suspEnd48 = some s1) ∧
    (∃ (n : Fin 24) (s : State) (s1 : State), s.slotState n = Sl.DISQUALIFIED ∧ s.composite n = false ∧ s.runTo
      (s.slot n).disqEnd48 = some s1) ∧
    (∃ (n : Nat) (s : State), s.slotState n = Sl.LOS) :=
  ⟨⟨23, st.wrN (Obj.SLOT_STATE 23) 3, _, by decide, by decide, by decide, by decide, rfl⟩,
   ⟨23, (st.wrN (Obj.SLOT_STATE 23) 4).wrN (Obj.SLOT_STATE 23) 0x804, _, by decide, by decide, by decide, by decide,
     by decide, rfl⟩,
   ⟨23, st.wrN (Obj.SLOT_STATE 23) 5, _, by decide, by decide, by decide, by decide, rfl⟩,
   ⟨23, st, by decide, by decide⟩,
   ⟨23, st, by decide, by decide⟩,
   ⟨23, st, by decide, by decide⟩,
   ⟨21, (fun z : State => z.setSlot 21 { z.slot 21 with lastBase48 := some 5 }) (st.wrN (Obj.SLOT_STATE 21) 3), _,
     by decide, by decide, by decide, by decide, runTo_runs rfl rfl, by decide +kernel⟩,
   ⟨21, (fun z : State => z.setSlot 21 { z.slot 21 with lastBase48 := some 5, misses := 2 }) (st.wrN (Obj.SLOT_STATE
     21) 3), _, by decide, by decide, by decide, by decide, runTo_runs rfl rfl, by decide +kernel⟩,
   ⟨7, st, by decide⟩,
   ⟨23, (st.wrN (Obj.SLOT_STATE 23) 2).wrN (Obj.SLOT_CLASS 23) 2, _, by decide, by decide, by decide, runTo_runs rfl
     rfl⟩,
   ⟨23, (st.wrN (Obj.SLOT_STATE 23) 4).wrN (Obj.SLOT_STATE 23) 0x204, _, by decide, by decide, by decide, runTo_runs
     rfl rfl⟩,
   ⟨23, st.wrN (Obj.SLOT_STATE 23) 5, _, by decide, by decide, runTo_runs rfl rfl⟩,
   ⟨0, st.wrN (Obj.SLOT_STATE 0) 1, by decide⟩⟩

theorem meets_TimeOfDayAndEsmcComplete :
    (∃ (p : Fin 2) (m : List Octet) (gap : Bool) (s : State), s.slotState 23 ≠ Sl.DISABLED ∧ p.val = (if bitOn (s.rdN
      (Obj.SLOT_CFG 23)) 18 then 1 else 0) ∧ todGood m = true ∧ gap = true ∧ s.todWindow = true) ∧
    (∃ (p : Fin 2) (m : List Octet) (gap : Bool) (s : State), s.slotState 23 ≠ Sl.DISABLED ∧ p.val = (if bitOn (s.rdN
      (Obj.SLOT_CFG 23)) 18 then 1 else 0) ∧ (todGood m = false ∨ gap = false ∨ s.todWindow = false)) ∧
    (∃ (p : Fin 2) (s : State), p.val ≠ (if bitOn (s.rdN (Obj.SLOT_CFG 23)) 18 then 1 else 0)) ∧
    (∃ (s : State) (s1 : State), s.slotState 23 ≠ Sl.DISABLED ∧ (s.slot 23).windowOpen = true ∧ (s.slot 23).lastBase48
      ≠ none ∧ s.runTo ((s.slot 23).lastUp48 + ms48 900) = some s1 ∧ (s.slot 23).missing < 2) ∧
    (∃ (s : State) (s1 : State), s.slotState 23 ≠ Sl.DISABLED ∧ (s.slot 23).windowOpen = true ∧ (s.slot 23).lastBase48
      ≠ none ∧ s.runTo ((s.slot 23).lastUp48 + ms48 900) = some s1 ∧ 2 ≤ (s.slot 23).missing) ∧
    (∃ (p : Fin 8) (s : State), s.slotState (8 + p) ≠ Sl.DISABLED) ∧
    (∃ (p : Fin 8) (q : QlInfo) (s : State) (s1 : State), (s.slot (8 + p)).info = some q ∧ s.runTo ((s.slot (8 +
      p)).esmc48 + s.rdN Obj.ESMC_TIMEOUT * sec48) = some s1) :=
  ⟨⟨0, tod, (true),
     { ((fun z : State => z.setSlot 23 { z.slot 23 with lastBase48 := some 5 }) (st.wrN (Obj.SLOT_STATE 23) 3)) with clk.up48 := (ms48 900) },
     by decide, by decide, by decide, rfl, by decide⟩,
   ⟨0, [], true, st.wrN (Obj.SLOT_STATE 23) 3, by decide, by decide, by decide⟩,
   ⟨1, st, by decide⟩,
   ⟨(fun z : State => z.setSlot 23 { z.slot 23 with lastBase48 := some 5 }) ((fun z : State => z.setSlot 23
     { z.slot 23 with windowOpen := true }) (st.wrN (Obj.SLOT_STATE 23) 3)), _, by decide, by decide, by decide,
     runTo_runs rfl rfl, by decide⟩,
   ⟨(fun z : State => z.setSlot 23 { z.slot 23 with lastBase48 := some 5, missing := 2 }) ((fun z : State => z.setSlot
     23 { z.slot 23 with windowOpen := true }) (st.wrN (Obj.SLOT_STATE 23) 3)), _, by decide, by decide, by decide,
     runTo_runs rfl rfl, by decide⟩,
   ⟨7, st.wrN (Obj.SLOT_STATE (8 + 7)) 3, by decide⟩,
   ⟨7, ⟨0,0,none,0,0⟩, (fun z : State => z.setSlot (8 + 7) { z.slot (8 + 7) with info := some ⟨0,0,none,0,0⟩ }) st, _,
     rfl, runTo_runs rfl rfl⟩⟩

theorem meets_DllChangesComplete :
    (∃ (c : Fin 48) (s : State), (s.channel c).state = .dllAcq ∧ s.unsafeElement 3 c = false) ∧
    (∃ (c : Fin 48) (s : State), (s.channel c).state = .fault ∧ s.active (Src.TR_DLL_LOSS c) = true ∧ s.unsafeElement
      3 c = false) ∧
    (∃ (c : Fin 48) (s : State), ((s.channel c).state = .run ∨ s.unsafeElement 3 c = true)) ∧
    (∃ (c : Fin 48) (s : State), s.dllRuns = true ∧ ((s.channel c).state = .off ∨ (s.channel c).state = .dllAcq)) ∧
    (∃ (c : Fin 48) (s : State), s.dllRuns = true ∧ ((s.channel c).state = .cal ∨ (s.channel c).state = .run ∨
      (s.channel c).state = .fault)) :=
  ⟨⟨47, (fun z : State => z.setChannel 47 { z.channel 47 with state := .dllAcq }) st, by decide, by decide⟩,
   ⟨47, ((fun z : State => z.setChannel 47 { z.channel 47 with state := .fault }) st).cond (Src.TR_DLL_LOSS 47) true,
     by decide, by decide, by decide⟩,
   ⟨47, st.setChannel 47 run, by decide⟩,
   ⟨47, st, by decide, by decide⟩,
   ⟨47, st.setChannel 47 run, by decide, by decide⟩⟩

theorem meets_CalibrationsAndTrestleComplete :
    (∃ (c : Fin 48) (h : List Nat) (s : State) (s1 : State), c ≠ 47 ∧ (s.channel c).state = .cal ∧ h.length = 1024 ∧
      h.sum = 2 ^ 22 ∧ histogramGood h = true ∧ s1 = s.channelTo c .run) ∧
    (∃ (h : List Nat) (s : State) (s1 : State), (s.channel 47).state = .cal ∧ h.length = 1024 ∧ h.sum = 2 ^ 22 ∧
      histogramGood h = true ∧ s1 = s.channelTo 47 .run) ∧
    (∃ (c : Nat) (d : Nat), d ≠ c) ∧
    (∃ (c : Nat), c ≠ 47) ∧
    (∃ (c : Fin 48) (h : List Nat) (s : State), (s.channel c).state = .cal ∧ h.length = 1024 ∧ h.sum = 2 ^ 22 ∧
      histogramGood h = false) ∧
    (∃ (c : Fin 48) (s : State) (s1 : State), (s.channel c).state = .cal ∧ s.runTo ((s.channel c).calStart48 + ms48
      120) = some s1) ∧
    (∃ (c : Fin 48) (s : State) (s1 : State), (s.channel c).state = .fault ∧ (s.channel c).retries < 3 ∧ s.active
      (Src.TR_DLL_LOSS c) = false ∧ (s.channel c).failed48 ≠ 0 ∧ s.unsafeElement 3 c = false ∧ s.runTo ((s.channel
      c).failed48 + sec48) = some s1) ∧
    (∃ (h : List Nat) (s : State), (s.channel 47).state = .run ∧ h.length = 1024 ∧ h.sum = 2 ^ 22 ∧ histogramGood h =
      true) ∧
    (∃ (h : List Nat) (s : State), (s.channel 47).state = .run ∧ h.length = 1024 ∧ h.sum = 2 ^ 22 ∧ histogramGood h =
      false) ∧
    (∃ (c : Fin 48) (s : State), s.restoring 3 = false ∧ serviceMode s.mode = true ∧ (s.channel c).state = .run ∧
      s.unsafeElement 3 c = false) ∧
    (∃ (s : State), s.restoring 3 = false ∧ s.mode = Mode.UNPROVISIONED) ∧
    (∃ (s : State), s.restoring 3 = false) ∧
    (∃ (s : State), s.restoring 3 = false) ∧
    (∃ (s : State), s.restoring 3 = false) ∧
    (∃ (s : State), s.restoring 3 = false) ∧
    (∃ (p : Fin 32) (a : StampRec) (s : State) (s1 : State), (s.pair p).armed = some a ∧ s.runTo (a.up48 + ((s.rdN
      (Obj.PAIR_TIMEOUT p) + 40) * ns48 : Nat)).toNat = some s1) ∧
    (∃ (p : Nat) (s : State), bitOn (s.rdN (Obj.PAIR_CFG p)) 17 = false) ∧
    (∃ (s : State) (s1 : State), s.tr.buffer ≠ [] ∧ s.dmaPaused = false ∧ s.runTo (s.tr.bufferSince48 + us48 (s.rdN
      Obj.TR_RING_FLUSH)) = some s1) :=
  ⟨⟨46, List.replicate 1024 4096, (fun z : State => z.setChannel 46 { z.channel 46 with state := .cal }) st, _,
     by decide, by decide, by decide, by decide, by decide, rfl⟩,
   ⟨List.replicate 1024 4096, (fun z : State => z.setChannel 47 { z.channel 47 with state := .cal }) st, _, by decide,
     by decide, by decide, by decide, rfl⟩,
   ⟨0, 1, by decide⟩,
   ⟨0, by decide⟩,
   ⟨46, 0 :: 8192 :: List.replicate 1022 4096, (fun z : State => z.setChannel 46 { z.channel 46 with state := .cal })
     st, by decide, by decide, by decide, by decide⟩,
   ⟨47, (fun z : State => z.setChannel 47 { z.channel 47 with state := .cal }) st, _, by decide, runTo_runs rfl rfl⟩,
   ⟨47, (fun z : State => z.setChannel 47 { z.channel 47 with failed48 := 9 }) (((fun z : State => z.setChannel 47
     { z.channel 47 with state := .fault }) st).cond (Src.TR_DLL_LOSS 47) false), _, by decide, by decide, by decide,
     by decide, by decide, runTo_runs rfl rfl⟩,
   ⟨List.replicate 1024 4096, ((fun z : State => z.setChannel 47 { z.channel 47 with state := .run }) st).setChannel
     47 run, by decide, by decide, by decide, by decide⟩,
   ⟨0 :: 8192 :: List.replicate 1022 4096, ((fun z : State => z.setChannel 47 { z.channel 47 with state := .run })
     st).setChannel 47 run, by decide, by decide, by decide, by decide⟩,
   ⟨47, (fun z : State => z.setChannel 47 { z.channel 47 with state := .run }) st, by decide, by decide, by decide,
     by decide⟩,
   ⟨st.wrN Obj.MODE_CURRENT Mode.UNPROVISIONED, by decide, by decide⟩,
   ⟨st, by decide⟩,
   ⟨st, by decide⟩,
   ⟨st, by decide⟩,
   ⟨st.wrN (Obj.RING_EN 20) 1, by decide⟩,
   ⟨31, ⟨0,0,0,0,0⟩, (fun z : State => z.setPair 31 { z.pair 31 with armed := some ⟨0,0,0,0,0⟩ }) st, _, rfl,
     runTo_runs rfl rfl⟩,
   ⟨0, st, by decide⟩,
   ⟨({ st with tr.buffer := [⟨false, 0, [], 0⟩] }).wrN Obj.HL_LINK 0x300, _, by decide, by decide, runTo_runs rfl rfl⟩⟩

theorem meets_HerdUpdatesAndEffectsComplete :
    (∃ (c : Nat) (s : State), c = s.now80 / 15625000 * 15625000 ∧ s.clk.before48 < c * ns48 ∧ s.clk.update80 ≠ some c) ∧
    (∃ (c : Nat) (s : State), c = s.now80 / 15625000 * 15625000 ∧ (c * ns48 ≤ s.clk.before48 ∨ s.clk.update80 = some
      c)) ∧
    (∃ (s : State) (s0 : State) (s1 : State), s.reach s.nextUpdate = some s0 ∧ s1 = s0.updateDone s.nextUpdate ∧
      s1.herdRuns = false) ∧
    (∃ (s : State) (s0 : State) (s1 : State) (s2 : State), s.reach s.nextUpdate = some s0 ∧ s1 = s0.updateDone
      s.nextUpdate ∧ s1.herdRuns = true ∧ s2 = ((((s1.bump Obj.HD_UPDATE).count 0x003 1).cond Src.HD_UPDATE_MISS
      false).closingUpdate).bookRamp) ∧
    (∃ (s : State), s.rdN Obj.TEB_THR_LOCKED < s.bound) ∧
    (∃ (s : State), s.bound ≤ s.rdN Obj.TEB_THR_LOCKED ∧ (s.mode = Mode.ACQUIRE ∨ s.mode = Mode.LOCKED ∨ s.mode =
      Mode.STANDBY)) ∧
    (∃ (s : State) (s0 : State) (s1 : State), s.reach (s.nextUpdate + 15625000) = some s0 ∧ s1 = s0.updateDone
      (s.nextUpdate + 15625000)) ∧
    (∃ (s : State), s.restoring 4 = false) ∧
    (∃ (s : State), s.restoring 4 = false) ∧
    (∃ (e : HerdEffect) (s : State) (s1 : State), s.hd.effect = some e ∧ s.runTo e.due48 = some s1) ∧
    (∃ (s : State), s.unsafeBlock 4 = false) ∧
    (∃ (s : State), s.unsafeBlock 4 = true) ∧
    (∃ (n : Nat) (s : State), n < 24 ∧ s.slotState n ≠ Sl.QUALIFIED) ∧
    (∃ (e : HerdEffect), e.step48 = none) ∧
    (∃ (s : State), s.mode ≠ Mode.ACQUIRE) :=
  ⟨⟨_, { st with clk.ts := ⟨1, 0, 0⟩ }, rfl, by decide, by decide⟩,
   ⟨_, st, rfl, .inl (by decide)⟩,
   ⟨st.wrN Obj.HD_ENABLE 0, _, _, reach_runs rfl rfl, rfl, by decide⟩,
   ⟨st, _, _, _, reach_runs rfl rfl, rfl, by decide, rfl⟩,
   ⟨st, by decide⟩,
   ⟨st.wrN Obj.TEB_TS 5, by decide, by decide⟩,
   ⟨st, _, _, reach_runs rfl rfl, rfl⟩,
   ⟨st, by decide⟩,
   ⟨st, by decide⟩,
   ⟨eff, { st with hd.effect := some eff }, _, rfl, runTo_runs rfl rfl⟩,
   ⟨st, by decide⟩,
   ⟨{ st with book.guard.safe := 2 ^ 4 }, by decide⟩,
   ⟨23, st, by decide, by decide⟩,
   ⟨eff, by decide⟩,
   ⟨st, by decide⟩⟩

theorem meets_SlewRunsOut :
    (∃ (s : State), s.ctl.slew.lastInterval = true) ∧
    (∃ (s : State), s.ctl.slew.lastInterval = false ∧ s.ctl.slew.pend48 = 0 ∧ s.ctl.slew.term = 0) ∧
    (∃ (s : State) (left : Int), s.ctl.slew.lastInterval = false ∧ left ≠ 0 ∧ left = s.ctl.slew.pend48 -
      s.ctl.slew.term * ((s.clk.cycles - s.ctl.slew.sinceCycle : Nat) : Int) ∧ ((left.natAbs : Nat) : Rat) < (s.rdN
      Obj.TS_SLEW_MAX : Rat) / 100 * (15625 / 1000000) * (ns48 : Nat)) ∧
    (∃ (s : State) (left : Int), s.ctl.slew.lastInterval = false ∧ 0 < left ∧ left = s.ctl.slew.pend48 -
      s.ctl.slew.term * ((s.clk.cycles - s.ctl.slew.sinceCycle : Nat) : Int) ∧ (s.rdN Obj.TS_SLEW_MAX : Rat) / 100 *
      (15625 / 1000000) * (ns48 : Nat) ≤ ((left.natAbs : Nat) : Rat)) :=
  ⟨⟨{ st with ctl.slew.lastInterval := true }, by decide⟩,
   ⟨{ st with ctl.slew.lastInterval := false, ctl.slew.pend48 := 0, ctl.slew.term := 0 }, by decide, by decide,
     by decide⟩,
   ⟨({ st with ctl.slew.lastInterval := false, ctl.slew.pend48 := 1, ctl.slew.term := 0 }).wrN Obj.TS_SLEW_MAX 1000,
     1, by decide, by decide, by decide, by decide +kernel⟩,
   ⟨({ st with ctl.slew.lastInterval := false, ctl.slew.pend48 := (2 ^ 60), ctl.slew.term := 0 }).wrN Obj.TS_SLEW_MAX
     1000, (2 ^ 60), by decide, by decide, by decide, by decide +kernel⟩⟩

theorem meets_LoChangesAndTuningComplete :
    (∃ (lo : Lo) (s : State), (s.lo (loNum lo)).warm = false) ∧
    (∃ (lo : Lo) (s : State), (s.lo (loNum lo)).warm = true) ∧
    (∃ (lo : Lo) (s : State), (s.lo (loNum lo)).serving = false) ∧
    (∃ (lo : Lo) (s : State) (s1 : State), (s.lo (loNum lo)).serving = true ∧ s1 = (s.setLo (loNum lo)
      { s.lo (loNum lo) with measured := false, seen := false, serving := false }).cond (loOutSource (loNum lo)) true
      ∧ s.base ≠ loNum lo) ∧
    (∃ (lo : Lo) (s : State) (s1 : State), (s.lo (loNum lo)).serving = true ∧ s1 = (s.setLo (loNum lo)
      { s.lo (loNum lo) with measured := false, seen := false, serving := false }).cond (loOutSource (loNum lo)) true
      ∧ s.base = loNum lo ∧ s.loServing (1 - loNum lo) = true) ∧
    (∃ (lo : Lo) (s : State) (s1 : State), (s.lo (loNum lo)).serving = true ∧ s1 = (s.setLo (loNum lo)
      { s.lo (loNum lo) with measured := false, seen := false, serving := false }).cond (loOutSource (loNum lo)) true
      ∧ s.base = loNum lo ∧ s.loServing (1 - loNum lo) = false) ∧
    (∃ (lo : Lo) (s : State) (s1 : State), (s.lo (loNum lo)).serving = false ∧ (s.lo (loNum lo)).warm = true ∧ (s.lo
      (loNum lo)).seen = true ∧ 7 ≤ s.ctl.boot.step ∧ s.liveTo ((s.lo (loNum lo)).ready48 + sec48) = some s1) ∧
    (∃ (lo : Lo) (hz : Nat) (s : State) (s1 : State), (s.lo (loNum lo)).serving = false ∧ 8500000 ≤ hz ∧ hz ≤ 11500000
      ∧ (s.lo (loNum lo)).measured = false ∧ s.mode ≠ Mode.COLD ∧ s1 = s.setLo (loNum lo)
      { s.lo (loNum lo) with measured := true, seen := true, ready48 := s.live48 }) ∧
    (∃ (lo : Lo) (hz : Nat) (s : State) (s1 : State), (s.lo (loNum lo)).serving = false ∧ 85000000 ≤ hz ∧ hz ≤
      115000000 ∧ (s.lo (loNum lo)).measured = false ∧ s.mode ≠ Mode.COLD ∧ s1 = s.setLo (loNum lo)
      { s.lo (loNum lo) with measured := true, seen := true, ready48 := s.live48 }) ∧
    (∃ (lo : Lo) (hz : Nat) (s : State), (s.lo (loNum lo)).serving = false ∧ hz < 8500000 ∧ (s.lo (loNum lo)).measured
      = false ∧ s.mode ≠ Mode.COLD) ∧
    (∃ (lo : Lo) (s : State), (s.lo (loNum lo)).measured = true) ∧
    (∃ (s : State), s.restoring 4 = false ∧ s.rdB Obj.LOA_TUNE_EN = false ∧ s.hd.tune.driven = false ∧
      s.hd.tune.sending = false ∧ s.tunePort = true) ∧
    (∃ (s : State), s.restoring 4 = false) ∧
    (∃ (s : State) (s1 : State), s.rdB Obj.LOA_TUNE_EN = true ∧ s.runTo (s.hd.tune.since48 + s.rdN
      Obj.LOA_TUNE_INTERVAL * sec48) = some s1 ∧ s1.tunes s1.hd.timeSet = true) ∧
    (∃ (s : State) (s1 : State), s.rdB Obj.LOA_TUNE_EN = true ∧ s.runTo (s.hd.tune.since48 + s.rdN
      Obj.LOA_TUNE_INTERVAL * sec48) = some s1 ∧ s1.tunes s1.hd.timeSet = false) ∧
    (∃ (w : Int) (s : State), s.hd.tune.sending = true ∧ s.hd.tune.queued = some w) ∧
    (∃ (s : State), s.hd.tune.sending = true ∧ s.hd.tune.queued = none) :=
  ⟨⟨.b, (fun z : State => z.setLo (loNum .b) { z.lo (loNum .b) with warm := false }) st, by decide⟩,
   ⟨.b, (fun z : State => z.setLo (loNum .b) { z.lo (loNum .b) with warm := true }) st, by decide⟩,
   ⟨.b, (fun z : State => z.setLo (loNum .b) { z.lo (loNum .b) with serving := false }) st, by decide⟩,
   ⟨.b, (fun z : State => z.setLo (loNum .b) { z.lo (loNum .b) with serving := true }) st, _, by decide, rfl,
     by decide⟩,
   ⟨.b, ((fun z : State => z.setLo 0 { z.lo 0 with serving := true }) ((fun z : State => z.setLo (loNum .b)
     { z.lo (loNum .b) with serving := true }) st)).wrN Obj.LO_SEL 1, _, by decide, rfl, by decide, by decide⟩,
   ⟨.b, ((fun z : State => z.setLo (loNum .b) { z.lo (loNum .b) with serving := true }) st).wrN Obj.LO_SEL 1, _,
     by decide, rfl, by decide, by decide⟩,
   ⟨.b,
     { ((fun z : State => z.setLo (loNum .b) { z.lo (loNum .b) with seen := true }) ((fun z : State => z.setLo (loNum .b) { z.lo (loNum .b) with warm := true }) ((fun z : State => z.setLo (loNum .b) { z.lo (loNum .b) with serving := false }) st))) with ctl.boot.step := 7 },
     _, by decide, by decide, by decide, by decide, liveTo_runs rfl⟩,
   ⟨.b, 11500000, (fun z : State => z.setLo (loNum .b) { z.lo (loNum .b) with measured := false }) ((fun z : State =>
     z.setLo (loNum .b) { z.lo (loNum .b) with serving := false }) st), _, by decide, by decide, by decide, by decide,
     by decide, rfl⟩,
   ⟨.b, 115000000, (fun z : State => z.setLo (loNum .b) { z.lo (loNum .b) with measured := false }) ((fun z : State =>
     z.setLo (loNum .b) { z.lo (loNum .b) with serving := false }) st), _, by decide, by decide, by decide, by decide,
     by decide, rfl⟩,
   ⟨.b, 8499999, (fun z : State => z.setLo (loNum .b) { z.lo (loNum .b) with measured := false }) ((fun z : State =>
     z.setLo (loNum .b) { z.lo (loNum .b) with serving := false }) st), by decide, by decide, by decide, by decide⟩,
   ⟨.b, (fun z : State => z.setLo (loNum .b) { z.lo (loNum .b) with measured := true }) st, by decide⟩,
   ⟨{ (st.wrN Obj.LOA_TUNE_EN 0) with hd.tune.driven := false, hd.tune.sending := false }, by decide, by decide,
     by decide, by decide, by decide⟩,
   ⟨(({ (st.wrN Obj.LO_SEL 0) with hd.timeSet := [0] }).wrN Obj.HD_ENABLE 1).wrN Obj.LOA_TUNE_EN 1, by decide⟩,
   ⟨(({ ((st.wrN Obj.LOA_TUNE_EN 1).wrN Obj.LO_SEL 0) with hd.timeSet := [0] }).wrN Obj.HD_ENABLE 1).wrN
     Obj.LOA_TUNE_EN 1, _, by decide, runTo_runs rfl rfl, by decide⟩,
   ⟨st.wrN Obj.LOA_TUNE_EN 1, _, by decide, runTo_runs rfl rfl, by decide⟩,
   ⟨0, { st with hd.tune.sending := true, hd.tune.queued := some 0 }, by decide, rfl⟩,
   ⟨{ st with hd.tune.sending := true, hd.tune.queued := none }, by decide, by decide⟩⟩

theorem meets_SoftwareServoCommandsComplete :
    (∃ (tag : BitVec 32) (s : State) (s1 : State), (s.rdN Obj.HD_UPDATE + 2 ^ 32 - tag.toNat) % 2 ^ 32 ≤ 63 ∧ s1 =
      s.wrN Obj.SWL_TAG tag.toNat) ∧
    (∃ (tag : BitVec 32) (s : State), 63 < (s.rdN Obj.HD_UPDATE + 2 ^ 32 - tag.toNat) % 2 ^ 32) ∧
    (∃ (s : State) (s1 : State), s.rdN Obj.HD_LOOP_MODE = 1 ∧ s.hd.swl.closing = false ∧ s.runTo (s.hd.swl.at48 + ms48
      (s.rdN Obj.SWL_TIMEOUT)) = some s1) ∧
    (∃ (s : State), s.rdN Obj.HD_LOOP_MODE = 1) :=
  ⟨⟨0, st, _, by decide, rfl⟩,
   ⟨0, st.wrN Obj.HD_UPDATE 64, by decide⟩,
   ⟨{ (st.wrN Obj.HD_LOOP_MODE 1) with hd.swl.closing := false }, _, by decide, by decide, runTo_runs rfl rfl⟩,
   ⟨st.wrN Obj.HD_LOOP_MODE 1, by decide⟩⟩

theorem meets_ApllChangesComplete :
    (∃ (w : Apll) (f : Fin 3) (v : Nat) (s : State), s.restoring 5 = false ∧ (apllField w f).2.1 ≤ v ∧ v ≤ (apllField
      w f).2.2) ∧
    (∃ (w : Apll) (f : Fin 3) (v : Nat) (s : State), s.restoring 5 = false ∧ (v < (apllField w f).2.1 ∨ (apllField w
      f).2.2 < v)) ∧
    (∃ (s : State), s.rdN Obj.APLLA_STATE = 0 ∧ s.base ≠ 3 ∧ 7 ≤ s.ctl.boot.step ∧ s.mode ≠ Mode.BOOT ∧ s.clk.frozen =
      true) ∧
    (∃ (s : State), s.rdN Obj.APLLA_STATE = 0 ∧ s.base ≠ 3 ∧ s.mode = Mode.BOOT ∧ s.ctl.boot.step = 7 ∧ s.clk.frozen =
      false) ∧
    (∃ (s : State), s.rdN Obj.APLLB_STATE = 0 ∧ s.base ≠ 3 ∧ 9 ≤ s.ctl.boot.step ∧ s.mode ≠ Mode.BOOT) ∧
    (∃ (s : State), s.apllA = true) ∧
    (∃ (s : State), s.apllB = true) ∧
    (∃ (s : State), s.clk.running = true ∧ s.clk.frozen = true) :=
  ⟨⟨.b, 2, 65535, st, by decide, by decide, by decide⟩,
   ⟨.b, 2, 0, st, by decide, by decide⟩,
   ⟨{ (st.wrN Obj.APLLA_STATE 0) with clk.frozen := true, ctl.boot.step := 7 }, by decide, by decide, by decide,
     by decide, by decide⟩,
   ⟨{ ((st.wrN Obj.APLLA_STATE 0).wrN Obj.MODE_CURRENT Mode.BOOT) with ctl.boot.step := 7, clk.frozen := false },
     by decide, by decide, by decide, by decide, by decide⟩,
   ⟨{ (st.wrN Obj.APLLB_STATE 0) with ctl.boot.step := 9 }, by decide, by decide, by decide, by decide⟩,
   ⟨st.wrN Obj.APLLA_STATE 1, by decide⟩,
   ⟨st.wrN Obj.APLLB_STATE 1, by decide⟩,
   ⟨{ st with clk.running := true, clk.frozen := true }, by decide, by decide⟩⟩

theorem meets_TimeSetCommandsComplete :
    (∃ (s : State) (r : SetRequest), s.restoring 10 = false ∧ s.mode = Mode.FREERUN ∧ r = ⟨false, s.rdN Obj.TS_SET_AT,
      s.rdN Obj.TS_SET_VAL, s.rdN Obj.TS_SET_UNC⟩ ∧ r.at80 % giga = 0 ∧ s.now48 + ms48 1 ≤ r.at80 * ns48 ∧ (s.rdB
      Obj.TS_VALID = false ∨ s.stepAllowed = true)) ∧
    (∃ (s : State) (r : SetRequest), s.restoring 10 = false ∧ s.mode = Mode.FREERUN ∧ r = ⟨true, s.rdN Obj.TS_SET_AT,
      s.rdN Obj.TS_SET_VAL, s.rdN Obj.TS_SET_UNC⟩ ∧ r.at80 % giga = 0 ∧ s.now48 + ms48 1 ≤ r.at80 * ns48 ∧ (s.rdB
      Obj.TS_VALID = false ∨ r.offset48.natAbs ≤ sec48)) ∧
    (∃ (s : State), s.restoring 10 = false ∧ s.mode ≠ Mode.FREERUN) ∧
    (∃ (s : State), s.restoring 10 = false ∧ s.mode = Mode.FREERUN ∧ s.rdN Obj.TS_SET_AT % giga ≠ 0) ∧
    (∃ (s : State), s.restoring 10 = false ∧ s.mode = Mode.FREERUN ∧ s.rdN Obj.TS_SET_AT % giga = 0 ∧ s.rdN
      Obj.TS_SET_AT * ns48 < s.now48 + ms48 1) ∧
    (∃ (s : State), s.restoring 10 = false ∧ s.mode = Mode.FREERUN ∧ s.rdN Obj.TS_SET_AT % giga = 0 ∧ s.now48 + ms48 1
      ≤ s.rdN Obj.TS_SET_AT * ns48 ∧ s.rdB Obj.TS_VALID = true ∧ s.stepAllowed = false) ∧
    (∃ (s : State) (r : SetRequest), s.restoring 10 = false ∧ s.mode = Mode.FREERUN ∧ r = ⟨true, s.rdN Obj.TS_SET_AT,
      s.rdN Obj.TS_SET_VAL, s.rdN Obj.TS_SET_UNC⟩ ∧ r.at80 % giga = 0 ∧ s.now48 + ms48 1 ≤ r.at80 * ns48 ∧ s.rdB
      Obj.TS_VALID = true ∧ sec48 < r.offset48.natAbs) ∧
    (∃ (s : State), s.restoring 10 = false) :=
  ⟨⟨(st.wrN Obj.MODE_CURRENT Mode.FREERUN).wrN Obj.TS_SET_AT 1000000000, _, by decide, by decide, rfl, by decide,
     by decide, by decide⟩,
   ⟨(st.wrN Obj.MODE_CURRENT Mode.FREERUN).wrN Obj.TS_SET_AT 1000000000, _, by decide, by decide, rfl, by decide,
     by decide, by decide⟩,
   ⟨st, by decide, by decide⟩,
   ⟨(st.wrN Obj.MODE_CURRENT Mode.FREERUN).wrN Obj.TS_SET_AT 1, by decide, by decide, by decide⟩,
   ⟨st.wrN Obj.MODE_CURRENT Mode.FREERUN, by decide, by decide, by decide, by decide⟩,
   ⟨(((st.wrN Obj.MODE_CURRENT Mode.FREERUN).wrN Obj.TS_VALID 1).wrN Obj.TS_SET_AT 1000000000).wrN Obj.TS_STEP_ALLOWED
     0, by decide, by decide, by decide, by decide, by decide, by decide⟩,
   ⟨(((st.wrN Obj.MODE_CURRENT Mode.FREERUN).wrN Obj.TS_VALID 1).wrN Obj.TS_SET_AT 1000000000).wrN Obj.TS_SET_VAL (2 ^
     80), _, by decide, by decide, rfl, by decide, by decide, by decide, by decide⟩,
   ⟨st, by decide⟩⟩

theorem meets_TimeInstantsAndLeapsComplete :
    (∃ (r : SetRequest) (s : State) (s1 : State) (s2 : State), s.ctl.slew.request = some r ∧ s.reach r.at80 = some s1
      ∧ r.slew = true ∧ s1.rdB Obj.TS_VALID = true ∧ s2 = (s1.setRequest none).tebHostSet r.unc r.offset48 true) ∧
    (∃ (r : SetRequest) (s : State) (s1 : State), s.ctl.slew.request = some r ∧ s.reach r.at80 = some s1 ∧ r.slew =
      false ∧ s1.rdB Obj.TS_VALID = true ∧ s1.stepAllowed = false) ∧
    (∃ (r : SetRequest) (s : State) (s1 : State), s.ctl.slew.request = some r ∧ s.reach r.at80 = some s1 ∧ (s1.rdB
      Obj.TS_VALID = false ∨ (r.slew = false ∧ s1.stepAllowed = true))) ∧
    (∃ (s : State) (s1 : State), s.reach s.nextSecond = some s1) ∧
    (∃ (c : Nat) (s : State), c = s.now80 / giga * giga ∧ s.clk.before48 < c * ns48 ∧ s.clk.second80 ≠ some c) ∧
    (∃ (c : Nat) (s : State), c = s.now80 / giga * giga ∧ (c * ns48 ≤ s.clk.before48 ∨ s.clk.second80 = some c)) ∧
    (∃ (k : Nat), k < 64) ∧
    (∃ (o : Int) (since : Nat) (s : State) (s1 : State), s.utc.held = some (o, since) ∧ s.runTo (since + s.rdN
      Obj.UTC_AUTO_HOLD * sec48) = some s1 ∧ s1.utcHeld = false ∧ (s1.utcReport).isSome = true ∧ (∀ r ∈ s1.utcReport,
      r.2.1 = o)) ∧
    (∃ (o : Int) (since : Nat) (s : State) (s1 : State), s.utc.held = some (o, since) ∧ s.runTo (since + s.rdN
      Obj.UTC_AUTO_HOLD * sec48) = some s1 ∧ s1.utcHeld = false ∧ s1.utcReport = none) ∧
    (∃ (offset : Int) (leap : Nat) (o : Int), o = (if leap = 1 then offset + 1 else offset - 1)) ∧
    (∃ (now : Nat) (offset : Int) (leap : Nat) (o : Int) (t : Nat), o = (if leap = 1 then offset + 1 else offset - 1)
      ∧ now < t ∧ ((t : Int) - o) % 86400 = 0) :=
  ⟨⟨setq, ({ st with ctl.slew.request := some setq }).wrN Obj.TS_VALID 1, _, _, rfl, reach_runs rfl rfl, by decide,
     by decide, rfl⟩,
   ⟨{ setq with slew := false }, (({ st with ctl.slew.request := some ({ setq with slew := false }) }).wrN
     Obj.TS_VALID 1).wrN Obj.TS_STEP_ALLOWED 0, _, rfl, reach_runs rfl rfl, by decide, by decide, by decide⟩,
   ⟨setq, { st with ctl.slew.request := some setq }, _, rfl, reach_runs rfl rfl, by decide⟩,
   ⟨st, _, reach_runs rfl rfl⟩,
   ⟨_, { st with clk.ts := ⟨1, 0, 0⟩ }, rfl, by decide, by decide⟩,
   ⟨_, st, rfl, .inl (by decide)⟩,
   ⟨63, by decide⟩,
   ⟨37, 0,
     { ((fun z : State => z.setSlot 23 { z.slot 23 with utc := some (37, 0) }) (st.wrN (Obj.SLOT_STATE 23) 3)) with hd.dominant := some 23, utc.held := some (37, 0) },
     _, rfl, runTo_runs rfl rfl, by decide, by decide, by decide⟩,
   ⟨0, 0, { st with utc.held := some (0, 0) }, _, rfl, runTo_runs rfl rfl, by decide, by decide⟩,
   ⟨0, 0, ((if 0 = 1 then 0 + 1 else 0 - 1)), rfl⟩,
   ⟨0, 0, 2, _, 86399, rfl, by decide, by decide⟩⟩

theorem meets_SnapshotCommandsComplete :
    (∃ (s : State), s.restoring 10 = false) ∧
    (∃ (sec : BitVec 48) (ns : Fin 1000000000) (s : State), s.restoring 10 = false ∧ s.now48 + us48 10 ≤ (sec.toNat *
      giga + ns) * ns48) ∧
    (∃ (sec : BitVec 48) (ns : Fin 1000000000) (s : State), s.restoring 10 = false ∧ (sec.toNat * giga + ns) * ns48 <
      s.now48 + us48 10) ∧
    (∃ (s : State), s.clk.running = true ∧ s.snap.nowPending = true) ∧
    (∃ (t : Nat) (s : State) (s1 : State), s.clk.running = true ∧ s.snap.nowPending = false ∧ s.snap.atPending = some
      t ∧ s.rdB Obj.SNAP_EVERY = false ∧ s.reach t = some s1) ∧
    (∃ (s : State) (s1 : State), s.clk.running = true ∧ s.snap.nowPending = false ∧ s.snap.atPending = none ∧ s.rdB
      Obj.SNAP_EVERY = true ∧ s.reach s.everyAt = some s1) ∧
    (∃ (t : Nat) (s : State), s.snap.lastAt48 = some t ∧ t ≤ s.now48 ∧ s.now48 < t + us48 4) ∧
    (∃ (s : State), s.snap.lastAt48 = none) :=
  ⟨⟨st, by decide⟩,
   ⟨0, 999999999, st, by decide, by decide⟩,
   ⟨0, 0, st, by decide, by decide⟩,
   ⟨{ st with clk.running := true, snap.nowPending := true }, by decide, by decide⟩,
   ⟨0, ({ st with clk.running := true, snap.nowPending := false, snap.atPending := some 0 }).wrN Obj.SNAP_EVERY 0, _,
     by decide, by decide, rfl, by decide, reach_runs rfl rfl⟩,
   ⟨({ st with clk.running := true, snap.nowPending := false, snap.atPending := none }).wrN Obj.SNAP_EVERY 1, _,
     by decide, by decide, by decide, by decide, reach_runs rfl rfl⟩,
   ⟨0, { st with snap.lastAt48 := some 0 }, rfl, by decide, by decide⟩,
   ⟨{ st with snap.lastAt48 := none }, by decide⟩⟩

theorem meets_FieldPortTrafficCompletes :
    (∃ (f : Nat) (g : Nat), g ≠ f) ∧
    (∃ (f : Fin 2) (r : RxFrame) (s : State), s.rdN (Obj.FP_STATE f) = 2 ∧ r.complete = true ∧ r.fcsOk = true ∧
      s.fpWanted f r.octets = true ∧ (s.fp f).rx < 4) ∧
    (∃ (f : Fin 2) (r : RxFrame) (s : State), s.rdN (Obj.FP_STATE f) = 2 ∧ (r.complete = false ∨ r.fcsOk = false)) ∧
    (∃ (f : Fin 2) (r : RxFrame) (s : State), s.rdN (Obj.FP_STATE f) = 2 ∧ r.complete = true ∧ r.fcsOk = true ∧
      s.fpWanted f r.octets = false) ∧
    (∃ (f : Fin 2) (r : RxFrame) (s : State), s.rdN (Obj.FP_STATE f) = 2 ∧ r.complete = true ∧ r.fcsOk = true ∧
      s.fpWanted f r.octets = true ∧ 4 ≤ (s.fp f).rx) ∧
    (∃ (f : Fin 2) (s : State), s.rdN (Obj.FP_STATE f) ≠ 2) ∧
    (∃ (f : Fin 2) (s : State) (s1 : State), (s.fp f).phase = .deferring ∧ s1 = s.setFp f
      { s.fp f with idle := true }) ∧
    (∃ (f : Fin 2) (s : State) (s1 : State), (s.fp f).phase = .sending ∧ s1 = s.setFp f { s.fp f with idle := true }) ∧
    (∃ (f : Fin 2) (due : Nat) (s : State), (s.fp f).phase = .backoff due) ∧
    (∃ (f : Nat) (e : List Octet) (rest : List (List Octet)) (s : State), (s.fp f).tx = e :: rest ∧ s.rdN
      (Obj.FP_STATE f) = 2 ∧ s.unsafeElement 9 f = false) ∧
    (∃ (f : Nat) (s : State), (s.fp f).tx.length < 4) ∧
    (∃ (f : Fin 2) (s : State) (s1 : State), (s.fp f).phase = .sending ∧ s1 = s.count (0x1EA + f) 1) ∧
    (∃ (f : Fin 2) (s : State) (s1 : State), (s.fp f).phase = .sending ∧ s1 = s.count (0x1EA + f) 1 ∧ 15 ≤ (s1.fp
      f).collisions) ∧
    (∃ (f : Fin 2) (s : State) (s1 : State), (s.fp f).phase = .sending ∧ s1 = s.count (0x1EA + f) 1 ∧ (s1.fp
      f).collisions < 15) ∧
    (∃ (f : Fin 2) (due : Nat) (s : State) (s1 : State), (s.fp f).phase = .backoff due ∧ s.runTo due = some s1 ∧
      (s1.fp f).idle = true) ∧
    (∃ (f : Fin 2) (due : Nat) (s : State) (s1 : State), (s.fp f).phase = .backoff due ∧ s.runTo due = some s1 ∧
      (s1.fp f).idle = false) :=
  ⟨⟨0, 1, by decide⟩,
   ⟨1, { fr with octets := List.replicate 12 255 ++ [0x88, 0xB5] ++ List.replicate 46 0 }, st.wrN (Obj.FP_STATE 1) 2,
     by decide, by decide, by decide,
     by simp only [State.fpWanted, Bool.and_eq_true, Bool.or_eq_true]; exact ⟨⟨.inr (by decide), by decide⟩, by decide⟩,
     by decide⟩,
   ⟨1, { fr with complete := false }, st.wrN (Obj.FP_STATE 1) 2, by decide, by decide⟩,
   ⟨1, fr, st.wrN (Obj.FP_STATE 1) 2, by decide, by decide, by decide, by decide⟩,
   ⟨1, { fr with octets := List.replicate 12 255 ++ [0x88, 0xB5] ++ List.replicate 46 0 }, (fun z : State => z.setFp 1
     { z.fp 1 with rx := 4 }) (st.wrN (Obj.FP_STATE 1) 2), by decide, by decide, by decide,
     by simp only [State.fpWanted, Bool.and_eq_true, Bool.or_eq_true]; exact ⟨⟨.inr (by decide), by decide⟩, by decide⟩,
     by decide⟩,
   ⟨1, st, by decide⟩,
   ⟨1, (fun z : State => z.setFp 1 { z.fp 1 with phase := .deferring }) st, _, by decide, rfl⟩,
   ⟨1, (fun z : State => z.setFp 1 { z.fp 1 with phase := .sending }) st, _, by decide, rfl⟩,
   ⟨1, 0, (fun z : State => z.setFp 1 { z.fp 1 with phase := .backoff 0 }) st, by decide⟩,
   ⟨0, [], [], ((fun z : State => z.setFp 0 { z.fp 0 with tx := [] :: [] }) st).wrN (Obj.FP_STATE 0) 2, rfl,
     by decide, by decide⟩,
   ⟨0, st, by decide⟩,
   ⟨1, (fun z : State => z.setFp 1 { z.fp 1 with phase := .sending }) st, _, by decide, rfl⟩,
   ⟨1, (fun z : State => z.setFp 1 { z.fp 1 with collisions := 15 }) ((fun z : State => z.setFp 1
     { z.fp 1 with phase := .sending }) st), _, by decide, rfl, by decide⟩,
   ⟨1, (fun z : State => z.setFp 1 { z.fp 1 with phase := .sending }) st, _, by decide, rfl, by decide⟩,
   ⟨1, 0, (fun z : State => z.setFp 1 { z.fp 1 with idle := true }) ((fun z : State => z.setFp 1
     { z.fp 1 with phase := .backoff 0 }) st), _, by decide, runTo_runs rfl rfl, by decide⟩,
   ⟨1, 0, (fun z : State => z.setFp 1 { z.fp 1 with phase := .backoff 0 }) st, _, by decide, runTo_runs rfl rfl,
     by decide⟩⟩

theorem meets_FieldPortLinksComplete :
    (∃ (f : Fin 2) (s : State), s.rdB (Obj.FP_EN f) = true ∧ s.open = true) ∧
    (∃ (f : Fin 2) (s : State) (s1 : State) (s2 : State), s.rdB (Obj.FP_EN f) = true ∧ s.open = true ∧ s.rdN
      (Obj.FP_STATE f) = 2 ∧ (s.fp f).after = [] ∧ s1 = (s.endSession (if f = 0 then .fp0 else .fp1)).wrN
      (Obj.FP_STATE f) 1 ∧ s2 = s1.setFp f
      { s1.fp f with tx := [], phase := .deferring, collisions := 0, after := [] }) ∧
    (∃ (f : Fin 2) (s : State), s.rdB (Obj.FP_EN f) = true ∧ s.open = true ∧ s.rdN (Obj.FP_STATE f) ≠ 2) ∧
    (∃ (f : Fin 2) (s : State) (s1 : State), s.restoring 9 = false ∧ s.rdB (Obj.FP_EN f) = false ∧ s1 = s.setFp f
      { s.fp f with after := (s.fp f).after.filter fun a => a.2 != .stop }) ∧
    (∃ (f : Fin 2) (s : State) (s1 : State), s.restoring 9 = false ∧ s.rdB (Obj.FP_EN f) = true ∧ s1 = ((s.wrN
      (Obj.FP_EN f) 0).endSession (if f = 0 then .fp0 else .fp1)).wrN (Obj.FP_STATE f) 0) ∧
    (∃ (f : Nat) (n : Nat) (a : AfterReply) (s : State), (s.fp f).after = [(n + 2, a)]) ∧
    (∃ (f : Nat) (a : AfterReply) (s : State) (s1 : State), (s.fp f).after = [(1, a)] ∧ s1 = (s.fpNext f).setFp f
      { (s.fpNext f).fp f with after := [] }) :=
  ⟨⟨1, st.wrN (Obj.FP_EN 1) 1, by decide, by decide⟩,
   ⟨1, (fun z : State => z.setFp 1 { z.fp 1 with after := [] }) ((st.wrN (Obj.FP_EN 1) 1).wrN (Obj.FP_STATE 1) 2), _,
     _, by decide, by decide, by decide, by decide, rfl, rfl⟩,
   ⟨1, st.wrN (Obj.FP_EN 1) 1, by decide, by decide, by decide⟩,
   ⟨1, st.wrN (Obj.FP_EN 1) 0, _, by decide, by decide, rfl⟩,
   ⟨1, st.wrN (Obj.FP_EN 1) 1, _, by decide, by decide, rfl⟩,
   ⟨0, 0, .stop, (fun z : State => z.setFp 0 { z.fp 0 with after := [(0 + 2, .stop)] }) st, by decide⟩,
   ⟨0, .stop, (fun z : State => z.setFp 0 { z.fp 0 with after := [(1, .stop)] }) st, _, by decide, rfl⟩⟩

theorem meets_TwinFramesComplete :
    (∃ (s : State), s.cwHears = false) ∧
    (∃ (s : State), s.cwHears = true ∧ s.jobStatus (s.rdN Obj.CW_KEY_SLOT) 4 true false ≠ Ks.OK) ∧
    (∃ (e : Nat) (s : State), s.cwHears = true ∧ s.jobStatus (s.rdN Obj.CW_KEY_SLOT) 4 true false = Ks.OK ∧
      s.ctl.lease.current = true ∧ s.ctl.lease.epoch < e) ∧
    (∃ (e : Nat) (s : State), s.takesFrame e) ∧
    (∃ (e : Nat) (s : State), s.rdN Obj.BW_EPOCH < e ∧ s.ctl.lease.current = false) ∧
    (∃ (kind : Nat) (key : Nat) (lanes : Nat) (s : State), s.paired = true ∧ s.rdN Obj.CW_LANE_STATE ≠ 0 ∧ s.ksClosed
      = false ∧ s.mode ≠ Mode.UNPROVISIONED ∧ s.rdN Obj.KS_LANES ≠ 0 ∧ key = s.rdN Obj.CW_KEY_SLOT ∧ s.keyState key =
      Key.ACTIVE ∧ bitOn (s.slotOf key).usage 4 = true ∧ kind ≠ 0x10 ∧ (lanes = (if kind = 2 ∨ kind = 3 ∨ kind = 4 ∨
      kind = 0x11 then s.rdN Obj.CW_LANE_STATE else if bitOn (s.rdN Obj.CW_LANE_STATE) 0 then 1 else s.rdN
      Obj.CW_LANE_STATE))) ∧
    (∃ (s : State), s.cwHears = true) ∧
    (∃ (epoch : BitVec 32) (h : Hello) (s : State) (s1 : State), s.takesFrame (max epoch.toNat h.epochSeen.toNat) ∧
      h.role ≠ 1 ∧ h.role ≠ 4 ∧ s1 = (s.jobsDone Ks.OK 1).seeEpoch (max epoch.toNat h.epochSeen.toNat)) ∧
    (∃ (epoch : BitVec 32) (h : Hello) (s : State) (s1 : State), s.takesFrame (max epoch.toNat h.epochSeen.toNat) ∧
      (h.role = 1 ∨ h.role = 4) ∧ s1 = (s.jobsDone Ks.OK 1).seeEpoch (max epoch.toNat h.epochSeen.toNat)) ∧
    (∃ (epoch : BitVec 32) (sec : BitVec 48) (ns : Fin 1000000000) (s : State) (s1 : State) (s2 : State) (e : Nat),
      s.takesFrame epoch.toNat ∧ s.ctl.lease.current = false ∧ s.rdN Obj.BW_EPOCH ≤ epoch.toNat ∧ s1 = (s.jobsDone
      Ks.OK 1).seeEpoch epoch.toNat ∧ e = max (s1.bw.heldUntil48.getD 0) ((sec.toNat * giga + ns) * ns48) ∧ s2 =
      ({ s1 with bw := { s1.bw with heldUntil48 := some e, readyAtRenew := s1.bw.ready } } : State).sawHolder) ∧
    (∃ (s : State), s.rdN Obj.BW_ROLE = 3) ∧
    (∃ (epoch : BitVec 32) (s : State), s.takesFrame epoch.toNat ∧ s.ctl.lease.current = false ∧ epoch.toNat < s.rdN
      Obj.BW_EPOCH) ∧
    (∃ (epoch : BitVec 32) (s : State), s.takesFrame epoch.toNat) ∧
    (∃ (epoch : BitVec 32) (s : State) (s1 : State), s.takesFrame epoch.toNat ∧ s1 = (s.jobsDone Ks.OK 1).seeEpoch
      epoch.toNat) ∧
    (∃ (epoch : BitVec 32) (x : TwinState) (s : State) (s1 : State), s.takesFrame epoch.toNat ∧ s1 = ((s.jobsDone
      Ks.OK 1).seeEpoch epoch.toNat).setBw (fun b => { b with twinState := some x }) ∧ s1.slotState 22 = Sl.DISABLED) ∧
    (∃ (epoch : BitVec 32) (x : TwinState) (s : State) (s1 : State) (c : Nat), s.takesFrame epoch.toNat ∧ s1 =
      ((s.jobsDone Ks.OK 1).seeEpoch epoch.toNat).setBw (fun b => { b with twinState := some x }) ∧ s1.slotState 22 ≠
      Sl.DISABLED ∧ (c = (if 4 ≤ x.mode ∧ x.mode ≤ 7 then x.cls.val else 15))) :=
  ⟨⟨st, by decide⟩,
   ⟨(cw).wrN Obj.CW_KEY_SLOT 65535, by decide, by decide⟩,
   ⟨1, { cw with ctl.lease.current := true }, by decide, by decide, by decide, by decide⟩,
   ⟨0, cw, ⟨by decide, by decide, by decide⟩⟩,
   ⟨1, { st with ctl.lease.current := false }, by decide, by decide⟩,
   ⟨2, _, _, { cw with ctl.boot.cwrole := 1 }, by decide, by decide, by decide, by decide, by decide, rfl, by decide,
     by decide, by decide, rfl⟩,
   ⟨cw, by decide⟩,
   ⟨0, { hel with role := 2 }, cw, _, ⟨by decide, by decide, by decide⟩, by decide, by decide, rfl⟩,
   ⟨0, hel, cw, _, ⟨by decide, by decide, by decide⟩, by decide, rfl⟩,
   ⟨0, 0, 999999999, { cw with ctl.lease.current := false }, _, _, _, ⟨by decide, by decide, by decide⟩, by decide,
     by decide, rfl, rfl, rfl⟩,
   ⟨st.wrN Obj.BW_ROLE 3, by decide⟩,
   ⟨0, ({ cw with ctl.lease.current := false }).wrN Obj.BW_EPOCH 1, ⟨by decide, by decide, by decide⟩, by decide,
     by decide⟩,
   ⟨0, cw, ⟨by decide, by decide, by decide⟩⟩,
   ⟨0, cw, _, ⟨by decide, by decide, by decide⟩, rfl⟩,
   ⟨0, twn, cw, _, ⟨by decide, by decide, by decide⟩, rfl, by decide⟩,
   ⟨0, twn, (cw).wrN (Obj.SLOT_STATE 22) 3, _, 2, ⟨by decide, by decide, by decide⟩, rfl, by decide, by decide⟩⟩

theorem meets_LeaseCommandsComplete :
    (∃ (rb : Bool) (s : State) (s1 : State) (r48 : Nat), s.paired = true ∧ s.ctl.lease.current = true ∧ r48 =
      s.ctl.lease.acquired48 + (s.ctl.lease.renewals + 1) * (s.lease48 / 4) ∧ r48 ≤ s.ctl.lease.end48 ∧ s.liveTo r48 =
      some s1 ∧ (s1.mode = Mode.FAULTSAFE ∨ rb = false ∨ (s1.unitB = true ∧ s1.rdN Obj.CW_LEASE_IN = 3) ∨ s1.rdB
      Obj.BW_ENABLE = false ∨ s1.bw.releasing = true ∨ s.ctl.lease.epoch < s1.rdN Obj.BW_EPOCH ∨ s1.unsafeBlock 15 =
      true)) ∧
    (∃ (s : State) (s1 : State) (r48 : Nat) (t : Nat), s.paired = true ∧ s.ctl.lease.current = true ∧ r48 =
      s.ctl.lease.acquired48 + (s.ctl.lease.renewals + 1) * (s.lease48 / 4) ∧ r48 ≤ s.ctl.lease.end48 ∧ s.liveTo r48 =
      some s1 ∧ s1.mode ≠ Mode.FAULTSAFE ∧ (s1.unitB = true → s1.rdN Obj.CW_LEASE_IN ≠ 3) ∧ s1.rdB Obj.BW_ENABLE =
      true ∧ s1.bw.releasing = false ∧ s1.rdN Obj.BW_EPOCH ≤ s.ctl.lease.epoch ∧ s1.unsafeBlock 15 = false ∧ t =
      (s1.now48 + s1.lease48) / ns48) ∧
    (∃ (s : State) (s1 : State), s.paired = true ∧ s.ctl.lease.current = true ∧ s.liveTo s.ctl.lease.end48 = some s1) ∧
    (∃ (s : State), s.paired = true ∧ s.ctl.lease.current = true ∧ s.bw.releasing = true) ∧
    (∃ (s : State), s.paired = true ∧ s.ctl.lease.current = true ∧ s.rdN Obj.BW_FORCE = 1 ∧ s.hostWrote Obj.BW_FORCE =
      false) ∧
    (∃ (h : Nat) (s : State) (s1 : State), s.bw.high48 = some h ∧ s.paired = true ∧ s.ctl.lease.current = true ∧
      s.liveTo (h + s.guard48) = some s1 ∧ s1.unitB = true) ∧
    (∃ (h : Nat) (s : State) (s1 : State), s.bw.high48 = some h ∧ s.paired = true ∧ s.ctl.lease.current = true ∧
      s.liveTo (h + s.guard48) = some s1 ∧ s1.unitB = false) ∧
    (∃ (s : State), s.paired = true) ∧
    (∃ (s : State) (s1 : State), s.paired = true ∧ s.open = true ∧ s.runTo (s.bw.hello48 + us48 1000) = some s1 ∧
      s1.rdN Obj.CW_KEY_SLOT < 1024) ∧
    (∃ (e : Nat) (q : Nat) (s : State) (s1 : State) (s2 : State), s.bw.heldUntil48 = some e ∧ s.ctl.lease.current =
      false ∧ s.reach (ceilDiv (e + s.guard48) ns48) = some s1 ∧ s1.bw.quiet48 = some q ∧ s1.liveTo (q + s1.guard48) =
      some s2 ∧ (s2.mayAcquire = true ∧ s2.rdN Obj.BW_ROLE = 2 ∧ s2.bw.readyAtRenew = true)) ∧
    (∃ (e : Nat) (q : Nat) (s : State) (s1 : State) (s2 : State), s.bw.heldUntil48 = some e ∧ s.ctl.lease.current =
      false ∧ s.reach (ceilDiv (e + s.guard48) ns48) = some s1 ∧ s1.bw.quiet48 = some q ∧ s1.liveTo (q + s1.guard48) =
      some s2 ∧ (s2.mayAcquire = false ∨ s2.rdN Obj.BW_ROLE ≠ 2 ∨ s2.bw.readyAtRenew = false)) ∧
    (∃ (s : State) (s1 : State), s.rdN Obj.BW_ROLE = 3 ∧ s.unitB = false ∧ s.liveTo (s.bw.contending48 + s.lease48 +
      s.guard48) = some s1 ∧ s1.mayAcquire = true) ∧
    (∃ (s : State) (s1 : State), s.rdN Obj.BW_ROLE = 3 ∧ s.unitB = false ∧ s.liveTo (s.bw.contending48 + s.lease48 +
      s.guard48) = some s1 ∧ s1.mayAcquire = false) ∧
    (∃ (s : State) (s1 : State), s.rdN Obj.BW_ROLE = 3 ∧ s.unitB = true ∧ s.liveTo (s.bw.contending48 + s.lease48 +
      s.guard48 + us48 1000) = some s1 ∧ s1.mayAcquire = true) ∧
    (∃ (s : State), (s.rdN Obj.BW_FORCE = 2 ∨ s.rdB Obj.BW_ENABLE = false ∨ s.mode ≠ Mode.STANDBY ∨ s.rdN
      Obj.CW_LEASE_IN = 3 ∨ s.rdN Obj.CW_LEASE_IN = 0 ∨ s.ctl.lease.current = true)) :=
  ⟨⟨false, { st with ctl.boot.cwrole := 1, ctl.lease.current := true, ctl.lease.end48 := (2 ^ 100) }, _, _, by decide,
     by decide, rfl, by decide, liveTo_runs rfl, by decide⟩,
   ⟨({ st with ctl.boot.cwrole := 1, ctl.lease.current := true, ctl.lease.end48 := (2 ^ 100) }).wrN Obj.BW_ENABLE 1,
     _, _, _, by decide, by decide, rfl, by decide, liveTo_runs rfl, by decide, by decide, by decide, by decide,
     by decide, by decide, rfl⟩,
   ⟨{ st with ctl.boot.cwrole := 1, ctl.lease.current := true }, _, by decide, by decide, liveTo_runs rfl⟩,
   ⟨({ st with ctl.boot.cwrole := 1, ctl.lease.current := true, bw.releasing := true }).wrN Obj.BW_FORCE 1, by decide,
     by decide, by decide⟩,
   ⟨({ st with ctl.boot.cwrole := 1, ctl.lease.current := true }).wrN Obj.BW_FORCE 1, by decide, by decide, by decide,
     by decide⟩,
   ⟨0, { st with bw.high48 := some 0, ctl.lease.current := true, ctl.boot.cwrole := 2 }, _, rfl, by decide, by decide,
     liveTo_runs rfl, by decide⟩,
   ⟨0, { st with bw.high48 := some 0, ctl.boot.cwrole := 1, ctl.lease.current := true }, _, rfl, by decide, by decide,
     liveTo_runs rfl, by decide⟩,
   ⟨{ st with ctl.boot.cwrole := 1 }, by decide⟩,
   ⟨{ cw with ctl.boot.cwrole := 1 }, _, by decide, by decide, runTo_runs rfl rfl, by decide⟩,
   ⟨0, 7,
     { (({ (((({ st with bw.heldUntil48 := some 0 }).wrN Obj.MODE_CURRENT Mode.STANDBY).wrN Obj.BW_ENABLE 1).wrN Obj.CW_LEASE_IN 2) with ctl.boot.cwrole := 1, bw.quiet48 := some 7 }).wrN Obj.BW_ROLE 2) with bw.readyAtRenew := true, ctl.lease.current := false },
     _, _, rfl, by decide, reach_runs rfl rfl, rfl, liveTo_runs rfl, by decide⟩,
   ⟨0, 7,
     { (((({ st with bw.heldUntil48 := some 0 }).wrN Obj.MODE_CURRENT Mode.STANDBY).wrN Obj.BW_ENABLE 1).wrN Obj.CW_LEASE_IN 2) with ctl.boot.cwrole := 1, bw.quiet48 := some 7, ctl.lease.current := false },
     _, _, rfl, by decide, reach_runs rfl rfl, rfl, liveTo_runs rfl, by decide⟩,
   ⟨{ ((((st.wrN Obj.BW_ROLE 3).wrN Obj.MODE_CURRENT Mode.STANDBY).wrN Obj.BW_ENABLE 1).wrN Obj.CW_LEASE_IN 2) with ctl.boot.cwrole := 1, ctl.lease.current := false },
     _, by decide, by decide, liveTo_runs rfl, by decide⟩,
   ⟨{ (st.wrN Obj.BW_ROLE 3) with ctl.boot.cwrole := 1 }, _, by decide, by decide, liveTo_runs rfl, by decide⟩,
   ⟨{ ((((st.wrN Obj.BW_ROLE 3).wrN Obj.MODE_CURRENT Mode.STANDBY).wrN Obj.BW_ENABLE 1).wrN Obj.CW_LEASE_IN 2) with ctl.boot.cwrole := 2, ctl.lease.current := false },
     _, by decide, by decide, liveTo_runs rfl, by decide⟩,
   ⟨st, by decide⟩⟩

theorem meets_LinesAndForcedRolesComplete :
    (∃ (s : State) (s1 : State) (l : LeaseLine), s.paired = true ∧ (l = .off ∨ l = .low) ∧ s1 = (s.wrN Obj.CW_LEASE_IN
      (lineCode l)).setBw (fun b => { b with quiet48 := some (b.quiet48.getD (s.live48 - us48 2)), high48 := none })) ∧
    (∃ (s : State) (s1 : State), s.paired = true ∧ s1 = (s.wrN Obj.CW_LEASE_IN 3).setBw (fun b =>
      { b with quiet48 := none, high48 := some (b.high48.getD (s.live48 - us48 2)) }) ∧ s.ctl.lease.current = true) ∧
    (∃ (s : State) (s1 : State), s.paired = true ∧ s1 = (s.wrN Obj.CW_LEASE_IN 3).setBw (fun b =>
      { b with quiet48 := none, high48 := some (b.high48.getD (s.live48 - us48 2)) }) ∧ s.ctl.lease.current = false) ∧
    (∃ (s : State) (s1 : State), s.paired = true ∧ s1 = (s.wrN Obj.CW_LEASE_IN 0).setBw (fun b =>
      { b with quiet48 := none, high48 := none })) ∧
    (∃ (lane : Fin 2) (up : Bool) (s : State) (s1 : State), s.paired = true ∧ s.mode ≠ Mode.BOOT ∧ s1 = (s.wrN
      Obj.CW_LANE_STATE (putBit (s.rdN Obj.CW_LANE_STATE) lane.val up)).cond (Src.BW_LANE_DOWN lane) (!up) ∧ s.open =
      true) ∧
    (∃ (lane : Fin 2) (up : Bool) (s : State) (s1 : State), s.paired = true ∧ s.mode ≠ Mode.BOOT ∧ s1 = (s.wrN
      Obj.CW_LANE_STATE (putBit (s.rdN Obj.CW_LANE_STATE) lane.val up)).cond (Src.BW_LANE_DOWN lane) (!up) ∧ s.open =
      false) ∧
    (∃ (h : Hello) (s : State), s.restoring 15 = false ∧ s.locked 6 = false ∧ s.paired = true ∧ s.ctl.lease.current =
      true ∧ s.bw.twin = some h ∧ h.ready = true) ∧
    (∃ (s : State), s.restoring 15 = false ∧ s.locked 6 = false ∧ s.ctl.lease.current = false) ∧
    (∃ (s : State), s.restoring 15 = false ∧ s.locked 6 = true) ∧
    (∃ (s : State), s.restoring 15 = false ∧ s.locked 6 = false) ∧
    (∃ (s : State), s.restoring 15 = false ∧ s.paired = true ∧ s.ctl.lease.current = true) ∧
    (∃ (v : Bool) (s : State), s.restoring 15 = false ∧ (v = true ∨ s.paired = false ∨ s.ctl.lease.current = false)) ∧
    (∃ (s : State) (s1 : State), s.paired = true ∧ s.open = true ∧ s.runTo (s.bw.persist48 + 60 * sec48) = some s1) ∧
    (∃ (s : State) (s1 : State), s.bw.persistDue = true ∧ s.inhibited = false ∧ s.runTo (s.ctl.supply.released48 +
      us48 10000) = some s1) ∧
    (∃ (r : RootRecord) (s : State), s.inhibited = false ∧ s.ks.root = some r) ∧
    (∃ (s : State), s.inhibited = true) :=
  ⟨⟨{ st with ctl.boot.cwrole := 1 }, _, .low, by decide, by decide, rfl⟩,
   ⟨{ st with ctl.boot.cwrole := 1, ctl.lease.current := true }, _, by decide, rfl, by decide⟩,
   ⟨{ st with ctl.boot.cwrole := 1, ctl.lease.current := false }, _, by decide, rfl, by decide⟩,
   ⟨{ st with ctl.boot.cwrole := 1 }, _, by decide, rfl⟩,
   ⟨1, false, { st with ctl.boot.cwrole := 1 }, _, by decide, by decide, rfl, by decide⟩,
   ⟨1, true, (({ st with ctl.boot.cwrole := 1 }).wrN Obj.MODE_CURRENT Mode.BOOT).wrN Obj.MODE_CURRENT Mode.COLD, _,
     by decide, by decide, rfl, by decide⟩,
   ⟨hel, { st with ctl.boot.cwrole := 1, ctl.lease.current := true, bw.twin := some hel }, by decide, by decide,
     by decide, by decide, rfl, by decide⟩,
   ⟨{ st with ctl.lease.current := false }, by decide, by decide, by decide⟩,
   ⟨st.wrN (Obj.LOCK 5) 1, by decide, by decide⟩,
   ⟨st, by decide, by decide⟩,
   ⟨{ st with ctl.boot.cwrole := 1, ctl.lease.current := true }, by decide, by decide, by decide⟩,
   ⟨true, st, by decide, by decide⟩,
   ⟨{ st with ctl.boot.cwrole := 1 }, _, by decide, by decide, runTo_runs rfl rfl⟩,
   ⟨{ st with bw.persistDue := true }, _, by decide, by decide, runTo_runs rfl rfl⟩,
   ⟨rrec, { st with ks.root := some rrec }, by decide, rfl⟩,
   ⟨{ st with ctl.supply.vddauxLow := true }, by decide⟩⟩

theorem meets_JournalCommandsComplete :
    (∃ (epoch : BitVec 32) (j : BitVec 64) (es : List JEntry) (s : State) (s1 : State) (s2 : State), s.takesFrame
      epoch.toNat ∧ s1 = (s.jobsDone Ks.OK 1).seeEpoch epoch.toNat ∧ s1.ctl.lease.current = false ∧ s1.bw.nextJseq ≠ 0
      ∧ j.toNat ≤ s1.bw.nextJseq ∧ s2 = State.applyEntries es j.toNat s1) ∧
    (∃ (epoch : BitVec 32) (j : BitVec 64) (es : List JEntry) (s : State) (s1 : State) (s2 : State), s.takesFrame
      epoch.toNat ∧ s1 = (s.jobsDone Ks.OK 1).seeEpoch epoch.toNat ∧ s1.ctl.lease.current = false ∧ s1.bw.nextJseq = 0
      ∧ s2 = State.applyEntries es j.toNat (s1.setBw fun b => { b with nextJseq := j.toNat })) ∧
    (∃ (epoch : BitVec 32) (j : BitVec 64) (s : State) (s1 : State), s.takesFrame epoch.toNat ∧ s1 = (s.jobsDone Ks.OK
      1).seeEpoch epoch.toNat ∧ s1.ctl.lease.current = false ∧ s1.bw.nextJseq ≠ 0 ∧ s1.bw.nextJseq < j.toNat ∧
      s1.bw.gap = false) ∧
    (∃ (epoch : BitVec 32) (j : BitVec 64) (s : State) (s1 : State), s.takesFrame epoch.toNat ∧ s1 = (s.jobsDone Ks.OK
      1).seeEpoch epoch.toNat ∧ s1.ctl.lease.current = false ∧ s1.bw.nextJseq ≠ 0 ∧ s1.bw.nextJseq < j.toNat ∧
      s1.bw.gap = true) ∧
    (∃ (epoch : BitVec 32) (j : BitVec 64) (s : State) (s1 : State) (s2 : State), s.takesFrame epoch.toNat ∧ s1 =
      (s.jobsDone Ks.OK 1).seeEpoch epoch.toNat ∧ s1.ctl.lease.current = true ∧ s2 = (s1.wrN Obj.JR_ACKED (max (s1.rdN
      Obj.JR_ACKED) (min j.toNat (s1.rdN Obj.JR_TX)))).acknowledged (min j.toNat (s1.rdN Obj.JR_TX))) ∧
    (∃ (epoch : BitVec 32) (s : State) (s1 : State) (s2 : State) (s3 : State), s.takesFrame epoch.toNat ∧ ((s.jobsDone
      Ks.OK 1).seeEpoch epoch.toNat).ctl.lease.current = true ∧ s1 = ((s.jobsDone Ks.OK 1).seeEpoch epoch.toNat).wrN
      Obj.JR_RESYNC 1 ∧ s2 = s1.forEach (l := s1.tpe.fold) (p := fun s e => s.journal (.record e.2 (s.dueOf e.1 false)
      (s.dueOf e.1 true))) ∧ s3 = s2.forEach (l := s2.tpe.multicast) (p := fun s e => s.journal (.mcRes (e.1 / 2 / 16)
      (e.1 / 2 % 16) (if e.1 % 2 = 1 then Ptp.ANNOUNCE else Ptp.SYNC) e.2.res))) ∧
    (∃ (s : State), s.paired = true ∧ s.rdN Obj.JR_RESYNC = 1 ∧ s.ctl.lease.current = false) ∧
    (∃ (s : State), s.paired = true ∧ s.rdN Obj.JR_RESYNC = 1 ∧ s.ctl.lease.current = true ∧ s.rdN Obj.BW_ROLE = 4) ∧
    (∃ (s : State), s.paired = true ∧ s.rdN Obj.JR_RESYNC = 1 ∧ s.ctl.lease.current = true ∧ s.rdN Obj.BW_ROLE ≠ 4) ∧
    (∃ (t : Nat) (s : State) (s1 : State) (s2 : State), s.bw.ackSince48 = some t ∧ s.awaits = true ∧ s.runTo (t + us48
      (s.rdN Obj.BW_ACK_TIMEOUT)) = some s1 ∧ s2 = ((s1.wrN Obj.BW_ROLE 4).setBw fun b =>
      { b with ackSince48 := none }).cond Src.BW_SOLO true) :=
  ⟨⟨0, 0, [], cw, _, _, ⟨by decide, by decide, by decide⟩, rfl, by decide, by decide, by decide, rfl⟩,
   ⟨0, 0, [], { cw with bw.nextJseq := 0 }, _, _, ⟨by decide, by decide, by decide⟩, rfl, by decide, by decide, rfl⟩,
   ⟨0, (2 ^ 64 - 1), cw, _, ⟨by decide, by decide, by decide⟩, rfl, by decide, by decide, by decide, by decide⟩,
   ⟨0, (2 ^ 64 - 1), { cw with bw.gap := true }, _, ⟨by decide, by decide, by decide⟩, rfl, by decide, by decide,
     by decide, by decide⟩,
   ⟨0, 0, { cw with ctl.lease := ⟨true, 0, 0, 0, 0⟩ }, _, _, ⟨by decide, by decide, by decide⟩, rfl, by decide, rfl⟩,
   ⟨0, { cw with ctl.lease := ⟨true, 0, 0, 0, 0⟩ }, _, _, _, ⟨by decide, by decide, by decide⟩, by decide, rfl, rfl,
     rfl⟩,
   ⟨{ (({ st with ctl.boot.cwrole := 1 }).wrN Obj.JR_RESYNC 1) with ctl.lease.current := false }, by decide,
     by decide, by decide⟩,
   ⟨({ (({ st with ctl.boot.cwrole := 1 }).wrN Obj.JR_RESYNC 1) with ctl.lease.current := true }).wrN Obj.BW_ROLE 4,
     by decide, by decide, by decide, by decide⟩,
   ⟨{ (({ st with ctl.boot.cwrole := 1 }).wrN Obj.JR_RESYNC 1) with ctl.lease.current := true }, by decide, by decide,
     by decide, by decide⟩,
   ⟨0, ({ st with bw.ackSince48 := some 0 }).wrN Obj.BW_ROLE 1, _, _, rfl, by decide, runTo_runs rfl rfl, rfl⟩⟩

theorem meets_DictionaryRequestsAreChecked :
    (∃ (q : GopRequest) (s : State) (s1 : State) (d : Nat), s.arrive q = some (s1, d) ∧ s.tagWaits 1 q = false ∧
      s1.testObject 1 q = false) ∧
    (∃ (q : GopRequest) (s : State) (s1 : State) (d : Nat), s.arrive q = some (s1, d) ∧ s.tagWaits 2 q = false ∧
      s1.testObject 2 q = false) ∧
    (∃ (q : GopRequest) (s : State) (s1 : State) (d : Nat), s.arrive q = some (s1, d) ∧ s.tagWaits 3 q = false ∧
      s1.testObject 3 q = false) ∧
    (∃ (q : GopRequest) (s : State) (s1 : State) (d : Nat), s.arrive q = some (s1, d) ∧ s.tagWaits 4 q = false ∧
      s1.testObject 4 q = false) ∧
    (∃ (q : GopRequest) (s : State) (s1 : State) (d : Nat) (op : BitVec 8), s.arrive q = some (s1, d) ∧ s.tagWaits
      op.toNat q = false ∧ s1.testObject op.toNat q = false) ∧
    (∃ (q : GopRequest) (s : State) (s1 : State) (d : Nat), s.arrive q = some (s1, d) ∧ s.tagWaits 1 q = false ∧
      s1.testObject 1 q = true) ∧
    (∃ (op : Nat) (q : GopRequest) (s : State), s.tagWaits op q = true) ∧
    (∃ (q : GopRequest) (s : State), (q.role = .anonymous ∨ (s.jobsFull = false ∧ s.unsafeBlock 14 = false))) ∧
    (∃ (op : Nat) (q : GopRequest) (s : State), s.testObject op q = true) ∧
    (∃ (s : State), s.mode = Mode.FACTORY) ∧
    (∃ (q : GopRequest) (s : State), q.link ≠ .pcie ∧ s.open = true ∧ s.linkUp q.link = true) ∧
    (∃ (op : Nat) (q : GopRequest) (s : State) (s0 : State), s0 = s.tagChecked op q ∧ framed op q = false) ∧
    (∃ (op : Nat) (q : GopRequest) (s : State) (s0 : State), s0 = s.tagChecked op q ∧ framed op q = true ∧ s.tagGood
      op q = false) ∧
    (∃ (op : Nat) (q : GopRequest) (s : State) (s0 : State), s0 = s.tagChecked op q ∧ framed op q = true ∧ s.tagGood
      op q = true ∧ s.seqVerdict q = .stale) ∧
    (∃ (op : Nat) (q : GopRequest) (s : State) (s0 : State) (m : List Octet), s0 = s.tagChecked op q ∧ framed op q =
      true ∧ s.tagGood op q = true ∧ s.seqVerdict q = .again m) ∧
    (∃ (op : Nat) (q : GopRequest) (s : State) (s0 : State) (s1 : State), s0 = s.tagChecked op q ∧ framed op q = true
      ∧ s.tagGood op q = true ∧ s.seqVerdict q = .fresh ∧ s1 = (if q.role = .anonymous then s0 else s0.setSeqCell
      q.link q.role ⟨q.seq.toNat, none⟩) ∧ 7 ≤ op) ∧
    (∃ (op : Nat) (q : GopRequest) (s : State) (s0 : State) (s1 : State), s0 = s.tagChecked op q ∧ framed op q = true
      ∧ s.tagGood op q = true ∧ s.seqVerdict q = .fresh ∧ s1 = (if q.role = .anonymous then s0 else s0.setSeqCell
      q.link q.role ⟨q.seq.toNat, none⟩) ∧ op < 7 ∧ s1.waits op q.index.toNat q.sub.toNat = none) ∧
    (∃ (q : GopRequest), q.role = .anonymous) ∧
    (∃ (q : GopRequest) (s : State) (last : Nat), q.role ≠ .anonymous ∧ (s.seqCell q.link q.role).last = last ∧ last <
      2 ^ 32) :=
  ⟨⟨fq, op, _, _, rfl, by decide, by decide⟩,
   ⟨fq, op, _, _, rfl, by decide, by decide⟩,
   ⟨fq, op, _, _, rfl, by decide, by decide⟩,
   ⟨fq, op, _, _, rfl, by decide, by decide⟩,
   ⟨fq, op, _, _, 0, rfl, by decide, by decide⟩,
   ⟨{ fq with index := 0xFFFF }, (op).wrN Obj.MODE_CURRENT Mode.FACTORY, _, _, rfl, by decide, by decide⟩,
   ⟨8, cq, { op with book.guard.safe := 2 ^ 14 }, by decide⟩,
   ⟨gq, st, by decide⟩,
   ⟨4, { fq with index := 0xFFFF }, st.wrN Obj.MODE_CURRENT Mode.FACTORY, by decide⟩,
   ⟨(op).wrN Obj.MODE_CURRENT Mode.FACTORY, by decide⟩,
   ⟨fq, op, by decide, by decide, by decide⟩,
   ⟨0, gq, st, _, rfl, by decide⟩,
   ⟨8, { fq with rest := 1 :: List.replicate 15 0 }, op, _, rfl, by decide, by decide⟩,
   ⟨8, (sgn (op.setSeqCell .fp0 .custodian ⟨2 ^ 31, none⟩) 8 cq), op.setSeqCell .fp0 .custodian ⟨2 ^ 31, none⟩, _,
     rfl, sgn_framed _ _ (by decide), sgn_good _ _ (by decide), by decide⟩,
   ⟨8, (sgn (op.setSeqCell .fp0 .custodian ⟨1, some [1, 8]⟩) 8 cq), op.setSeqCell .fp0 .custodian ⟨1, some [1, 8]⟩, _,
     [1, 8], rfl, sgn_framed _ _ (by decide), sgn_good _ _ (by decide), by decide⟩,
   ⟨7, (sgn (op) 7 cq), op, _, _, rfl, sgn_framed _ _ (by decide), sgn_good _ _ (by decide), by decide, rfl,
     by decide⟩,
   ⟨6, (sgn (op) 6 cq), op, _, _, rfl, sgn_framed _ _ (by decide), sgn_good _ _ (by decide), by decide, rfl,
     by decide, by decide⟩,
   ⟨gq, by decide⟩,
   ⟨cq, st.setSeqCell .fp0 .custodian ⟨2 ^ 32 - 1, none⟩, (2 ^ 32 - 1), by decide, by decide, by decide⟩⟩

theorem meets_DictionaryOperationsComplete :
    (∃ (h : Held), h.op = 1) ∧
    (∃ (i : Nat) (sub : Nat), findObject i sub = none) ∧
    (∃ (r : Role) (i : Nat) (sub : Nat) (o : Target) (s : State), findObject i sub = some o ∧ s.mayRead o r = true) ∧
    (∃ (r : Role) (i : Nat) (sub : Nat) (o : Target) (s : State), findObject i sub = some o ∧ s.mayRead o r = false) ∧
    (∃ (h : Held) (n : Nat) (o : Target), h.op = 3 ∧ h.req.payload.length = 2 ∧ n = ofLe h.req.payload ∧ n ≠ 0 ∧
      findObject h.req.index.toNat h.req.sub.toNat = some o) ∧
    (∃ (h : Held), h.op = 2 ∧ findObject h.req.index.toNat h.req.sub.toNat = none) ∧
    (∃ (h : Held) (o : Target) (s : State), h.op = 2 ∧ findObject h.req.index.toNat h.req.sub.toNat = some o ∧
      (s.mayWrite o h.req.role h.req.payload = false ∨ (o.row.blob = false ∧ o.row.access = .ro))) ∧
    (∃ (h : Held) (o : Target) (s : State), h.op = 2 ∧ findObject h.req.index.toNat h.req.sub.toNat = some o ∧
      s.mayWrite o h.req.role h.req.payload = true ∧ o.row.blob = false ∧ o.row.access ≠ .ro ∧ h.req.payload.length ≠
      scalarSize o.row.type) ∧
    (∃ (h : Held) (o : Target) (s : State) (t : State) (code : Nat), h.op = 2 ∧ findObject h.req.index.toNat
      h.req.sub.toNat = some o ∧ s.mayWrite o h.req.role h.req.payload = true ∧ o.row.blob = false ∧ o.row.access ≠
      .ro ∧ h.req.payload.length = scalarSize o.row.type ∧ s.judgeWrite o (octetsValue o.row.type h.req.payload) =
      .done t code) ∧
    (∃ (h : Held) (o : Target) (v : Int) (s : State), h.op = 2 ∧ findObject h.req.index.toNat h.req.sub.toNat = some o
      ∧ s.mayWrite o h.req.role h.req.payload = true ∧ o.row.blob = false ∧ o.row.access ≠ .ro ∧ h.req.payload.length
      = scalarSize o.row.type ∧ s.judgeWrite o (octetsValue o.row.type h.req.payload) = .run v ∧ replyFirst h.source o
      v = false ∧ s.refusedBy (s.put' h.source o v) h.source o v = false) ∧
    (∃ (h : Held) (o : Target) (s : State), h.op = 4 ∧ findObject h.req.index.toNat h.req.sub.toNat = some o ∧
      s.mayWrite o h.req.role h.req.payload = true ∧ o.row.access ≠ .ro ∧ o.row.blob = true) ∧
    (∃ (h : Held) (o : Target) (fit : List Octet) (s : State) (t : State) (code : Nat), h.op = 4 ∧ findObject
      h.req.index.toNat h.req.sub.toNat = some o ∧ s.mayWrite o h.req.role h.req.payload = true ∧ o.row.access ≠ .ro ∧
      o.row.blob = false ∧ fit = h.req.payload.take (scalarSize o.row.type - h.req.offset.toNat) ∧ fit ≠ [] ∧ code ≠
      AckCode.OK ∧ s.judgeWrite o (octetsValue o.row.type (overlay (s.octetsOf o.row h.req.link o.number)
      h.req.offset.toNat fit)) = .done t code) ∧
    (∃ (o : Target) (w : WriteFrom) (s : State), o.row.access ≠ .wo ∧ s.overtaken w.link (o.at w.link) = true) ∧
    (∃ (o : Target) (w : WriteFrom) (s : State), o.row.access ≠ .wo ∧ s.overtaken w.link (o.at w.link) = false ∧
      o.row.write = none) ∧
    (∃ (r : Reg) (s : State), s.overtaken .fp0 r = false) ∧
    (∃ (r : Reg) (s : State), s.hostWrote r = false) ∧
    (∃ (r : Reg) (s : State), s.hostWrote r = true) ∧
    (∃ (o : Target), o.row.access = .ro) ∧
    (∃ (o : Target) (v : Int) (s : State), o.row.access ≠ .ro ∧ (∀ m, o.row.range ≠ .sticky m) ∧ s.inRange o.row
      o.number v = false) ∧
    (∃ (o : Target) (v : Int) (s : State), o.row.access = .rwd ∧ (∀ m, o.row.range ≠ .sticky m) ∧ s.inRange o.row
      o.number v = true ∧ s.enabled o = true) :=
  ⟨⟨hld, by decide⟩,
   ⟨0, 0, by decide⟩,
   ⟨.custodian, 0x1030, 1, _, st, rfl, by decide⟩,
   ⟨.anonymous, 0x1030, 1, _, st, rfl, by decide⟩,
   ⟨hold 3 [255, 255], 65535, _, by decide, by decide, by decide, by decide, rfl⟩,
   ⟨{ hold 2 [] with req := { gq with index := 0xFFFF } }, by decide, by decide⟩,
   ⟨{ hold 2 [1] with req := { gq with index := 0x1030, sub := 1 } }, _, st, by decide, rfl, by decide⟩,
   ⟨hold 2 [], _, st, by decide, rfl, by decide, by decide, by decide, by decide⟩,
   ⟨hold 2 [4], _, st, _, _, by decide, rfl, by decide, by decide, by decide, by decide, rfl⟩,
   ⟨hold 2 [3], _, _, st, by decide, rfl, by decide, by decide, by decide, by decide, rfl, by decide, by decide⟩,
   ⟨{ hold 4 [] with req := { gq with roleOctet := 4, index := 0x1040, sub := 4 } }, _, st, by decide, rfl, by decide,
     by decide, by decide⟩,
   ⟨hold 4 [4], _, _, st, _, _, by decide, rfl, by decide, by decide, by decide, rfl, by decide, by decide, rfl⟩,
   ⟨(tgt .rw .any), ⟨.pcie, []⟩, { st with book.written := [(Obj.MODE_LOCK_DWELL.key, st.cycle48, 2)] }, by decide,
     by decide⟩,
   ⟨tgt .rw .any, ⟨.pcie, []⟩, st, by decide, by decide, by decide⟩,
   ⟨Obj.MODE_CURRENT, st, by decide⟩,
   ⟨Obj.MODE_CURRENT, st, by decide⟩,
   ⟨Obj.BW_FORCE, { st with book.written := [(Obj.BW_FORCE.key, st.cycle48, 0)] }, by decide⟩,
   ⟨(tgt .ro .any), by decide⟩,
   ⟨(tgt .rw (.span 1 3600)), 3601, st, by decide, nofun, by decide⟩,
   ⟨(tgt .rwd (.span 1 3600)), 3600, st.wrN Obj.CTR_FREEZE 1, by decide, nofun, by decide, by decide⟩⟩

theorem meets_SubscriptionsAndWaitsComplete :
    (∃ (q : GopRequest) (s : State) (s1 : State) (d : Nat), s.arrive q = some (s1, d) ∧ q.role = .anonymous ∧ framed 5
      q = true ∧ s1.tagGood 5 q = true) ∧
    (∃ (q : GopRequest) (s : State) (s1 : State) (s2 : State) (d : Nat), s.arrive q = some (s1, d) ∧ q.role ≠
      .anonymous ∧ framed 5 q = true ∧ s.tagWaits 5 q = false ∧ s1.tagGood 5 q = true ∧ s1.seqVerdict q = .fresh ∧ s2
      = (s1.tagChecked 5 q).setSeqCell q.link q.role ⟨q.seq.toNat, none⟩) ∧
    (∃ (q : GopRequest) (s : State) (s1 : State) (d : Nat), s.arrive q = some (s1, d) ∧ q.role = .anonymous ∧ framed 6
      q = true ∧ s1.tagGood 6 q = true) ∧
    (∃ (q : GopRequest) (s : State) (s1 : State) (s2 : State) (d : Nat), s.arrive q = some (s1, d) ∧ q.role ≠
      .anonymous ∧ framed 6 q = true ∧ s.tagWaits 6 q = false ∧ s1.tagGood 6 q = true ∧ s1.seqVerdict q = .fresh ∧ s2
      = (s1.tagChecked 6 q).setSeqCell q.link q.role ⟨q.seq.toNat, none⟩) ∧
    (∃ (q : GopRequest) (s : State) (m : Nat), q.payload.length = 4 ∧ m = maskOf (fun c => bitOn (ofLe q.payload) c &&
      noticeAllowed c q.role) 32 ∧ m ≠ 0 ∧ s.book.subs.any (GopRequest.owns q) = false ∧ (s.book.subs.filter fun x =>
      x.link == q.link).length < (if q.link = .pcie then 4 else 8)) ∧
    (∃ (q : GopRequest) (s : State), q.payload.length = 4 ∧ maskOf (fun c => bitOn (ofLe q.payload) c && noticeAllowed
      c q.role) 32 ≠ 0 ∧ s.book.subs.any (GopRequest.owns q) = false ∧ (if q.link = .pcie then 4 else 8) ≤
      (s.book.subs.filter fun x => x.link == q.link).length) ∧
    (∃ (p : Path) (r : Role) (i : BitVec 16) (sub : BitVec 8) (o : Target) (s : State), s.pathRole p = some r ∧
      findObject i.toNat sub.toNat = some o ∧ s.open = true ∧ o.row.blob = false ∧ s.waits 0 i.toNat sub.toNat = none
      ∧ s.orderHeld = false) ∧
    (∃ (p : Path) (r : Role) (i : BitVec 16) (sub : BitVec 8) (o : Target) (s : State), s.pathRole p = some r ∧
      findObject i.toNat sub.toNat = some o ∧ s.open = true ∧ o.row.blob = false ∧ o.row.access = .sq ∧ s.waits 0
      i.toNat sub.toNat = none ∧ s.orderHeld = false) ∧
    (∃ (o : Target) (mask : Nat), o.row.access = .sq ∧ o.row.range = .sticky mask) ∧
    (∃ (s : State), s.open = true ∧ s.linkUp .pcie = true) ∧
    (∃ (r : Role) (i : BitVec 16) (sub : BitVec 8) (o : Target) (s : State), s.pathRole .bar0 = some r ∧ findObject
      i.toNat sub.toNat = some o ∧ s.open = true ∧ o.row.blob = false ∧ (s.orderHeld = true ∨ (s.waits 0 i.toNat
      sub.toNat).isSome = true)) ∧
    (∃ (s : State), s.orderHeld = true) ∧
    (∃ (a : Nat) (n : Nat) (s : State), s.orderHeld = false ∧ (n ∉ [1, 2, 4, 8] ∨ a % n ≠ 0)) ∧
    (∃ (s : State) (s1 : State), s.snap.copying = true ∧ s1 = (s.wrN Obj.SNAP_TAKEN (s.snap.lastAt48.getD 0 /
      ns48)).bump Obj.SNAP_SEQ) ∧
    (∃ (op : PkuOp) (rest : List PkuOp) (s : State) (s1 : State), s.ks.pku = op :: rest ∧ s1 =
      { s with ks := { s.ks with pku := rest } }) ∧
    (∃ (d : BitVec 256) (s : State), s.identity = some d) ∧
    (∃ (d : BitVec 256) (s : State), s.identity = some d) ∧
    (∃ (b : Fin 20) (s : State), bitOn s.book.guard.restoring b = true) ∧
    (∃ (x : Wait) (s : State), (∀ h ∈ s.book.held, h.wait ≠ x ∧ h.wait ≠ .order)) ∧
    (∃ (x : Wait) (h : Held) (s : State), s.book.held = [h] ∧ h.wait = .order ∧ x ≠ .order ∧ s.waits h.op
      h.req.index.toNat h.req.sub.toNat = none) ∧
    (∃ (x : Wait) (h : Held) (s : State), s.book.held = [h] ∧ h.wait = .order ∧ x ≠ .order ∧ (s.waits h.op
      h.req.index.toNat h.req.sub.toNat).isSome = true) ∧
    (∃ (x : Wait) (h : Held) (g : Held) (s : State), s.book.held = [h, g] ∧ h.wait = .order ∧ g.wait = .order ∧ x ≠
      .order ∧ (s.waits h.op h.req.index.toNat h.req.sub.toNat).isSome = true) ∧
    (∃ (x : Wait) (h : Held) (s : State), s.book.held = [h] ∧ h.wait = x) ∧
    (∃ (t : Nat) (s : State) (s1 : State), s.teb.within48 = some t ∧ s.teb.pin = false ∧ s.runTo (t + ms48 (s.rdN
      Obj.TEB_PIN_HOLD)) = some s1) :=
  ⟨⟨fq, op, _, _, rfl, by decide, by decide, by decide⟩,
   ⟨(sgn (op) 5 cq), op.setFp 0 { op.fp 0 with rx := 1 }, _, _, _, rfl, by decide, sgn_framed _ _ (by decide),
     by decide, sgn_good _ _ (by decide), by decide, rfl⟩,
   ⟨fq, op, _, _, rfl, by decide, by decide, by decide⟩,
   ⟨(sgn (op) 6 cq), op.setFp 0 { op.fp 0 with rx := 1 }, _, _, _, rfl, by decide, sgn_framed _ _ (by decide),
     by decide, sgn_good _ _ (by decide), by decide, rfl⟩,
   ⟨{ cq with length := 4, rest := [255, 1, 0, 0] ++ List.replicate 16 0 }, st, 511, by decide, by decide, by decide,
     by decide, by decide⟩,
   ⟨{ gq with roleOctet := 4, length := 4, rest := [255, 1, 0, 0] ++ List.replicate 16 0 },
     { st with book.subs := List.replicate 4 ⟨.pcie, 0, .observer, 1, 0, []⟩ }, by decide, by decide, by decide,
     by decide⟩,
   ⟨.bar0, .observer, 0x1030, 1, _, (op).wrN Obj.BAR0_ROLE 1, rfl, rfl, by decide, by decide, by decide, by decide⟩,
   ⟨.bar0, .engineer, 0x1000, 2, _, (op).wrN Obj.BAR0_ROLE 3, rfl, rfl, by decide, by decide, by decide, by decide,
     by decide⟩,
   ⟨tgt .sq (.sticky 3), 3, by decide, by decide⟩,
   ⟨op, by decide, by decide⟩,
   ⟨.engineer, 0x1030, 1, _, ({ op with book.held := [{ hld with wait := .order }] }).wrN Obj.BAR0_ROLE 3, rfl, rfl,
     by decide, by decide, by decide⟩,
   ⟨{ st with book.held := [{ hld with wait := .order }] }, by decide⟩,
   ⟨0, 0, st, by decide, by decide⟩,
   ⟨{ st with snap.copying := true }, _, by decide, rfl⟩,
   ⟨.install, [], { st with ks.pku := .install :: [] }, _, rfl, rfl⟩,
   ⟨5, op, rfl⟩,
   ⟨5, op, rfl⟩,
   ⟨19, { st with book.guard.restoring := 2 ^ 19 }, by decide⟩,
   ⟨.snapshot, st, by decide⟩,
   ⟨.snapshot, { hld with wait := .order, op := 2, req := { gq with index := 0x1030, sub := 1 } },
     { st with book.held := [{ hld with wait := .order, op := 2, req := { gq with index := 0x1030, sub := 1 } }] },
     rfl, by decide, by decide, by decide⟩,
   ⟨.snapshot, { hld with wait := .order, op := 2, req := { gq with index := 0x1030, sub := 1 } },
     { st with book.held := [{ hld with wait := .order, op := 2, req := { gq with index := 0x1030, sub := 1 } }], book.guard.restoring := 2 ^ 1 },
     rfl, by decide, by decide, by decide⟩,
   ⟨.snapshot, { hld with wait := .order, op := 2, req := { gq with index := 0x1030, sub := 1 } },
     { hld with wait := .order, op := 2, req := { gq with index := 0x1030, sub := 1 } },
     { st with book.held := [{ hld with wait := .order, op := 2, req := { gq with index := 0x1030, sub := 1 } }, { hld with wait := .order, op := 2, req := { gq with index := 0x1030, sub := 1 } }], book.guard.restoring := 2 ^ 1 },
     rfl, by decide, by decide, by decide, by decide⟩,
   ⟨.snapshot, hld, { st with book.held := [hld] }, by decide, by decide⟩,
   ⟨0, { st with teb.within48 := some 0, teb.pin := false }, _, rfl, by decide, runTo_runs rfl rfl⟩⟩

theorem meets_OutputsComplete :
    (∃ (f : Fin 8) (s : State) (s1 : State), s.restoring 5 = false ∧ s.rdB (Obj.FOS_EN f) = false ∧ s1 = (s.wr
      (Obj.FOS_EN f) 1).setFos f
      { Fos.reset with seed := s.rdN (Obj.FOS_SEED f), seeded := s.clk.cycles + s.clk.frozenCycles }) ∧
    (∃ (s : State), s.restoring 5 = false) ∧
    (∃ (v : Nat) (s : State), s.restoring 5 = false ∧ (v < 4800000000000000 ∨ 5600000000000000 < v)) ∧
    (∃ (f : Fin 8) (v : Nat) (s : State), s.restoring 5 = false ∧ 4800000000000000 ≤ v ∧ v ≤ 5600000000000000 ∧
      s.fosState f = 0) ∧
    (∃ (f : Fin 8) (v : Nat) (s : State) (s1 : State), s.restoring 5 = false ∧ 4800000000000000 ≤ v ∧ v ≤
      5600000000000000 ∧ s.fosState f ≠ 0 ∧ s1 = (s.wrN (Obj.FOS_FREQ f) v).fosFollow f ∧ 2 ≤ s1.fosState f) ∧
    (∃ (f : Fin 8) (v : Nat) (s : State) (s1 : State), s.restoring 5 = false ∧ 4800000000000000 ≤ v ∧ v ≤
      5600000000000000 ∧ s.fosState f ≠ 0 ∧ s1 = (s.wrN (Obj.FOS_FREQ f) v).fosFollow f ∧ s1.fosState f < 2) ∧
    (∃ (f : Fin 8) (s : State) (s1 : State) (s2 : State), s.fosState f = 1 ∧ s1 = (s.wrN (Obj.FOS_STATE f) 2).cond
      (Src.FOS_LOL f) false ∧ s2 = s1.setFos f
      { s.fosOf f with relock := false, again := false, seed := if (s.fosOf f).again then s.rdN (Obj.FOS_SEED f) else (s.fosOf f).seed, seeded := if (s.fosOf f).again then s.clk.cycles + s.clk.frozenCycles else (s.fosOf f).seeded }
      ∧ (s.fosOf f).relock = true) ∧
    (∃ (f : Fin 8) (s : State) (s1 : State) (s2 : State), s.fosState f = 1 ∧ s1 = (s.wrN (Obj.FOS_STATE f) 2).cond
      (Src.FOS_LOL f) false ∧ s2 = s1.setFos f
      { s.fosOf f with relock := false, again := false, seed := if (s.fosOf f).again then s.rdN (Obj.FOS_SEED f) else (s.fosOf f).seed, seeded := if (s.fosOf f).again then s.clk.cycles + s.clk.frozenCycles else (s.fosOf f).seeded }
      ∧ (s.fosOf f).relock = false) ∧
    (∃ (f : Fin 8) (s : State) (s1 : State), 2 ≤ s.fosState f ∧ s1 = (s.fosTo f 1).setFos f
      { (s.fosTo f 1).fosOf f with again := true }) ∧
    (∃ (f : Fin 8) (s : State) (s1 : State), s.fosState f = 2 ∧ (s.fosOf f).aligning = true ∧ s1 = (s.setFos f
      { s.fosOf f with aligning := false }).wrN (Obj.FOS_STATE f) 3 ∧ s1.alignedOuts f = []) ∧
    (∃ (f : Fin 8) (n : Nat) (s : State) (s1 : State), s.fosState f = 2 ∧ (s.fosOf f).aligning = true ∧ s1 = (s.setFos
      f { s.fosOf f with aligning := false }).wrN (Obj.FOS_STATE f) 3 ∧ s1.alignedOuts f = [n] ∧ (s1.outOf n).started
      = true ∧ bitOn (s1.rdN (Obj.OUT_CFG n)) 18 = false) ∧
    (∃ (o : Fin 16) (s : State), s.restoring 5 = false ∧ s.rdB (Obj.OUT_EN o) = false ∧ s.outGood o = true) ∧
    (∃ (o : Fin 16) (s : State), s.restoring 5 = false ∧ s.rdB (Obj.OUT_EN o) = false ∧ s.outGood o = false) ∧
    (∃ (s : State), s.restoring 5 = false) ∧
    (∃ (k : Nat) (w : Int) (e : Int) (s : State) (s0 : State) (s1 : State) (s2 : State), s.reach s.nextGate = some s0
      ∧ s1 = { s0 with syn := { s0.syn with gate80 := some s.nextGate } } ∧ s1.calRunning = false ∧ s1.lbNext = some k
      ∧ k < 16 ∧ (s1.channel 45).state = .run ∧ s2 =
      { s1 with syn := { s1.syn with gate := k, suspended48 := none, stale := false } } ∧ s2.lbError k w = some e) ∧
    (∃ (k : Nat) (w : Int) (at16 : Int) (x : Int) (s : State), at16 = (s.now48 / 2 ^ 32 : Nat) + w - s.rd
      (Obj.CH_OFFSET 45) ∧ s.lbExpected k at16 = some x) ∧
    (∃ (k : Nat) (s : State) (s0 : State) (s1 : State), s.reach s.nextGate = some s0 ∧ s1 =
      { s0 with syn := { s0.syn with gate80 := some s.nextGate } } ∧ s1.calRunning = false ∧ s1.lbNext = some k ∧
      (s1.channel 45).state = .run) ∧
    (∃ (s : State) (s0 : State) (s1 : State), s.reach s.nextGate = some s0 ∧ s1 =
      { s0 with syn := { s0.syn with gate80 := some s.nextGate } } ∧ (s1.calRunning = true ∨ s1.lbNext = none)) ∧
    (∃ (k : Nat) (s : State) (s0 : State) (s1 : State) (s2 : State), s.reach s.nextGate = some s0 ∧ s1 =
      { s0 with syn := { s0.syn with gate80 := some s.nextGate } } ∧ s1.calRunning = false ∧ s1.lbNext = some k ∧
      (s1.channel 45).state ≠ .run ∧ s2 =
      { s1 with syn := { s1.syn with gate := k, suspended48 := some (s1.syn.suspended48.getD s1.up48) } } ∧
      s1.syn.stale = true) ∧
    (∃ (k : Nat) (s : State) (s0 : State) (s1 : State) (s2 : State), s.reach s.nextGate = some s0 ∧ s1 =
      { s0 with syn := { s0.syn with gate80 := some s.nextGate } } ∧ s1.calRunning = false ∧ s1.lbNext = some k ∧
      (s1.channel 45).state ≠ .run ∧ s2 =
      { s1 with syn := { s1.syn with gate := k, suspended48 := some (s1.syn.suspended48.getD s1.up48) } } ∧
      s1.syn.stale = false) ∧
    (∃ (t : Nat) (s : State) (s1 : State), (s.channel 45).state ≠ .run ∧ t = s.syn.suspended48.getD s.up48 ∧ s.runTo
      (t + s.rdN Obj.LB_STALE * sec48) = some s1) ∧
    (∃ (k : Nat) (s : State), k < 16 ∧ (s.lbOf k).failed = false ∧ s.rdN Obj.LB_FAILS ≤ (s.lbOf k).fails + 1) ∧
    (∃ (k : Nat) (s : State), k < 16 ∧ (s.lbOf k).fails + 1 < s.rdN Obj.LB_FAILS) :=
  ⟨⟨7, st.wrN (Obj.FOS_EN 7) 0, _, by decide, by decide, rfl⟩,
   ⟨st, by decide⟩,
   ⟨0, st, by decide, by decide⟩,
   ⟨7, 5600000000000000, st.wrN (Obj.FOS_STATE 7) 0, by decide, by decide, by decide, by decide⟩,
   ⟨7, 5000000000000000, st.wrN (Obj.FOS_STATE 7) 2, _, by decide, by decide, by decide, by decide, rfl,
     by decide +kernel⟩,
   ⟨7, 5600000000000000, (st.wrN (Obj.FOS_STATE 7) 2).wrN (Obj.FOS_WORD 7) 1, _, by decide, by decide, by decide,
     by decide, rfl, by decide +kernel⟩,
   ⟨7, (fun z : State => z.setFos 7 { z.fosOf 7 with relock := true }) (st.wrN (Obj.FOS_STATE 7) 1), _, _, by decide,
     rfl, rfl, by decide⟩,
   ⟨7, (fun z : State => z.setFos 7 { z.fosOf 7 with relock := false }) (st.wrN (Obj.FOS_STATE 7) 1), _, _, by decide,
     rfl, rfl, by decide⟩,
   ⟨7, st.wrN (Obj.FOS_STATE 7) 2, _, by decide, rfl⟩,
   ⟨7, (fun z : State => z.setFos 7 { z.fosOf 7 with aligning := true }) (st.wrN (Obj.FOS_STATE 7) 2), _, by decide,
     by decide, rfl, by decide⟩,
   ⟨7, 15, (fun z : State => z.setOut 15 { z.outOf 15 with started := true }) ((((fun z : State => z.setFos 7
     { z.fosOf 7 with aligning := true }) (st.wrN (Obj.FOS_STATE 7) 2)).wrN (Obj.OUT_EN 15) 1).wrN (Obj.OUT_CFG 15)
     0x780000), _, by decide, by decide, rfl, by decide, by decide, by decide⟩,
   ⟨15, ((st.wrN (Obj.OUT_EN 15) 0).wrN (Obj.FOS_EN 0) 1).wrN (Obj.OUT_CFG 15) 0, by decide, by decide, by decide⟩,
   ⟨15, st.wrN (Obj.OUT_EN 15) 0, by decide, by decide, by decide⟩,
   ⟨st, by decide⟩,
   ⟨15, 0, _,
     { ((((fun z : State => z.setOut 15 { z.outOf 15 with started := true }) (((out).wrN (Obj.OUT_EN 15) 1).wrN (Obj.OUT_CFG 15) 0x7C0000)).wrN (Obj.FOS_STATE 7) 3).setChannel 45 run) with clk.ts := ⟨1, 0, 0⟩ },
     _, _, _, reach_runs rfl rfl, rfl, by decide +kernel, by decide +kernel, by decide, by decide, rfl, rfl⟩,
   ⟨15, 0, _, _, ((fun z : State => z.setOut 15 { z.outOf 15 with started := true }) (((out).wrN (Obj.OUT_EN 15)
     1).wrN (Obj.OUT_CFG 15) 0x7C0000)).wrN (Obj.FOS_STATE 7) 3, rfl, rfl⟩,
   ⟨15,
     { ((((fun z : State => z.setOut 15 { z.outOf 15 with started := true }) (((out).wrN (Obj.OUT_EN 15) 1).wrN (Obj.OUT_CFG 15) 0x7C0000)).wrN (Obj.FOS_STATE 7) 3).setChannel 45 run) with clk.ts := ⟨1, 0, 0⟩ },
     _, _, reach_runs rfl rfl, rfl, by decide +kernel, by decide +kernel, by decide⟩,
   ⟨st, _, _, reach_runs rfl rfl, rfl, by decide⟩,
   ⟨15,
     { (((fun z : State => z.setOut 15 { z.outOf 15 with started := true }) (((out).wrN (Obj.OUT_EN 15) 1).wrN (Obj.OUT_CFG 15) 0x7C0000)).wrN (Obj.FOS_STATE 7) 3) with clk.ts := ⟨1, 0, 0⟩, syn.stale := true },
     _, _, _, reach_runs rfl rfl, rfl, by decide, by decide +kernel, by decide, rfl, by decide⟩,
   ⟨15,
     { (((fun z : State => z.setOut 15 { z.outOf 15 with started := true }) (((out).wrN (Obj.OUT_EN 15) 1).wrN (Obj.OUT_CFG 15) 0x7C0000)).wrN (Obj.FOS_STATE 7) 3) with clk.ts := ⟨1, 0, 0⟩ },
     _, _, _, reach_runs rfl rfl, rfl, by decide, by decide +kernel, by decide, rfl, by decide⟩,
   ⟨_, st, _, by decide, rfl, runTo_runs rfl rfl⟩,
   ⟨15, (fun z : State => z.setLb 15 { z.lbOf 15 with fails := 255 }) ((fun z : State => z.setLb 15
     { z.lbOf 15 with failed := false }) st), by decide, by decide, by decide⟩,
   ⟨15, st, by decide, by decide⟩⟩

theorem meets_EventQueuesComplete :
    (∃ (e : Fin 16) (s : State) (s1 : State), s.restoring 6 = false ∧ (s.rdB (Obj.EVT_EN e) = false ∨ s.evtState e =
      0) ∧ s.rdB Obj.EV_ENABLE = true ∧ (s.evtProgramme e = false ∨ s.programmeGood e = true) ∧ s1 = (s.wr (Obj.EVT_EN
      e) 1).wrN (Obj.EVT_STATE e) 1) ∧
    (∃ (e : Fin 16) (s : State), s.restoring 6 = false ∧ s.rdB (Obj.EVT_EN e) = false ∧ (s.rdB Obj.EV_ENABLE = false ∨
      (s.evtProgramme e = true ∧ s.programmeGood e = false))) ∧
    (∃ (s : State), s.restoring 6 = false) ∧
    (∃ (e : Fin 16) (s : State) (s1 : State), s.evtState e = 1 ∧ s.runTo ((s.evt e).calStart48 + ms48 16) = some s1 ∧
      s1.evtProgramme e = false ∧ (s1.channel 45).state = .run) ∧
    (∃ (e : Fin 16) (s : State) (s1 : State), s.evtState e = 1 ∧ s.runTo ((s.evt e).calStart48 + ms48 16) = some s1 ∧
      s1.evtProgramme e = true ∧ (s1.channel 45).state = .run) ∧
    (∃ (e : Fin 16) (b : Bool) (s : State) (s1 : State), s.evtState e = 1 ∧ s.runTo ((s.evt e).calStart48 + ms48 16) =
      some s1 ∧ (b = false ∨ (s1.channel 45).state ≠ .run)) ∧
    (∃ (l : Link) (e : Fin 16) (x : EvEntry) (s : State), s.restoring 6 = false ∧ x = s.staged l e ∧ s.pushResult e x
      ≠ 0) ∧
    (∃ (l : Link) (e : Fin 16) (x : EvEntry) (s : State) (s1 : State), s.restoring 6 = false ∧ x = s.staged l e ∧
      s.pushResult e x = 0 ∧ s.evtState e ≠ 3 ∧ s1 = s.wrN (Obj.EVT_PUSH_RESULT (linkCode l) e) 0) ∧
    (∃ (e : Nat) (x : EvEntry) (y : EvEntry) (s : State), s.evtProgramme e = false ∧ (x.kind = 2 ∨ x.kind = 3) ∧
      (s.evt e).queue.length < 64 ∧ (s.evt e).queue.getLast?.or (s.evt e).last = some y ∧ s.now48 + 2000 * ns48 ≤
      s.entryAt32 e x * 2 ^ 16) ∧
    (∃ (e : Nat) (s : State), s.evtProgramme e = true) ∧
    (∃ (e : Nat) (x : EvEntry) (s : State), s.evtProgramme e = false ∧ (x.kind = 2 ∨ x.kind = 3) ∧ 64 ≤ (s.evt
      e).queue.length) ∧
    (∃ (s : State), s.restoring 6 = false) ∧
    (∃ (s : State), s.restoring 6 = false) ∧
    (∃ (s : State), s.restoring 6 = false) :=
  ⟨⟨15, st.wrN Obj.EV_ENABLE 1, _, by decide, by decide, by decide, by decide, rfl⟩,
   ⟨15, (st.wrN (Obj.EVT_EN 15) 0).wrN Obj.EV_ENABLE 0, by decide, by decide, by decide⟩,
   ⟨st, by decide⟩,
   ⟨15, (st.wrN (Obj.EVT_STATE 15) 1).setChannel 45 run, _, by decide, runTo_runs rfl rfl, by decide, by decide⟩,
   ⟨15, ((st.wrN (Obj.EVT_STATE 15) 1).setChannel 45 run).wrN (Obj.EVT_CFG 15) 1, _, by decide, runTo_runs rfl rfl,
     by decide, by decide⟩,
   ⟨15, true, st.wrN (Obj.EVT_STATE 15) 1, _, by decide, runTo_runs rfl rfl, by decide⟩,
   ⟨.pcie, 15, _, st, by decide, rfl, by decide⟩,
   ⟨.pcie, 15, _, (st.wrN (Obj.EVT_ENT_KIND (linkCode .pcie) 15) 2).wrN (Obj.EVT_ENT_AT (linkCode .pcie) 15) (2 ^ 60),
     _, by decide, rfl, by decide, by decide, rfl⟩,
   ⟨15, { ent with kind := 2, at112 := 2 ^ 100 }, ent, (fun z : State => z.setEvt 15
     { z.evt 15 with last := some ent }) st, by decide, by decide, by decide, rfl, by decide⟩,
   ⟨15, st.wrN (Obj.EVT_CFG 15) 1, by decide⟩,
   ⟨15, { ent with kind := 3 }, (fun z : State => z.setEvt 15 { z.evt 15 with queue := List.replicate 64 ent }) st,
     by decide, by decide, by decide⟩,
   ⟨st, by decide⟩,
   ⟨st, by decide⟩,
   ⟨st, by decide⟩⟩

theorem meets_EdgesAndGroupsComplete :
    (∃ (e : Fin 16) (x : EvEntry) (r : List EvEntry) (s : State) (s1 : State) (b : Int), (s.evt e).queue = x :: r ∧
      x.begun = false ∧ b = s.ball9 e (s.entryAt32 e x) ∧ s.reach (b / 512).toNat = some s1 ∧ s.now80 ≤ (b /
      512).toNat) ∧
    (∃ (e : Fin 16) (x : EvEntry) (r : List EvEntry) (s : State) (s1 : State) (b : Int), (s.evt e).queue = x :: r ∧
      x.begun = false ∧ b = s.ball9 e (s.entryAt32 e x) ∧ s.reach (b / 512).toNat = some s1 ∧ (b / 512).toNat <
      s.now80) ∧
    (∃ (e : Fin 16) (x : EvEntry) (r : List EvEntry) (s : State) (s1 : State) (b : Int), (s.evt e).queue = x :: r ∧
      x.begun = true ∧ b = s.ball9 e (s.entryEnd32 e x) ∧ s.reach (b / 512).toNat = some s1 ∧ (b / 512).toNat <
      s.now80) ∧
    (∃ (e : Fin 16) (x : EvEntry) (r : List EvEntry) (s : State) (s1 : State) (b : Int), (s.evt e).queue = x :: r ∧
      x.begun = true ∧ b = s.ball9 e (s.entryEnd32 e x) ∧ s.reach (b / 512).toNat = some s1 ∧ s.now80 ≤ (b /
      512).toNat ∧ s1.evtCauses e = 0) ∧
    (∃ (e : Fin 16) (x : EvEntry) (r : List EvEntry) (s : State) (s1 : State) (b : Int), (s.evt e).queue = x :: r ∧
      x.begun = true ∧ b = s.ball9 e (s.entryEnd32 e x) ∧ s.reach (b / 512).toNat = some s1 ∧ s.now80 ≤ (b /
      512).toNat ∧ s1.evtCauses e ≠ 0) ∧
    (∃ (e : Nat) (b : Nat) (x : EvEntry) (s : State) (s1 : State), s.evtState e = 2 ∧ s.groupOf e = none ∧ b =
      (s.ball9 e (s.entryAt32 e x)).toNat ∧ s1 = s.drive e true b ∧ s.evtCauses e ≠ 0) ∧
    (∃ (e : Nat) (b : Nat) (x : EvEntry) (s : State) (s1 : State), s.evtState e = 2 ∧ s.groupOf e = none ∧ b =
      (s.ball9 e (s.entryAt32 e x)).toNat ∧ s1 = s.drive e true b ∧ s.evtCauses e = 0 ∧ x.kind = 2) ∧
    (∃ (e : Nat) (b : Nat) (x : EvEntry) (s : State) (s1 : State), s.evtState e = 2 ∧ s.groupOf e = none ∧ b =
      (s.ball9 e (s.entryAt32 e x)).toNat ∧ s1 = s.drive e true b ∧ s.evtCauses e = 0 ∧ x.kind = 3) ∧
    (∃ (e : Nat) (b : Nat) (x : EvEntry) (s : State) (s1 : State), s.evtState e = 2 ∧ s.groupOf e = none ∧ b =
      (s.ball9 e (s.entryAt32 e x)).toNat ∧ s1 = s.drive e true b ∧ s.evtCauses e = 0 ∧ x.kind = 1) ∧
    (∃ (e : Nat) (s : State), s.evtState e < 2) ∧
    (∃ (e : Nat) (active : Bool) (s : State), (s.evt e).active ≠ active) ∧
    (∃ (e : Fin 16) (s : State) (s1 : State) (s2 : State) (b : Int), s.evtState e = 2 ∧ s.evtProgramme e = true ∧
      (s.evt e).falling = false ∧ b = s.ball9 e (recur9 (s.programmeBase9 e) (s.rdN (Obj.EVT_PRG_S e)) (s.rdN
      (Obj.EVT_PRG_N e)) (s.evt e).edge * 2 ^ 23) ∧ s.reach (b / 512).toNat = some s1 ∧ s2 = (if s1.evtCauses e = 0
      then s1.drive e true b.toNat else s1) ∧ (b / 512).toNat < s.now80) ∧
    (∃ (e : Fin 16) (s : State) (s1 : State) (s2 : State) (b : Int), s.evtState e = 2 ∧ s.evtProgramme e = true ∧
      (s.evt e).falling = false ∧ b = s.ball9 e (recur9 (s.programmeBase9 e) (s.rdN (Obj.EVT_PRG_S e)) (s.rdN
      (Obj.EVT_PRG_N e)) (s.evt e).edge * 2 ^ 23) ∧ s.reach (b / 512).toNat = some s1 ∧ s2 = (if s1.evtCauses e = 0
      then s1.drive e true b.toNat else s1) ∧ s.now80 ≤ (b / 512).toNat) ∧
    (∃ (e : Fin 16) (s : State) (s1 : State) (s2 : State) (b : Int), s.evtState e = 2 ∧ s.evtProgramme e = true ∧
      (s.evt e).falling = true ∧ b = s.ball9 e ((recur9 (s.programmeBase9 e) (s.rdN (Obj.EVT_PRG_S e)) (s.rdN
      (Obj.EVT_PRG_N e)) (s.evt e).edge + s.rdN (Obj.EVT_PRG_WIDTH e) : Nat) * 2 ^ 23) ∧ s.reach (b / 512).toNat =
      some s1 ∧ s2 = (if s1.evtCauses e = 0 then s1.drive e false b.toNat else s1) ∧ (b / 512).toNat < s.now80) ∧
    (∃ (e : Fin 16) (s : State) (s1 : State) (s2 : State) (b : Int), s.evtState e = 2 ∧ s.evtProgramme e = true ∧
      (s.evt e).falling = true ∧ b = s.ball9 e ((recur9 (s.programmeBase9 e) (s.rdN (Obj.EVT_PRG_S e)) (s.rdN
      (Obj.EVT_PRG_N e)) (s.evt e).edge + s.rdN (Obj.EVT_PRG_WIDTH e) : Nat) * 2 ^ 23) ∧ s.reach (b / 512).toNat =
      some s1 ∧ s2 = (if s1.evtCauses e = 0 then s1.drive e false b.toNat else s1) ∧ s.now80 ≤ (b / 512).toNat) ∧
    (∃ (g : Fin 4) (s : State), s.restoring 6 = false ∧ s.rdB (Obj.GRP_EN g) = false ∧ s.rdB Obj.EV_ENABLE = true ∧ (∀
      h, h < 4 → h ≠ g.val → s.rdB (Obj.GRP_EN h) = true → s.rdN (Obj.GRP_MEMBERS h) &&& s.rdN (Obj.GRP_MEMBERS g) =
      0) ∧ s.now80 + 1000000 ≤ s.rdN (Obj.GRP_START g)) ∧
    (∃ (g : Fin 4) (s : State), s.restoring 6 = false ∧ s.rdB (Obj.GRP_EN g) = false ∧ (s.rdB Obj.EV_ENABLE = false ∨
      s.rdN (Obj.GRP_START g) < s.now80 + 1000000)) ∧
    (∃ (g : Fin 4) (s : State), s.restoring 6 = false ∧ s.rdB (Obj.GRP_EN g) = true) ∧
    (∃ (g : Fin 4) (s : State) (s1 : State) (b : Nat), s.rdB (Obj.GRP_EN g) = true ∧ b = s.boundary9 g (s.groupNext g)
      ∧ s.reach (b / 512) = some s1) ∧
    (∃ (g : Nat) (e : Nat) (s : State), g < 4 ∧ e < 16 ∧ bitOn (s.rdN (Obj.GRP_MEMBERS g)) e = true ∧ s.evtProgramme e
      = false ∧ s.evtState e = 2 ∧ (s.evt e).queue = []) ∧
    (∃ (g : Nat) (e : Nat) (s : State), bitOn (s.rdN (Obj.GRP_MEMBERS g)) e = false) :=
  ⟨⟨15, ent, [], (fun z : State => z.setEvt 15 { z.evt 15 with queue := ent :: [] }) st, _, _, rfl, by decide, rfl,
     reach_runs rfl rfl, by decide⟩,
   ⟨15, ent, [],
     { ((fun z : State => z.setEvt 15 { z.evt 15 with queue := ent :: [] }) st) with clk.ts := ⟨1, 0, 0⟩ }, _, _, rfl,
     by decide, rfl, reach_runs rfl rfl, by decide⟩,
   ⟨15, { ent with begun := true }, [],
     { ((fun z : State => z.setEvt 15 { z.evt 15 with queue := ({ ent with begun := true }) :: [] }) st) with clk.ts := ⟨1, 0, 0⟩ },
     _, _, rfl, by decide, rfl, reach_runs rfl rfl, by decide⟩,
   ⟨15, { ent with begun := true }, [], ((fun z : State => z.setEvt 15
     { z.evt 15 with queue := ({ ent with begun := true }) :: [] }) (out)).wrN (Obj.EVT_STATE 15) 2, _, _, rfl,
     by decide, rfl, reach_runs rfl rfl, by decide, by decide⟩,
   ⟨15, { ent with begun := true }, [], (fun z : State => z.setEvt 15
     { z.evt 15 with queue := ({ ent with begun := true }) :: [] }) st, _, _, rfl, by decide, rfl, reach_runs rfl rfl,
     by decide, by decide⟩,
   ⟨15, _, ent, st.wrN (Obj.EVT_STATE 15) 2, _, by decide, by decide, rfl, rfl, by decide⟩,
   ⟨15, _, { ent with kind := 2 }, (out).wrN (Obj.EVT_STATE 15) 2, _, by decide, by decide, rfl, rfl, by decide,
     by decide⟩,
   ⟨15, _, { ent with kind := 3 }, (out).wrN (Obj.EVT_STATE 15) 2, _, by decide, by decide, rfl, rfl, by decide,
     by decide⟩,
   ⟨15, _, { ent with kind := 1 }, (out).wrN (Obj.EVT_STATE 15) 2, _, by decide, by decide, rfl, rfl, by decide,
     by decide⟩,
   ⟨0, st, by decide⟩,
   ⟨0, true, st, by decide⟩,
   ⟨15,
     { (((fun z : State => z.setEvt 15 { z.evt 15 with falling := false }) ((out).wrN (Obj.EVT_STATE 15) 2)).wrN (Obj.EVT_CFG 15) 1) with clk.ts := ⟨1, 0, 0⟩ },
     _, _, _, by decide, by decide, by decide, rfl, reach_runs rfl rfl, rfl, by decide⟩,
   ⟨15, ((fun z : State => z.setEvt 15 { z.evt 15 with falling := false }) ((out).wrN (Obj.EVT_STATE 15) 2)).wrN
     (Obj.EVT_CFG 15) 1, _, _, _, by decide, by decide, by decide, rfl, reach_runs rfl rfl, rfl, by decide⟩,
   ⟨15,
     { (((fun z : State => z.setEvt 15 { z.evt 15 with falling := true }) ((out).wrN (Obj.EVT_STATE 15) 2)).wrN (Obj.EVT_CFG 15) 1) with clk.ts := ⟨1, 0, 0⟩ },
     _, _, _, by decide, by decide, by decide, rfl, reach_runs rfl rfl, rfl, by decide⟩,
   ⟨15, ((fun z : State => z.setEvt 15 { z.evt 15 with falling := true }) ((out).wrN (Obj.EVT_STATE 15) 2)).wrN
     (Obj.EVT_CFG 15) 1, _, _, _, by decide, by decide, by decide, rfl, reach_runs rfl rfl, rfl, by decide⟩,
   ⟨3, ((st.wrN (Obj.GRP_EN 3) 0).wrN Obj.EV_ENABLE 1).wrN (Obj.GRP_START 3) 1000000, by decide, by decide, by decide,
     by decide, by decide⟩,
   ⟨3, st.wrN (Obj.GRP_EN 3) 0, by decide, by decide, by decide⟩,
   ⟨3, st.wrN (Obj.GRP_EN 3) 1, by decide, by decide⟩,
   ⟨3, st.wrN (Obj.GRP_EN 3) 1, _, _, by decide, rfl, reach_runs rfl rfl⟩,
   ⟨3, 15, ((fun z : State => z.setEvt 15 { z.evt 15 with queue := [] }) (st.wrN (Obj.EVT_STATE 15) 2)).wrN
     (Obj.GRP_MEMBERS 3) 65535, by decide, by decide, by decide, by decide, by decide, by decide⟩,
   ⟨0, 0, st, by decide⟩⟩

theorem meets_PortCommandsComplete :
    (∃ (p : Fin 8) (s : State), s.restoring 8 = false ∧ s.rdB (Obj.PORT_EN p) = false ∧ s.portConfigGood p = true ∧
      s.rdB Obj.ETH_ENABLE = true) ∧
    (∃ (p : Fin 8) (s : State), s.restoring 8 = false ∧ s.rdB (Obj.PORT_EN p) = false ∧ s.portConfigGood p = true ∧
      s.rdB Obj.ETH_ENABLE = false) ∧
    (∃ (p : Fin 8) (s : State), s.restoring 8 = false ∧ s.rdB (Obj.PORT_EN p) = false ∧ s.portConfigGood p = false) ∧
    (∃ (s : State), s.restoring 8 = false) ∧
    (∃ (p : Nat) (s : State), (s.rdN (Obj.PORT_MAC p) = 0 ∨ s.rdN (Obj.PORT_BUF_HI p) ≤ s.rdN (Obj.PORT_BUF_LO p) ∨
      (s.speed p = 4 ∧ p % 2 = 1))) ∧
    (∃ (s : State), s.restoring 8 = false) ∧
    (∃ (s : State), s.restoring 8 = false) ∧
    (∃ (p : Fin 8) (s : State), s.portState p = 1) ∧
    (∃ (p : Fin 8) (s : State), s.portState p = 2 ∧ s.active (Src.PORT_DESKEW_FAIL p) = false) ∧
    (∃ (p : Fin 8) (s : State) (s1 : State), s.portState p = 2 ∧ s.active (Src.PORT_DESKEW_FAIL p) = true ∧ s.runTo
      ((s.port p).since48 + ms48 10) = some s1) ∧
    (∃ (p : Nat) (sp : Nat), p < 8 ∧ sp ≤ 11796480) ∧
    (∃ (p : Nat) (sp : Nat) (s : State), p < 8 ∧ sp ≤ 11796480 ∧ s.slotState (8 + p) = Sl.LOS) ∧
    (∃ (p : Nat) (sp : Nat), p < 8 ∧ 11796480 < sp) ∧
    (∃ (p : Fin 8) (s : State), s.portState p = 3) ∧
    (∃ (p : Fin 8) (s : State) (s1 : State), s.portState p = 4 ∧ s.runTo ((s.port p).since48 + ms48 10) = some s1) ∧
    (∃ (p : Nat) (s : State), p < 8 ∧ s.portState p = 3) ∧
    (∃ (p : Nat) (s : State), p < 8 ∧ s.portState p ≠ 3) ∧
    (∃ (p : Fin 8) (k : Nat) (q : Nat) (s : State) (s1 : State) (s2 : State) (again : Option Nat), (s.port p).pause =
      some (k, q) ∧ s.portSends p = true ∧ s.reach (s.blockTime p k / ns48) = some s1 ∧ s1.portSends p = true ∧ (again
      = (if 0 < q ∧ s1.rdN (Obj.PORT_BUF_LO p) ≤ s1.ingress p then some (s1.up48 + q * s1.quantum48 p / 2) else none))
      ∧ s2 = (((s1.setPort p { s1.port p with pause := none, repeat48 := again }).stick (Obj.PORT_STICKY p)
      6).portEvent p 11 1).launchAt p (s1.blockTime p k) (pauseFrame (s1.rdN (Obj.PORT_MAC p)) q) ∧ (q = 0 ∨ s1.rdN
      (Obj.PORT_BUF_LO p) ≤ s1.ingress p)) ∧
    (∃ (p : Fin 8) (k : Nat) (q : Nat) (s : State) (s1 : State) (s2 : State) (again : Option Nat), (s.port p).pause =
      some (k, q) ∧ s.portSends p = true ∧ s.reach (s.blockTime p k / ns48) = some s1 ∧ s1.portSends p = true ∧ (again
      = (if 0 < q ∧ s1.rdN (Obj.PORT_BUF_LO p) ≤ s1.ingress p then some (s1.up48 + q * s1.quantum48 p / 2) else none))
      ∧ s2 = (((s1.setPort p { s1.port p with pause := none, repeat48 := again }).stick (Obj.PORT_STICKY p)
      6).portEvent p 11 1).launchAt p (s1.blockTime p k) (pauseFrame (s1.rdN (Obj.PORT_MAC p)) q) ∧ 0 < q ∧ s1.ingress
      p < s1.rdN (Obj.PORT_BUF_LO p)) ∧
    (∃ (p : Fin 8) (k : Nat) (q : Nat) (s : State) (s1 : State), (s.port p).pause = some (k, q) ∧ s.portSends p = true
      ∧ s.reach (s.blockTime p k / ns48) = some s1 ∧ s1.portSends p = false) ∧
    (∃ (p : Fin 8) (k : Nat) (q : Nat) (s : State), (s.port p).pause = some (k, q) ∧ s.portSends p = false) ∧
    (∃ (p : Fin 8) (due : Nat) (s : State) (s1 : State) (s2 : State), (s.port p).repeat48 = some due ∧ s.runTo due =
      some s1 ∧ s2 = s1.setPort p { s1.port p with repeat48 := none } ∧ s2.rdN (Obj.PORT_BUF_LO p) ≤ s2.ingress p) ∧
    (∃ (p : Fin 8) (due : Nat) (s : State) (s1 : State) (s2 : State), (s.port p).repeat48 = some due ∧ s.runTo due =
      some s1 ∧ s2 = s1.setPort p { s1.port p with repeat48 := none } ∧ s2.ingress p < s2.rdN (Obj.PORT_BUF_LO p)) ∧
    (∃ (p : Fin 8) (due : Nat) (s : State) (s1 : State), (s.port p).held48 = some due ∧ s.runTo due = some s1) :=
  ⟨⟨7, (((st.wrN (Obj.PORT_EN 7) 0).wrN Obj.ETH_ENABLE 1).wrN (Obj.PORT_MAC 7) 5).wrN (Obj.PORT_CFG 7) 0xC2,
     by decide, by decide, by decide, by decide⟩,
   ⟨7, (((st.wrN (Obj.PORT_EN 7) 0).wrN Obj.ETH_ENABLE 0).wrN (Obj.PORT_MAC 7) 5).wrN (Obj.PORT_CFG 7) 0xC2,
     by decide, by decide, by decide, by decide⟩,
   ⟨7, st.wrN (Obj.PORT_EN 7) 0, by decide, by decide, by decide⟩,
   ⟨st, by decide⟩,
   ⟨0, st, by decide⟩,
   ⟨st, by decide⟩,
   ⟨st, by decide⟩,
   ⟨7, st.wrN (Obj.PORT_STATE 7) 1, by decide⟩,
   ⟨7, (st.wrN (Obj.PORT_STATE 7) 2).cond (Src.PORT_DESKEW_FAIL 7) false, by decide, by decide⟩,
   ⟨7, (st.wrN (Obj.PORT_STATE 7) 2).cond (Src.PORT_DESKEW_FAIL 7) true, _, by decide, by decide, runTo_runs rfl rfl⟩,
   ⟨7, 11796480, by decide, by decide⟩,
   ⟨7, 11796480, st.wrN (Obj.SLOT_STATE (8 + 7)) 1, by decide, by decide, by decide⟩,
   ⟨7, 11796481, by decide, by decide⟩,
   ⟨7, st.wrN (Obj.PORT_STATE 7) 3, by decide⟩,
   ⟨7, st.wrN (Obj.PORT_STATE 7) 4, _, by decide, runTo_runs rfl rfl⟩,
   ⟨7, st.wrN (Obj.PORT_STATE 7) 3, by decide, by decide⟩,
   ⟨7, st, by decide, by decide⟩,
   ⟨7, 0, 0, (((fun z : State => z.setPort 7 { z.port 7 with pause := some (0, 0) }) st).wrN (Obj.PORT_STATE 7) 3).wrN
     Obj.APLLB_STATE 1, _, _, _, rfl, by decide, reach_runs rfl rfl, by decide, rfl, rfl, by decide⟩,
   ⟨7, 0, 1, ((((fun z : State => z.setPort 7 { z.port 7 with pause := some (0, 1) }) st).wrN (Obj.PORT_STATE 7)
     3).wrN Obj.APLLB_STATE 1).wrN (Obj.PORT_BUF_LO 7) 1, _, _, _, rfl, by decide, reach_runs rfl rfl, by decide, rfl,
     rfl, by decide, by decide⟩,
   ⟨7, 1000, 0,
     { ((((fun z : State => z.setPort 7 { z.port 7 with pause := some (1000, 0) }) st).wrN (Obj.PORT_STATE 7) 3).wrN Obj.APLLB_STATE 1) with ctl.boot.cwrole := 1, ctl.lease := ⟨true, 0, 0, 10 * 2 ^ 48, 0⟩ },
     _, rfl, by decide, reach_runs rfl rfl, by decide⟩,
   ⟨7, 0, 0, (fun z : State => z.setPort 7 { z.port 7 with pause := some (0, 0) }) st, rfl, by decide⟩,
   ⟨7, 0, ((fun z : State => z.setPort 7 { z.port 7 with repeat48 := some 0 }) st).wrN (Obj.PORT_BUF_LO 7) 0, _, _,
     rfl, runTo_runs rfl rfl, rfl, by decide⟩,
   ⟨7, 0, (fun z : State => z.setPort 7 { z.port 7 with repeat48 := some 0 }) st, _, _, rfl, runTo_runs rfl rfl, rfl,
     by decide⟩,
   ⟨7, 0, (fun z : State => z.setPort 7 { z.port 7 with held48 := some 0 }) st, _, rfl, runTo_runs rfl rfl⟩⟩

theorem meets_FrameReceptionCompletes :
    (∃ (p : Fin 8) (s : State), s.portState p = 3 ∧ s.portGood p = true) ∧
    (∃ (f : RxFrame), f.complete = false) ∧
    (∃ (p : Nat) (f : RxFrame) (s : State) (s1 : State), f.complete = true ∧ s1 = (s.portEvent p 0 1).portEvent p 1
      (f.octets.length + 4) ∧ f.fcsOk = false) ∧
    (∃ (p : Nat) (f : RxFrame) (s : State) (s1 : State), f.complete = true ∧ s1 = (s.portEvent p 0 1).portEvent p 1
      (f.octets.length + 4) ∧ f.fcsOk = true ∧ (f.octets.length + 4 < 64 ∨ s.rdN (Obj.PORT_MTU p) < f.octets.length +
      4)) ∧
    (∃ (p : Nat) (f : RxFrame) (s : State) (s1 : State) (k : Packet), f.complete = true ∧ f.fcsOk = true ∧ k =
      packetOf f.octets ∧ s1 = (s.portEvent p 0 1).portEvent p 1 (f.octets.length + 4) ∧ 64 ≤ f.octets.length + 4 ∧
      f.octets.length + 4 ≤ s.rdN (Obj.PORT_MTU p) ∧ k.ethertype ≠ 0x8808 ∧ k.header = true ∧ k.sum ≠ 1 ∧ s.ingress p
      + (f.octets.length + 4) ≤ 524288) ∧
    (∃ (p : Nat) (k : Packet) (s : State), s.ruleFor p k = none ∧ s.rdN Obj.DRV_DEFAULT = 0) ∧
    (∃ (p : Nat) (n : Nat) (k : Packet) (s : State), s.ruleFor p k = some n) ∧
    (∃ (p : Nat) (n : Nat) (k : Packet) (s : State) (m : Nat), s.ruleFor p k = some n ∧ m < n) ∧
    (∃ (n : Nat) (k : Packet) (s : State), (s.rdB (Obj.RULE_EN n) = false ∨ (k.fragment = true ∧ s.ruleAction n = 1))) ∧
    (∃ (q : Nat) (s : State), s.rdB (Obj.POL_EN q) = false ∧ s.drvUnsafe (64 + q) = false) ∧
    (∃ (n : Fin 64) (s : State), s.restoring 13 = false ∧ s.rdB (Obj.RULE_EN n) = false ∧ s.ruleGood n = false) ∧
    (∃ (n : Fin 64) (v : Bool) (s : State), s.restoring 13 = false ∧ (v = false ∨ s.rdB (Obj.RULE_EN n) = true ∨
      s.ruleGood n = true)) :=
  ⟨⟨7, st.wrN (Obj.PORT_STATE 7) 3, by decide, by decide⟩,
   ⟨{ fr with complete := false }, by decide⟩,
   ⟨7, { fr with fcsOk := false }, st, _, by decide, rfl, by decide⟩,
   ⟨7, { fr with octets := [] }, st, _, by decide, rfl, by decide, by decide⟩,
   ⟨7, fr, st, _, (packetOf fr.octets), by decide, by decide, rfl, rfl, by decide, by decide, by decide, by decide,
     by decide, by decide⟩,
   ⟨7, pkt, st.wrN Obj.DRV_DEFAULT 0, by decide, by decide⟩,
   ⟨7, 63, pkt, (st.wrN (Obj.RULE_EN 63) 1).wrN (Obj.RULE_MATCH 63) (2 ^ 55), rfl⟩,
   ⟨7, 63, pkt, (st.wrN (Obj.RULE_EN 63) 1).wrN (Obj.RULE_MATCH 63) (2 ^ 55), 62, rfl, by decide⟩,
   ⟨63, pkt, st.wrN (Obj.RULE_EN 63) 0, by decide⟩,
   ⟨0, st.wrN (Obj.POL_EN 0) 0, by decide, by decide⟩,
   ⟨63, (st.wrN (Obj.RULE_EN 63) 0).wrN (Obj.RULE_ACTION 63) (64 * 2 ^ 24), by decide, by decide, by decide⟩,
   ⟨63, true, st, by decide, by decide⟩⟩

theorem meets_SlowPathAndGatesComplete :
    (∃ (p : Fin 8) (s : State), (s.ahead (11 + p)).nextTaken (11 + p) = none) ∧
    (∃ (p : Fin 8) (o : Option (List Octet)) (s : State) (s1 : State) (t : Taken) (st : Nat), s1 = s.ahead (11 + p) ∧
      s1.nextTaken (11 + p) = some t ∧ s1.slowStatus p t.desc o = some st) ∧
    (∃ (p : Fin 8) (o : List Octet) (s : State) (s1 : State) (s2 : State) (t : Taken) (b : List Octet), s1 = s.ahead
      (11 + p) ∧ s1.nextTaken (11 + p) = some t ∧ s1.slowStatus p t.desc (some o) = none ∧ s2 = s1.takeStart (11 + p)
      t ∧ b = padTo (max 60 t.desc.length) (padTo t.desc.length o)) ∧
    (∃ (d : Posted), d.length < 14) ∧
    (∃ (p : Nat) (d : Posted) (s : State), 14 ≤ d.length ∧ s.rdN (Obj.PORT_MTU p) - 4 < d.length) ∧
    (∃ (p : Nat) (d : Posted) (s : State), 14 ≤ d.length ∧ d.length ≤ s.rdN (Obj.PORT_MTU p) - 4 ∧ s.slowOpen p =
      false) ∧
    (∃ (p : Fin 8) (s : State), s.slowOpen p = false) ∧
    (∃ (p : Fin 8) (q : Nat) (s : State) (s1 : State) (s2 : State), s.slowOpen p = true ∧ (s.port p).queues ≠ [] ∧
      s.portSends p = true ∧ (s.port p).held48 = none ∧ s.rdB Obj.VD_DATA_EN = true ∧ s1 = (s.prune p).turnOn 80000 p
      ∧ s1.offer p (s1.firstBlock p s1.now48) = some q ∧ s2 = s1.holdQueues p (s1.firstBlock p s1.now48) (some q) ∧
      s2.leaseAt (s2.blockTime p (s1.firstBlock p s1.now48)) = true) ∧
    (∃ (p : Fin 8) (s : State) (s1 : State), s.slowOpen p = true ∧ (s.port p).queues ≠ [] ∧ s.portSends p = true ∧
      (s.port p).held48 = none ∧ s.rdB Obj.VD_DATA_EN = true ∧ s1 = (s.prune p).turnOn 80000 p ∧ s1.offer p
      (s1.firstBlock p s1.now48) = none) ∧
    (∃ (p : Nat) (q : Nat) (h : QueuedFrame) (r : List QueuedFrame) (s : State), s.queue p q = h :: r ∧ (s.port
      p).turn = q ∧ (s.port p).gained = true ∧ s.counted p h ≤ s.deficit p q) ∧
    (∃ (k : Nat) (d : Posted) (s : State), (d.own = false ∨ s.takesOne k d = false)) ∧
    (∃ (p : Fin 8) (s : State), s.restoring 13 = false ∧ s.rdB (Obj.GATE_EN p) = false ∧ gateListGood (s.rdN
      (Obj.GATE_CYCLE p)) (s.gateList p) = true) ∧
    (∃ (p : Fin 8) (s : State), s.restoring 13 = false ∧ s.rdB (Obj.GATE_EN p) = false ∧ gateListGood (s.rdN
      (Obj.GATE_CYCLE p)) (s.gateList p) = false) ∧
    (∃ (s : State), s.restoring 13 = false) ∧
    (∃ (sec : BitVec 48) (ns : Fin 1000000000) (s : State) (t : Nat), s.restoring 13 = false ∧ t = sec.toNat * giga +
      ns ∧ t < s.now80 + 1000000) ∧
    (∃ (p : Fin 8) (sec : BitVec 48) (ns : Fin 1000000000) (s : State) (t : Nat), s.restoring 13 = false ∧ t =
      sec.toNat * giga + ns ∧ s.now80 + 1000000 ≤ t ∧ gateListGood (s.rdN (Obj.ADM_CYCLE p)) (s.adminList p) = false) ∧
    (∃ (p : Fin 8) (sec : BitVec 48) (ns : Fin 1000000000) (s : State) (t : Nat), s.restoring 13 = false ∧ t =
      sec.toNat * giga + ns ∧ s.now80 + 1000000 ≤ t ∧ gateListGood (s.rdN (Obj.ADM_CYCLE p)) (s.adminList p) = true) ∧
    (∃ (p : Fin 8) (t : Nat) (s : State) (s1 : State), (s.port p).switch = some t ∧ s.reach t = some s1 ∧
      s1.leaseCurrent = true) ∧
    (∃ (p : Fin 8) (t : Nat) (s : State) (s1 : State), (s.port p).switch = some t ∧ s.reach t = some s1 ∧
      s1.leaseCurrent = false) ∧
    (∃ (p : Nat) (s : State), p < 8 ∧ s.hostWrote (Obj.GATE_LEN p) = false ∧ s.hostWrote (Obj.GATE_CYCLE p) = false) ∧
    (∃ (p : Fin 8) (s : State) (s1 : State), (s.port p).gates.isSome = true ∧ s.leaseCurrent = true ∧ s.reach (ceilDiv
      (s.gateState p (s.port p).gateAt48).2 ns48) = some s1 ∧ s1.leaseCurrent = true) ∧
    (∃ (p : Fin 8) (s : State) (s1 : State), (s.port p).gates.isSome = true ∧ s.leaseCurrent = true ∧ s.reach (ceilDiv
      (s.gateState p (s.port p).gateAt48).2 ns48) = some s1 ∧ s1.leaseCurrent = false) :=
  ⟨⟨7, st, by decide⟩,
   ⟨7, none, ((((fun z : State => z.setRing 18 { z.ring 18 with taken := [⟨0, { dsc with length := 13 }, false⟩] })
     st).wrN (Obj.RING_EN 18) 1).wrN (Obj.RING_STATE 18) 1).wrN Obj.HL_LINK 0x300, _, ⟨0, { dsc with length := 13 },
     false⟩, 2, rfl, rfl, rfl⟩,
   ⟨7, [], (((((fun z : State => z.setRing 18 { z.ring 18 with taken := [⟨0, dsc, false⟩] }) st).wrN (Obj.RING_EN 18)
     1).wrN (Obj.RING_STATE 18) 1).wrN Obj.HL_LINK 0x300).wrN (Obj.PORT_STATE 7) 3, _, _, ⟨0, dsc, false⟩, _, rfl,
     rfl, by decide, rfl, rfl⟩,
   ⟨{ dsc with length := 13 }, by decide⟩,
   ⟨7, { dsc with length := 2 ^ 31 }, st, by decide, by decide⟩,
   ⟨0, dsc, st, by decide, by decide, by decide⟩,
   ⟨7, st, by decide⟩,
   ⟨7, 0, (fun z : State => z.setPort 7
     { z.port 7 with queues := [(0, [⟨0, dsc, List.replicate 60 0⟩])], deficits := [(0, 1000)] }) (((((fun z : State
     => z.setPort 7 { z.port 7 with held48 := none }) st).wrN Obj.VD_DATA_EN 1).wrN (Obj.PORT_STATE 7) 3).wrN
     Obj.APLLB_STATE 1), _, _, by decide, by decide, by decide, by decide, by decide, rfl, by decide +kernel, rfl,
     by decide⟩,
   ⟨7, (fun z : State => z.setPort 7
     { z.port 7 with queues := [(0, [⟨0, dsc, List.replicate 60 0⟩])], deficits := [(0, 100000)], gained := true, holds := [(0, 2 ^ 40)] })
     (((((fun z : State => z.setPort 7 { z.port 7 with held48 := none }) st).wrN Obj.VD_DATA_EN 1).wrN (Obj.PORT_STATE
     7) 3).wrN Obj.APLLB_STATE 1), _, by decide, by decide, by decide, by decide, by decide, rfl, by decide +kernel⟩,
   ⟨7, 0, ⟨0, dsc, List.replicate 60 0⟩, [], (fun z : State => z.setPort 7
     { z.port 7 with queues := [(0, [⟨0, dsc, List.replicate 60 0⟩])], deficits := [(0, 100000)], gained := true })
     ((fun z : State => z.setPort 7 { z.port 7 with gained := true }) ((fun z : State => z.setPort 7
     { z.port 7 with turn := 0 }) st)), rfl, by decide, by decide, by decide⟩,
   ⟨18, { dsc with own := false }, st, by decide⟩,
   ⟨7, (((st.wrN (Obj.GATE_EN 7) 0).wrBlob (List.replicate 512 0) (Obj.GATE_LIST 7) [0, 3, 0, 0, 0xE8, 3, 0, 0]).wrN
     (Obj.GATE_LEN 7) 1).wrN (Obj.GATE_CYCLE 7) 1000, by decide, by decide, by decide⟩,
   ⟨7, st.wrN (Obj.GATE_EN 7) 0, by decide, by decide, by decide⟩,
   ⟨st, by decide⟩,
   ⟨0, 0, st, _, by decide, rfl, by decide⟩,
   ⟨7, 1, 0, st, _, by decide, rfl, by decide, by decide⟩,
   ⟨7, 1, 0, ((st.wrBlob (List.replicate 512 0) (Obj.ADM_LIST 7) [0, 3, 0, 0, 0xE8, 3, 0, 0]).wrN (Obj.ADM_LEN 7)
     1).wrN (Obj.ADM_CYCLE 7) 1000, _, by decide, rfl, by decide, by decide⟩,
   ⟨7, 0, (fun z : State => z.setPort 7 { z.port 7 with switch := some 0 }) st, _, rfl, reach_runs rfl rfl, by decide⟩,
   ⟨7, 1000,
     { ((fun z : State => z.setPort 7 { z.port 7 with switch := some 1000 }) ((fun z : State => z.setPort 7 { z.port 7 with switch := some 1000 }) st)) with ctl.boot.cwrole := 1, ctl.lease := ⟨true, 0, 0, 10 * 2 ^ 48, 0⟩ },
     _, rfl, reach_runs rfl rfl, by decide⟩,
   ⟨7, st, by decide, by decide, by decide⟩,
   ⟨7, (fun z : State => z.setPort 7 { z.port 7 with gates := some 0 }) st, _, by decide, by decide, reach_runs rfl
     rfl, by decide⟩,
   ⟨7,
     { ((fun z : State => z.setPort 7 { z.port 7 with gates := some 0 }) (((st.wrBlob (List.replicate 512 0) (Obj.GATE_LIST 7) [0, 3, 0, 0, 0xE8, 3, 0, 0]).wrN (Obj.GATE_LEN 7) 1).wrN (Obj.GATE_CYCLE 7) 1000)) with ctl.boot.cwrole := 1, ctl.lease := ⟨true, 0, 0, 10 * 2 ^ 48, 0⟩ },
     _, by decide, by decide, reach_runs rfl rfl, by decide⟩⟩

theorem meets_ReceiversAndTrackingComplete :
    (∃ (b : Fin 4) (s : State), s.feState b = 2) ∧
    (∃ (b : Fin 4) (s : State), (s.feState b = 1 ∨ s.feState b = 3) ∧ s.apllA = true) ∧
    (∃ (b : Nat) (s : State), bitOn (s.rdN (Obj.FE_CFG b)) 0 = false) ∧
    (∃ (s : State), s.apllA = false) ∧
    (∃ (r : Fin 2) (g : Fin 9) (sv : BitVec 8) (x : SearchEnd) (s : State) (s1 : State), s.maySearch r g sv.toNat =
      true ∧ s.handover r g sv.toNat = none ∧ s.runTo (s.searchEnd r g sv.toNat) = some s1 ∧ s1.detects r g sv.toNat x
      = true) ∧
    (∃ (r : Fin 2) (g : Fin 9) (sv : BitVec 8) (x : SearchEnd) (s : State) (s1 : State), s.maySearch r g sv.toNat =
      true ∧ s.handover r g sv.toNat = none ∧ s.runTo (s.searchEnd r g sv.toNat) = some s1 ∧ s1.detects r g sv.toNat x
      = false) ∧
    (∃ (r : Fin 2) (g : Fin 9) (sv : BitVec 8) (o : Oscillators) (s : State), s.maySearch r g sv.toNat = true ∧
      s.handover r g sv.toNat = some o) ∧
    (∃ (r : Nat) (c : Nat) (s : State), s.freeChannel r = some c) ∧
    (∃ (r : Nat) (s : State), s.freeChannel r = none) ∧
    (∃ (r : Nat) (s : State), s.aided r = true) ∧
    (∃ (r : Nat) (s : State), s.aided r = false) ∧
    (∃ (r : Nat) (c : Nat) (s : State), s.freeChannel r = some c) ∧
    (∃ (r : Nat) (c : Nat) (s : State) (d : Nat), s.freeChannel r = some c ∧ d < c) ∧
    (∃ (d : Detection) (rest : List Detection) (s : State) (s1 : State), s.gn.waiting = d :: rest ∧ s.runTo (d.at48 +
      sec48) = some s1) ∧
    (∃ (c : Fin 192) (s : State) (s1 : State), s.trkState c = 1 ∧ s.runTo ((s.tracker c).since48 + ms48 500) = some
      s1) ∧
    (∃ (c : Fin 192) (s : State) (s1 : State), s.trkState c = 1 ∧ s.runTo ((s.tracker c).since48 + 2 * sec48) = some
      s1) ∧
    (∃ (c : Fin 192) (s : State), s.trkState c = 2) ∧
    (∃ (c : Fin 192) (s : State), s.trkState c = 3 ∧ s.up48 ≤ (s.tracker c).since48 + 2 * sec48 ∧ s.feState (s.trkBand
      c) = 2 ∧ s.bandUnsafe (s.trkBand c) = false) ∧
    (∃ (c : Fin 192) (s : State) (s1 : State), s.trkState c = 3 ∧ s.runTo ((s.tracker c).since48 + 2 * sec48) = some
      s1) ∧
    (∃ (c : Nat), c < 192) ∧
    (∃ (r : Fin 2) (s : State) (o : Nat), s.restoring 7 = false ∧ s.rdB (Obj.RX_EN r) = false ∧ o = (if s.rdB
      (Obj.RX_EN (1 - r.val)) then s.rdN (Obj.RX_CH_QUOTA (1 - r.val)) else 0) ∧ (192 < s.rdN (Obj.RX_CH_QUOTA r) + o
      ∨ (s.rdN (Obj.RX_MODE r) = 1 ∧ s.rdB (Obj.RX_POS_VALID r) = false))) ∧
    (∃ (r : Fin 2) (s : State) (o : Nat), s.restoring 7 = false ∧ s.rdB (Obj.RX_EN r) = false ∧ o = (if s.rdB
      (Obj.RX_EN (1 - r.val)) then s.rdN (Obj.RX_CH_QUOTA (1 - r.val)) else 0) ∧ s.rdN (Obj.RX_CH_QUOTA r) + o ≤ 192 ∧
      (s.rdN (Obj.RX_MODE r) ≠ 1 ∨ s.rdB (Obj.RX_POS_VALID r) = true)) ∧
    (∃ (r : Fin 2) (s : State), s.restoring 7 = false ∧ s.rdB (Obj.RX_EN r) = true) ∧
    (∃ (r : Fin 2) (x : Int) (y : Int) (z : Int) (s : State) (s1 : State), s.restoring 7 = false ∧ s1 = s.wrBlob
      (List.replicate 24 0) (Obj.RX_POS r) (posOctets x y z)) ∧
    (∃ (s : State) (s1 : State), s.restoring 7 = false ∧ s.rdB Obj.GN_ENABLE = false ∧ s1 = s.wr Obj.GN_ENABLE 1) ∧
    (∃ (s : State), s.restoring 7 = false) ∧
    (∃ (r : Fin 2) (age : Nat) (t : Nat) (s : State) (s1 : State), (s.rx r).almanac = some (age, t) ∧ s.runTo (t +
      (s.rdN (Obj.RX_ALM_MAXAGE r) * 86400 + 1 - age) * sec48) = some s1) ∧
    (∃ (r : Fin 2) (s : State), (s.rx r).almanac = none) :=
  ⟨⟨3, st.wrN (Obj.FE_STATE 3) 2, by decide⟩,
   ⟨3, (st.wrN Obj.APLLA_STATE 1).wrN (Obj.FE_STATE 3) 3, by decide, by decide⟩,
   ⟨0, (((st.wrN (Obj.RX_EN 1) 1).wrN (Obj.FE_STATE 2) 2).wrN (Obj.FE_LO_NUM 2) 13).wrN (Obj.FE_LO_DEN 2) 1,
     by decide⟩,
   ⟨(((((st.wrN Obj.APLLA_STATE 0).wrN (Obj.RX_EN 1) 1).wrN (Obj.FE_STATE 2) 2).wrN (Obj.FE_LO_NUM 2) 13).wrN
     (Obj.FE_LO_DEN 2) 1).wrN (Obj.RX_CH_QUOTA 1) 0, by decide⟩,
   ⟨1, 0, 1, ⟨2 ^ 32, 0, 0, true⟩, (((st.wrN (Obj.RX_EN 1) 1).wrN (Obj.FE_STATE 2) 2).wrN (Obj.FE_LO_NUM 2) 13).wrN
     (Obj.FE_LO_DEN 2) 1, _, by decide, by decide, runTo_runs rfl rfl, by decide +kernel⟩,
   ⟨1, 0, 1, ⟨0, 0, 0, false⟩, (((st.wrN (Obj.RX_EN 1) 1).wrN (Obj.FE_STATE 2) 2).wrN (Obj.FE_LO_NUM 2) 13).wrN
     (Obj.FE_LO_DEN 2) 1, _, by decide, by decide, runTo_runs rfl rfl, by decide⟩,
   ⟨1, 0, 1, _, (((((st.wrN (Obj.RX_EN 1) 1).wrN (Obj.FE_STATE 2) 2).wrN (Obj.FE_LO_NUM 2) 13).wrN (Obj.FE_LO_DEN 2)
     1).wrN (Obj.TRK_STATE 0) 2).wrN (Obj.TRK_ASSIGN 0) 0x163, by decide, rfl⟩,
   ⟨0, _, st, rfl⟩,
   ⟨1, st.wrN (Obj.RX_CH_QUOTA 1) 0, by decide⟩,
   ⟨1, (fun z : State => z.setRx 1 { z.rx 1 with almanac := some (0, 0) }) ((st.wrN (Obj.RX_POS_VALID 1) 1).wrN
     Obj.TS_VALID 1), by decide⟩,
   ⟨0, st, by decide⟩,
   ⟨0, _, st, rfl⟩,
   ⟨1, 1, st.wrN (Obj.TRK_STATE 0) 1, 0, rfl, by decide⟩,
   ⟨det, [], { st with gn.waiting := det :: [] }, _, rfl, runTo_runs rfl rfl⟩,
   ⟨191, st.wrN (Obj.TRK_STATE 191) 1, _, by decide, runTo_runs rfl rfl⟩,
   ⟨191, st.wrN (Obj.TRK_STATE 191) 1, _, by decide, runTo_runs rfl rfl⟩,
   ⟨191, st.wrN (Obj.TRK_STATE 191) 2, by decide⟩,
   ⟨191, (st.wrN (Obj.TRK_STATE 191) 3).wrN (Obj.FE_STATE 0) 2, by decide, by decide, by decide, by decide⟩,
   ⟨191, st.wrN (Obj.TRK_STATE 191) 3, _, by decide, runTo_runs rfl rfl⟩,
   ⟨191, by decide⟩,
   ⟨1, (st.wrN (Obj.RX_EN 1) 0).wrN (Obj.RX_CH_QUOTA 1) 193, _, by decide, by decide, rfl, by decide⟩,
   ⟨1, st.wrN (Obj.RX_EN 1) 0, _, by decide, by decide, rfl, by decide, by decide⟩,
   ⟨1, st.wrN (Obj.RX_EN 1) 1, by decide, by decide⟩,
   ⟨1, 0, 0, 0, st, _, by decide, rfl⟩,
   ⟨st.wrN Obj.GN_ENABLE 0, _, by decide, by decide, rfl⟩,
   ⟨st, by decide⟩,
   ⟨1, 0, 0, (fun z : State => z.setRx 1 { z.rx 1 with almanac := some (0, 0) }) st, _, rfl, runTo_runs rfl rfl⟩,
   ⟨1, (fun z : State => z.setRx 1 { z.rx 1 with almanac := none }) st, by decide⟩⟩

theorem meets_EpochsAndSolutionsComplete :
    (∃ (s : State) (s1 : State), s.rdB Obj.GN_ENABLE = true ∧ s.reach s.nextEpoch = some s1) ∧
    (∃ (p : Nat) (c : Nat) (s : State), p = giga / s.rdN Obj.EP_RATE ∧ c = s.now80 / p * p ∧ s.clk.before48 < c * ns48
      ∧ s.clk.epoch80 ≠ some c) ∧
    (∃ (p : Nat) (c : Nat) (s : State), p = giga / s.rdN Obj.EP_RATE ∧ c = s.now80 / p * p ∧ (c * ns48 ≤
      s.clk.before48 ∨ s.clk.epoch80 = some c)) ∧
    (∃ (p : Nat) (c : Nat) (s : State), p = giga / s.rdN Obj.EP_RATE ∧ c = s.now80 / p * p ∧ 1 ≤ s.rdN Obj.EP_RATE ∧
      s.rdN Obj.EP_RATE ≤ 100) ∧
    (∃ (c : Nat) (s : State), (s.trkState c ≠ 2 ∨ s.feState (s.trkBand c) ≠ 2)) ∧
    (∃ (r : Fin 2) (l : List TimeSol) (x : TimeSol) (s : State) (s1 : State), s.rxOn r = true ∧ s1 = s.hearEphemerides
      r l ∧ s1.afterExclusions r l = some x ∧ s1.satsOf r x ≠ [] ∧ (s1.rx r).epochSec = some s1.clk.ts.sec ∧
      s1.clk.ts.ns ≤ 400000000) ∧
    (∃ (r : Fin 2) (l : List TimeSol) (s : State) (s1 : State), s.rxOn r = true ∧ s1 = s.hearEphemerides r l ∧ (∀ x,
      s1.afterExclusions r l = some x → s1.satsOf r x = [] ∨ (s1.rx r).epochSec ≠ some s1.clk.ts.sec ∨ 400000000 <
      s1.clk.ts.ns)) ∧
    (∃ (r : Nat) (u : SatUse) (s : State), (s.rx r).entries.find? (fun e => e.1 == u.chan) = none) ∧
    (∃ (r : Nat) (x : TimeSol) (s : State), s.residHigh r x = false) ∧
    (∃ (r : Nat) (x : TimeSol) (s : State), s.residHigh r x = true) ∧
    (∃ (r : Fin 2) (p : Pulse) (s : State) (s1 : State), (s.rx r).pulse = some p ∧ s.reach (((p.second * giga * 65536
      : Nat) + p.b16 - p.qerr16) / 65536).toNat = some s1 ∧ (s1.rxUnsafe r = true ∨ s1.apllA = false)) ∧
    (∃ (r : Fin 2) (p : Pulse) (s : State) (s1 : State) (s2 : State), (s.rx r).pulse = some p ∧ s.reach (((p.second *
      giga * 65536 : Nat) + p.b16 - p.qerr16) / 65536).toNat = some s1 ∧ s1.rxUnsafe r = false ∧ s1.apllA = true ∧ s2
      = (s1.setRx r { s1.rx r with pulse := none }).count (0x1B2 + r) 1 ∧ s2.slotState (20 + r) = Sl.DISABLED) ∧
    (∃ (r : Fin 2) (p : Pulse) (s : State) (s1 : State) (s2 : State), (s.rx r).pulse = some p ∧ s.reach (((p.second *
      giga * 65536 : Nat) + p.b16 - p.qerr16) / 65536).toNat = some s1 ∧ s1.rxUnsafe r = false ∧ s1.apllA = true ∧ s2
      = (s1.setRx r { s1.rx r with pulse := none }).count (0x1B2 + r) 1 ∧ s2.slotState (20 + r) ≠ Sl.DISABLED) ∧
    (∃ (r : Fin 2) (s : State) (s0 : State) (s1 : State), s.rdB (Obj.RX_EN r) = true ∧ s.reach (s.nextNotice r) = some
      s0 ∧ s1 = s0.setRx r { s0.rx r with notice80 := some (s.nextNotice r) } ∧ (s1.rx r).pulse = none) ∧
    (∃ (r : Fin 2) (s : State) (s0 : State) (s1 : State) (p : Pulse), s.rdB (Obj.RX_EN r) = true ∧ s.reach
      (s.nextNotice r) = some s0 ∧ s1 = s0.setRx r { s0.rx r with notice80 := some (s.nextNotice r) } ∧ (s1.rx
      r).pulse = some p ∧ p.second = s1.clk.ts.sec + 1 ∧ s1.rxUnsafe r = false) :=
  ⟨⟨st.wrN Obj.GN_ENABLE 1, _, by decide, reach_runs rfl rfl⟩,
   ⟨_, _, { st with clk.ts := ⟨1, 0, 0⟩ }, rfl, rfl, by decide, by decide⟩,
   ⟨_, _, st, rfl, rfl, .inl (by decide)⟩,
   ⟨_, _, st, rfl, rfl, by decide, by decide⟩,
   ⟨0, st, by decide⟩,
   ⟨1, [sol], sol, (fun z : State => z.setRx 1
     { z.rx 1 with epochSec := some 0, entries := [(0, 0, 5000), (1, 0, 5000), (2, 0, 5000), (3, 0, 5000)] }) (st.wrN
     (Obj.RX_EN 1) 1), _, by decide, rfl, by decide +kernel, by decide +kernel, by decide +kernel, by decide +kernel⟩,
   ⟨1, [], st.wrN (Obj.RX_EN 1) 1, _, by decide, rfl, by intro x h; simp [State.afterExclusions] at h⟩,
   ⟨0, (sat 0), st, by decide⟩,
   ⟨0, sol, st, by decide⟩,
   ⟨1, { sol with maxResid16 := 2 ^ 40 }, st, by decide⟩,
   ⟨1, pul, (fun z : State => z.setRx 1 { z.rx 1 with pulse := some pul }) st, _, rfl, reach_runs rfl rfl, by decide⟩,
   ⟨1, pul, ((fun z : State => z.setRx 1 { z.rx 1 with pulse := some pul }) st).wrN Obj.APLLA_STATE 1, _, _, rfl,
     reach_runs rfl rfl, by decide, by decide, rfl, by decide⟩,
   ⟨1, pul, (((fun z : State => z.setRx 1 { z.rx 1 with pulse := some pul }) st).wrN Obj.APLLA_STATE 1).wrN
     (Obj.SLOT_STATE 21) 3, _, _, rfl, reach_runs rfl rfl, by decide, by decide, rfl, by decide⟩,
   ⟨1, st.wrN (Obj.RX_EN 1) 1, _, _, by decide, reach_runs rfl rfl, rfl, by decide⟩,
   ⟨1, (fun z : State => z.setRx 1 { z.rx 1 with pulse := some pul }) (st.wrN (Obj.RX_EN 1) 1), _, _, pul, by decide,
     reach_runs rfl rfl, rfl, rfl, by decide, by decide⟩⟩

theorem meets_ClientMessagesComplete :
    (∃ (pl : Fin 4) (w : Passage) (xx : Nat) (s : State), s.nextPassage pl = some w ∧ s.judge w = .drop xx) ∧
    (∃ (s : State), s.tpeOn = false) ∧
    (∃ (payload : List Octet) (s : State), s.tpeOn = true ∧ s.pktService = 2 ∧ ptpParse payload = none) ∧
    (∃ (pl : Fin 4) (w : Passage) (x : Nat) (m : List Octet) (tlvs : List (Nat × List Octet)) (s : State),
      s.nextSignal pl true = some (w, x, m, tlvs)) ∧
    (∃ (pl : Fin 4) (w : Passage) (x : Nat) (m : List Octet) (tlvs : List (Nat × List Octet)) (s : State),
      s.nextSignal pl false = some (w, x, m, tlvs)) ∧
    (∃ (w : Passage) (x : Nat) (xx : Nat) (m : List Octet) (tlvs : List (Nat × List Octet)) (s : State) (s1 : State),
      s.clientProof x (clientKey w.port (packetOf w.octets) m) m tlvs = (s1, .bad xx)) ∧
    (∃ (w : Passage) (x : Nat) (m : List Octet) (reply : List Octet) (tlvs : List (Nat × List Octet)) (e : Option Nat)
      (s : State) (s1 : State) (s2 : State) (key : ClientKey) (g : Bool), key = clientKey w.port (packetOf w.octets) m
      ∧ s.clientProof x key m tlvs = (s1, .good e) ∧ ((s1.passed w).tpeCount 1).signalTlvs ⟨w, packetOf w.octets, key,
      x, e⟩ tlvs = (s2, reply, g) ∧ s2.lookup key = none ∧ reply ≠ []) ∧
    (∃ (w : Passage) (x : Nat) (n : Nat) (m : List Octet) (reply : List Octet) (tlvs : List (Nat × List Octet)) (e :
      Option Nat) (y : FoldRecord) (s : State) (s1 : State) (s2 : State) (s3 : State) (key : ClientKey) (g : Bool) (h
      : HeldReply), key = clientKey w.port (packetOf w.octets) m ∧ s.clientProof x key m tlvs = (s1, .good e) ∧
      ((s1.passed w).tpeCount 1).signalTlvs ⟨w, packetOf w.octets, key, x, e⟩ tlvs = (s2, reply, g) ∧ s2.lookup key =
      some (n, y) ∧ reply ≠ [] ∧ s3 = s2.touch n ∧ h =
      { jseq := s3.rdN Obj.JR_TX, record := some n, write := none, due := [], passage := w, profile := x, body := reply, auth := replyAuth (some y) e key }
      ∧ (g = false ∨ s3.awaits = false)) ∧
    (∃ (w : Passage) (x : Nat) (n : Nat) (m : List Octet) (reply : List Octet) (tlvs : List (Nat × List Octet)) (e :
      Option Nat) (y : FoldRecord) (s : State) (s1 : State) (s2 : State) (s3 : State) (key : ClientKey) (g : Bool) (h
      : HeldReply), key = clientKey w.port (packetOf w.octets) m ∧ s.clientProof x key m tlvs = (s1, .good e) ∧
      ((s1.passed w).tpeCount 1).signalTlvs ⟨w, packetOf w.octets, key, x, e⟩ tlvs = (s2, reply, g) ∧ s2.lookup key =
      some (n, y) ∧ reply ≠ [] ∧ s3 = s2.touch n ∧ h =
      { jseq := s3.rdN Obj.JR_TX, record := some n, write := none, due := [], passage := w, profile := x, body := reply, auth := replyAuth (some y) e key }
      ∧ g = true ∧ s3.awaits = true) ∧
    (∃ (q : Request) (body : List Octet) (type : Nat) (r : Nat) (log : Int) (f : FoldRecord) (s : State), type = field
      body 0 1 / 16 ∧ log = fieldInt body 1 1 ∧ (type = Ptp.ANNOUNCE ∨ type = Ptp.SYNC ∨ type = Ptp.DELAY_RESP) ∧
      s.interval q.profile (intervalLo type) ≤ log ∧ log ≤ 6 ∧ field body 2 4 ≠ 0 ∧ s.lookup q.key = some (r, f) ∧
      s.overQuota (some f) f.cls type log = false) ∧
    (∃ (body : List Octet), field body 2 4 = 0) ∧
    (∃ (q : Request) (body : List Octet) (r : Nat) (f : FoldRecord) (s : State), s.lookup q.key = some (r, f) ∧ field
      body 0 1 / 16 = Ptp.SYNC ∧ (grantOf f Ptp.SYNC).exp ≠ 0) ∧
    (∃ (pl : Fin 4) (w : Passage) (x : Nat) (ses : Option Nat) (m : List Octet) (tlvs : List (Nat × List Octet)) (s :
      State), s.nextPtp pl (· == Ptp.DELAY_REQ) = some (w, x, ses, m, tlvs)) ∧
    (∃ (w : Passage) (x : Nat) (r : Nat) (m : List Octet) (tlvs : List (Nat × List Octet)) (e : Option Nat) (f :
      FoldRecord) (f1 : FoldRecord) (s : State) (s1 : State) (key : ClientKey), key = clientKey w.port (packetOf
      w.octets) m ∧ s.clientProof x key m tlvs = (s1, .good e) ∧ s1.lookup key = some (r, f) ∧ dreqDrop (some f)
      w.stamp16 (ptpSeq m) = none ∧ f1 =
      { f with mac := (packetOf w.octets).src, dreqLastSeq := ptpSeq m, dreqLastNs := some (w.stamp16 / 65536), exempt := false, dreqRcvd := wrapSucc f.dreqRcvd }) ∧
    (∃ (f : FoldRecord) (t : Nat), (f.dresp.exp = 0 ∨ f.dresp.exp * giga * 65536 ≤ t)) :=
  ⟨⟨3, pas, 9, { st with tpe.waiting := [pas] }, rfl, rfl⟩,
   ⟨st.wrN Obj.TPE_ENABLE 0, by decide⟩,
   ⟨[], st, by decide, by decide, by decide⟩,
   ⟨3, (l2 (ptp 12 54 [0, 4, 0, 6, 0, 0, 0, 0, 0, 0])), 0, (ptp 12 54 [0, 4, 0, 6, 0, 0, 0, 0, 0, 0]), [(4, [0, 0, 0,
     0, 0, 0])], eng 0 (l2 (ptp 12 54 [0, 4, 0, 6, 0, 0, 0, 0, 0, 0])), by decide +kernel⟩,
   ⟨3, (l2 (ptp 12 50 [0, 6, 0, 2, 0, 0])), 0, (ptp 12 50 [0, 6, 0, 2, 0, 0]), [(6, [0, 0])], eng 0 (l2 (ptp 12 50 [0,
     6, 0, 2, 0, 0])), by decide +kernel⟩,
   ⟨pas, 0, _, [], [], eng 0x1000 pas, _, rfl⟩,
   ⟨pas, 0, [], _, [(4, [0, 0, 0, 0, 0, 0])], _, eng 0 pas, _, _, _, _, rfl, rfl, rfl, by decide, by decide⟩,
   ⟨hpas, 0, hnum, [], _, [(Tlv.CANCEL, [0x50, 0])], none, hrec, folded hbase hrec, _, _, _, (clientKey hpas.port
     (packetOf hpas.octets) []), false, _, rfl, hproof7, hcancel, hlookup, by decide, rfl, rfl, .inl rfl⟩,
   ⟨hpas, 0, hnum, [], _, [(Tlv.REQUEST, hbody)], none, hrec1, folded hbase hrec, _, _, _, (clientKey hpas.port
     (packetOf hpas.octets) []), true, _, rfl, hproof8, hgrant, hgranted_lookup, by decide, rfl, rfl, rfl, hawaits⟩,
   ⟨⟨pas, pkt, ckey, 0, none⟩, [0xB0, 6, 0, 0, 0, 1], 11, _, 6, fold, folded ((st.wrN (Obj.CLASS_EN 0) 1).wrN
     (Obj.CLASS_RATE 0) 1000000) fold, by decide, by decide, by decide, by decide, by decide, by decide, lookup_folded
     _ _, by decide⟩,
   ⟨[], by decide⟩,
   ⟨⟨pas, pkt, ckey, 0, none⟩, [], _, fold, folded st fold, lookup_folded _ _, by decide, by decide⟩,
   ⟨3, (l2 (ptp 1 44 [])), 0, (some 3), (ptp 1 44 []), [], eng 0 (l2 (ptp 1 44 [])), rfl⟩,
   ⟨(l2 (ptp 1 44 [])), 0, _, (ptp 1 44 []), [], none, { fold with key := ⟨7, 2, 0, 0, 0, 0, 0, 0⟩ }, _, folded (eng 0
     pas) { fold with key := ⟨7, 2, 0, 0, 0, 0, 0, 0⟩ }, _, ⟨7, 2, 0, 0, 0, 0, 0, 0⟩, by decide +kernel, rfl,
     lookup_folded (eng 0 pas) { fold with key := ⟨7, 2, 0, 0, 0, 0, 0, 0⟩ }, by decide, rfl⟩,
   ⟨fold, (1000 * giga * 65536), by decide⟩⟩

theorem meets_PeerDelayAndRecordEndsComplete :
    (∃ (pl : Fin 4) (w : Passage) (x : Nat) (ses : Option Nat) (m : List Octet) (tlvs : List (Nat × List Octet)) (s :
      State) (s1 : State) (e : Option Nat), s.nextPtp pl (· == Ptp.PDELAY_REQ) = some (w, x, ses, m, tlvs) ∧
      s.clientProof x (clientKey w.port (packetOf w.octets) m) m tlvs = (s1, .good e)) ∧
    (∃ (pl : Fin 4) (w : Passage) (x : Nat) (xx : Nat) (ses : Option Nat) (m : List Octet) (tlvs : List (Nat × List
      Octet)) (s : State) (s1 : State), s.nextPtp pl (· == Ptp.PDELAY_REQ) = some (w, x, ses, m, tlvs) ∧ s.clientProof
      x (clientKey w.port (packetOf w.octets) m) m tlvs = (s1, .bad xx)) ∧
    (∃ (pl : Fin 4) (w : Passage) (x : Nat) (ses : Option Nat) (m : List Octet) (tlvs : List (Nat × List Octet)) (s :
      State) (s1 : State) (e : Option Nat), s.nextPtp pl (fun t => t == Ptp.PDELAY_RESP || t ==
      Ptp.PDELAY_RESP_FOLLOW_UP) = some (w, x, ses, m, tlvs) ∧ s.clientProof x (clientKey w.port (packetOf w.octets)
      m) m tlvs = (s1, .good e)) ∧
    (∃ (w : Passage) (x : Nat) (m : List Octet) (t1 : Int) (s : State), (s.peer (peerKey w.port x)).t1 = some t1 ∧
      slice m 44 10 = portIdentity (s.ownPort w.port) ∧ ptpSeq m = (s.peer (peerKey w.port x)).seq ∧ ptpType m =
      Ptp.PDELAY_RESP ∧ ptpTwoStep m = false) ∧
    (∃ (p : Fin 8) (x : Fin 16) (s : State) (s1 : State) (s2 : State) (n : Nat) (seq : Nat) (i : Nat), n = peerKey p x
      ∧ s.bound? p x = true ∧ s.profP2p x = true ∧ s.runTo (max ((s.peer n).sent48 + period48 (s.interval x 8))
      (s.freeFrom (p % 4))) = some s1 ∧ s1.tpeOn = true ∧ s1.pktService = 2 ∧ s1.roomFor (p % 4) p = true ∧ seq =
      ((s1.peer n).seq + 1) % 65536 ∧ ((s1.taken (p % 4)).setPeer n ⟨seq, none, none, s1.up48⟩).newId = (s2, i)) ∧
    (∃ (p : Fin 8) (x : Fin 16) (s : State) (s1 : State) (n : Nat), n = peerKey p x ∧ s.bound? p x = true ∧ s.profP2p
      x = true ∧ s.runTo (max ((s.peer n).sent48 + period48 (s.interval x 8)) (s.freeFrom (p % 4))) = some s1 ∧
      (s1.tpeOn = false ∨ s1.pktService ≠ 2)) ∧
    (∃ (p : Fin 8) (x : Fin 16) (s : State) (s1 : State) (n : Nat), n = peerKey p x ∧ s.bound? p x = true ∧ s.profP2p
      x = true ∧ s.runTo (max ((s.peer n).sent48 + period48 (s.interval x 8)) (s.freeFrom (p % 4))) = some s1 ∧
      s1.tpeOn = true ∧ s1.pktService = 2 ∧ s1.roomFor (p % 4) p = false) ∧
    (∃ (r : Nat) (type : Nat) (exp : Nat) (s : State) (s1 : State), s.nextExpiry = some (r, type, exp) ∧ s.reach (exp
      * giga) = some s1) ∧
    (∃ (r : Nat) (t : Nat) (s : State) (s1 : State), s.nextFree = some (r, t) ∧ s.reach (t + 60 * giga) = some s1) ∧
    (∃ (image : List Octet) (s : State) (s1 : State), s.restoring 12 = false ∧ s1 = s.wrBlob (List.replicate 128 0)
      Obj.FOLD_QUERY (padTo 128 image) ∧ s.lookup (imageKey image) = none) ∧
    (∃ (image : List Octet) (r : Nat) (f : FoldRecord) (s : State) (s1 : State), s.restoring 12 = false ∧ s1 =
      s.wrBlob (List.replicate 128 0) Obj.FOLD_QUERY (padTo 128 image) ∧ s.lookup (imageKey image) = some (r, f)) :=
  ⟨⟨3, (l2 (ptp 2 54 [])), 0, (some 3), (ptp 2 54 []), [], eng 0x10000 (l2 (ptp 2 54 [])), _, none, rfl, rfl⟩,
   ⟨3, (l2 (ptp 2 54 [])), 0, _, (some 3), (ptp 2 54 []), [], eng 0x11000 (l2 (ptp 2 54 [])), _, rfl, rfl⟩,
   ⟨3, (l2 (ptp 3 54 [])), 0, (some 3), (ptp 3 54 []), [], eng 0x10000 (l2 (ptp 3 54 [])), _, none, rfl, rfl⟩,
   ⟨pas, 15, ((ptp 3 44 []) ++ portIdentity (st.ownPort 7)), 5, (fun z : State => z.setPeer (peerKey pas.port 15)
     { z.peer (peerKey pas.port 15) with t1 := some 5 }) st, rfl, rfl, by decide, by decide, by decide⟩,
   ⟨7, 15, ((st.wrN (Obj.PROF_EN 15) 1).wrN (Obj.PORT_PROFILES 7) (2 ^ 15)).wrN (Obj.PROF_CFG 15) 0x10000, _, _,
     (peerKey 7 15), _, _, rfl, by decide, by decide, runTo_runs rfl rfl, by decide, by decide, by decide, rfl, rfl⟩,
   ⟨7, 15, (((st.wrN (Obj.PROF_EN 15) 1).wrN (Obj.PORT_PROFILES 7) (2 ^ 15)).wrN (Obj.PROF_CFG 15) 0x10000).wrN
     Obj.TPE_ENABLE 0, _, (peerKey 7 15), rfl, by decide, by decide, runTo_runs rfl rfl, by decide⟩,
   ⟨7, 15, (((st.wrN (Obj.PROF_EN 15) 1).wrN (Obj.PORT_PROFILES 7) (2 ^ 15)).wrN (Obj.PROF_CFG 15) 0x10000).wrN
     Obj.VD_DATA_EN 0, _, (peerKey 7 15), rfl, by decide, by decide, runTo_runs rfl rfl, by decide, by decide,
     by decide⟩,
   ⟨5, _, _, { st with tpe.fold := [(5, fold)] }, _, rfl, reach_runs rfl rfl⟩,
   ⟨5, 9, { st with tpe.fold := [(5, { fold with ended := some 9 })] }, _, rfl, reach_runs rfl rfl⟩,
   ⟨[], st, _, by decide, rfl, by decide⟩,
   ⟨[], _, { fold with key := imageKey [] }, folded st { fold with key := imageKey [] }, _, by decide, rfl,
     lookup_folded st { fold with key := imageKey [] }⟩⟩

theorem meets_CalendarAndEngineControlComplete :
    (∃ (e : CalEntry) (s : State) (s1 : State), s.nextEntry = some e ∧ s.reach (wheelNs e) = some s1 ∧ e.elig16 =
      none) ∧
    (∃ (e : CalEntry) (s : State) (s1 : State), s.nextEntry = some e ∧ s.reach (wheelNs e) = some s1 ∧ e.elig16.isSome
      = true) ∧
    (∃ (pl : Fin 4) (e : CalEntry) (s : State) (s1 : State), s.nextReady pl = some e ∧ s.roomFor pl (s.ownerPort
      e.owner) = true ∧ s.runTo (s.freeFrom pl) = some s1) ∧
    (∃ (pl : Nat) (s : State), (256 ≤ s.built pl ∨ s.jobsFull = true ∨ s.rdB Obj.VD_DATA_EN = false)) ∧
    (∃ (pl : Nat) (t : Nat) (s : State), s.tpe.handed.find? (fun e => e.1 == pl) = some (pl, t)) ∧
    (∃ (e : CalEntry) (s : State), s.generates e.owner = false) ∧
    (∃ (p : Fin 8) (f : Frame) (s : State) (s1 : State), s.nextFrame p = some f ∧ s.reach (f.dep48 / ns48) = some s1) ∧
    (∃ (s : State), s.tpeOn = false) ∧
    (∃ (f : Frame) (s : State), s.tpeOn = true ∧ s.pktService = 2 ∧ s.portSends f.port = true ∧ (s.port f.port).held48
      = none ∧ tagJob f.tag = none ∧ s.rdB Obj.VD_DATA_EN = true) ∧
    (∃ (f : Frame) (s : State), s.tpeOn = true ∧ s.pktService = 2 ∧ (s.portSends f.port = false ∨ s.rdB Obj.VD_DATA_EN
      = false ∨ (tagJob f.tag).isSome = true)) ∧
    (∃ (s : State), s.restoring 12 = false ∧ s.rdB Obj.TPE_ENABLE = true) ∧
    (∃ (s : State), s.restoring 12 = false ∧ s.rdB Obj.TPE_ENABLE = false ∧ s.foldGood = true) ∧
    (∃ (s : State), s.restoring 12 = false ∧ s.rdB Obj.TPE_ENABLE = false ∧ s.foldGood = false) ∧
    (∃ (s : State), s.restoring 12 = false) ∧
    (∃ (id : Nat) (rest : List Nat) (s : State), s.tpe.fences = id :: rest ∧ s.fenceOver id = true) ∧
    (∃ (x : Fin 16) (s : State), s.restoring 12 = false ∧ s.rdB (Obj.PROF_EN x) = false ∧ s.profGood x = true) ∧
    (∃ (x : Fin 16) (s : State), s.restoring 12 = false ∧ s.rdB (Obj.PROF_EN x) = false ∧ s.profGood x = false) ∧
    (∃ (s : State), s.restoring 12 = false) ∧
    (∃ (e : Fin 17) (s : State) (s1 : State), s.rdN (rotation e).2.1 ≠ 0xFFFF ∧ s.reach (s.rdN (rotation e).2.2.2) =
      some s1) ∧
    (∃ (e : Nat) (n : Nat) (s : State), e < 16 ∧ s.rdN (Obj.SPP_NEXT_SLOT e) = n ∧ n ≠ 0xFFFF) :=
  ⟨⟨cal, { st with tpe.calendar := [cal] }, _, rfl, reach_runs rfl rfl, by decide⟩,
   ⟨{ cal with elig16 := some 5 }, { st with tpe.calendar := [{ cal with elig16 := some 5 }] }, _, rfl, reach_runs rfl
     rfl, by decide⟩,
   ⟨3, { cal with elig16 := some 5, ready := true },
     { st with tpe.calendar := [{ cal with elig16 := some 5, ready := true }] }, _, rfl, by decide, runTo_runs rfl
     rfl⟩,
   ⟨0, st.wrN Obj.VD_DATA_EN 0, by decide⟩,
   ⟨0, 7, { st with tpe.handed := [(0, 7)] }, rfl⟩,
   ⟨cal, st.wrN Obj.TPE_ENABLE 0, by decide⟩,
   ⟨7, frm, { st with tpe.frames := [frm] }, _, rfl, reach_runs rfl rfl⟩,
   ⟨st.wrN Obj.TPE_ENABLE 0, by decide⟩,
   ⟨frm, ((st.wrN Obj.VD_DATA_EN 1).wrN (Obj.PORT_STATE 7) 3).wrN Obj.APLLB_STATE 1, by decide, by decide, by decide,
     by decide, by decide, by decide⟩,
   ⟨frm, st, by decide, by decide, by decide⟩,
   ⟨st.wrN Obj.TPE_ENABLE 1, by decide, by decide⟩,
   ⟨(((st.wrN Obj.TPE_ENABLE 0).wrN Obj.FOLD_BASE 0).wrN Obj.DRAM_FW_BASE (2 ^ 27)).wrN Obj.DRAM_STATE 2, by decide,
     by decide, by decide⟩,
   ⟨st.wrN Obj.TPE_ENABLE 0, by decide, by decide, by decide⟩,
   ⟨st, by decide⟩,
   ⟨0, [], { st with tpe.fences := 0 :: [] }, rfl, by decide⟩,
   ⟨15, st.wrN (Obj.PROF_EN 15) 0, by decide, by decide, by decide⟩,
   ⟨15, (st.wrN (Obj.PROF_EN 15) 0).wrN (Obj.PROF_CFG 15) (2 ^ 17), by decide, by decide, by decide⟩,
   ⟨st, by decide⟩,
   ⟨16, st.wrN Obj.NTS_MASTER_NEXT 8, _, by decide, reach_runs rfl rfl⟩,
   ⟨15, 0, st.wrN (Obj.SPP_NEXT_SLOT 15) 0, by decide, by decide, by decide⟩⟩

theorem meets_NtpAndCryptoJobsComplete :
    (∃ (pl : Fin 4) (w : Passage) (src : Nat) (m : List Octet) (exts : List (Nat × List Octet)) (s : State), s.nextNtp
      pl false = some (w, src, m, exts) ∧ s.rdB Obj.NTP_PLAIN_EN = true) ∧
    (∃ (pl : Fin 4) (w : Passage) (src : Nat) (m : List Octet) (exts : List (Nat × List Octet)) (s : State), s.nextNtp
      pl false = some (w, src, m, exts) ∧ s.rdB Obj.NTP_PLAIN_EN = false) ∧
    (∃ (pl : Fin 4) (w : Passage) (src : Nat) (m : List Octet) (exts : List (Nat × List Octet)) (s : State), s.nextNtp
      pl true = some (w, src, m, exts)) ∧
    (∃ (uid : List Octet) (body : List Octet) (rest : List (List Octet)) (exts : List (Nat × List Octet)) (cookie :
      List Octet), extOf exts Ext.UNIQUE_ID = [uid] ∧ extOf exts Ext.AUTHENTICATOR = body :: rest ∧ 32 ≤ uid.length ∧
      cookie = ((extOf exts Ext.COOKIE).head?).getD []) ∧
    (∃ (lane : Fin 9) (j : Job) (s : State), s.ks.jobs.find? (fun x => x.lane == some lane.val) = some j) ∧
    (∃ (j : Job) (s : State) (s1 : State), s1 =
      ((({ s with ks := { s.ks with jobs := s.ks.jobs.filter fun x => x.id != j.id } } : State).jobsDone j.status
      j.parts).keyJobDone j.id).admitJobs ∧ (s1.tpe.frames.find? fun f => tagJob f.tag == some j.id) = none) ∧
    (∃ (j : Job) (f : Frame) (f1 : Frame) (s : State) (s1 : State), s1 =
      ((({ s with ks := { s.ks with jobs := s.ks.jobs.filter fun x => x.id != j.id } } : State).jobsDone j.status
      j.parts).keyJobDone j.id).admitJobs ∧ (s1.tpe.frames.find? fun f => tagJob f.tag == some j.id) = some f ∧ f1 =
      { f with msg := f.msg ++ tagOctets j.key f.msg f.tag, tag := .ready } ∧ j.status ≠ Ks.OK) ∧
    (∃ (j : Job) (f : Frame) (f1 : Frame) (s : State) (s1 : State), s1 =
      ((({ s with ks := { s.ks with jobs := s.ks.jobs.filter fun x => x.id != j.id } } : State).jobsDone j.status
      j.parts).keyJobDone j.id).admitJobs ∧ (s1.tpe.frames.find? fun f => tagJob f.tag == some j.id) = some f ∧ f1 =
      { f with msg := f.msg ++ tagOctets j.key f.msg f.tag, tag := .ready } ∧ j.status = Ks.OK) :=
  ⟨⟨3, (ntpw []), 123, (0x23 :: List.replicate 47 0), [], (eng 0 (ntpw [])).wrN Obj.NTP_PLAIN_EN 1, by decide +kernel,
     by decide⟩,
   ⟨3, (ntpw []), 123, (0x23 :: List.replicate 47 0), [], (eng 0 (ntpw [])).wrN Obj.NTP_PLAIN_EN 0, by decide +kernel,
     by decide⟩,
   ⟨3, (ntpw (([2, 4, 0, 28] : List Octet) ++ List.replicate 24 0)), 123, (0x23 :: List.replicate 47 0 ++ (([2, 4, 0,
     28] : List Octet) ++ List.replicate 24 0)), [(Ext.COOKIE, List.replicate 24 0)], (eng 0 (ntpw (([2, 4, 0, 28] :
     List Octet) ++ List.replicate 24 0))).wrN Obj.NTS_EN 1, by decide +kernel⟩,
   ⟨(List.replicate 32 0), [1], [], [(Ext.UNIQUE_ID, List.replicate 32 0), (Ext.AUTHENTICATOR, [1])], _, by decide,
     rfl, by decide, rfl⟩,
   ⟨8, jobz, { st with ks.jobs := [jobz] }, rfl⟩,
   ⟨jobz, st, _, rfl, by decide⟩,
   ⟨{ jobz with status := 1 }, { frm with tag := .icv 1 0 false 0 [] }, _,
     { st with tpe.frames := [{ frm with tag := .icv 1 0 false 0 [] }] }, _, rfl, rfl, rfl, by decide⟩,
   ⟨jobz, { frm with tag := .icv 1 0 false 0 [] }, _,
     { st with tpe.frames := [{ frm with tag := .icv 1 0 false 0 [] }] }, _, rfl, rfl, rfl, by decide⟩⟩

theorem meets_SessionCommandsComplete :
    (∃ (n : Fin 4) (s : State), s.restoring 12 = false ∧ s.rdB (Obj.SES_EN n) = false ∧ s.profP2p (s.sesProfile n) =
      false) ∧
    (∃ (n : Fin 4) (s : State), s.restoring 12 = false ∧ s.rdB (Obj.SES_EN n) = false ∧ s.profP2p (s.sesProfile n) =
      true) ∧
    (∃ (n : Fin 4) (s : State) (s1 : State), s.restoring 12 = false ∧ s1 = ((s.wrN (Obj.SES_EN n) 0).wrN
      (Obj.SES_STATE n) 0).setSession n Session.reset) ∧
    (∃ (pl : Fin 4) (w : Passage) (n : Nat) (m : List Octet) (tlvs : List (Nat × List Octet)) (s : State), s.nextSes
      pl (fun t _ => t == Ptp.SYNC || t == Ptp.FOLLOW_UP) = some (w, n, m, tlvs)) ∧
    (∃ (pl : Fin 4) (w : Passage) (n : Nat) (m : List Octet) (tlvs : List (Nat × List Octet)) (s : State), s.nextSes
      pl (fun t _ => t == Ptp.DELAY_RESP) = some (w, n, m, tlvs)) ∧
    (∃ (pl : Fin 4) (w : Passage) (n : Nat) (m : List Octet) (tlvs : List (Nat × List Octet)) (s : State), s.nextSes
      pl (fun t _ => t == Ptp.ANNOUNCE) = some (w, n, m, tlvs)) ∧
    (∃ (pl : Fin 4) (w : Passage) (n : Nat) (m : List Octet) (tlvs : List (Nat × List Octet)) (s : State), s.nextSes
      pl (fun t tlvs => t == Ptp.SIGNALING && hasTlv tlvs Tlv.GRANT) = some (w, n, m, tlvs)) ∧
    (∃ (n : Nat) (xx : Nat) (m : List Octet) (tlvs : List (Nat × List Octet)) (s : State) (s1 : State), s.authenticate
      ((s.sesAuth n).isSome || bitOn (s.profCfg (s.sesProfile n)) 12) (portIdentity (s.ownPort (s.sesPort n))) m tlvs
      = (s1, .bad xx)) ∧
    (∃ (w : Passage) (n : Nat) (m : List Octet) (tlvs : List (Nat × List Octet)) (e : Option Nat) (s : State) (s1 :
      State), s.authenticate ((s.sesAuth n).isSome || bitOn (s.profCfg (s.sesProfile n)) 12) (portIdentity (s.ownPort
      (s.sesPort n))) m tlvs = (s1, .good e) ∧ ((s1.passed w).tpeCount 1).rdN (Obj.SES_STATE n) ≠ 3) ∧
    (∃ (m : List Octet), ptpType m = Ptp.SYNC ∧ ptpTwoStep m = false) ∧
    (∃ (m : List Octet), ptpType m = Ptp.SYNC ∧ ptpTwoStep m = true) ∧
    (∃ (n : Nat) (t1 : Int) (t2 : Int) (s : State) (s1 : State), s1 = s.setSession n
      { s.session n with last := some (t1, t2), waiting := none } ∧ s1.recentPath n = none) ∧
    (∃ (n : Nat) (t1 : Int) (t2 : Int) (path : Int) (s : State) (s1 : State) (o : Int) (s2 : State), s1 = s.setSession
      n { s.session n with last := some (t1, t2), waiting := none } ∧ s1.recentPath n = some path ∧ o = t2 - t1 - path
      - s1.rd (Obj.SES_ASYM n) ∧ s2 = (s1.wr (Obj.SES_OFFSET n) o).sesRun n) ∧
    (∃ (n : Nat) (seq : Nat) (m : List Octet) (t1 : Int) (t2 : Int) (t3 : Int) (t4 : Int) (s : State), slice m 44 10 =
      portIdentity (s.ownPort (s.sesPort n)) ∧ (s.session n).request = some (seq, some t3) ∧ (s.session n).last = some
      (t1, t2) ∧ seq = ptpSeq m ∧ t4 = (timestampOf (slice m 34 10) * 65536 : Nat) - ptpCorrection m) ∧
    (∃ (n : Fin 4) (ty : Nat) (g : SesGrant) (g1 : SesGrant) (s : State) (s1 : State), s.sesOn n = true ∧ s.sesUnicast
      n = true ∧ s.nextRenewal n = some (ty, g) ∧ s.runTo g.renew48 = some s1 ∧ g1 = { g with renew48 := g.end48 }) ∧
    (∃ (n : Fin 4) (t : Nat) (s : State) (s1 : State), earliest (s.session n).retry48 = some t ∧ s.runTo (max t
      (s.freeFrom (s.sesPipeline n))) = some s1 ∧ s1.sesOn n = true ∧ s1.sesUnicast n = true ∧ s1.rdN (Obj.SES_STATE
      n) ≠ 3) ∧
    (∃ (n : Fin 4) (t : Nat) (s : State) (s1 : State), earliest (s.session n).retry48 = some t ∧ s.runTo (max t
      (s.freeFrom (s.sesPipeline n))) = some s1 ∧ (s1.sesOn n = false ∨ s1.sesUnicast n = false)) ∧
    (∃ (n : Fin 4) (t : Nat) (s : State) (s1 : State) (l : List Nat), earliest (s.session n).asked48 = some t ∧
      s.runTo (t + sec48) = some s1 ∧ l = typesBy (s1.session n).asked48 (s1.up48 - sec48)) ∧
    (∃ (n : Fin 4) (y : WaitingSync) (s : State) (s1 : State), (s.session n).waiting = some y ∧ s.runTo (y.at48 +
      sec48) = some s1) ∧
    (∃ (n : Fin 4) (log : Int) (s : State) (s1 : State) (s2 : State) (seq : Nat), s.sesDelayLog n = some log ∧ s.runTo
      (max ((s.session n).dreqAt48 + period48 log) (s.freeFrom (s.sesPipeline n))) = some s1 ∧ seq = ((s1.session
      n).dreqSeq + 1) % 65536 ∧ s2 = s1.setSession n
      { s1.session n with dreqAt48 := s1.up48, dreqSeq := seq, request := some (seq, none) } ∧ s1.sesServed = true ∧
      s1.sesRoom n = true) ∧
    (∃ (n : Fin 4) (log : Int) (s : State) (s1 : State) (s2 : State) (seq : Nat), s.sesDelayLog n = some log ∧ s.runTo
      (max ((s.session n).dreqAt48 + period48 log) (s.freeFrom (s.sesPipeline n))) = some s1 ∧ seq = ((s1.session
      n).dreqSeq + 1) % 65536 ∧ s2 = s1.setSession n
      { s1.session n with dreqAt48 := s1.up48, dreqSeq := seq, request := some (seq, none) } ∧ s1.sesServed = false) ∧
    (∃ (n : Fin 4) (s : State) (s1 : State) (r : List (Nat × Nat)), s.sesOn n = true ∧ s.rdN (Obj.SES_STATE n) ≠ 3 ∧
      s.runTo (s.sesTimeoutAt n) = some s1 ∧ r = (if s1.sesUnicast n && (s1.session n).retry48.isEmpty then stampAll
      [] sesTypes s1.up48 else (s1.session n).retry48)) ∧
    (∃ (n : Nat) (dur : Nat) (b : List Octet) (s : State) (x : Session), dur = field b 2 4 ∧ x =
      { s.session n with asked48 := without (s.session n).asked48 [field b 0 1 / 16] } ∧ dur = 0) ∧
    (∃ (n : Nat) (dur : Nat) (b : List Octet) (s : State) (x : Session), dur = field b 2 4 ∧ x =
      { s.session n with asked48 := without (s.session n).asked48 [field b 0 1 / 16] } ∧ dur ≠ 0) :=
  ⟨⟨3, st.wrN (Obj.SES_EN 3) 0, by decide, by decide, by decide⟩,
   ⟨3, (st.wrN (Obj.SES_EN 3) 0).wrN (Obj.PROF_CFG 0) 0x10000, by decide, by decide, by decide⟩,
   ⟨3, st, _, by decide, rfl⟩,
   ⟨3, (l2 (ptp 8 44 [])), 3, (ptp 8 44 []), [], eng 0 (l2 (ptp 8 44 [])), by decide +kernel⟩,
   ⟨3, (l2 (ptp 9 54 [])), 3, (ptp 9 54 []), [], eng 0 (l2 (ptp 9 54 [])), by decide +kernel⟩,
   ⟨3, (l2 (ptp 11 64 [])), 3, (ptp 11 64 []), [], eng 0 (l2 (ptp 11 64 [])), by decide +kernel⟩,
   ⟨3, (l2 (ptp 12 48 [0, 5, 0, 0])), 3, (ptp 12 48 [0, 5, 0, 0]), [(5, [])], eng 0 (l2 (ptp 12 48 [0, 5, 0, 0])),
     by decide +kernel⟩,
   ⟨3, _, [], [], eng 0x1000 pas, _, rfl⟩,
   ⟨pas, 0, [], [], _, st, _, rfl, by decide⟩,
   ⟨[], by decide, by decide⟩,
   ⟨[0, 2, 0, 44, 0, 0, 2], by decide, by decide⟩,
   ⟨0, 0, 0, st, _, rfl, by decide⟩,
   ⟨3, 5, 9, 5, st.setSession 3 { Session.reset with path := some (5, 0) }, _, _, _, rfl, rfl, rfl, rfl⟩,
   ⟨3, 0, (ptp 9 44 [] ++ portIdentity (st.ownPort (st.sesPort 3))), 1, 2, 3, _, (fun z : State => z.setSession 3
     { z.session 3 with last := some (1, 2) }) ((fun z : State => z.setSession 3
     { z.session 3 with request := some (0, some 3) }) st), rfl, rfl, rfl, by decide, rfl⟩,
   ⟨3, 0, { sgr with end48 := 2 ^ 60 }, _, (fun z : State => z.setSession 3
     { z.session 3 with grants := [(0, { sgr with end48 := 2 ^ 60 })] }) (st.wrN (Obj.SES_STATE 3) 1), _, by decide,
     by decide, rfl, runTo_runs rfl rfl, rfl⟩,
   ⟨3, 7, (st.setSession 3 { Session.reset with retry48 := [(0, 7)] }).wrN (Obj.SES_STATE 3) 1, _, rfl, runTo_runs rfl
     rfl, by decide, by decide, by decide⟩,
   ⟨3, 7, st.setSession 3 { Session.reset with retry48 := [(0, 7)] }, _, rfl, runTo_runs rfl rfl, by decide⟩,
   ⟨3, 7, st.setSession 3 { Session.reset with asked48 := [(0, 7)] }, _, _, rfl, runTo_runs rfl rfl, rfl⟩,
   ⟨3, wsy, (fun z : State => z.setSession 3 { z.session 3 with waiting := some wsy }) st, _, rfl, runTo_runs rfl rfl⟩,
   ⟨3, _, (st.wrN (Obj.SES_STATE 3) 1).wrN (Obj.SES_CFG 3) 0, _, _, _, rfl, runTo_runs rfl rfl, rfl, rfl, by decide,
     by decide⟩,
   ⟨3, _, ((st.wrN (Obj.SES_STATE 3) 1).wrN (Obj.SES_CFG 3) 0).wrN Obj.TPE_ENABLE 0, _, _, _, rfl, runTo_runs rfl rfl,
     rfl, rfl, by decide⟩,
   ⟨3, st.wrN (Obj.SES_STATE 3) 1, _, _, by decide, by decide, runTo_runs rfl rfl, rfl⟩,
   ⟨0, (0), [], st, _, rfl, rfl, rfl⟩,
   ⟨0, _, [0, 0, 0, 0, 0, 1], st, _, rfl, rfl, by decide⟩⟩

end Sys2Proof.Tests
end

section
/-! PROOFS. The scope's statements. First the status words of R14 and R367: what a run of hardware sets leaves of a word, and why
a clear that carries the number read before it is ignored. -/

namespace Sys2Proof.Machine

theorem seqOf_lt (w : Nat) : seqOf w < 65536 := Nat.mod_lt _ (by decide)

/-- The sequence number of a written word is its upper half. -/
theorem seqOf_upper_half {q m : Nat} (hq : q < 65536) (hm : m < 65536) : seqOf (q * 65536 + m) = q := by
  simp only [seqOf, bitsAt, Nat.reducePow]
  omega

/-- A run of sets leaves each sticky bit set that was set before or is one of them (R14). -/
theorem bitOn_foldl_sqSet (sets : List Nat) (w : Nat) {j : Nat} (hj : j < 16) :
    bitOn (sets.foldl sqSet w) j = (bitOn w j || sets.contains j) := by
  induction sets generalizing w with
  | nil => simp
  | cons b sets ih => rw [List.foldl_cons, ih, bitOn_sqSet w b j hj, List.contains_cons, Bool.or_assoc]

/-- Every set of a run advances the sequence number by one, modulo its 16 bits (R14, R367). -/
theorem seqOf_foldl_sqSet (sets : List Nat) (w : Nat) : seqOf (sets.foldl sqSet w) = (seqOf w + sets.length) % 65536 := by
  induction sets generalizing w with
  | nil => exact (Nat.mod_eq_of_lt (seqOf_lt w)).symm
  | cons b sets ih =>
    rw [List.foldl_cons, ih, seqOf_sqSet, List.length_cons]
    omega

/-- A write with another sequence number than the word's own clears nothing (R367). -/
theorem sqClear_of_seqOf_ne {mask w v : Nat} (h : seqOf v ≠ seqOf w) : sqClear mask w v = none := if_neg h

/-- Between 1 and 65,535 sets move the sequence number off its old value. -/
theorem seqOf_ne_seqOf_foldl_sqSet {sets : List Nat} (w : Nat) (h0 : sets ≠ []) (h1 : sets.length < 65536) :
    seqOf w ≠ seqOf (sets.foldl sqSet w) := by
  have hpos := List.length_pos_iff.mpr h0
  have hlt := seqOf_lt w
  rw [seqOf_foldl_sqSet]
  omega

/-- Settles O7: the sets of the run keep bit `b` on, and have moved the number that the write carries. -/
theorem staleFlagClearIsIgnored : Obligations.StaleFlagClearIsIgnored := by
  intro w sets b mask m _ hbits hb hlen hm
  constructor
  · rw [bitOn_foldl_sqSet sets w (hbits b hb), List.contains_iff_mem.mpr hb, Bool.or_true]
  · apply sqClear_of_seqOf_ne
    rw [seqOf_upper_half (seqOf_lt w) hm]
    exact seqOf_ne_seqOf_foldl_sqSet w (List.ne_nil_of_mem hb) hlen

end Sys2Proof.Machine
end

section
/-! PROOFS. Subscriptions, register accesses and waiting requests (R152, R319, R356 to R374), and the TEB pin (R168). -/

namespace Sys2Proof.Machine

/-! An accepted subscription request runs through steps 1 to 4 of Table 15-7 to its operation. -/

/-- The tag of an anonymous request is no job, so nothing waits for it (R316). -/
theorem State.tagWaits_anonymous {q : GopRequest} (s : State) (op : Nat) (hr : q.role = .anonymous) : s.tagWaits op q = false := by
  simp [State.tagWaits, hr]

theorem State.tagChecked_anonymous {q : GopRequest} (s : State) (op : Nat) (hr : q.role = .anonymous) : s.tagChecked op q = s := by
  simp [State.tagChecked, hr]

/-- R364 checks no sequence number of an anonymous request. -/
theorem State.seqVerdict_anonymous {q : GopRequest} (s : State) (hr : q.role = .anonymous) : s.seqVerdict q = .fresh := by
  simp [State.seqVerdict, hr]

/-- Only READ to WRITE_BLOCK reach a test object. -/
theorem State.testObject_of_four_lt {op : Nat} (s : State) (q : GopRequest) (h : 4 < op) : s.testObject op q = false := by
  have : ¬ op ≤ 4 := by omega
  simp [State.testObject, this]

/-- Only reads and writes wait for anything. -/
theorem State.waits_of_four_lt {op : Nat} (s : State) (index sub : Nat) (h : 4 < op) : s.waits op index sub = none := by
  rw [State.waits, if_neg (by omega), if_neg (by omega)]

theorem State.begin_of_waits_none {s : State} {h : Held} (hw : s.waits h.op h.req.index.toNat h.req.sub.toNat = none) :
    s.begin h = s.perform h := by
  rw [State.begin, hw]

/-- A message that has arrived is checked, unless it reaches a test object. -/
theorem gop_of_arrive {op d : Nat} {q : GopRequest} {s s1 : State} (hw : s.tagWaits op q = false) (ha : s.arrive q = some (s1, d))
    (ht : s1.testObject op q = false) : gop op q s = .next (s1.checked op q d).settle := by
  simp [gop, hw, ha, ht]

/-- What passes steps 1 to 3 begins its operation, with its sequence number stored unless it is anonymous. -/
theorem State.checked_fresh {op : Nat} {q : GopRequest} {s : State} (d : Nat) (hf : framed op q = true) (ht : s.tagGood op q = true)
    (hv : s.seqVerdict q = .fresh) (hop : op < 7) :
    s.checked op q d =
      (if q.role = .anonymous then s.tagChecked op q else (s.tagChecked op q).setSeqCell q.link q.role ⟨q.seq.toNat, none⟩).begin
        ⟨.signing, op, q, d⟩ := by
  simp [State.checked, hf, ht, hv, Nat.not_le.mpr hop]

/-- An anonymous SUBSCRIBE or UNSUBSCRIBE is executed on the state in which it has left its link. -/
theorem gop_anonymous {op d : Nat} {q : GopRequest} {s s1 : State} (h4 : 4 < op) (h7 : op < 7) (ha : s.arrive q = some (s1, d))
    (hr : q.role = .anonymous) (hf : framed op q = true) (ht : s1.tagGood op q = true) :
    gop op q s = .next (s1.perform ⟨.signing, op, q, d⟩).settle := by
  rw [gop_of_arrive (s.tagWaits_anonymous op hr) ha (s1.testObject_of_four_lt q h4),
    State.checked_fresh d hf ht (s1.seqVerdict_anonymous hr) h7, if_pos hr, s1.tagChecked_anonymous op hr,
    State.begin_of_waits_none (s1.waits_of_four_lt _ _ h4)]

/-- With a role and a fresh sequence number it is executed after the events of its tag's job, its number stored. -/
theorem gop_fresh {op d : Nat} {q : GopRequest} {s s1 s2 : State} (h4 : 4 < op) (h7 : op < 7) (ha : s.arrive q = some (s1, d))
    (hr : q.role ≠ .anonymous) (hf : framed op q = true) (hw : s.tagWaits op q = false) (ht : s1.tagGood op q = true)
    (hv : s1.seqVerdict q = .fresh) (h2 : s2 = (s1.tagChecked op q).setSeqCell q.link q.role ⟨q.seq.toNat, none⟩) :
    gop op q s = .next (s2.perform ⟨.signing, op, q, d⟩).settle := by
  rw [gop_of_arrive hw ha (s1.testObject_of_four_lt q h4), State.checked_fresh d hf ht hv h7, if_neg hr, ← h2,
    State.begin_of_waits_none (s2.waits_of_four_lt _ _ h4)]

theorem exec_gopSubscribe (q : GopRequest) (s : State) : exec (.gopSubscribe q) s = gop 5 q s := rfl
theorem exec_gopUnsubscribe (q : GopRequest) (s : State) : exec (.gopUnsubscribe q) s = gop 6 q s := rfl

theorem State.perform_subscribe (q : GopRequest) (d : Nat) (s : State) :
    s.perform ⟨.signing, 5, q, d⟩ = (s.subscribe q).1.answer ⟨.signing, 5, q, d⟩ (s.subscribe q).2 [] := rfl
theorem State.perform_unsubscribe (q : GopRequest) (d : Nat) (s : State) :
    s.perform ⟨.signing, 6, q, d⟩ = (s.unsubscribe q).answer ⟨.signing, 6, q, d⟩ AckCode.OK [] := rfl

/-! The subscription table (R370). -/

/-- The entries that a link has (R370). -/
def subscriptionLimit (l : Link) : Nat := if l = .pcie then 4 else 8

/-- A SUBSCRIBE with a mask left and no entry of its own takes a free entry, or finds none. -/
theorem State.subscribe_of_absent {q : GopRequest} {s : State} {m : Nat} (hp : q.payload.length = 4)
    (hm : m = maskOf (fun c => bitOn (ofLe q.payload) c && noticeAllowed c q.role) 32) (h0 : m ≠ 0)
    (ha : s.book.subs.any (GopRequest.owns q) = false) :
    s.subscribe q =
      if subscriptionLimit q.link ≤ (s.book.subs.filter fun x => x.link == q.link).length then (s, AckCode.SUB_FULL)
      else ({ s with book := { s.book with subs :=
        s.book.subs ++ [⟨q.link, if q.link = .pcie then 0 else q.mac.toNat, q.role, m, 1, []⟩] } }, AckCode.OK) := by
  subst hm
  rw [State.subscribe, if_neg (not_not_intro hp), if_neg h0, if_neg (Bool.eq_false_iff.mp ha)]
  rfl

theorem State.subscribe_takes_entry {q : GopRequest} {s : State} {m : Nat} (hp : q.payload.length = 4)
    (hm : m = maskOf (fun c => bitOn (ofLe q.payload) c && noticeAllowed c q.role) 32) (h0 : m ≠ 0)
    (ha : s.book.subs.any (GopRequest.owns q) = false)
    (hfree : (s.book.subs.filter fun x => x.link == q.link).length < subscriptionLimit q.link) :
    (s.subscribe q).2 = AckCode.OK ∧ (s.subscribe q).1.book.subs =
      s.book.subs ++ [⟨q.link, if q.link = .pcie then 0 else q.mac.toNat, q.role, m, 1, []⟩] := by
  rw [State.subscribe_of_absent hp hm h0 ha, if_neg (Nat.not_le.mpr hfree)]
  exact ⟨rfl, rfl⟩

theorem State.subscribe_full {q : GopRequest} {s : State} (hp : q.payload.length = 4)
    (h0 : maskOf (fun c => bitOn (ofLe q.payload) c && noticeAllowed c q.role) 32 ≠ 0)
    (ha : s.book.subs.any (GopRequest.owns q) = false)
    (hfull : subscriptionLimit q.link ≤ (s.book.subs.filter fun x => x.link == q.link).length) :
    s.subscribe q = (s, AckCode.SUB_FULL) := by
  rw [State.subscribe_of_absent hp rfl h0 ha, if_pos hfull]

/-! Register accesses (R367, R373, R374). -/

theorem exec_registerWrite (p : Path) (i : BitVec 16) (sub : BitVec 8) (v : BitVec 64) (ds : List Posted) (s : State) :
    exec (.registerWrite p i sub v ds) s = s.writeRegister p i sub v.toNat ds false := rfl
theorem exec_statusClear (p : Path) (i : BitVec 16) (sub : BitVec 8) (v : BitVec 32) (s : State) :
    exec (.statusClear p i sub v) s = s.writeRegister p i sub v.toNat [] true := rfl

/-- A write to a scalar begins with the role of its path; through BAR0 in its order, and STATUS_CLEAR for a status word alone. -/
theorem State.writeRegister_scalar {p : Path} {r : Role} {i : BitVec 16} {sub : BitVec 8} {o : Target} {s : State} (v : Nat)
    (ds : List Posted) {status : Bool} (hp : s.pathRole p = some r) (hf : findObject i.toNat sub.toNat = some o)
    (ho : s.open = true) (hb : o.row.blob = false) (hs : status = true → o.row.access = .sq) :
    s.writeRegister p i sub v ds status = .next (if p = .bar0
      then s.beginInOrder ⟨.signing, 0, registerRequest r i sub (slotOctets o.row.type v) ds, 0⟩
      else s.begin ⟨.signing, 0, registerRequest r i sub (slotOctets o.row.type v) ds, 0⟩).settle := by
  have hq : (status && o.row.access != .sq) = false := by
    cases status with
    | false => rfl
    | true => simp [hs rfl]
  simp [State.writeRegister, hp, hf, ho, hb, hq]

theorem State.beginInOrder_of_free {s : State} {h : Held} (hw : s.waits h.op h.req.index.toNat h.req.sub.toNat = none)
    (ho : s.orderHeld = false) : s.beginInOrder h = s.perform h := by
  simp [State.beginInOrder, hw, ho]

/-- A write through BAR0 waits for its block, and for every earlier one that waits (R374). -/
theorem State.beginInOrder_of_held {s : State} {h : Held}
    (hw : s.orderHeld = true ∨ (s.waits h.op h.req.index.toNat h.req.sub.toNat).isSome = true) :
    s.beginInOrder h = { s with book := { s.book with held := s.book.held ++ [{ h with wait := .order }] } } := by
  rw [State.beginInOrder, if_pos (by simpa using hw)]

/-- With nothing to wait for, a register write is executed whichever path it took. -/
theorem State.writeRegister_of_free {p : Path} {r : Role} {i : BitVec 16} {sub : BitVec 8} {o : Target} {s : State} (v : Nat)
    (ds : List Posted) {status : Bool} (hp : s.pathRole p = some r) (hf : findObject i.toNat sub.toNat = some o)
    (ho : s.open = true) (hb : o.row.blob = false) (hs : status = true → o.row.access = .sq)
    (hw : s.waits 0 i.toNat sub.toNat = none) (hn : s.orderHeld = false) :
    s.writeRegister p i sub v ds status =
      .next (s.performWrite ⟨.signing, 0, registerRequest r i sub (slotOctets o.row.type v) ds, 0⟩).settle := by
  rw [State.writeRegister_scalar v ds hp hf ho hb hs, State.beginInOrder_of_free hw hn, State.begin_of_waits_none hw, ite_self]
  rfl

/-- Through BAR0 it joins the writes that wait in order. -/
theorem State.writeRegister_bar0_of_held {r : Role} {i : BitVec 16} {sub : BitVec 8} {o : Target} {s : State} (v : Nat)
    (ds : List Posted) {status : Bool} (hp : s.pathRole .bar0 = some r) (hf : findObject i.toNat sub.toNat = some o)
    (ho : s.open = true) (hb : o.row.blob = false) (hs : status = true → o.row.access = .sq)
    (hw : s.orderHeld = true ∨ (s.waits 0 i.toNat sub.toNat).isSome = true) :
    s.writeRegister .bar0 i sub v ds status =
      .next ({ s with book := { s.book with held := s.book.held ++
        [⟨.order, 0, registerRequest r i sub (slotOctets o.row.type v) ds, 0⟩] } } : State).settle := by
  rw [State.writeRegister_scalar v ds hp hf ho hb hs, if_pos rfl, State.beginInOrder_of_held hw]

/-- A status word's sticky bits are cleared at step 6, whatever its ENABLE (R367). -/
theorem State.judgeWrite_sticky {o : Target} {mask : Nat} (v : Int) (s : State) (ha : o.row.access = .sq)
    (hr : o.row.range = .sticky mask) : s.judgeWrite o (some v) = .done (s.clearSticky o mask v).1 (s.clearSticky o mask v).2 := by
  simp [State.judgeWrite, ha, hr]

theorem exec_bar0BadAccess {s : State} (ho : s.open = true) (hl : s.linkUp .pcie = true) :
    exec .bar0BadAccess s = .next (s.stick Obj.OD_STATUS 4).settle := by
  show execBar0BadAccess s = _
  simp [execBar0BadAccess, ho, hl]

theorem State.bar0Read_of_orderHeld (a n : Nat) {s : State} (h : s.orderHeld = true) : s.bar0Read a n = none := by
  simp [State.bar0Read, h]

/-- A read of another size, or at an address that is not aligned to it, returns zero (R374). -/
theorem State.bar0Read_bad {a n : Nat} {s : State} (h : s.orderHeld = false) (hb : n ∉ [1, 2, 4, 8] ∨ a % n ≠ 0) :
    s.bar0Read a n = some 0 := by
  have hc : ([1, 2, 4, 8].contains n && a % n == 0) = false := by
    rcases hb with hn | ha
    · rw [show [1, 2, 4, 8].contains n = false by simpa using hn, Bool.false_and]
    · rw [beq_false_of_ne ha, Bool.and_false]
  simp only [State.bar0Read, h, hc, Bool.false_eq_true, if_false]

/-! What a completion releases (R152, R319, R368, R374). -/

/-- Where none of the requests waited for `x`, and a write through BAR0 that waits is behind another, all go on waiting. -/
theorem State.resumeOf_of_none_ready (x : Wait) (l : List Held) (blocked : Bool) (s : State)
    (h : ∀ g ∈ l, g.wait ≠ x ∧ (g.wait = .order → blocked = true)) : State.resumeOf x l blocked s = s := by
  induction l generalizing blocked with
  | nil => rfl
  | cons g l ih =>
    obtain ⟨hx, ho⟩ := h g List.mem_cons_self
    have hstays : ¬ (g.wait == x || (g.wait == .order && !blocked &&
        (s.waits g.op g.req.index.toNat g.req.sub.toNat).isNone)) = true := by
      simp only [Bool.or_eq_true, Bool.and_eq_true, beq_iff_eq, Bool.not_eq_true']
      rintro (hgx | ⟨⟨hgo, hb⟩, -⟩)
      · exact hx hgx
      · simp [ho hgo] at hb
    rw [State.resumeOf, if_neg hstays]
    refine ih _ fun k hk => ⟨(h k (List.mem_cons_of_mem _ hk)).1, fun hko => ?_⟩
    rw [(h k (List.mem_cons_of_mem _ hk)).2 hko, Bool.true_or]

/-- The one request that waits is executed where it waited for `x`, or is a write through BAR0 that waits for nothing more. -/
theorem State.resume_of_ready {x : Wait} {h : Held} {s : State} (hl : s.book.held = [h])
    (hr : h.wait = x ∨ h.wait = .order ∧ s.waits h.op h.req.index.toNat h.req.sub.toNat = none) :
    s.resume x = (({ s with book := { s.book with held := [] } } : State).perform h).settle := by
  have hgoes : (h.wait == x || (h.wait == .order && !false &&
      (s.waits h.op h.req.index.toNat h.req.sub.toNat).isNone)) = true := by
    rcases hr with hx | ⟨ho, hw⟩
    · simp [hx]
    · simp [ho, hw]
  rw [State.resume, hl, State.resumeOf, if_pos hgoes, State.resumeOf, hl, List.erase_cons_head]

/-- Behind a write through BAR0 that still waits, the other ones wait too (R374). -/
theorem State.resume_of_blocked {x : Wait} {h : Held} {l : List Held} {s : State} (hl : s.book.held = h :: l)
    (ho : h.wait = .order) (hx : x ≠ .order) (hall : ∀ g ∈ l, g.wait = .order)
    (hw : (s.waits h.op h.req.index.toNat h.req.sub.toNat).isSome = true) : s.resume x = s := by
  have hstays : ¬ (h.wait == x || (h.wait == .order && !false &&
      (s.waits h.op h.req.index.toNat h.req.sub.toNat).isNone)) = true := by
    obtain ⟨y, hy⟩ := Option.isSome_iff_exists.mp hw
    simp [ho, hy, hx.symm]
  rw [State.resume, hl, State.resumeOf, if_neg hstays]
  exact State.resumeOf_of_none_ready x l _ s fun g hg => ⟨by rw [hall g hg]; exact hx.symm, fun _ => by simp [ho]⟩

theorem exec_snapshotComplete {s s1 : State} (hc : s.snap.copying = true)
    (h1 : s1 = (s.wrN Obj.SNAP_TAKEN (s.snap.lastAt48.getD 0 / ns48)).bump Obj.SNAP_SEQ) :
    exec .snapshotComplete s =
      .next (({ s1 with snap := { s1.snap with copying := false } } : State).resume .snapshot).settle := by
  show execSnapshotComplete s = _
  rw [execSnapshotComplete, hc, h1]
  rfl

theorem exec_pkuOpComplete {op : PkuOp} {rest : List PkuOp} {s s1 : State} (hp : s.ks.pku = op :: rest)
    (h1 : s1 = { s with ks := { s.ks with pku := rest } }) :
    exec .pkuOpComplete s = .next ((s1.pkuResult op).resume .signing).settle := by
  show execPkuOpComplete s = _
  rw [execPkuOpComplete, hp, h1]

/-- A CSR and an attestation are made with the identity key (R319). -/
theorem State.pkuResult_csr (subj : List Octet) {d : BitVec 256} {s : State} (hd : s.identity = some d) :
    s.pkuResult (.csr subj) = s.wrBlob [] Obj.ID_CSR (Config.csr d subj) := by
  simp only [State.pkuResult, hd]

theorem State.pkuResult_attest (msg : List Octet) {d : BitVec 256} {s : State} (hd : s.identity = some d) :
    s.pkuResult (.attest msg) = s.wrBlob (List.replicate 64 0) Obj.ID_ATTEST (padTo 64 (Config.sign d msg)) := by
  simp only [State.pkuResult, hd]

theorem State.pkuResult_install (s : State) : s.pkuResult .install = s.installRecord := rfl

theorem exec_shadowRestoreComplete {b : Fin 20} (ok : Bool) {s : State} (hb : bitOn s.book.guard.restoring b = true) :
    exec (.shadowRestoreComplete b ok) s = .next ((s.restored b ok).settle.resume (.restoring b)).close := by
  show execShadowRestoreComplete b ok s = _
  rw [execShadowRestoreComplete, if_pos hb]

/-- TEB_PIN goes HIGH at the end of its hold (R168). -/
theorem exec_tebPinHoldExpiry {t : Nat} {s s1 : State} (hin : s.teb.within48 = some t) (hp : s.teb.pin = false)
    (hrun : s.runTo (t + ms48 (s.rdN Obj.TEB_PIN_HOLD)) = some s1) :
    exec .tebPinHoldExpiry s = .next ({ s1 with teb := { s1.teb with pin := true } } : State).settle := by
  show execTebPinHoldExpiry s = _
  simp [execTebPinHoldExpiry, hin, hp, hrun]

/-- Settles O47, clause by clause: the two subscription requests and the table of R370, the register accesses, what the
completions release, and the TEB pin. -/
theorem subscriptionsAndWaitsComplete : Obligations.SubscriptionsAndWaitsComplete := by
  refine ⟨⟨?subscribeAnonymous, ?subscribeRole, ?unsubscribeAnonymous, ?unsubscribeRole, fun _ _ => rfl,
      fun _ _ _ => State.subscribe_takes_entry, fun _ _ => State.subscribe_full, ?registerWrite, ?statusClear,
      fun _ _ v s => State.judgeWrite_sticky v s, fun _ => exec_bar0BadAccess, ?bar0Held,
      fun a n _ => State.bar0Read_of_orderHeld a n, fun _ _ _ => State.bar0Read_bad⟩,
    ⟨fun _ _ => exec_snapshotComplete, fun _ _ _ _ => exec_pkuOpComplete, ?csr, ?attest, State.pkuResult_install,
      fun _ ok _ => exec_shadowRestoreComplete ok, ?idle, ?order, ?orderPair, ?waited, fun _ _ _ => exec_tebPinHoldExpiry⟩⟩
  case subscribeAnonymous =>
    intro q s s1 d ha hr hf ht
    rw [exec_gopSubscribe, gop_anonymous (by decide) (by decide) ha hr hf ht, State.perform_subscribe]
  case subscribeRole =>
    intro q s s1 s2 d ha hr hf hw ht hv h2
    rw [exec_gopSubscribe, gop_fresh (by decide) (by decide) ha hr hf hw ht hv h2, State.perform_subscribe]
  case unsubscribeAnonymous =>
    intro q s s1 d ha hr hf ht
    rw [exec_gopUnsubscribe, gop_anonymous (by decide) (by decide) ha hr hf ht, State.perform_unsubscribe]
  case unsubscribeRole =>
    intro q s s1 s2 d ha hr hf hw ht hv h2
    rw [exec_gopUnsubscribe, gop_fresh (by decide) (by decide) ha hr hf hw ht hv h2, State.perform_unsubscribe]
  case registerWrite =>
    intro p r i sub v ds o s hp hf ho hb hw hn
    rw [exec_registerWrite, State.writeRegister_of_free v.toNat ds (status := false) hp hf ho hb nofun hw hn]
  case statusClear =>
    intro p r i sub v o s hp hf ho hb hs hw hn
    rw [exec_statusClear, State.writeRegister_of_free v.toNat [] hp hf ho hb (fun _ => hs) hw hn]
  case bar0Held =>
    intro r i sub v ds o s hp hf ho hb hw
    rw [exec_registerWrite, State.writeRegister_bar0_of_held v.toNat ds (status := false) hp hf ho hb nofun hw]
  case csr =>
    intro subj d s hd
    rw [State.pkuResult_csr subj hd, State.blob_wrBlob_same]
  case attest =>
    intro msg d s hd
    rw [State.pkuResult_attest msg hd, State.blob_wrBlob_same]
  case idle =>
    intro x s h
    exact State.resumeOf_of_none_ready x _ _ s fun g hg => ⟨(h g hg).1, fun ho => absurd ho (h g hg).2⟩
  case order =>
    intro x h s hl ho hx
    exact ⟨fun hw => State.resume_of_ready hl (.inr ⟨ho, hw⟩), State.resume_of_blocked hl ho hx nofun⟩
  case orderPair =>
    intro x h g s hl ho hg hx
    exact State.resume_of_blocked hl ho hx fun k hk => by rwa [List.mem_singleton.mp hk]
  case waited =>
    intro x h s hl hx
    exact State.resume_of_ready hl (.inl hx)

end Sys2Proof.Machine
end

section
/-! PROOFS. The GNSS baseband's epochs, solutions, pulses and notices (R19, R212 to R221). -/

namespace Sys2Proof.Machine

/-! The instants of a periodic action (R142): the last multiple of the period up to now, or the one after it. -/

theorem State.nextPeriodic_of_not_done {s : State} {p : Nat} {done : Option Nat}
    (hb : s.clk.before48 < s.now80 / p * p * ns48) (hd : done ≠ some (s.now80 / p * p)) :
    s.nextPeriodic p done = s.now80 / p * p := if_pos ⟨hb, hd⟩

theorem State.nextPeriodic_of_done {s : State} {p : Nat} {done : Option Nat}
    (h : s.now80 / p * p * ns48 ≤ s.clk.before48 ∨ done = some (s.now80 / p * p)) :
    s.nextPeriodic p done = s.now80 / p * p + p :=
  if_neg fun ⟨hb, hd⟩ => h.elim (Nat.not_le.mpr hb) hd

theorem State.nextPeriodic_eq_or (s : State) (p : Nat) (done : Option Nat) :
    s.nextPeriodic p done = s.now80 / p * p ∨ s.nextPeriodic p done = s.now80 / p * p + p := by
  unfold State.nextPeriodic
  dsimp only
  split
  · exact .inl rfl
  · exact .inr rfl

theorem State.nextPeriodic_mod (s : State) (p : Nat) (done : Option Nat) : s.nextPeriodic p done % p = 0 := by
  rcases s.nextPeriodic_eq_or p done with h | h <;> simp [h]

/-- The next instant lies within one period of now, on either side. -/
theorem State.nextPeriodic_near (s : State) {p : Nat} (done : Option Nat) (hp : 0 < p) :
    s.nextPeriodic p done ≤ s.now80 + p ∧ s.now80 < s.nextPeriodic p done + p := by
  have hle : s.now80 / p * p ≤ s.now80 := Nat.div_mul_le_self _ _
  have hlt : s.now80 < s.now80 / p * p + p := Nat.lt_div_mul_add hp
  rcases s.nextPeriodic_eq_or p done with h | h <;> omega

/-! Epochs (R212, R213). -/

/-- A rate of 1 to 100 epochs a second, which takes in every rate of R212, gives a period. -/
theorem epochPeriod_pos {rate : Nat} (h1 : 1 ≤ rate) (h100 : rate ≤ 100) : 0 < giga / rate :=
  Nat.div_pos (Nat.le_trans h100 (by decide)) h1

theorem exec_measurementEpoch {resid : Fin 533333} (es : List (Nat × TrkMeas)) {s s1 : State} (hen : s.rdB Obj.GN_ENABLE = true)
    (hr : s.reach s.nextEpoch = some s1) :
    exec (.measurementEpoch resid es) s = .next ((s1.epochDone s.nextEpoch).epoch s.nextEpoch resid es).close := by
  show execMeasurementEpoch resid es s = _
  simp [execMeasurementEpoch, hen, hr]

/-- Only a channel in TRACK on a band in RUN gives a valid entry (R213). -/
theorem State.entryValid_eq_none {s : State} {c : Nat} (es : List (Nat × TrkMeas))
    (h : s.trkState c ≠ 2 ∨ s.feState (s.trkBand c) ≠ 2) : s.entryValid es c = none := by
  unfold State.entryValid
  split
  · exact if_neg fun ⟨ht, _, hf⟩ => h.elim (· ht) (· hf)
  · rfl

/-! Solutions (R215 to R218). -/

theorem exec_timeSolution_of_complete {r : Fin 2} {l : List TimeSol} {x : TimeSol} {s s1 : State} (hon : s.rxOn r = true)
    (h1 : s1 = s.hearEphemerides r l) (hx : s1.afterExclusions r l = some x) (hsats : s1.satsOf r x ≠ [])
    (hsec : (s1.rx r).epochSec = some s1.clk.ts.sec) (hns : s1.clk.ts.ns ≤ 400000000) :
    exec (.timeSolution r l) s = .next (s1.solve r x s1.clk.ts.sec).settle := by
  subst h1
  show execTimeSolution r l s = _
  simp [execTimeSolution, hon, hx, hsats, hsec, Nat.not_lt.mpr hns]

/-- Without a solution, or with one that has no satellite, another second's epoch or comes too late, the receiver has none. -/
theorem exec_timeSolution_of_none {r : Fin 2} {l : List TimeSol} {s s1 : State} (hon : s.rxOn r = true)
    (h1 : s1 = s.hearEphemerides r l) (hno : ∀ x, s1.afterExclusions r l = some x →
      s1.satsOf r x = [] ∨ (s1.rx r).epochSec ≠ some s1.clk.ts.sec ∨ 400000000 < s1.clk.ts.ns) :
    exec (.timeSolution r l) s = .next (s1.rxNoSolution r).settle := by
  subst h1
  show execTimeSolution r l s = _
  cases hx : (s.hearEphemerides r l).afterExclusions r l with
  | none => simp [execTimeSolution, hon, hx]
  | some x => simp [execTimeSolution, hon, hx, hno x hx]

theorem State.satUsable_of_no_entry {s : State} {r : Nat} {u : SatUse}
    (h : (s.rx r).entries.find? (fun e => e.1 == u.chan) = none) : s.satUsable r u = false := by
  simp [State.satUsable, h]

/-- A first solution within the residual limit stands without an exclusion (R217). -/
theorem State.afterExclusions_cons_of_good {s : State} {r : Nat} {x : TimeSol} (l : List TimeSol)
    (h : s.residHigh r x = false) : s.afterExclusions r (x :: l) = some x := by
  simp [State.afterExclusions, h]

theorem State.traim_of_residHigh {s : State} {r : Nat} {x : TimeSol} (survey : Bool) (h : s.residHigh r x = true) :
    s.traim r x survey = 4 := by
  simp [State.traim, h]

/-! Pulses (R219). -/

theorem low_SLOT_STATE {n : Nat} (h : n < 24) : (Obj.SLOT_STATE n).low := by
  simp only [Reg.low, Obj.SLOT_STATE, regKey]
  omega

/-- Counting an event leaves the state of every slot alone. -/
theorem State.slotState_count (s : State) {n : Nat} (ev amt : Nat) (h : n < 24) :
    (s.count ev amt).slotState n = s.slotState n := by
  rw [State.slotState, State.rdN, ((Agrees.refl s).count ev amt).rd _ (low_SLOT_STATE h)]
  rfl

/-- The instant of a pulse, in nanoseconds (R219). -/
def Pulse.edge80 (p : Pulse) : Nat := (((p.second * giga * 65536 : Nat) + p.b16 - p.qerr16) / 65536 : Int).toNat

/-- The pulse leaves with the second that it belongs to, for the slot that takes its next pulse. -/
def State.namePulse (s : State) (n second : Nat) : State :=
  s.setSlot n { s.slot n with named := some ((s.slot n).pulses + 1, second) }

/-- While the receiver's configuration is restored (R226), or without APLL-A, the pulse is dropped. -/
theorem exec_receiverPps_dropped {r : Fin 2} {p : Pulse} (tap vernier : Fin 32) {s s1 : State} (hp : (s.rx r).pulse = some p)
    (hr : s.reach p.edge80 = some s1) (hbad : s1.rxUnsafe r = true ∨ s1.apllA = false) :
    exec (.receiverPps r tap vernier) s = .next (s1.setRx r { s1.rx r with pulse := none }).settle := by
  rw [Pulse.edge80] at hr
  have hc : (s1.rxUnsafe r || !s1.apllA) = true := by simpa using hbad
  show execReceiverPps r tap vernier s = _
  simp only [execReceiverPps, hp, hr, hc, if_true]

/-- Otherwise it is counted, named for its slot unless that is disabled, and stamped on channel 10 or 11. -/
theorem exec_receiverPps_stamped {r : Fin 2} {p : Pulse} (tap vernier : Fin 32) {s s1 s2 : State} (hp : (s.rx r).pulse = some p)
    (hr : s.reach p.edge80 = some s1) (hsafe : s1.rxUnsafe r = false) (ha : s1.apllA = true)
    (h2 : s2 = (s1.setRx r { s1.rx r with pulse := none }).count (0x1B2 + r) 1) :
    exec (.receiverPps r tap vernier) s =
      .next ((s2.when (s2.slotState (20 + r) != Sl.DISABLED) (·.namePulse (20 + r) p.second)).trestleEdge (10 + r) tap vernier
        false false (p.qerr16 * 64 + (s2.lead48 - p.lead48) / 2 ^ 26)).close := by
  rw [Pulse.edge80] at hr
  have hslot : s2.slotState (20 + r) = (s1.setRx r { s1.rx r with pulse := none }).slotState (20 + r) := by
    rw [h2, State.slotState_count _ _ _ (by omega)]
  have hlead (b : Bool) : (s2.when b (·.namePulse (20 + r) p.second)).lead48 = s2.lead48 :=
    State.when_keeps State.lead48 s2 b _ fun _ => rfl
  rw [← hlead (s2.slotState (20 + r) != Sl.DISABLED), hslot, h2]
  show execReceiverPps r tap vernier s = _
  simp only [execReceiverPps, hp, hr, hsafe, ha, Bool.not_true, Bool.or_self, Bool.false_eq_true, if_false]
  rfl

/-! Notices (R220). -/

/-- Half a second before its second, a receiver without a pulse reports a second that is not valid. -/
theorem exec_gnssSecondNotice_of_no_pulse {r : Fin 2} {s s0 s1 : State} (hen : s.rdB (Obj.RX_EN r) = true)
    (hr : s.reach (s.nextNotice r) = some s0) (h1 : s1 = s0.setRx r { s0.rx r with notice80 := some (s.nextNotice r) })
    (hp : (s1.rx r).pulse = none) :
    exec (.gnssSecondNotice r) s =
      .next ((s1.wr (Obj.RX_QERR r) 0).notice 3 0x7563 (r + 1) (s1.secondBody r (s1.clk.ts.sec + 1) none)).settle := by
  subst h1
  show execGnssSecondNotice r s = _
  simp only [execGnssSecondNotice, hen, hr, hp, Bool.not_true, Bool.false_eq_true, if_false, ite_self]

theorem exec_gnssSecondNotice_of_pulse {r : Fin 2} {s s0 s1 : State} {p : Pulse} (hen : s.rdB (Obj.RX_EN r) = true)
    (hr : s.reach (s.nextNotice r) = some s0) (h1 : s1 = s0.setRx r { s0.rx r with notice80 := some (s.nextNotice r) })
    (hp : (s1.rx r).pulse = some p) (hsec : p.second = s1.clk.ts.sec + 1) (hsafe : s1.rxUnsafe r = false) :
    exec (.gnssSecondNotice r) s =
      .next ((s1.wr (Obj.RX_QERR r) p.qerr16).notice 3 0x7563 (r + 1) (s1.secondBody r (s1.clk.ts.sec + 1) (some p))).settle := by
  subst h1
  show execGnssSecondNotice r s = _
  simp only [execGnssSecondNotice, hen, hr, hp, hsafe, hsec, Bool.not_true, Bool.false_eq_true, if_false, if_true]

/-- Settles O55, clause by clause: the epochs with their instants, the solutions, the pulse of a second and its notice. -/
theorem epochsAndSolutionsComplete : Obligations.EpochsAndSolutionsComplete := by
  refine ⟨fun _ es _ _ => exec_measurementEpoch es, ?instants, fun es _ _ => State.entryValid_eq_none es,
    fun _ _ _ _ _ => exec_timeSolution_of_complete, fun _ _ _ _ => exec_timeSolution_of_none,
    fun _ _ _ => State.satUsable_of_no_entry, fun _ _ l _ => State.afterExclusions_cons_of_good l,
    fun _ _ b _ => State.traim_of_residHigh b, fun _ _ tap vernier _ _ => exec_receiverPps_dropped tap vernier, ?stamped,
    fun _ _ _ _ => exec_gnssSecondNotice_of_no_pulse, fun _ _ _ _ _ => exec_gnssSecondNotice_of_pulse⟩
  case instants =>
    rintro p c s rfl rfl
    exact ⟨State.nextPeriodic_of_not_done, State.nextPeriodic_of_done,
      fun h1 h100 => ⟨s.nextPeriodic_mod _ _, s.nextPeriodic_near _ (epochPeriod_pos h1 h100)⟩⟩
  case stamped =>
    intro r p tap vernier s s1 s2 hp hr hsafe ha h2
    rw [exec_receiverPps_stamped tap vernier hp hr hsafe ha h2]
    constructor
    · intro hd
      rw [bne_eq_false_iff_eq.mpr hd, State.when_false]
    · intro hd
      rw [bne_iff_ne.mpr hd, State.when_true]
      rfl

end Sys2Proof.Machine
end

section
/-! PROOFS. Drover's calendar and the launch of frames (R25, R285 to R288), and the enables, fences and key rotation of the
timing protocol engine (R251, R252, R258, R265, R268, R272). -/

namespace Sys2Proof.Machine

/-! The calendar (R285 to R288). -/

/-- The wheel reaches the slot of an entry's due time, or the one that its pacer moved it to (R287). -/
theorem exec_calendarEntryDue {e : CalEntry} {s s1 : State} (he : s.nextEntry = some e) (hr : s.reach (wheelNs e) = some s1) :
    exec .calendarEntryDue s =
      .next (if e.elig16.isSome then s1.setEntry { e with ready := true } else s1.entryDue e).settle := by
  show execCalendarEntryDue s = _
  cases hel : e.elig16 <;> simp [execCalendarEntryDue, he, hr, hel]

theorem exec_calendarHandover {pl : Fin 4} {e : CalEntry} {s s1 : State} (he : s.nextReady pl = some e)
    (hroom : s.roomFor pl (s.ownerPort e.owner) = true) (hr : s.runTo (s.freeFrom pl) = some s1) :
    exec (.calendarHandover pl) s = .next ((s1.handOver pl e).watched s).settle := by
  show execCalendarHandover pl s = _
  simp [execCalendarHandover, he, hroom, hr]

/-- A full pipeline, full lanes or stopped data-class traffic takes no passage (R250, R316, R397). -/
theorem State.roomFor_eq_false {s : State} {pl : Nat} (p : Nat)
    (h : 256 ≤ s.built pl ∨ s.jobsFull = true ∨ s.rdB Obj.VD_DATA_EN = false) : s.roomFor pl p = false := by
  rcases h with hb | hj | hd
  · simp [State.roomFor, Nat.not_lt.mpr hb]
  · simp [State.roomFor, hj]
  · simp [State.roomFor, hd]

theorem State.freeFrom_of_handed {s : State} {pl t : Nat} (h : s.tpe.handed.find? (fun e => e.1 == pl) = some (pl, t)) :
    s.freeFrom pl = t + 25 * ns48 := by
  simp [State.freeFrom, h]

/-- An entry whose messages are not served is passed over (R251). -/
theorem State.entryDue_of_not_generates {s : State} {e : CalEntry} (h : s.generates e.owner = false) :
    s.entryDue e = s.advance e := by
  simp [State.entryDue, h]

/-! Launch (R25). -/

theorem exec_frameLaunch {p : Fin 8} {f : Frame} {s s1 : State} (hf : s.nextFrame p = some f)
    (hr : s.reach (f.dep48 / ns48) = some s1) :
    exec (.frameLaunch p) s = .next (((s1.prune p).launch f).watched s).settle := by
  show execFrameLaunch p s = _
  simp [execFrameLaunch, hf, hr]

/-- SVC_OFF: the engine does not serve when the departure instant is reached. -/
theorem State.launch_of_off {s : State} (f : Frame) (h : s.tpeOn = false) : s.launch f = (s.dropFrame f).tpeCount 5 := by
  simp [State.launch, h]

/-- With service in full, a frame that has its tag departs where its port sends and is not held. -/
theorem State.launch_of_ready {s : State} {f : Frame} (hon : s.tpeOn = true) (hsvc : s.pktService = 2)
    (hsend : s.portSends f.port = true) (hheld : (s.port f.port).held48 = none) (htag : tagJob f.tag = none)
    (hdata : s.rdB Obj.VD_DATA_EN = true) : s.launch f = s.onAir f := by
  simp [State.launch, hon, hsvc, hsend, hheld, htag, hdata]

/-- LATE: the port does not send, data-class traffic is stopped, or a lane still makes the tag. -/
theorem State.launch_of_not_ready {s : State} {f : Frame} (hon : s.tpeOn = true) (hsvc : s.pktService = 2)
    (h : s.portSends f.port = false ∨ s.rdB Obj.VD_DATA_EN = false ∨ (tagJob f.tag).isSome = true) :
    s.launch f = (s.dropFrame f).lateFrame f.port := by
  rcases h with hsend | hdata | htag
  · simp [State.launch, hon, hsvc, hsend]
  · simp [State.launch, hon, hsvc, hdata]
  · simp [State.launch, hon, hsvc, htag]

/-! The engine's enable and its fences (R251, R252, R272). -/

/-- A write to a block that is not being restored takes effect at once (R368). -/
theorem State.orHeld_of_not_restoring {s : State} {b : Nat} (role : Role) (l : Link) (r : Reg) (octets : List Octet)
    (descs : List Posted) (go : Host.Outcome State Fault Refusal) (h : s.restoring b = false) :
    s.orHeld b role l r octets descs go = go := by
  simp [State.orHeld, h]

theorem exec_tpeEnableWrite (v : Bool) {s : State} (h : s.restoring 12 = false) :
    exec (.tpeEnableWrite v) s = .next (s.setTpeEnable v).settle := State.orHeld_of_not_restoring _ _ _ _ _ _ h

/-- At TPE_ENABLE 1→0 everything in flight is discarded (R251). -/
theorem State.setTpeEnable_off {s : State} (h : s.rdB Obj.TPE_ENABLE = true) :
    s.setTpeEnable false = ((s.wrN Obj.TPE_ENABLE 0).discardAll 5).watched (s.wrN Obj.TPE_ENABLE 0) := by
  simp [State.setTpeEnable, h]

/-- 0→1 asks for a Fold region inside the DRAM (R252). -/
theorem State.setTpeEnable_on {s : State} (h : s.rdB Obj.TPE_ENABLE = false) :
    s.setTpeEnable true = if s.foldGood then s.wrN Obj.TPE_ENABLE 1 else s.rangeReject 12 Obj.TPE_ENABLE.key := by
  simp [State.setTpeEnable, h]

theorem exec_tpeFence {s : State} (h : s.restoring 12 = false) : exec .tpeFence s = .next s.fence.settle :=
  State.orHeld_of_not_restoring _ _ _ _ _ _ h

theorem exec_tpeFenceComplete {id : Nat} {rest : List Nat} {s : State} (hf : s.tpe.fences = id :: rest)
    (hover : s.fenceOver id = true) :
    exec .tpeFenceComplete s =
      .next (({ s with tpe := { s.tpe with fences := rest } } : State).releaseFence id).settle := by
  show execTpeFenceComplete s = _
  simp [execTpeFenceComplete, hf, hover]

/-! Profiles (R258). -/

theorem exec_profEnWrite (x : Fin 16) (v : Bool) {s : State} (h : s.restoring 12 = false) :
    exec (.profEnWrite x v) s = .next (s.setProfEn x v).settle := State.orHeld_of_not_restoring _ _ _ _ _ _ h

/-- An enabled profile's multicast entries follow on every port (R285). -/
theorem State.setProfEn_on {s : State} {x : Nat} (h : s.rdB (Obj.PROF_EN x) = false) :
    s.setProfEn x true = if s.profGood x then (s.wrN (Obj.PROF_EN x) 1).forEach (l := List.range 8)
      (p := fun s p => s.multicastEntries p x) else s.rangeReject 12 (Obj.PROF_EN x).key := by
  simp [State.setProfEn, h]

theorem State.setProfEn_off (s : State) (x : Nat) :
    s.setProfEn x false = (s.wrN (Obj.PROF_EN x) 0).forEach (l := List.range 8) (p := fun s p => s.multicastEntries p x) := rfl

/-! Key rotation (R265, R268). -/

theorem exec_keyRotation {e : Fin 17} {s s1 : State} (hn : s.rdN (rotation e).2.1 ≠ 0xFFFF)
    (hr : s.reach (s.rdN (rotation e).2.2.2) = some s1) :
    exec (.keyRotation e) s = .next (s1.rotate e).settle := by
  show execKeyRotation e s = _
  simp [execKeyRotation, hn, hr]

theorem rotation_of_spp {e : Nat} (h : e < 16) :
    rotation e = (Obj.SPP_CUR_SLOT e, Obj.SPP_NEXT_SLOT e, Obj.SPP_PREV_SLOT e, Obj.SPP_ROTATE_AT e) := if_pos h

/-- PREV takes CUR, CUR takes NEXT and NEXT is taken, and the journal gets the keys of CUR and PREV (R265). -/
theorem State.rotate_of_spp {s : State} {e n : Nat} (he : e < 16) (hnext : s.rdN (Obj.SPP_NEXT_SLOT e) = n) (hn : n ≠ 0xFFFF) :
    s.rotate e = ((((s.hw (Obj.SPP_PREV_SLOT e) (s.rdN (Obj.SPP_CUR_SLOT e))).hw (Obj.SPP_CUR_SLOT e) n).hw
      (Obj.SPP_NEXT_SLOT e) 0xFFFF).journalKey e 0).journalKey e 2 := by
  subst hnext
  simp [State.rotate, rotation_of_spp he, hn]

/-- Settles O58, clause by clause: the calendar, the launch, the engine's enable and fences, the profiles and the rotation. -/
theorem calendarAndEngineControlComplete : Obligations.CalendarAndEngineControlComplete := by
  refine ⟨?entryDue, fun _ _ _ _ => exec_calendarHandover, fun _ p _ => State.roomFor_eq_false p,
    fun _ _ _ => State.freeFrom_of_handed, fun _ _ => State.entryDue_of_not_generates, fun _ _ _ _ => exec_frameLaunch,
    fun f _ => State.launch_of_off f,
    fun _ _ hon hsvc => ⟨State.launch_of_ready hon hsvc, State.launch_of_not_ready hon hsvc⟩,
    ?disable, ?enable, fun _ => exec_tpeFence, fun _ _ _ => exec_tpeFenceComplete, ?profileOn, ?profileOff,
    fun _ _ _ => exec_keyRotation, fun _ _ _ => State.rotate_of_spp⟩
  case entryDue =>
    intro e s s1 he hr
    rw [exec_calendarEntryDue he hr]
    exact ⟨fun h => by simp [h], fun h => by simp [h]⟩
  case disable =>
    intro s hr hen
    rw [exec_tpeEnableWrite false hr, State.setTpeEnable_off hen]
  case enable =>
    intro s hr hen
    rw [exec_tpeEnableWrite true hr, State.setTpeEnable_on hen]
    exact ⟨fun h => by simp [h], fun h => by simp [h]⟩
  case profileOn =>
    intro x s hr hen
    rw [exec_profEnWrite x true hr, State.setProfEn_on hen]
    exact ⟨fun h => by simp [h], fun h => by simp [h]⟩
  case profileOff =>
    intro x s hr
    rw [exec_profEnWrite x false hr, State.setProfEn_off]

end Sys2Proof.Machine
end

section
/-! PROOFS. The resets and what they lead to: COLD, the beginning of BOOT, and the state after them (R32, R44 to R48, Tables 2-3
and 2-6). -/

namespace Sys2Proof.Machine

/-! The beginning of BOOT and the inhibit's bits write SAG_STATUS, Bellwether's registers and the sources alone, after the
mode's registers. -/

/-- `f` sees neither SAG_STATUS, nor a register at C000 or above, nor what is put down for the end of the cycle. -/
structure State.SagBlind {β : Sort _} (f : State → β) : Prop where
  wr : ∀ (t : State) (q : Reg) (v : Int), q.key = Obj.SAG_STATUS.key ∨ 0xC00000 ≤ q.key → f (t.wr q v) = f t
  put : ∀ (t : State) (d : Due), f (t.put d) = f t

theorem State.sagBlind_rd {r : Reg} (h : r.key ≠ Obj.SAG_STATUS.key) (hlow : r.key < 0xC00000) : State.SagBlind (·.rd r) where
  wr t q v hq := t.rd_wr_ne v (by omega)
  put _ _ := rfl

theorem State.SagBlind.cond {β : Sort _} {f : State → β} (hf : State.SagBlind f) (s : State) (n : Nat) (on : Bool) :
    f (s.cond n on) = f s := by
  have hkey := key_SRC_STATE n
  unfold State.cond
  split
  · rfl
  · rw [hf.put]
    exact hf.wr _ _ _ (.inr (by omega))

theorem State.SagBlind.sagShow {β : Sort _} {f : State → β} (hf : State.SagBlind f) (s : State) (rail : SagRail) :
    f (s.sagShow rail) = f s :=
  (hf.cond _ _ _).trans ((hf.wr _ _ _ (.inl rfl)).trans (hf.wr _ _ _ (.inl rfl)))

theorem State.SagBlind.sagAgain {β : Sort _} {f : State → β} (hf : State.SagBlind f) (s : State) : f s.sagAgain = f s := by
  unfold State.sagAgain
  rw [State.when_keeps f _ _ _ fun t => hf.sagShow t _, State.when_keeps f _ _ _ fun t => hf.sagShow t _]
  exact State.when_keeps f _ _ _ fun t => hf.wr t _ _ (.inl rfl)

/-- BOOT's step and counts, before its registers are written. -/
def State.bootBegun (s : State) : State :=
  { s with
    ctl := { s.ctl with
      boot := { s.ctl.boot with step := 3, firstStart := s.ks.root.isNone }
      lease := { s.ctl.lease with current := !s.paired } }
    ks := { s.ks with bootCount := s.ks.bootCount + 1 }
    aon := { s.aon with reported := s.aon.log.length } }

/-- BOOT's step and counts, and the mode's registers. -/
def State.bootEntered (s : State) (num old : Nat) : State :=
  ((s.bootBegun.wrN Obj.MODE_CURRENT Mode.BOOT).wrN Obj.MODE_PREVIOUS old).wrN Obj.MODE_REASON num

/-- The beginning of BOOT leaves all else alone, but for what a paired unit and a low rail show. -/
theorem State.SagBlind.toBoot {β : Sort _} {f : State → β} (hf : State.SagBlind f) (s : State) (num old : Nat) :
    f (s.toBoot num old) = f (s.bootEntered num old) :=
  (hf.sagAgain _).trans (State.when_keeps f _ _ _ fun _ =>
    (hf.wr _ _ _ (.inr (by decide))).trans ((hf.wr _ _ _ (.inr (by decide))).trans (hf.wr _ _ _ (.inr (by decide)))))

@[simp] theorem State.toBoot_pending (s : State) (num old : Nat) : (s.toBoot num old).pending = s.pending :=
  State.SagBlind.toBoot (f := (·.pending)) ⟨fun _ _ _ _ => rfl, fun _ _ => rfl⟩ s num old
@[simp] theorem State.toBoot_ctl (s : State) (num old : Nat) : (s.toBoot num old).ctl = s.bootBegun.ctl :=
  State.SagBlind.toBoot (f := (·.ctl)) ⟨fun _ _ _ _ => rfl, fun _ _ => rfl⟩ s num old
@[simp] theorem State.toBoot_ks (s : State) (num old : Nat) : (s.toBoot num old).ks = s.bootBegun.ks :=
  State.SagBlind.toBoot (f := (·.ks)) ⟨fun _ _ _ _ => rfl, fun _ _ => rfl⟩ s num old
@[simp] theorem State.toBoot_clk (s : State) (num old : Nat) : (s.toBoot num old).clk = s.clk :=
  State.SagBlind.toBoot (f := (·.clk)) ⟨fun _ _ _ _ => rfl, fun _ _ => rfl⟩ s num old
@[simp] theorem State.toBoot_jtag (s : State) (num old : Nat) : (s.toBoot num old).jtag = s.jtag :=
  State.SagBlind.toBoot (f := (·.jtag)) ⟨fun _ _ _ _ => rfl, fun _ _ => rfl⟩ s num old
@[simp] theorem State.toBoot_sl (s : State) (num old : Nat) : (s.toBoot num old).sl = s.sl :=
  State.SagBlind.toBoot (f := (·.sl)) ⟨fun _ _ _ _ => rfl, fun _ _ => rfl⟩ s num old
@[simp] theorem State.toBoot_flog (s : State) (num old : Nat) : (s.toBoot num old).book.flog = s.book.flog :=
  State.SagBlind.toBoot (f := (·.book.flog)) ⟨fun _ _ _ _ => rfl, fun _ _ => rfl⟩ s num old
@[simp] theorem State.toBoot_subs (s : State) (num old : Nat) : (s.toBoot num old).book.subs = s.book.subs :=
  State.SagBlind.toBoot (f := (·.book.subs)) ⟨fun _ _ _ _ => rfl, fun _ _ => rfl⟩ s num old

theorem State.rd_toBoot (s : State) (num old : Nat) {r : Reg} (h : r.key ≠ Obj.SAG_STATUS.key) (hlow : r.key < 0xC00000) :
    (s.toBoot num old).rd r = (s.bootEntered num old).rd r := (State.sagBlind_rd h hlow).toBoot s num old

@[simp] theorem State.toBoot_mode (s : State) (num old : Nat) : (s.toBoot num old).mode = Mode.BOOT := by
  rw [State.mode, State.rdN, State.rd_toBoot _ _ _ (by decide) (by decide), State.bootEntered,
    State.rd_wrN_ne _ _ (by decide), State.rd_wrN_ne _ _ (by decide), State.rd_wrN_same]
  rfl

@[simp] theorem State.toBoot_previous (s : State) (num old : Nat) : (s.toBoot num old).rdN Obj.MODE_PREVIOUS = old := by
  rw [State.rdN, State.rd_toBoot _ _ _ (by decide) (by decide), State.bootEntered, State.rd_wrN_ne _ _ (by decide),
    State.rd_wrN_same, Int.toNat_natCast]

@[simp] theorem State.toBoot_reason (s : State) (num old : Nat) : (s.toBoot num old).rdN Obj.MODE_REASON = num := by
  rw [State.rdN, State.rd_toBoot _ _ _ (by decide) (by decide), State.bootEntered, State.rd_wrN_same, Int.toNat_natCast]

/-! What a reset keeps of Keystone (Table 2-6). -/

/-- A key command that the zeroisation ends shows it in KEY_RESULT. -/
def State.resultZeroised (s : State) (l : Option Link) (k : Nat) : State :=
  match l with
  | some l => s.wrN (Obj.KEY_RESULT (linkCode l) k) Ks.ZEROISED
  | none => s

/-- So does every one in progress. -/
def State.resultsZeroised (s : State) : State :=
  State.forEach (fun s w => s.resultZeroised w.link w.slot) s.ks.waits
    (s.forEach (l := s.ks.cells) (p := fun s op => match op.commit with
      | .slot l k _ _ => s.resultZeroised l k
      | _ => s))

theorem State.resultsZeroised_keeps {β : Sort _} (f : State → β) (s : State)
    (hw : ∀ (t : State) (l : Link) (k : Nat), f (t.wrN (Obj.KEY_RESULT (linkCode l) k) Ks.ZEROISED) = f t) :
    f s.resultsZeroised = f s := by
  have hone (t : State) (l : Option Link) (k : Nat) : f (t.resultZeroised l k) = f t := by
    cases l
    · rfl
    · exact hw _ _ _
  refine (State.forEach_keeps f _ _ _ fun _ _ => hone _ _ _).trans (State.forEach_keeps f _ _ _ fun t op => ?_)
  split
  · exact hone _ _ _
  · rfl

/-- Of the registers the erasure writes KEY_RESULT of what is in progress, and KS_GEN_HIGH (R324, R325). -/
theorem State.erased_objs (s : State) : s.erased.book.objs = (s.resultsZeroised.wrN Obj.KS_GEN_HIGH 0).book.objs := rfl

@[simp] theorem State.erased_bootCount (s : State) : s.erased.ks.bootCount = s.ks.bootCount :=
  s.resultsZeroised_keeps (·.ks.bootCount) fun _ _ _ => rfl

@[simp] theorem State.erased_voltageArmed (s : State) : s.erased.ks.voltageArmed = s.ks.voltageArmed :=
  s.resultsZeroised_keeps (·.ks.voltageArmed) fun _ _ _ => rfl

/-- What neither the erasure nor the placing of a record changes, Keystone keeps through a reset (R50, R51). -/
theorem State.cellsSettled_keeps {β : Sort _} (f : Keystone → β) (s : State) (herase : f s.erased.ks = f s.ks)
    (hslot : ∀ k n x, f (k.place n x) = f k) (hroot : ∀ k r, f (k.placeRoot r) = f k) : f s.cellsSettled = f s.ks := by
  have hk : f (if s.ks.zeroising then s.erased.ks else s.ks) = f s.ks := by
    split
    · exact herase
    · rfl
  unfold State.cellsSettled
  dsimp only
  generalize (if s.ks.zeroising then s.erased.ks else s.ks) = k at hk ⊢
  split
  · exact hk
  · split
    · exact hk
    · split
      · exact (hslot _ _ _).trans hk
      · exact (hroot _ _).trans hk
      · exact (hroot _ _).trans hk
      · exact (hslot _ _ _).trans hk

@[simp] theorem State.wiped_bootCount (s : State) (soft : Bool) : (s.wiped soft).ks.bootCount = s.ks.bootCount :=
  s.cellsSettled_keeps (·.bootCount) s.erased_bootCount (fun _ _ _ => rfl) fun _ _ => rfl

@[simp] theorem State.wiped_voltageArmed (s : State) (soft : Bool) : (s.wiped soft).ks.voltageArmed = s.ks.voltageArmed :=
  s.cellsSettled_keeps (·.voltageArmed) s.erased_voltageArmed (fun _ _ _ => rfl) fun _ _ => rfl

@[simp] theorem State.wiped_pending (s : State) (soft : Bool) : (s.wiped soft).pending = s.pending := rfl
@[simp] theorem State.wiped_clk (s : State) (soft : Bool) : (s.wiped soft).clk = Clock.reset := rfl
@[simp] theorem State.wiped_jtag (s : State) (soft : Bool) : (s.wiped soft).jtag = s.jtag := rfl
@[simp] theorem State.wiped_sl (s : State) (soft : Bool) : (s.wiped soft).sl = [] := rfl
@[simp] theorem State.wiped_subs (s : State) (soft : Bool) : (s.wiped soft).book.subs = [] := rfl
@[simp] theorem State.wiped_flog (s : State) : (s.wiped false).book.flog = [] := rfl
@[simp] theorem State.wiped_boot (s : State) (soft : Bool) : (s.wiped soft).ctl.boot =
    { Ctl.reset.boot with factoryEn := s.ctl.boot.factoryEn, cwrole := s.ctl.boot.cwrole } := rfl
@[simp] theorem State.wiped_supply (s : State) (soft : Bool) :
    (s.wiped soft).ctl.supply = { s.ctl.supply with released48 := 0 } := rfl

/-! COLD (transition 2), and the releases and assertions of the hard resets. -/

@[simp] theorem State.coldFrom_pending (s : State) (old num : Nat) : (s.coldFrom old num).pending = s.pending := rfl
@[simp] theorem State.coldFrom_clk (s : State) (old num : Nat) : (s.coldFrom old num).clk = Clock.reset := rfl
@[simp] theorem State.coldFrom_jtag (s : State) (old num : Nat) : (s.coldFrom old num).jtag = s.jtag := rfl
@[simp] theorem State.coldFrom_sl (s : State) (old num : Nat) : (s.coldFrom old num).sl = [] := rfl
@[simp] theorem State.coldFrom_subs (s : State) (old num : Nat) : (s.coldFrom old num).book.subs = [] := rfl
@[simp] theorem State.coldFrom_flog (s : State) (old num : Nat) : (s.coldFrom old num).book.flog = [] := rfl
@[simp] theorem State.coldFrom_ks (s : State) (old num : Nat) : (s.coldFrom old num).ks = (s.wiped false).ks := rfl
@[simp] theorem State.coldFrom_ctl (s : State) (old num : Nat) :
    (s.coldFrom old num).ctl = ((s.wiped false).bootTo 0).ctl := rfl

@[simp] theorem State.coldFrom_mode (s : State) (old num : Nat) : (s.coldFrom old num).mode = Mode.COLD := by
  rw [State.mode, State.coldFrom, State.rdN_wrN_ne _ _ (by decide), State.rdN_wrN_ne _ _ (by decide), State.rdN_wrN_same]

@[simp] theorem State.coldFrom_previous (s : State) (old num : Nat) : (s.coldFrom old num).rdN Obj.MODE_PREVIOUS = old := by
  rw [State.coldFrom, State.rdN_wrN_ne _ _ (by decide), State.rdN_wrN_same]

@[simp] theorem State.coldFrom_reason (s : State) (old num : Nat) : (s.coldFrom old num).rdN Obj.MODE_REASON = num := by
  rw [State.coldFrom, State.rdN_wrN_same]

/-- COLD with power-on reset released: the voltage source is armed, and VBAT is present or absent from now on (R48, R323). -/
def State.poweredOn (s : State) (vbatPresent : Bool) : State :=
  let s1 := s.coldFrom (s.rdN Obj.MODE_PREVIOUS) (s.rdN Obj.MODE_REASON)
  let supply := { s1.ctl.supply with vbatAbsent := !vbatPresent, vbatLow := s1.ctl.supply.vbatLow && vbatPresent }
  { s1 with ctl := { s1.ctl with supply := supply }, ks := { s1.ks with voltageArmed := true } }

@[simp] theorem State.poweredOn_mode (s : State) (v : Bool) : (s.poweredOn v).mode = Mode.COLD :=
  s.coldFrom_mode (s.rdN Obj.MODE_PREVIOUS) (s.rdN Obj.MODE_REASON)

theorem exec_powerOnResetRelease (f : Bool) (c : Fin 4) (v : Bool) {s : State} (hm : s.mode = Mode.COLD)
    (ha : s.ks.voltageArmed = false) :
    exec (.powerOnResetRelease f c v) s =
      .next (if s.ctl.supply.hrstLow then s.poweredOn v else ((s.poweredOn v).strapped f c).toBoot 1 Mode.COLD).settle := by
  show execPowerOnResetRelease f c v s = _
  rw [execPowerOnResetRelease, if_neg (by simp [hm, ha])]
  rfl

theorem exec_hrstNRelease_of_armed (f : Bool) (c : Fin 4) {s : State} (hm : s.mode = Mode.COLD)
    (ha : s.ks.voltageArmed = true) :
    exec (.hrstNRelease f c) s =
      .next ((((s.hrstTo false).wiped false).strapped f c).toBoot 1 Mode.COLD).settle := by
  show execHrstNRelease f c s = _
  rw [execHrstNRelease, if_neg (by simp [hm, ha])]

theorem exec_hrstNRelease_of_not_armed (f : Bool) (c : Fin 4) {s : State} (ha : s.ks.voltageArmed = false) :
    exec (.hrstNRelease f c) s = .next (s.hrstTo false) := if_pos (.inr ha)

/-- Power-on reset asserted: the voltage source is disarmed and the test access port reset (R323, R440). -/
def State.poweredOff (s : State) : State :=
  { s with ks := { s.ks with voltageArmed := false }, jtag := TestPort.reset }

theorem exec_vddBelowThreshold (s : State) :
    exec .vddBelowThreshold s = .next ((if s.mode = Mode.COLD then s else s.toCold).poweredOff.when s.ks.voltageArmed
      (·.logAlwaysOn 16 s.mode)).settle := rfl

theorem exec_hrstNLow (s : State) :
    exec .hrstNLow s = .next ((if s.mode = Mode.COLD then s else s.toCold).hrstTo true).settle := rfl

/-- Settles O12, clause by clause: the two releases, alone and as the later one, and the two assertions. -/
theorem hardResetsComplete : Obligations.HardResetsComplete := by
  refine ⟨?power, ?powerAlone, ?pin, fun f c _ => exec_hrstNRelease_of_not_armed f c, ?powerLost, ?powerLostInCold,
    ?pinLow, ?pinLowInCold⟩
  case power =>
    intro f c v s hm ha hp
    rw [exec_powerOnResetRelease f c v hm ha, hp]
    refine ⟨_, rfl, ?_⟩
    simp [State.bootBegun, State.strapped, State.poweredOn]
  case powerAlone =>
    intro f c v s hm ha hp
    rw [exec_powerOnResetRelease f c v hm ha, if_pos hp]
    exact ⟨_, rfl, s.poweredOn_mode v, rfl, rfl, rfl, s.wiped_bootCount false, rfl, rfl⟩
  case pin =>
    intro f c s hm ha
    refine ⟨_, exec_hrstNRelease_of_armed f c hm ha, ?_⟩
    simp [State.bootBegun, State.strapped, State.hrstTo]
  case powerLost =>
    intro s hm ha
    rw [exec_vddBelowThreshold, if_neg hm, ha, State.when_true]
    exact ⟨_, rfl, s.coldFrom_mode s.mode 2, s.coldFrom_previous s.mode 2, s.coldFrom_reason s.mode 2, rfl, rfl, rfl, rfl, rfl⟩
  case powerLostInCold =>
    intro s hm
    rw [exec_vddBelowThreshold, if_pos hm]
    refine ⟨_, rfl, ?_⟩
    cases s.ks.voltageArmed
    · exact ⟨hm, rfl, rfl, rfl, rfl⟩
    · exact ⟨hm, rfl, rfl, rfl, rfl⟩
  case pinLow =>
    intro s hm
    rw [exec_hrstNLow, if_neg hm]
    exact ⟨_, rfl, s.coldFrom_mode s.mode 2, s.coldFrom_previous s.mode 2, s.coldFrom_reason s.mode 2,
      s.wiped_voltageArmed false, rfl, rfl, rfl, rfl, rfl⟩
  case pinLowInCold =>
    intro s hm
    rw [exec_hrstNLow, if_pos hm]

/-- After reset every register reads its reset value: nothing is listed. -/
theorem State.rd_reset (r : Reg) : State.reset.rd r = r.reset := rfl

theorem State.slotState_reset (n : Nat) : State.reset.slotState n = Sl.DISABLED := by
  simp [State.slotState, State.rdN, State.rd_reset, Obj.SLOT_STATE, bitsAt]

/-- Settles O3: the state right after reset lists no object, no key slot and no reference slot. -/
theorem resetState : Obligations.ResetState :=
  ⟨⟨rfl, rfl, rfl, rfl, rfl, rfl, rfl, rfl, rfl, fun _ => rfl, State.slotState_reset, State.rd_reset⟩,
    rfl, ⟨rfl, rfl⟩, ⟨by decide, by decide, by decide⟩, show Mode.BOOT ≤ 11 by decide⟩

/-! The end of a holder's lease (R46) and what a soft reset keeps (R47, Table 2-6). -/

/-- `f` sees neither the bookkeeping, nor a register at C000 or above, nor mode control, Bellwether and the generators. -/
structure State.LeaseBlind {β : Sort _} (f : State → β) : Prop where
  agrees : ∀ {s t : State}, Agrees s t → f t = f s
  wr : ∀ (t : State) (q : Reg) (v : Int), 0xC00000 ≤ q.key → f (t.wr q v) = f t
  parts : ∀ (t : State) (c : Ctl) (b : Bellwether), f { t with ctl := c, bw := b } = f t
  setEvt : ∀ (t : State) (n : Nat) (x : Evt), f (t.setEvt n x) = f t

theorem State.leaseBlind_pending : State.LeaseBlind State.pending where
  agrees h := h.pending
  wr _ _ _ _ := rfl
  parts _ _ _ := rfl
  setEvt _ _ _ := rfl

theorem State.leaseBlind_jtag : State.LeaseBlind State.jtag where
  agrees h := h.jtag
  wr _ _ _ _ := rfl
  parts _ _ _ := rfl
  setEvt _ _ _ := rfl

theorem State.leaseBlind_rd {r : Reg} (h : r.key < 0xC00000) : State.LeaseBlind (·.rd r) where
  agrees ha := ha.rd r (Nat.lt_of_lt_of_le h (by decide))
  wr t q v hq := t.rd_wr_ne v (by omega)
  parts _ _ _ := rfl
  setEvt _ _ _ := rfl

/-- A Causeway frame is counted, sent and copied to ring 24. -/
theorem Agrees.causeway {s t : State} (h : Agrees s t) (kind seq : Nat) (payload : List Octet) :
    Agrees s (t.causeway kind seq payload) := by
  unfold State.causeway
  dsimp only
  split
  · exact h
  · exact ((h.count _ _).emit _).when _ _ fun u => (Agrees.refl u).toRing _ _ _ _

theorem State.LeaseBlind.cutPulses {β : Sort _} {f : State → β} (hf : State.LeaseBlind f) (s : State) :
    f s.cutPulses = f s := by
  refine State.forEach_keeps f _ _ _ fun t n => ?_
  dsimp only
  split
  · exact (hf.agrees ((Agrees.refl _).emit _)).trans (hf.setEvt _ _ _)
  · rfl

/-- The engine's own update of a register at C000 or above, whether the host's stands against it or not. -/
theorem State.LeaseBlind.hw {β : Sort _} {f : State → β} (hf : State.LeaseBlind f) (s : State) {q : Reg} (v : Int)
    (hq : 0xC00000 ≤ q.key) : f (s.hw q v) = f s := by
  unfold State.hw
  split
  · rfl
  · exact hf.wr _ _ _ hq

theorem State.LeaseBlind.dropLease {β : Sort _} {f : State → β} (hf : State.LeaseBlind f) (s : State) (event cause : Nat)
    (early : Bool) : f (s.dropLease event cause early) = f s := by
  unfold State.dropLease
  split
  · dsimp only
    rw [State.leaseNotice, hf.agrees ((Agrees.refl _).notice _ _ _ _), hf.cutPulses,
      State.when_keeps f _ _ _ fun t => hf.agrees ((Agrees.refl t).causeway _ _ _),
      hf.agrees ((Agrees.refl _).cond _ _), State.when_keeps f _ _ _ fun t => hf.hw t _ (by decide)]
    exact (hf.wr _ _ _ (by decide)).trans (hf.parts _ _ _)
  · rfl

theorem SMap.get_filter {α : Type} (d : α) (m : List (Nat × α)) (p : Nat → Bool) {k : Nat} (h : p k = true) :
    SMap.get d (m.filter fun x => p x.1) k = SMap.get d m k := by
  induction m with
  | nil => rfl
  | cons e m ih =>
    obtain ⟨j, v⟩ := e
    by_cases hj : p j = true
    · rw [List.filter_cons, if_pos hj, SMap.get, SMap.get, ih]
    · have hk : k ≠ j := fun hk => hj (hk ▸ h)
      rw [List.filter_cons, if_neg hj, ih, SMap.get, if_neg hk]

theorem key_KEY_RESULT (link k : Nat) : 0xB00000 ≤ (Obj.KEY_RESULT link k).key := by
  simp only [Obj.KEY_RESULT, linkKey, regKey]
  omega

/-- The erasure writes no register below B000. -/
theorem State.rd_erased (s : State) {r : Reg} (h : r.key < 0xB00000) : s.erased.rd r = s.rd r := by
  have hgen : r.key ≠ Obj.KS_GEN_HIGH.key := Nat.ne_of_lt (Nat.lt_of_lt_of_le h (by decide))
  rw [State.rd, State.erased_objs, ← State.rd, State.rd_wrN_ne _ _ hgen]
  refine s.resultsZeroised_keeps (·.rd r) fun t l k => t.rd_wrN_ne _ ?_
  have := key_KEY_RESULT (linkCode l) k
  omega

/-- A soft reset keeps its own registers of those that a zeroisation in progress does not erase. -/
theorem State.rd_wiped_soft (s : State) {r : Reg} (hkept : softKeys.contains r.key = true) (h : r.key < 0xB00000) :
    (s.wiped true).rd r = s.rd r := by
  have herase : (if s.ks.zeroising then s.erased else s).rd r = s.rd r := by
    split
    · exact s.rd_erased h
    · rfl
  have hpass : (keptKeys.contains r.key || (true && softKeys.contains r.key)) = true := by
    rw [hkept, Bool.and_self, Bool.or_true]
  exact (SMap.get_filter _ _ (fun k => keptKeys.contains k || (true && softKeys.contains k)) hpass).trans herase

theorem softKeys_contains_LOCK {i : Nat} (h : i < 7) : softKeys.contains (Obj.LOCK i).key = true := by
  have hall : ∀ j : Fin 7, softKeys.contains (Obj.LOCK j).key = true := by decide
  exact hall ⟨i, h⟩

theorem State.rd_LOCK_toBoot (s : State) (num old : Nat) {i : Nat} (h : i < 7) :
    (s.toBoot num old).rd (Obj.LOCK i) = s.rd (Obj.LOCK i) := by
  have hkey : (Obj.LOCK i).key = 0x1E0000 + (i + 1) := rfl
  have hne {q : Reg} (hq : q.key < 0x1E0000) : (Obj.LOCK i).key ≠ q.key := by omega
  rw [State.rd_toBoot _ _ _ (hne (by decide)) (by omega), State.bootEntered, State.rd_wrN_ne _ _ (hne (by decide)),
    State.rd_wrN_ne _ _ (hne (by decide)), State.rd_wrN_ne _ _ (hne (by decide))]
  rfl

/-- Only a hard reset clears a lock bit (R47). -/
theorem State.rd_LOCK_softReset (s : State) (num old : Nat) {i : Nat} (h : i < 7) :
    (((s.dropLease 1 1 true).wiped true).toBoot num old).rd (Obj.LOCK i) = s.rd (Obj.LOCK i) := by
  have hkey : (Obj.LOCK i).key = 0x1E0000 + (i + 1) := rfl
  rw [State.rd_LOCK_toBoot _ _ _ h, State.rd_wiped_soft _ (softKeys_contains_LOCK h) (by omega)]
  exact (State.leaseBlind_rd (r := Obj.LOCK i) (by omega)).dropLease s 1 1 true

theorem exec_softReset (v : BitVec 32) {s : State} (h : s.restoring 1 = false) :
    exec (.softReset v) s = .next (s.softReset v.toNat).settle := State.orHeld_of_not_restoring _ _ _ _ _ _ h

/-- The one value that resets ends a holder's lease, and takes transition 3 (R46). -/
theorem exec_softReset_of_good {s : State} (h : s.restoring 1 = false) (ho : s.open = true) :
    exec (.softReset 0x5A17) s = .next (((s.dropLease 1 1 true).wiped true).toBoot 3 s.mode).settle := by
  have hreset : s.softReset (0x5A17 : BitVec 32).toNat = ((s.dropLease 1 1 true).wiped true).toBoot 3 s.mode :=
    if_neg (by simp [ho])
  rw [exec_softReset _ h, hreset]

theorem State.softReset_of_bad (s : State) {v : Nat} (h : v ≠ 0x5A17) : s.softReset v = s := if_pos (.inl h)

/-! Block resets (R45). -/

theorem exec_blockReset (m : BitVec 32) {s : State} (h : s.restoring 1 = false) :
    exec (.blockReset m) s = .next (if s.open then (s.blockReset m.toNat).close else s).settle :=
  State.orHeld_of_not_restoring _ _ _ _ _ _ h

/-- A mask that selects no block with a reset of its own does nothing. -/
theorem State.blockReset_of_none (s : State) {m : Nat} (h : ∀ b, b < 20 → bitOn m b = true → resettable b = false) :
    s.blockReset m = s := by
  have hnone : ((List.range 20).filter fun b => bitOn m b && resettable b) = [] := by
    rw [List.filter_eq_nil_iff]
    intro b hb hsel
    obtain ⟨hon, hres⟩ := Bool.and_eq_true_iff.mp hsel
    rw [h b (List.mem_range.mp hb) hon] at hres
    exact Bool.false_ne_true hres
  rw [State.blockReset, hnone]
  rfl

/-- Settles O13: the soft reset with its lock bits, and the block reset with the blocks that have none. -/
theorem softAndBlockResetsComplete : Obligations.SoftAndBlockResetsComplete := by
  refine ⟨⟨?soft, ?other⟩, ?blocks, ?closed, fun m s => s.blockReset_of_none, by decide, fun _ => ⟨rfl, rfl, rfl⟩⟩
  case soft =>
    intro s hr ho
    refine ⟨_, exec_softReset_of_good hr ho, ?_⟩
    refine ⟨by simp, by simp, by simp, by simp [State.bootBegun], by simp, by simp, by simp,
      fun i hi => s.rd_LOCK_softReset 3 s.mode hi, ?_, ?_⟩
    · simp [State.leaseBlind_jtag.dropLease]
    · simp [State.leaseBlind_pending.dropLease]
  case other =>
    intro v s hr hv
    have hne : v.toNat ≠ 0x5A17 := fun h => hv (BitVec.eq_of_toNat_eq h)
    rw [exec_softReset v hr, State.softReset_of_bad s hne]
  case blocks =>
    intro m s hr ho
    rw [exec_blockReset m hr, if_pos ho]
  case closed =>
    intro m s hr ho
    rw [exec_blockReset m hr, if_neg (by simp [ho])]

end Sys2Proof.Machine
end

section
/-! PROOFS. The lock bits, and the write inhibit of the supply rails (R47, R48, R53, Tables 2-9 and 2-11). -/

namespace Sys2Proof.Machine

theorem exec_lockBitSet (b : Fin 7) {s : State} (h : s.restoring 1 = false) :
    exec (.lockBitSet b) s = .next (s.wrN (Obj.LOCK b) 1).settle := State.orHeld_of_not_restoring _ _ _ _ _ _ h

theorem State.rdN_cond (s : State) (n : Nat) (on : Bool) {r : Reg} (h : r.low) : (s.cond n on).rdN r = s.rdN r := by
  rw [State.rdN, ((Agrees.refl s).cond n on).rd r h]
  rfl

/-- After the begin or the end of a condition its source's ACTIVE bit says so (R405). -/
@[simp] theorem State.active_cond (s : State) (n : Nat) (on : Bool) : (s.cond n on).active n = on := by
  unfold State.cond
  split
  · next h => exact beq_iff_eq.mp h
  · show bitOn ((s.wrN (Obj.SRC_STATE n) _).rdN (Obj.SRC_STATE n)) 2 = on
    simp

/-- The bit of a rail in SAG_STATUS, two below its sticky bit (Table 2-9). -/
def sagBit : SagRail → Nat
  | .vddaux => 0
  | .vbat => 1

/-- The source of a rail (Table 2-11). -/
def sagSource : SagRail → Nat
  | .vddaux => Src.SAG_VDDAUX
  | .vbat => Src.SAG_VBAT

theorem State.sagShow_eq (s : State) (rail : SagRail) :
    s.sagShow rail = ((s.wrN Obj.SAG_STATUS (setBit (s.rdN Obj.SAG_STATUS) (sagBit rail))).stick Obj.SAG_STATUS
      (2 + sagBit rail)).cond (sagSource rail) true := by
  cases rail <;> rfl

/-- The inhibit shows as it begins in both bits of its rail (R53). -/
theorem State.sagShow_bits (s : State) (rail : SagRail) :
    bitOn ((s.sagShow rail).rdN Obj.SAG_STATUS) (sagBit rail) = true ∧
      bitOn ((s.sagShow rail).rdN Obj.SAG_STATUS) (2 + sagBit rail) = true := by
  have hlt : sagBit rail < 2 := by cases rail <;> decide
  rw [State.sagShow_eq, State.rdN_cond _ _ _ (show Obj.SAG_STATUS.key < 0xD00000 by decide), State.rdN_stick_same,
    State.rdN_wrN_same, bitOn_sqSet _ _ _ (by omega), bitOn_sqSet _ _ _ (by omega)]
  simp

theorem State.sagShow_active (s : State) (rail : SagRail) : (s.sagShow rail).active (sagSource rail) = true := by
  rw [State.sagShow_eq, State.active_cond]

@[simp] theorem State.sagShow_ctl (s : State) (rail : SagRail) : (s.sagShow rail).ctl = s.ctl :=
  State.SagBlind.sagShow (f := (·.ctl)) ⟨fun _ _ _ _ => rfl, fun _ _ => rfl⟩ s rail
@[simp] theorem State.sagShow_clk (s : State) (rail : SagRail) : (s.sagShow rail).clk = s.clk :=
  State.SagBlind.sagShow (f := (·.clk)) ⟨fun _ _ _ _ => rfl, fun _ _ => rfl⟩ s rail
@[simp] theorem State.sagShow_ks (s : State) (rail : SagRail) : (s.sagShow rail).ks = s.ks :=
  State.SagBlind.sagShow (f := (·.ks)) ⟨fun _ _ _ _ => rfl, fun _ _ => rfl⟩ s rail

/-- The mode is no register that the inhibit shows in. -/
theorem State.sagBlind_mode : State.SagBlind State.mode where
  wr t q v hq := congrArg Int.toNat ((State.sagBlind_rd (r := Obj.MODE_CURRENT) (by decide) (by decide)).wr t q v hq)
  put _ _ := rfl

@[simp] theorem State.sagShow_mode (s : State) (rail : SagRail) : (s.sagShow rail).mode = s.mode :=
  State.sagBlind_mode.sagShow s rail

/-- A rail is below its threshold, or above it again. -/
def State.railTo (s : State) (rail : SagRail) (low : Bool) : State :=
  { s with ctl := { s.ctl with supply := match rail with
      | .vddaux => { s.ctl.supply with vddauxLow := low }
      | .vbat => { s.ctl.supply with vbatLow := low } } }

/-- The rail is below its threshold already, or VBAT is absent (R48). -/
def State.railHeld (s : State) : SagRail → Bool
  | .vddaux => s.ctl.supply.vddauxLow
  | .vbat => s.ctl.supply.vbatLow || s.ctl.supply.vbatAbsent

theorem exec_supplyInhibitAssert {rail : SagRail} {s : State} (hm : s.mode ≠ Mode.COLD) (hheld : s.railHeld rail = false) :
    exec (.supplyInhibitAssert rail) s = .next ((s.railTo rail true).sagShow rail).settle := by
  show execSupplyInhibitAssert rail s = _
  cases rail
  · exact (if_neg (by simpa [State.railHeld] using hheld)).trans (if_pos hm)
  · exact (if_neg (by simpa [State.railHeld] using hheld)).trans (if_pos hm)

/-- The inhibit's release shows in the bit of its rail and ends the condition (R48, R53). -/
def State.sagHide (s : State) (rail : SagRail) : State :=
  (s.wrN Obj.SAG_STATUS (clearBit (s.rdN Obj.SAG_STATUS) (sagBit rail))).cond (sagSource rail) false

theorem exec_supplyInhibitRelease_vddaux {s : State} (hm : s.mode ≠ Mode.COLD) (hlow : s.ctl.supply.vddauxLow = true) :
    exec (.supplyInhibitRelease .vddaux) s =
      .next (({ s with ctl := { s.ctl with supply := { s.ctl.supply with vddauxLow := false, released48 := s.up48 } } } :
        State).sagHide .vddaux).settle :=
  (if_neg (by simp [hlow])).trans (if_neg hm)

theorem State.sagHide_bit (s : State) (rail : SagRail) :
    bitOn ((s.sagHide rail).rdN Obj.SAG_STATUS) (sagBit rail) = false := by
  rw [State.sagHide, State.rdN_cond _ _ _ (show Obj.SAG_STATUS.key < 0xD00000 by decide), State.rdN_wrN_same]
  simp

theorem State.SagBlind.sagHide {β : Sort _} {f : State → β} (hf : State.SagBlind f) (s : State) (rail : SagRail) :
    f (s.sagHide rail) = f s :=
  (hf.cond _ _ _).trans (hf.wr _ _ _ (.inl rfl))

@[simp] theorem State.sagHide_ctl (s : State) (rail : SagRail) : (s.sagHide rail).ctl = s.ctl :=
  State.SagBlind.sagHide (f := (·.ctl)) ⟨fun _ _ _ _ => rfl, fun _ _ => rfl⟩ s rail
@[simp] theorem State.sagHide_clk (s : State) (rail : SagRail) : (s.sagHide rail).clk = s.clk :=
  State.SagBlind.sagHide (f := (·.clk)) ⟨fun _ _ _ _ => rfl, fun _ _ => rfl⟩ s rail
@[simp] theorem State.sagHide_ks (s : State) (rail : SagRail) : (s.sagHide rail).ks = s.ks :=
  State.SagBlind.sagHide (f := (·.ks)) ⟨fun _ _ _ _ => rfl, fun _ _ => rfl⟩ s rail
@[simp] theorem State.sagHide_mode (s : State) (rail : SagRail) : (s.sagHide rail).mode = s.mode :=
  State.sagBlind_mode.sagHide s rail

/-- A rail that is low, with VBAT present where it is VBAT, inhibits (R48). -/
theorem State.inhibited_railTo {s : State} {rail : SagRail} (h : s.railHeld rail = false) :
    (s.railTo rail true).inhibited = true := by
  cases rail
  · simp [State.inhibited, State.railTo]
  · have habsent : s.ctl.supply.vbatAbsent = false := by
      rw [State.railHeld, Bool.or_eq_false_iff] at h
      exact h.2
    simp [State.inhibited, State.railTo, habsent]

theorem State.inhibited_sagShow (s : State) (rail : SagRail) : (s.sagShow rail).inhibited = s.inhibited := by
  simp [State.inhibited]

/-- What an inhibit that asserts leaves: it is in force and shows, and the clock, Keystone and the mode are as they were. -/
theorem State.inhibit_asserted {s : State} {rail : SagRail} (h : s.railHeld rail = false) (u : State)
    (hu : u = (s.railTo rail true).sagShow rail) :
    u.inhibited = true ∧ bitOn (u.rdN Obj.SAG_STATUS) (sagBit rail) = true ∧
      bitOn (u.rdN Obj.SAG_STATUS) (2 + sagBit rail) = true ∧ u.active (sagSource rail) = true ∧ u.clk = s.clk ∧
      u.ks = s.ks ∧ u.mode = s.mode := by
  subst hu
  obtain ⟨hbit, hsticky⟩ := (s.railTo rail true).sagShow_bits rail
  exact ⟨(State.inhibited_sagShow _ _).trans (State.inhibited_railTo h), hbit, hsticky, State.sagShow_active _ _,
    State.sagShow_clk _ _, State.sagShow_ks _ _, State.sagShow_mode _ _⟩

/-- Settles O15: the lock bit's write, the assertion by either rail, and VDDAUX's release. -/
theorem locksAndSuppliesComplete : Obligations.LocksAndSuppliesComplete := by
  refine ⟨fun b _ => exec_lockBitSet b, ?vddaux, ?vbat, ?release⟩
  case vddaux =>
    intro s hm hlow
    exact ⟨_, exec_supplyInhibitAssert hm hlow, State.inhibit_asserted (rail := .vddaux) hlow _ rfl⟩
  case vbat =>
    intro s hm hlow habsent
    have hheld : s.railHeld .vbat = false := by rw [State.railHeld, hlow, habsent]; rfl
    exact ⟨_, exec_supplyInhibitAssert hm hheld, State.inhibit_asserted hheld _ rfl⟩
  case release =>
    intro s hm hlow
    refine ⟨_, exec_supplyInhibitRelease_vddaux hm hlow, ?_⟩
    refine ⟨by simp, by simp, State.sagHide_bit _ .vddaux, State.active_cond _ _ _, by simp, by simp, ?_⟩
    exact State.sagHide_mode _ _

end Sys2Proof.Machine
end

section
/-! PROOFS. The records of the key cells (R49, R50, R302, R304, R312, R320) and the firmware's update path (R321, R322). -/

namespace Sys2Proof.Machine

/-! The slots after a record has been placed (R50). -/

theorem State.slotOf_place_same (s : State) (k : Nat) (x : KeySlot) : ({ s with ks := s.ks.place k x } : State).slotOf k = x :=
  SMap.get_put_same _ _ _ _

theorem State.slotOf_place_ne (s : State) {k j : Nat} (x : KeySlot) (h : j ≠ k) :
    ({ s with ks := s.ks.place k x } : State).slotOf j = s.slotOf j := SMap.get_put_ne _ _ _ h _

/-! KEY_CELL_WRITE_COMPLETE by what is at the front of the queue (R50). -/

section
variable {s : State} {rest : List CellOp} (hz : s.ks.zeroising = false)
include hz

theorem exec_keyCellWriteComplete_more {op : CellOp} (hc : s.ks.cells = op :: rest) (hl : 1 < op.recordsLeft)
    (hi : s.inhibited = false) :
    exec .keyCellWriteComplete s =
      .next ({ s with ks := { s.ks with cells := { op with recordsLeft := op.recordsLeft - 1 } :: rest } } : State).settle := by
  show execKeyCellWriteComplete s = _
  simp [execKeyCellWriteComplete, hc, hz, hl, hi]

theorem exec_keyCellWriteComplete_inhibited {op : CellOp} (hc : s.ks.cells = op :: rest) (hl : 1 < op.recordsLeft)
    (hi : s.inhibited = true) :
    exec .keyCellWriteComplete s =
      .next ((({ s with ks := { s.ks with cells := rest } } : State).brownedOut op rest).cellsGoOn).settle := by
  show execKeyCellWriteComplete s = _
  simp [execKeyCellWriteComplete, hc, hz, hl, hi]

theorem exec_keyCellWriteComplete_slot {l : Option Link} {k cmd : Nat} {x : KeySlot}
    (hc : s.ks.cells = { recordsLeft := 1, commit := .slot l k cmd x } :: rest) :
    exec .keyCellWriteComplete s =
      .next ((({ s with ks := { s.ks with cells := rest } } : State).commitKey l k cmd x).cellsGoOn).settle := by
  show execKeyCellWriteComplete s = _
  simp [execKeyCellWriteComplete, hc, hz]

end

/-- With nothing in the queue, nothing begins. -/
theorem State.cellsGoOn_of_nil {s : State} (h : s.ks.cells = []) : s.cellsGoOn = s := by
  rw [State.cellsGoOn, h]
  show { s with ks := { s.ks with cells := [] } } = s
  rw [← h]

/-- The root drawn in BOOT step 5 is in force, and BOOT goes on (R302). -/
def State.rootPlaced (s : State) (r : RootRecord) : State :=
  { s with
    ks := { ({ s.ks with cells := [] } : Keystone).placeRoot r with rootKey := r.unwrapped }
    ctl := { s.ctl with boot := if s.ctl.boot.step = 5 then { s.ctl.boot with step := 6 } else s.ctl.boot } }

/-- The helper data of a new enrolment is in force (R304). -/
def State.helperPlaced (s : State) (r : RootRecord) : State :=
  { s with ks := { ({ s.ks with cells := [] } : Keystone).placeRoot r with puf := some r.helper, enrolStatus := some Ks.OK } }

/-- The Custodian key is in slot 7, and its INSTALL has completed (R320). -/
def State.custodianPlaced (s : State) (key : BitVec 256) (gen : Nat) : State :=
  let k := ({ s.ks with cells := [] } : Keystone).placeCustodian key gen
  { s with ks := { k with installs := k.installs ++ [Ks.OK] } }

/-- The record of slot 7 that an INSTALL writes (R320). -/
def State.custodianKey (s : State) (key : BitVec 256) (gen : Nat) : KeySlot :=
  { KeySlot.none with
    state := .active, value := key, usage := 4, origin := 3, gen := gen, recordGen := (s.slotOf 7).recordGen + 1 }

theorem State.slotOf_custodianPlaced (s : State) (key : BitVec 256) (gen k : Nat) :
    (s.custodianPlaced key gen).slotOf k = ({ s with ks := s.ks.place 7 (s.custodianKey key gen) } : State).slotOf k := rfl

section
variable {s : State} (hz : s.ks.zeroising = false)
include hz

theorem exec_keyCellWriteComplete_root {r : RootRecord} (hc : s.ks.cells = [{ recordsLeft := 1, commit := .root r }]) :
    exec .keyCellWriteComplete s = .next (s.rootPlaced r) := by
  have hgo : (s.rootPlaced r).cellsGoOn = s.rootPlaced r := State.cellsGoOn_of_nil rfl
  show execKeyCellWriteComplete s = _
  rw [← hgo]
  simp [execKeyCellWriteComplete, hc, hz, State.rootPlaced]

theorem exec_keyCellWriteComplete_helper {r : RootRecord} (hc : s.ks.cells = [{ recordsLeft := 1, commit := .helper r }]) :
    exec .keyCellWriteComplete s = .next (s.helperPlaced r).settle := by
  have hgo : (s.helperPlaced r).cellsGoOn = s.helperPlaced r := State.cellsGoOn_of_nil rfl
  show execKeyCellWriteComplete s = _
  rw [← hgo]
  simp [execKeyCellWriteComplete, hc, hz, State.helperPlaced]

theorem exec_keyCellWriteComplete_provision {key : BitVec 256} {g : Nat}
    (hc : s.ks.cells = [{ recordsLeft := 1, commit := .provision key g }]) :
    exec .keyCellWriteComplete s = .next (s.custodianPlaced key g).settle := by
  have hgo : (s.custodianPlaced key g).cellsGoOn = s.custodianPlaced key g := State.cellsGoOn_of_nil rfl
  show execKeyCellWriteComplete s = _
  rw [← hgo]
  simp [execKeyCellWriteComplete, hc, hz, State.custodianPlaced]

end

/-! The commit of a retired or reactivated slot (R312). -/

/-- A key command that completes writes KEY_RESULT and KS_STATUS; the rest is bookkeeping. -/
theorem State.keyDone_keeps {β : Sort _} (f : State → β) (s : State) (w : KeyWait)
    (hagrees : ∀ {s t : State}, Agrees s t → f t = f s) (hwr : ∀ (t : State) (r : Reg) (v : Int), f (t.wr r v) = f t) :
    f (s.keyDone w) = f s := by
  unfold State.keyDone
  dsimp only
  rw [State.when_keeps f _ _ _ fun t => hagrees ((Agrees.refl t).raise _), hagrees ((Agrees.refl _).notice _ _ _ _)]
  refine (hwr _ _ _).trans ?_
  split
  · exact hwr _ _ _
  · rfl

@[simp] theorem State.keyDone_ks (s : State) (w : KeyWait) : (s.keyDone w).ks = s.ks :=
  s.keyDone_keeps (·.ks) w (fun h => h.ks) fun _ _ _ => rfl
@[simp] theorem State.keyDone_clk (s : State) (w : KeyWait) : (s.keyDone w).clk = s.clk :=
  s.keyDone_keeps (·.clk) w (fun h => h.clk) fun _ _ _ => rfl
@[simp] theorem State.keyDone_ctl (s : State) (w : KeyWait) : (s.keyDone w).ctl = s.ctl :=
  s.keyDone_keeps (·.ctl) w (fun h => h.ctl) fun _ _ _ => rfl

/-- RETIRE and REACTIVATE place their record and complete at once. -/
theorem State.commitKey_of_retire_or_reactivate (s : State) (l : Option Link) (k : Nat) {cmd : Nat} (x : KeySlot)
    (h : cmd = 3 ∨ cmd = 4) : ∃ w, s.commitKey l k cmd x = ({ s with ks := s.ks.place k x } : State).keyDone w := by
  unfold State.commitKey
  rcases h with rfl | rfl
  · exact ⟨_, if_pos rfl⟩
  · exact ⟨_, if_pos rfl⟩

theorem State.commitKey_retire_or_reactivate (s : State) (l : Option Link) (k : Nat) {cmd : Nat} (x : KeySlot)
    (h : cmd = 3 ∨ cmd = 4) :
    (s.commitKey l k cmd x).slotOf k = x ∧ (∀ j, j ≠ k → (s.commitKey l k cmd x).slotOf j = s.slotOf j) ∧
      (s.commitKey l k cmd x).ks.cells = s.ks.cells ∧ (s.commitKey l k cmd x).clk = s.clk ∧
      (s.commitKey l k cmd x).ctl = s.ctl := by
  obtain ⟨w, hw⟩ := s.commitKey_of_retire_or_reactivate l k x h
  have hslot (j : Nat) : (s.commitKey l k cmd x).slotOf j = ({ s with ks := s.ks.place k x } : State).slotOf j := by
    rw [hw, State.slotOf, State.keyDone_ks]
    rfl
  refine ⟨(hslot k).trans (s.slotOf_place_same k x), fun j hj => (hslot j).trans (s.slotOf_place_ne x hj), ?_, ?_, ?_⟩
  · rw [hw, State.keyDone_ks]
    rfl
  · rw [hw, State.keyDone_clk]
  · rw [hw, State.keyDone_ctl]

/-! The next operation begins (R49, R50). -/

/-- A key command that the slots still allow begins with its record over what its slot holds now. -/
theorem State.cellsGoOn_of_allowed {l : Option Link} {n k cmd : Nat} {x : KeySlot} {rest : List CellOp} {s : State}
    (hc : s.ks.cells = { recordsLeft := n, commit := .slot l k cmd x } :: rest) (hi : s.inhibited = false)
    (hr : (s.replan k cmd x).1 = Ks.OK) :
    s.cellsGoOn = { s with ks := { s.ks with
      cells := { recordsLeft := n, commit := .slot l k cmd (s.replan k cmd x).2 } :: rest } } := by
  simp [State.cellsGoOn, hc, State.cellsBegin, hi, hr]

/-- One that they allow no longer ends with its status. -/
theorem State.cellsGoOn_of_refused {l : Option Link} {n k cmd : Nat} {x : KeySlot} {s : State}
    (hc : s.ks.cells = [{ recordsLeft := n, commit := .slot l k cmd x }]) (hi : s.inhibited = false)
    (hr : (s.replan k cmd x).1 ≠ Ks.OK) :
    s.cellsGoOn = State.cellsBegin [] (s.stopped ⟨n, .slot l k cmd x⟩ [] (s.replan k cmd x).1) := by
  rw [State.cellsGoOn, hc]
  exact (if_neg (by simp [hi])).trans (if_pos hr)

/-- Under the inhibit a placement ends with BROWNOUT. -/
theorem State.cellsGoOn_of_inhibited {l : Option Link} {n k cmd : Nat} {x : KeySlot} {s : State}
    (hc : s.ks.cells = [{ recordsLeft := n, commit := .slot l k cmd x }]) (hi : s.inhibited = true)
    (hcmd : cmd = 1 ∨ cmd = 2) :
    s.cellsGoOn = State.cellsBegin [] (s.stopped ⟨n, .slot l k cmd x⟩ [] Ks.BROWNOUT) := by
  have hplaces : (⟨n, .slot l k cmd x⟩ : CellOp).inhibitable = true := by
    rcases hcmd with rfl | rfl
    · rfl
    · rfl
  rw [State.cellsGoOn, hc]
  exact if_pos (by simp [hi, hplaces])

/-- KEY_RESULT holds the status of a key command that has ended, and its slot is as it was. -/
theorem State.stopped_slot (s : State) (l : Link) (n k cmd : Nat) (x : KeySlot) (rest : List CellOp) (status : Nat) :
    (s.stopped ⟨n, .slot (some l) k cmd x⟩ rest status).rdN (Obj.KEY_RESULT (linkCode l) k) = status ∧
      (s.stopped ⟨n, .slot (some l) k cmd x⟩ rest status).ks = s.ks := by
  have hgen : (Obj.KEY_RESULT (linkCode l) k).key ≠ Obj.KS_GEN_HIGH.key := by
    simp only [Obj.KEY_RESULT, Obj.KS_GEN_HIGH, linkKey, regKey]
    omega
  refine ⟨?_, State.when_keeps (·.ks) (s.wrN (Obj.KEY_RESULT (linkCode l) k) status) _ _ fun _ => rfl⟩
  exact (State.when_keeps (·.rdN (Obj.KEY_RESULT (linkCode l) k)) (s.wrN (Obj.KEY_RESULT (linkCode l) k) status) _ _
    fun t => t.rdN_wrN_ne _ hgen).trans (State.rdN_wrN_same _ _ _)

/-- A placement that ends, with none behind it, gives its generation back (R309). -/
theorem State.stopped_genHigh (s : State) (l : Option Link) (n k : Nat) {cmd : Nat} {x : KeySlot} (status : Nat)
    (hcmd : cmd = 1 ∨ cmd = 2) (hgen : x.gen ≠ 0) :
    (s.stopped ⟨n, .slot l k cmd x⟩ [] status).rdN Obj.KS_GEN_HIGH = s.ks.genHigh := by
  have hplaced : (⟨n, .slot l k cmd x⟩ : CellOp).gen = x.gen := if_pos hcmd
  have hne : ((⟨n, .slot l k cmd x⟩ : CellOp).gen != 0) = true := by rw [hplaced, bne_iff_ne]; exact hgen
  rw [State.stopped, hne, State.when_true, State.rdN_wrN_same]
  rfl

/-! The update path (R321, R322). -/

section
variable {s : State} (hfree : s.restoring 14 = false)
include hfree

theorem exec_fwUpdBegin : exec .fwUpdBegin s = .next s.fwBegin.settle := State.orHeld_of_not_restoring _ _ _ _ _ _ hfree
theorem exec_fwUpdData (block : List Octet) : exec (.fwUpdData block) s = .next (s.fwData block).settle :=
  State.orHeld_of_not_restoring _ _ _ _ _ _ hfree
theorem exec_fwUpdCommit : exec .fwUpdCommit s = .next s.fwCommit.settle := State.orHeld_of_not_restoring _ _ _ _ _ _ hfree
theorem exec_fwUpdAbort : exec .fwUpdAbort s = .next s.fwAbort.settle := State.orHeld_of_not_restoring _ _ _ _ _ _ hfree
theorem exec_fwSvnCommit : exec .fwSvnCommit s = .next s.fwSvn.settle := State.orHeld_of_not_restoring _ _ _ _ _ _ hfree

end

/-- Nothing bars the path in a mode in which Keystone is full, with nothing locked, restored or inhibited. -/
theorem State.fwBar_eq_ok {s : State} (hm : s.ksMode = Ks.OK) (hu : s.unsafeBlock 14 = false) (hl : s.locked 7 = false)
    (hi : s.inhibited = false) : s.fwBar = Ks.OK := by
  simp [State.fwBar, hm, hu, hl, hi]

section
variable {s : State} (hb : s.fwBar = Ks.OK)
include hb

theorem State.fwBegin_of_ok (hl : s.locked 7 = false) :
    s.fwBegin =
      ({ s with ks := { s.ks with fwUpdate := { active := true, image := [] } } } : State).wrN Obj.FW_UPD_RESULT Ks.OK := by
  rw [State.fwBegin, if_neg (by simp [hl]), if_neg (by simp [hb])]
  rfl

theorem State.fwAbort_of_ok (hl : s.locked 7 = false) :
    s.fwAbort =
      ({ s with ks := { s.ks with fwUpdate := { active := false, image := [] } } } : State).wrN Obj.FW_UPD_RESULT Ks.OK := by
  rw [State.fwAbort, if_neg (by simp [hl]), if_neg (by simp [hb])]
  rfl

theorem State.fwData_of_ok (hl : s.locked 7 = false) (ha : s.ks.fwUpdate.active = true) {block : List Octet}
    (hlen : block.length ≤ 4096) :
    s.fwData block = ({ s with ks := { s.ks with
      fwUpdate := { active := true, image := s.ks.fwUpdate.image ++ block } } } : State).wrN Obj.FW_UPD_RESULT Ks.OK := by
  rw [State.fwData, if_neg (by simp [hl]), if_neg (by simp [hb]), if_neg (by simp [ha]), List.take_of_length_le hlen, ← ha]
  rfl

theorem State.fwCommit_of_ok (ha : s.ks.fwUpdate.active = true) {s1 : State}
    (h1 : s1 = { s with ks := { s.ks with fwUpdate := { active := false, image := [] } } }) :
    s.fwCommit = if s.accepts (Config.image s.ks.fwUpdate.image) then
      (s1.wrN Obj.FW_BOOT_BANK (1 - bitsAt (s.rdN Obj.FW_RUN) 32 1)).wrN Obj.FW_UPD_RESULT Ks.OK
      else (s1.wrN Obj.FW_UPD_RESULT Ks.VERIFY_FAIL).raise Src.KS_FW_REJECT := by
  subst h1
  rw [State.fwCommit, if_neg (by simp [hb]), if_neg (by simp [ha])]
  rfl

theorem State.fwSvn_of_ok :
    s.fwSvn = (s.wrN Obj.FW_MIN_SVN (max (s.rdN Obj.FW_MIN_SVN) (bitsAt (s.rdN Obj.FW_RUN) 0 32))).wrN Obj.FW_UPD_RESULT Ks.OK := by
  rw [State.fwSvn, if_neg (by simp [hb])]
  rfl

end

/-- Settles O17: the records one after another, each kind's commit, what then begins, and the update path. -/
theorem recordsAndFirmwareComplete : Obligations.RecordsAndFirmwareComplete := by
  refine ⟨⟨fun _ _ _ hc hz => exec_keyCellWriteComplete_more hz hc,
    fun _ _ _ hc hz => exec_keyCellWriteComplete_inhibited hz hc, ?root, ?helper, ?provision, ?slot,
    fun _ => State.cellsGoOn_of_nil, fun _ _ _ _ _ _ _ => State.cellsGoOn_of_allowed, ?refused, ?inhibited⟩, ?firmware⟩
  case root =>
    intro r s hc hz
    exact ⟨_, exec_keyCellWriteComplete_root hz hc, rfl, rfl, rfl, rfl, rfl, rfl, rfl, apply_ite Boot.step _ _ _⟩
  case helper =>
    intro r s hc hz
    exact ⟨_, exec_keyCellWriteComplete_helper hz hc, rfl, rfl, rfl, rfl, rfl, rfl, rfl⟩
  case provision =>
    intro key g s hc hz
    have h7 := (s.slotOf_custodianPlaced key g 7).trans (s.slotOf_place_same 7 _)
    exact ⟨_, exec_keyCellWriteComplete_provision hz hc, congrArg KeySlot.state h7, congrArg KeySlot.value h7,
      congrArg KeySlot.usage h7, congrArg KeySlot.gen h7,
      fun k hk => (s.slotOf_custodianPlaced key g k).trans (s.slotOf_place_ne _ hk), rfl, rfl, rfl⟩
  case slot =>
    intro l k cmd x rest s hc hz
    exact ⟨exec_keyCellWriteComplete_slot hz hc, fun hcmd => State.commitKey_retire_or_reactivate _ _ _ _ hcmd⟩
  case refused =>
    intro l n k cmd x s hc hi hr
    obtain ⟨hresult, hks⟩ := s.stopped_slot l n k cmd x [] (s.replan k cmd x).1
    rw [State.cellsGoOn_of_refused hc hi hr]
    exact ⟨rfl, hresult, (congrArg Keystone.slots hks :)⟩
  case inhibited =>
    intro l k cmd x s hcmd hi hgen hc
    obtain ⟨hresult, hks⟩ := s.stopped_slot l 1 k cmd x [] Ks.BROWNOUT
    rw [State.cellsGoOn_of_inhibited hc hi hcmd]
    exact ⟨rfl, hresult, s.stopped_genHigh (some l) 1 k Ks.BROWNOUT hcmd hgen, (congrArg Keystone.slots hks :)⟩
  case firmware =>
    intro s hfree hm hu hl hi
    have hb := State.fwBar_eq_ok hm hu hl hi
    rw [exec_fwUpdBegin hfree, exec_fwUpdAbort hfree, exec_fwUpdCommit hfree, exec_fwSvnCommit hfree,
      State.fwBegin_of_ok hb hl, State.fwAbort_of_ok hb hl, State.fwSvn_of_ok hb]
    refine ⟨rfl, rfl, fun block hlen ha => ?_, fun s1 ha h1 => ?_, rfl⟩
    · rw [exec_fwUpdData hfree, State.fwData_of_ok hb hl ha hlen]
    · rw [State.fwCommit_of_ok hb ha h1]

end Sys2Proof.Machine
end

section
/-! PROOFS. Trestle's edges: what the prescaler, the dead time and a stamp make of each, and what takes the stamp (R61, R64 to
R67). -/

namespace Sys2Proof.Machine

/-! What an edge does to its channel, by its fate (R64, R66, R67). -/

section
variable {s : State} {c fine : Nat} {f pps : Bool}

theorem State.edge_of_ignored (h : s.edgeFate c fine f = .ignored) : s.edge c fine f pps = s := by
  simp only [State.edge, h]

theorem State.edge_of_skipped (h : s.edgeFate c fine f = .skipped) :
    s.edge c fine f pps = s.setChannel c { s.channel c with skip := (s.channel c).skip - 1 } := by
  simp only [State.edge, h]

theorem State.edge_of_dropped (h : s.edgeFate c fine f = .dropped) {s1 : State}
    (h1 : s1 = s.setChannel c { s.channel c with
      dropsSince := (s.channel c).dropsSince + 1, skip := s.prescale c - 1 }) :
    s.edge c fine f pps =
      ((s1.bump (Obj.CH_DROP c)).count 0x040 1).forEach (l := List.range 32) (p := State.pairDrop c) := by
  subst h1
  simp only [State.edge, h]

theorem State.edge_of_stamped (h : s.edgeFate c fine f = .stamped) : s.edge c fine f pps = s.stamped c fine f pps := by
  simp only [State.edge, h]

end

/-! The command: only a stamp goes on to the slot or LO behind the channel (R61). -/

section
variable {c : Fin 48} {tap vernier : Fin 32} {f : Bool} {s : State}

theorem exec_trestleEdge_unstamped (high : Nat) (h : s.edgeFate c (32 * tap.val + vernier.val) f ≠ .stamped) :
    exec (.trestleEdge c tap vernier f high) s =
      .next (s.edge c (32 * tap.val + vernier.val) f (ppsCycle high)).close := by
  show Host.Outcome.next (s.trestleEdge c tap vernier f (ppsCycle high)).close = _
  rw [State.trestleEdge, beq_false_of_ne h, State.when_false]

theorem exec_trestleEdge_stamped (high : Nat) (h : s.edgeFate c (32 * tap.val + vernier.val) f = .stamped) :
    exec (.trestleEdge c tap vernier f high) s =
      .next ((s.stamped c (32 * tap.val + vernier.val) f (ppsCycle high)).stampConsumers c
        (s.stampOf c (32 * tap.val + vernier.val))
        (s.base48 + binCentre (s.channel c).hist (32 * tap.val + vernier.val) * 2 ^ 26) (ppsCycle high)).close := by
  show Host.Outcome.next (s.trestleEdge c tap vernier f (ppsCycle high)).close = _
  rw [State.trestleEdge, h, State.edge_of_stamped h, Int.add_zero]
  rfl

end

/-! What is behind a channel (Table 3-1). -/

theorem State.slotOfChannel_eq_none {c : Nat} (s : State) (hc : 12 ≤ c) (h44 : c ≠ 44) : s.slotOfChannel c = none := by
  rw [State.slotOfChannel, if_neg (by omega), if_neg (by omega), if_neg (by omega), if_neg h44]

theorem State.stampConsumers_of_no_slot {c : Nat} (t22 : Int) (edge48 : Nat) (mark : Bool) {s : State} (h8 : c ≠ 8) (h9 : c ≠ 9)
    (h : s.slotOfChannel c = none) : s.stampConsumers c t22 edge48 mark = s := by
  simp only [State.stampConsumers, h8, h9, h, or_self, if_false]

/-- Settles O26: the four fates of an edge, and the channels behind which nothing takes its stamp. -/
theorem edgesComplete : Obligations.EdgesComplete := by
  refine ⟨?ignored, ?skipped, ?dropped, fun _ _ _ _ high _ => exec_trestleEdge_stamped high, ?noConsumer, fun _ _ _ => rfl⟩
  case ignored =>
    intro c tap vernier f high s h
    rw [exec_trestleEdge_unstamped high (by simp [h]), State.edge_of_ignored h]
  case skipped =>
    intro c tap vernier f high s h
    rw [exec_trestleEdge_unstamped high (by simp [h]), State.edge_of_skipped h]
  case dropped =>
    intro c tap vernier f high s s1 h h1
    rw [exec_trestleEdge_unstamped high (by simp [h]), State.edge_of_dropped h h1]
  case noConsumer =>
    intro c t e m s hc h44
    exact State.stampConsumers_of_no_slot t e m (by omega) (by omega) (s.slotOfChannel_eq_none hc h44)

end Sys2Proof.Machine
end

section
/-! PROOFS. The states of Trestle's channels: DLL lock and loss, calibration, the enables, and what the pairs' timeout and the
ring's flush write (R57 to R59, R62 to R64, R71, R74, R77, Table 3-2). -/

namespace Sys2Proof.Machine

/-! DLL lock and loss (R57, R77). -/

/-- A lock begins a calibration in DLL_ACQ, and in the FAULT that a loss of lock led to (R57; log entry 72). -/
theorem exec_dllLock_calibrates {c : Fin 48} {s : State}
    (h : (s.channel c).state = .dllAcq ∨ (s.channel c).state = .fault ∧ s.active (Src.TR_DLL_LOSS c) = true)
    (hu : s.unsafeElement 3 c = false) :
    exec (.dllLock c) s = .next ((s.cond (Src.TR_DLL_LOSS c) false).channelCal c).settle := by
  show execDllLock c s = _
  rcases h with hx | ⟨hx, hl⟩
  · simp [execDllLock, hx, hu]
  · simp [execDllLock, hx, hl, hu]

/-- It leaves a channel that runs as it is, and one in its parity safe state (R77). -/
theorem exec_dllLock_stays {c : Fin 48} {s : State} (h : (s.channel c).state = .run ∨ s.unsafeElement 3 c = true) :
    exec (.dllLock c) s = .next (s.cond (Src.TR_DLL_LOSS c) false).settle := by
  show execDllLock c s = _
  rcases h with hx | hu
  · simp only [execDllLock, hx]
    rfl
  · simp [execDllLock, hu]

theorem exec_dllLoss {c : Fin 48} {s : State} (hr : s.dllRuns = true) :
    exec (.dllLoss c) s =
      if (s.channel c).state = .off ∨ (s.channel c).state = .dllAcq then .next (s.cond (Src.TR_DLL_LOSS c) true).settle
      else .next ((((s.cond (Src.TR_DLL_LOSS c) true).channelFault c).bootStep10).leftRun s).close := by
  show execDllLoss c s = _
  simp [execDllLoss, hr]

/-- Settles O29: a lock and a loss, by the state in which each finds the channel. -/
theorem dllChangesComplete : Obligations.DllChangesComplete := by
  refine ⟨fun _ _ hx => exec_dllLock_calibrates (.inl hx), fun _ _ hx hl => exec_dllLock_calibrates (.inr ⟨hx, hl⟩),
    fun _ _ => exec_dllLock_stays, ?outside, ?fault⟩
  case outside =>
    intro c s hr hx
    rw [exec_dllLoss hr, if_pos hx]
  case fault =>
    intro c s hr hx
    have hin : ¬ ((s.channel c).state = .off ∨ (s.channel c).state = .dllAcq) := by
      rcases hx with hx | hx | hx <;> simp [hx]
    rw [exec_dllLoss hr, if_neg hin]

/-! A transition of a channel changes that channel, and with channel 47's FAULT the drifts (R62, Table 3-2). -/

@[simp] theorem State.channel_refreshDrift (s : State) (c d : Nat) : (s.refreshDrift c).channel d = s.channel d :=
  State.when_keeps (fun t => t.channel d) _ _ _ fun _ => rfl

@[simp] theorem State.channel_refreshDrifts (s : State) (d : Nat) : s.refreshDrifts.channel d = s.channel d :=
  State.forEach_keeps (fun t => t.channel d) _ _ s fun t c => t.channel_refreshDrift c d

theorem State.channel_channelTo (s : State) (c : Nat) (st : ChState) (d : Nat) :
    (s.channelTo c st).channel d = (s.setChannel c { s.channel c with
      state := st, left := if st = (s.channel c).state then (s.channel c).left else s.leaving c st }).channel d :=
  State.when_keeps (fun t => t.channel d) _ _ _ fun t => t.channel_refreshDrifts d

theorem State.channelTo_state (s : State) (c : Nat) (st : ChState) : ((s.channelTo c st).channel c).state = st := by
  rw [State.channel_channelTo, State.channel_setChannel_same]

theorem State.channel_channelTo_ne (s : State) {c d : Nat} (st : ChState) (h : d ≠ c) :
    (s.channelTo c st).channel d = s.channel d := by
  rw [State.channel_channelTo, State.channel_setChannel_ne _ _ h]

theorem State.channelTo_book (s : State) {c : Nat} (st : ChState) (h : c ≠ 47) : (s.channelTo c st).book = s.book := by
  simp only [State.channelTo, beq_false_of_ne h, Bool.false_and, State.when_false, State.setChannel_book]

/-! Calibration (R58, R59, R62). -/

/-- A channel takes the table that R59 accepts, with channel 47's counts of that instant, and runs. -/
def State.tableTaken (s : State) (c : Nat) (h monitor : List Nat) : State :=
  let s1 := s.channelTo c .run
  ((s1.setChannel c { s1.channel c with hist := h, monitor := monitor, skip := 0, retries := 0 }).wrN (Obj.CH_TABGEN c)
    ((s.rdN (Obj.CH_TABGEN c) + 1) % 256)).wrN (Obj.CH_CAL_AT c) s.now80

section
variable {s : State} {h : List Nat}

section
variable {c : Fin 48} (hx : (s.channel c).state = .cal)
include hx

theorem exec_codeDensityComplete_accepted (hl : h.length = 1024) (hsum : h.sum = 2 ^ 22) (hg : histogramGood h = true) :
    exec (.codeDensityComplete c h) s =
      .next ((if c.val = 47 then ((s.tableTaken c h h).firstMonitor h).refreshDrifts
        else (s.tableTaken c h (s.channel 47).hist).refreshDrift c).bootStep10).settle := by
  show execCodeDensityComplete c h s = _
  have hin : ¬ ((s.channel c).state ≠ .cal ∨ h.length ≠ 1024 ∨ h.sum ≠ 2 ^ 22) := by simp [hx, hl, hsum]
  rw [execCodeDensityComplete, if_neg hin, if_pos hg]
  by_cases h47 : c.val = 47
  · simp only [if_pos h47, State.tableTaken]
  · simp only [if_neg h47, State.tableTaken]

theorem exec_codeDensityComplete_rejected (hl : h.length = 1024) (hsum : h.sum = 2 ^ 22) (hg : histogramGood h = false) :
    exec (.codeDensityComplete c h) s = .next ((s.calFail c).bootStep10).settle := by
  show execCodeDensityComplete c h s = _
  simp [execCodeDensityComplete, hx, hl, hsum, hg]

theorem exec_codeDensityTimeout {s1 : State} (hr : s.runTo ((s.channel c).calStart48 + ms48 120) = some s1) :
    exec (.codeDensityTimeout c) s = .next ((s1.calFail c).bootStep10).settle := by
  show execCodeDensityTimeout c s = _
  simp [execCodeDensityTimeout, hx, hr]

end

theorem exec_calFailRetry {c : Fin 48} {s1 : State} (hx : (s.channel c).state = .fault) (hn : (s.channel c).retries < 3)
    (hl : s.active (Src.TR_DLL_LOSS c) = false) (hf : (s.channel c).failed48 ≠ 0) (hu : s.unsafeElement 3 c = false)
    (hr : s.runTo ((s.channel c).failed48 + sec48) = some s1) :
    exec (.calFailRetry c) s =
      .next ((s1.setChannel c { s.channel c with retries := (s.channel c).retries + 1 }).channelCal c).settle := by
  show execCalFailRetry c s = _
  simp [execCalFailRetry, hx, Nat.not_le.mpr hn, hl, hf, hu, hr]

/-- Channel 47's next histogram replaces its table or fails it (R62). -/
theorem exec_tableMonitorUpdate (hx : (s.channel 47).state = .run) (hl : h.length = 1024) (hsum : h.sum = 2 ^ 22) :
    exec (.tableMonitorUpdate h) s =
      if histogramGood h then
        .next (((s.setChannel 47 { s.channel 47 with hist := h }).wrN (Obj.CH_TABGEN 47)
          ((s.rdN (Obj.CH_TABGEN 47) + 1) % 256)).refreshDrifts).settle
      else .next ((s.calFail 47).leftRun s).close := by
  show execTableMonitorUpdate h s = _
  simp [execTableMonitorUpdate, hx, hl, hsum]

end

/-- Where it is allowed, CH_RECAL calibrates a channel that runs, with its retries before it (R63). -/
theorem State.recal_of_run {s : State} {c : Nat} (hm : serviceMode s.mode = true) (hx : (s.channel c).state = .run)
    (hu : s.unsafeElement 3 c = false) :
    s.recal c = (s.setChannel c { s.channel c with retries := 0 }).channelCal c := by
  obtain ⟨hlo, hhi⟩ : 3 ≤ s.mode ∧ s.mode ≤ 7 := of_decide_eq_true hm
  have h9 : s.mode ≤ 9 := by omega
  simp [State.recal, hlo, h9, hx, hu]

theorem State.recal_of_unprovisioned {s : State} (c : Nat) (hm : s.mode = Mode.UNPROVISIONED) : s.recal c = s := by
  simp only [State.recal, hm]
  rfl

/-! Host writes to Trestle's block, while it is not being restored (R63, R64). -/

section
variable {s : State} (hfree : s.restoring 3 = false)
include hfree

theorem exec_chRecal (c : Fin 48) : exec (.chRecal c) s = .next ((s.recal c).leftRun s).close :=
  State.orHeld_of_not_restoring _ _ _ _ _ _ hfree

theorem exec_chEnWrite (c : Fin 48) (v : Bool) : exec (.chEnWrite c v) s = .next ((s.setChEn c v).leftRun s).close :=
  State.orHeld_of_not_restoring _ _ _ _ _ _ hfree

theorem exec_trEnableWrite (v : Bool) : exec (.trEnableWrite v) s = .next ((s.setTrEnable v).leftRun s).close :=
  State.orHeld_of_not_restoring _ _ _ _ _ _ hfree

end

/-! The timeout of a pair and the flush of ring 20's buffer (R71, R73, R74). -/

theorem exec_pairTimeout {p : Fin 32} {a : StampRec} {s s1 : State} (ha : (s.pair p).armed = some a)
    (hr : s.runTo (a.up48 + ((s.rdN (Obj.PAIR_TIMEOUT p) + 40) * ns48 : Nat)).toNat = some s1) :
    exec (.pairTimeout p) s =
      .next ((s1.pairRecord p a.t22 (2 ^ 12 + stepFlag a.steps s1.tr.steps) (s1.pairStart p) a.fine 0 s1.up48).count 0x042 1).settle := by
  show execPairTimeout p s = _
  simp only [execPairTimeout, ha, hr]

/-- Without RING a pair's record stays off ring 20: the pair is disarmed, its SEQ advances, and PAIR_LAST takes the interval. -/
theorem State.pairRecord_of_no_ring (p : Nat) (t22 i : Int) (flags c fine ready : Nat) {s : State}
    (h : bitOn (s.rdN (Obj.PAIR_CFG p)) 17 = false) :
    s.pairRecord p t22 flags c fine i ready =
      (s.setPair p { s.pair p with
        seq := ((s.pair p).seq + 1) % 2 ^ 16, armed := none, extraStart := false, dropped := false }).wr (Obj.PAIR_LAST p) i := by
  rw [State.pairRecord, h, State.when_false]

theorem exec_trRingFlush {s s1 : State} (hb : s.tr.buffer ≠ []) (hp : s.dmaPaused = false)
    (hr : s.runTo (s.tr.bufferSince48 + us48 (s.rdN Obj.TR_RING_FLUSH)) = some s1) :
    exec .trRingFlush s = .next s1.closeBuffer.settle := by
  show execTrRingFlush s = _
  simp [execTrRingFlush, hb, hp, hr]

/-- Settles O30, clause by clause: calibration and its retries, then the enables, the pairs' timeout and the flush. -/
theorem calibrationsAndTrestleComplete : Obligations.CalibrationsAndTrestleComplete := by
  refine ⟨⟨?accepted, ?accepted47, ?transition, fun _ _ _ => exec_codeDensityComplete_rejected,
      fun _ _ _ hx hr => exec_codeDensityTimeout hx hr, fun _ _ _ => exec_calFailRetry, ?monitorGood, ?monitorBad, ?recal, ?noRecal⟩,
    fun c _ hfree => exec_chEnWrite hfree c true, fun c _ hfree => exec_chEnWrite hfree c false,
    fun _ hfree => exec_trEnableWrite hfree true, fun _ hfree => exec_trEnableWrite hfree false,
    fun _ _ _ _ => exec_pairTimeout, ?pairRecord, fun _ _ => exec_trRingFlush⟩
  case accepted =>
    rintro c h s _ hc hx hl hsum hg rfl
    have h47 : c.val ≠ 47 := fun e => hc (Fin.ext e)
    rw [exec_codeDensityComplete_accepted hx hl hsum hg, if_neg h47]
    rfl
  case accepted47 =>
    rintro h s _ hx hl hsum hg rfl
    exact exec_codeDensityComplete_accepted (c := 47) hx hl hsum hg
  case transition =>
    intro c st s
    exact ⟨s.channelTo_state c st, fun d => s.channel_channelTo_ne st, s.channelTo_book st⟩
  case monitorGood =>
    intro h s hx hl hsum hg
    rw [exec_tableMonitorUpdate hx hl hsum, if_pos hg]
  case monitorBad =>
    intro h s hx hl hsum hg
    rw [exec_tableMonitorUpdate hx hl hsum, if_neg (by simp [hg])]
  case recal =>
    intro c s hfree hm hx hu
    rw [exec_chRecal hfree, State.recal_of_run hm hx hu]
  case noRecal =>
    intro c s hfree hm
    rw [exec_chRecal hfree, State.recal_of_unprovisioned c hm]
  case pairRecord =>
    intro p t22 i flags c fine ready s h
    rw [State.pairRecord_of_no_ring p t22 i flags c fine ready h, State.pair_wr, State.pair_setPair_same]
    exact ⟨rfl, rfl, State.rd_wr_same _ _ _⟩

end Sys2Proof.Machine
end

section
/-! PROOFS. The reference slots: a change of a slot's state, and the enables of a slot and of the block (R80, R82, R86, R89, R94,
Tables 4-7 and 4-11). -/

namespace Sys2Proof.Machine

/-! A field of a word by its bits: SLOT_STATE holds the state below its reason, its sticky bits and their number. -/

theorem bitOn_bitsAt (w lo width k : Nat) : bitOn (bitsAt w lo width) k = (decide (k < width) && bitOn w (lo + k)) := by
  rw [bitOn_eq_testBit, bitOn_eq_testBit, bitsAt, Nat.testBit_mod_two_pow, Nat.testBit_div_two_pow, Nat.add_comm]

theorem bitsAt_congr {w v lo width : Nat} (h : ∀ k < width, bitOn w (lo + k) = bitOn v (lo + k)) :
    bitsAt w lo width = bitsAt v lo width := by
  refine Nat.eq_of_testBit_eq fun k => ?_
  rw [← bitOn_eq_testBit, ← bitOn_eq_testBit, bitOn_bitsAt, bitOn_bitsAt]
  by_cases hk : k < width
  · rw [h k hk]
  · simp [hk]

theorem bitsAt_setBitsAt_above (w v : Nat) {lo n width : Nat} (h : width ≤ lo) :
    bitsAt (setBitsAt w lo n v) 0 width = bitsAt w 0 width :=
  bitsAt_congr fun k hk => by rw [bitOn_setBitsAt, if_pos (by omega)]

theorem bitsAt_sqSet_above (w : Nat) {b width : Nat} (hb : width ≤ b) (h16 : width ≤ 16) :
    bitsAt (sqSet w b) 0 width = bitsAt w 0 width :=
  bitsAt_congr fun k hk => by rw [bitOn_sqSet w b _ (by omega), beq_false_of_ne (by omega), Bool.or_false]

theorem bitsAt_withReason (w : Nat) (r : Option SlotReason) : bitsAt (withReason w r) 0 3 = bitsAt w 0 3 := by
  cases r with
  | none => rfl
  | some _ => exact bitsAt_setBitsAt_above _ _ (by decide)

/-! What a write of a register does to the slots' states. -/

theorem State.slotState_of_rd {s t : State} {n : Nat} (h : t.rd (Obj.SLOT_STATE n) = s.rd (Obj.SLOT_STATE n)) :
    t.slotState n = s.slotState n := by
  simp only [State.slotState, State.rdN, h]

theorem State.slotState_wr_ne (s : State) {r : Reg} {n : Nat} (v : Int) (h : (Obj.SLOT_STATE n).key ≠ r.key) :
    (s.wr r v).slotState n = s.slotState n :=
  State.slotState_of_rd (s.rd_wr_ne v h)

theorem State.slotState_wrN_same (s : State) (n w : Nat) : (s.wrN (Obj.SLOT_STATE n) w).slotState n = bitsAt w 0 3 := by
  rw [State.slotState, State.rdN_wrN_same]

theorem State.slotState_stick_above (s : State) (n : Nat) {b : Nat} (h : 3 ≤ b) :
    (s.stick (Obj.SLOT_STATE n) b).slotState n = s.slotState n :=
  (s.slotState_wrN_same n _).trans (bitsAt_sqSet_above _ h (by decide))

theorem State.slotState_of_agrees {s t : State} (h : Agrees s t) {n : Nat} (hn : n < 24) : t.slotState n = s.slotState n :=
  State.slotState_of_rd (h.rd _ (low_SLOT_STATE hn))

/-! The three parts of a change of state, before it is counted and notified: the word, the weights that a slot loses as it
leaves QUALIFIED (R89), and what it loses as it enters DISABLED (R86). -/

def State.slotWordTo (s : State) (n new : Nat) (reason : Option SlotReason) : State :=
  (s.wrN (Obj.SLOT_STATE n) (withReason (setBitsAt (s.rdN (Obj.SLOT_STATE n)) 0 3 new) reason)).stick (Obj.SLOT_STATE n) 7

def State.weightless (s : State) (n : Nat) : State := (s.wrN (Obj.HD_W_TIME n) 0).wrN (Obj.HD_W_FREQ n) 0

def State.slotCleared (s : State) (n : Nat) : State :=
  (((s.wrN (Obj.SLOT_CLASS n) 15).wrN (Obj.SLOT_UNC_RX n) 0xFFFFFFFF).wrN (Obj.SLOT_QL_RAW n) 0).setSlot n Slot.reset

def State.slotChanged (s : State) (n new : Nat) (reason : Option SlotReason) : State :=
  ((s.slotWordTo n new reason).when (s.slotState n == Sl.QUALIFIED) (·.weightless n)).when (new == Sl.DISABLED) (·.slotCleared n)

theorem State.slotStateTo_same {s : State} {n new : Nat} (r : Option SlotReason) (h : s.slotState n = new) :
    s.slotStateTo n new r = s.wrN (Obj.SLOT_STATE n) (withReason (s.rdN (Obj.SLOT_STATE n)) r) :=
  if_pos h

theorem State.slotStateTo_ne {s : State} {n new : Nat} (r : Option SlotReason) (h : s.slotState n ≠ new) :
    s.slotStateTo n new r = ((s.slotChanged n new r).count (0x180 + n) 1).slotNotice n (s.slotState n) new :=
  if_neg h

/-- The count and the notice of a change leave all but the bookkeeping as the change made it. -/
theorem Agrees.slotStateTo {s : State} {n new : Nat} (r : Option SlotReason) (h : s.slotState n ≠ new) :
    Agrees (s.slotChanged n new r) (s.slotStateTo n new r) := by
  rw [State.slotStateTo_ne r h]
  exact ((Agrees.refl _).count _ _).notice _ _ _ _

section
variable (s : State) {n m new : Nat} (r : Option SlotReason)

theorem State.slotState_slotWordTo (h : new < 6) : (s.slotWordTo n new r).slotState n = new := by
  rw [State.slotWordTo, State.slotState_stick_above _ _ (by decide), State.slotState_wrN_same, bitsAt_withReason, bitsAt_setBitsAt]
  exact Nat.mod_eq_of_lt (by omega)

theorem State.slotState_slotWordTo_ne (h : m ≠ n) : (s.slotWordTo n new r).slotState m = s.slotState m := by
  have hk : (Obj.SLOT_STATE m).key ≠ (Obj.SLOT_STATE n).key := by simp only [Obj.SLOT_STATE, regKey]; omega
  exact (State.slotState_wr_ne _ _ hk).trans (s.slotState_wr_ne _ hk)

theorem State.slotState_weightless (hn : n < 24) (hm : m < 24) : (s.weightless n).slotState m = s.slotState m := by
  have ht : (Obj.SLOT_STATE m).key ≠ (Obj.HD_W_TIME n).key := by simp only [Obj.SLOT_STATE, Obj.HD_W_TIME, regKey]; omega
  have hf : (Obj.SLOT_STATE m).key ≠ (Obj.HD_W_FREQ n).key := by simp only [Obj.SLOT_STATE, Obj.HD_W_FREQ, regKey]; omega
  exact (State.slotState_wr_ne _ _ hf).trans (s.slotState_wr_ne _ ht)

/-- What a slot loses in DISABLED touches three registers of its own. -/
theorem State.rd_slotCleared {q : Reg} (hc : q.key ≠ (Obj.SLOT_CLASS n).key) (hu : q.key ≠ (Obj.SLOT_UNC_RX n).key)
    (hq : q.key ≠ (Obj.SLOT_QL_RAW n).key) : (s.slotCleared n).rd q = s.rd q := by
  rw [State.slotCleared, State.rd_setSlot, State.rd_wrN_ne _ _ hq, State.rd_wrN_ne _ _ hu, State.rd_wrN_ne _ _ hc]

theorem State.slotState_slotCleared (hn : n < 24) (hm : m < 24) : (s.slotCleared n).slotState m = s.slotState m := by
  refine State.slotState_of_rd (s.rd_slotCleared ?_ ?_ ?_) <;>
    simp only [Obj.SLOT_STATE, Obj.SLOT_CLASS, Obj.SLOT_UNC_RX, Obj.SLOT_QL_RAW, regKey] <;> omega

theorem State.slotState_slotChanged (hn : n < 24) (hm : m < 24) :
    (s.slotChanged n new r).slotState m = (s.slotWordTo n new r).slotState m := by
  rw [State.slotChanged, State.when_keeps (·.slotState m) _ _ _ fun t => t.slotState_slotCleared hn hm]
  exact State.when_keeps (·.slotState m) _ _ _ fun t => t.slotState_weightless hn hm

/-- A change of one slot's state is seen in SLOT_STATE (Table 4-11). -/
theorem State.slotState_slotStateTo (hn : n < 24) (h : new < 6) : (s.slotStateTo n new r).slotState n = new := by
  by_cases hs : s.slotState n = new
  · rw [State.slotStateTo_same r hs, State.slotState_wrN_same, bitsAt_withReason]
    exact hs
  · rw [State.slotState_of_agrees (.slotStateTo r hs) hn, s.slotState_slotChanged r hn hn, s.slotState_slotWordTo r h]

theorem State.slotState_slotStateTo_ne (hn : n < 24) (hm : m < 24) (h : m ≠ n) :
    (s.slotStateTo n new r).slotState m = s.slotState m := by
  by_cases hs : s.slotState n = new
  · rw [State.slotStateTo_same r hs]
    exact s.slotState_wr_ne _ (by simp only [Obj.SLOT_STATE, regKey]; omega)
  · rw [State.slotState_of_agrees (.slotStateTo r hs) hm, s.slotState_slotChanged r hn hm, s.slotState_slotWordTo_ne r h]

/-- A part of the state that a register, a slot and the bookkeeping leave alone is left alone by a change of state. -/
theorem State.slotStateTo_keeps {β : Sort _} (f : State → β) (hwr : ∀ t q v, f (State.wr t q v) = f t)
    (hsl : ∀ t k x, f (State.setSlot t k x) = f t) (hag : ∀ t u, Agrees t u → f u = f t) :
    f (s.slotStateTo n new r) = f s := by
  by_cases hs : s.slotState n = new
  · rw [State.slotStateTo_same r hs]
    exact hwr ..
  · have hweight : ∀ t : State, f (t.weightless n) = f t := fun t => (hwr ..).trans (hwr ..)
    have hclear : ∀ t : State, f (t.slotCleared n) = f t := fun t =>
      (hsl ..).trans ((hwr ..).trans ((hwr ..).trans (hwr ..)))
    rw [hag _ _ (.slotStateTo r hs), State.slotChanged, State.when_keeps f _ _ _ hclear, State.when_keeps f _ _ _ hweight]
    exact (hwr ..).trans (hwr ..)

end

/-- A slot that leaves QUALIFIED has no weight (R89). -/
theorem State.weights_slotStateTo {s : State} {n new : Nat} (r : Option SlotReason) (hn : n < 24) (hne : new ≠ Sl.QUALIFIED)
    (hq : s.slotState n = Sl.QUALIFIED) :
    (s.slotStateTo n new r).rdN (Obj.HD_W_TIME n) = 0 ∧ (s.slotStateTo n new r).rdN (Obj.HD_W_FREQ n) = 0 := by
  have hag : Agrees (s.slotChanged n new r) (s.slotStateTo n new r) := .slotStateTo r (by rw [hq]; exact hne.symm)
  have hread : ∀ q : Reg, q.key / 256 = 0x4020 ∨ q.key / 256 = 0x4022 →
      (s.slotStateTo n new r).rd q = ((s.slotWordTo n new r).weightless n).rd q := by
    intro q hkey
    rw [hag.rd q (by simp only [Reg.low]; omega), State.slotChanged, hq]
    refine State.when_keeps (·.rd q) _ _ _ fun t => t.rd_slotCleared ?_ ?_ ?_ <;>
      simp only [Obj.SLOT_CLASS, Obj.SLOT_UNC_RX, Obj.SLOT_QL_RAW, regKey] <;> omega
  have htf : (Obj.HD_W_TIME n).key ≠ (Obj.HD_W_FREQ n).key := by simp only [Obj.HD_W_TIME, Obj.HD_W_FREQ, regKey]; omega
  rw [State.rdN, State.rdN, hread _ (.inl (by simp only [Obj.HD_W_TIME, regKey]; omega)),
    hread _ (.inr (by simp only [Obj.HD_W_FREQ, regKey]; omega)), State.weightless, State.rd_wrN_ne _ _ htf,
    State.rd_wrN_same, State.rd_wrN_same]
  exact ⟨rfl, rfl⟩

/-- A slot that enters DISABLED reads class 15 and holds nothing beyond its objects (R86). -/
theorem State.slotStateTo_disabled {s : State} {n : Nat} (r : Option SlotReason) (hn : n < 24) (h : s.slotState n ≠ Sl.DISABLED) :
    (s.slotStateTo n Sl.DISABLED r).slotClass n = 15 ∧ (s.slotStateTo n Sl.DISABLED r).slot n = Slot.reset := by
  have hag : Agrees (s.slotChanged n Sl.DISABLED r) (s.slotStateTo n Sl.DISABLED r) := .slotStateTo r h
  have hlow : (Obj.SLOT_CLASS n).low := by simp only [Reg.low, Obj.SLOT_CLASS, regKey]; omega
  have hcu : (Obj.SLOT_CLASS n).key ≠ (Obj.SLOT_UNC_RX n).key := by simp only [Obj.SLOT_CLASS, Obj.SLOT_UNC_RX, regKey]; omega
  have hcq : (Obj.SLOT_CLASS n).key ≠ (Obj.SLOT_QL_RAW n).key := by simp only [Obj.SLOT_CLASS, Obj.SLOT_QL_RAW, regKey]; omega
  constructor
  · rw [State.slotClass, State.rdN, hag.rd _ hlow, State.slotChanged, beq_self_eq_true, State.when_true, State.slotCleared,
      State.rd_setSlot, State.rd_wrN_ne _ _ hcq, State.rd_wrN_ne _ _ hcu, State.rd_wrN_same]
    rfl
  · rw [State.slot, hag.sl]
    exact State.slot_setSlot_same _ _ _

theorem State.slotTo_of_ne_23 {n : Nat} (new : Nat) (r : Option SlotReason) (s : State) (h : n ≠ 23) :
    s.slotTo n new r = s.slotStateTo n new r :=
  if_neg h

/-! SLOT_EN and SL_ENABLE, while the block is not being restored (R80, R82). -/

section
variable {s : State} (hfree : s.restoring 2 = false)
include hfree

theorem exec_slotEnWrite (n : Fin 24) (v : Bool) : exec (.slotEnWrite n v) s = .next (s.setSlotEn n v).close :=
  State.orHeld_of_not_restoring _ _ _ _ _ _ hfree

theorem exec_slEnableWrite (v : Bool) : exec (.slEnableWrite v) s = .next (s.setSlEnable v).close :=
  State.orHeld_of_not_restoring _ _ _ _ _ _ hfree

end

theorem State.composite_of_ge {s : State} {n : Nat} (h : 8 ≤ n) : s.composite n = false := by
  simp [State.composite, Nat.not_lt.mpr h]

theorem State.slotEnabled_of_not_composite {s : State} {n : Nat} (hrun : s.monitorsRun = true) (hc : s.composite n = false) :
    s.slotEnabled n = s.slotTo n Sl.LOS (some .los) := by
  simp [State.slotEnabled, hrun, hc]

section
variable {s : State} {n : Nat} (hen : s.rdB (Obj.SLOT_EN n) = false)
include hen

theorem State.setSlotEn_on_of_ge (h : 8 ≤ n) :
    s.setSlotEn n true = (s.wr (Obj.SLOT_EN n) 1).when (s.rdB Obj.SL_ENABLE) (·.slotEnabled n) := by
  simp [State.setSlotEn, hen, Nat.not_lt.mpr h]

theorem State.setSlotEn_on_of_good (h : n < 8) (hg : s.refinGood n = true) :
    s.setSlotEn n true = ((s.wr (Obj.SLOT_EN n) 1).programChannel n).when (s.rdB Obj.SL_ENABLE) (·.slotEnabled n) := by
  simp [State.setSlotEn, hen, h, hg]

theorem State.setSlotEn_on_of_bad (h : n < 8) (hg : s.refinGood n = false) :
    s.setSlotEn n true = s.rangeReject 2 (Obj.SLOT_EN n).key := by
  simp [State.setSlotEn, hen, h, hg]

end

theorem State.setSlotEn_off {s : State} {n : Nat} (h : s.slotState n ≠ Sl.DISABLED) :
    s.setSlotEn n false = ((s.wr (Obj.SLOT_EN n) 0).slotTo n Sl.DISABLED (some .host)).when (s.composite n)
      fun s => (s.slotLos 23).edgesAnew 23 := by
  have hs : (s.wr (Obj.SLOT_EN n) 0).slotState n ≠ Sl.DISABLED := by
    rwa [s.slotState_wr_ne 0 (by simp only [Obj.SLOT_STATE, Obj.SLOT_EN, regKey]; omega)]
  simp only [State.setSlotEn, Bool.not_false, if_true, if_neg hs]

theorem State.setSlEnable_on {s : State} (h : s.rdB Obj.SL_ENABLE = false) :
    s.setSlEnable true = (s.wr Obj.SL_ENABLE 1).forEach (l := List.range 24) (p := State.slotReturn) := by
  simp [State.setSlEnable, h]

theorem State.slot_edgesAnew_same (s : State) (n : Nat) : (s.edgesAnew n).slot n =
    { s.slot n with lastBase48 := none, misses := 0, good := 0, missing := 0 } :=
  s.slot_setSlot_same _ _

/-- Settles O25: first a change of one slot's state, part by part, then the writes that enable and disable slots. -/
theorem slotStatesAndEnablesComplete : Obligations.SlotStatesAndEnablesComplete := by
  refine ⟨⟨?change, fun _ _ r _ hn _ => State.weights_slotStateTo r hn, fun _ r _ => State.slotStateTo_disabled r,
      fun _ new r s => s.slotTo_of_ne_23 new r⟩,
    ?noRefin, ?blockOff, ?refin, ?refused, ?off, ?anew, fun _ hfree => exec_slEnableWrite hfree false, ?reenable⟩
  case change =>
    intro n new r s hn hnew
    exact ⟨s.slotState_slotStateTo r hn hnew, fun m hm hne => s.slotState_slotStateTo_ne r hn hm hne,
      s.slotStateTo_keeps r State.clk (fun _ _ _ => rfl) (fun _ _ _ => rfl) fun _ _ h => h.clk,
      s.slotStateTo_keeps r State.ctl (fun _ _ _ => rfl) (fun _ _ _ => rfl) fun _ _ h => h.ctl,
      s.slotStateTo_keeps r State.tr (fun _ _ _ => rfl) (fun _ _ _ => rfl) fun _ _ h => h.tr⟩
  case noRefin =>
    intro n s hfree hn hen hsl hrun
    have hrun1 : (s.wr (Obj.SLOT_EN n) 1).monitorsRun = true := by
      rw [← hrun, State.monitorsRun, State.mode, s.rdN_wr_ne 1 (by simp only [Obj.MODE_CURRENT, Obj.SLOT_EN, regKey]; omega)]
      rfl
    rw [exec_slotEnWrite hfree, State.setSlotEn_on_of_ge hen hn, hsl, State.when_true,
      State.slotEnabled_of_not_composite hrun1 (State.composite_of_ge hn)]
  case blockOff =>
    intro n s hfree hn hen hg hsl
    rw [exec_slotEnWrite hfree, State.setSlotEn_on_of_good hen hn hg, hsl, State.when_false]
  case refin =>
    intro n s hfree hn hen hg hsl
    rw [exec_slotEnWrite hfree, State.setSlotEn_on_of_good hen hn hg, hsl, State.when_true]
  case refused =>
    intro n s hfree hn hen hg
    rw [exec_slotEnWrite hfree, State.setSlotEn_on_of_bad hen hn hg]
  case off =>
    rintro n s _ hfree hs rfl
    rw [exec_slotEnWrite hfree, State.setSlotEn_off hs]
    exact ⟨fun hc => by rw [hc, State.when_false], fun hc => by rw [hc, State.when_true]⟩
  case anew =>
    intro n s
    rw [State.slot_edgesAnew_same]
    exact ⟨rfl, rfl, rfl, fun m hm => s.slot_setSlot_ne _ hm⟩
  case reenable =>
    intro s hfree hsl
    rw [exec_slEnableWrite hfree, State.setSlEnable_on hsl]

end Sys2Proof.Machine
end

section
/-! PROOFS. SLOT_CMD, and the monitors and timers of a slot at the instants they fall due (R85, R90 to R92). -/

namespace Sys2Proof.Machine

/-! SLOT_CMD, while the block is not being restored (R90, R92). -/

section
variable {s : State} (hfree : s.restoring 2 = false)
include hfree

theorem exec_slotSuspend (n : Fin 24) : exec (.slotSuspend n) s = .next (s.slotCmd n 1).close :=
  State.orHeld_of_not_restoring _ _ _ _ _ _ hfree

theorem exec_slotResume (n : Fin 24) : exec (.slotResume n) s = .next (s.slotCmd n 2).close :=
  State.orHeld_of_not_restoring _ _ _ _ _ _ hfree

theorem exec_slotRequalify (n : Fin 24) : exec (.slotRequalify n) s = .next (s.slotCmd n 3).close :=
  State.orHeld_of_not_restoring _ _ _ _ _ _ hfree

end

theorem State.slotCmdOk_iff {s : State} {n st : Nat} :
    s.slotCmdOk n st = true ↔ s.slotState n = st ∧ s.composite n = false ∧ s.unsafeElement 2 n = false := by
  simp [State.slotCmdOk, and_assoc]

theorem State.slotCmdOk_of_ne {s : State} {n st : Nat} (h : s.slotState n ≠ st) : s.slotCmdOk n st = false :=
  Bool.eq_false_iff.mpr fun hok => h (State.slotCmdOk_iff.mp hok).1

section
variable {s : State} {n : Nat}

theorem State.slotCmd_suspend (h : s.slotCmdOk n Sl.QUALIFIED = true) : s.slotCmd n 1 = s.slotSuspend n .host := by
  simp [State.slotCmd, h]

theorem State.slotCmd_resume (h : s.slotCmdOk n Sl.SUSPENDED = true) (hr : s.slotReason n = slotReasonCode .host) :
    s.slotCmd n 2 = s.slotQualifying n none := by
  simp [State.slotCmd, h, hr]

theorem State.slotCmd_requalify (h : s.slotCmdOk n Sl.DISQUALIFIED = true) : s.slotCmd n 3 = s.slotQualifying n none := by
  simp [State.slotCmd, h]

/-- A command in another state than its own is rejected (R92). -/
theorem State.slotCmd_suspend_reject (h : s.slotState n ≠ Sl.QUALIFIED) : s.slotCmd n 1 = s.slotCmdReject := by
  simp [State.slotCmd, State.slotCmdOk_of_ne h]

theorem State.slotCmd_resume_reject (h : s.slotState n ≠ Sl.SUSPENDED) : s.slotCmd n 2 = s.slotCmdReject := by
  simp [State.slotCmd, State.slotCmdOk_of_ne h]

theorem State.slotCmd_requalify_reject (h : s.slotState n ≠ Sl.DISQUALIFIED) : s.slotCmd n 3 = s.slotCmdReject := by
  simp [State.slotCmd, State.slotCmdOk_of_ne h]

end

/-! The monitors and the timers, each where its instant can come (R85, R90, R91). -/

section
variable {n : Fin 24} {s s1 : State}

theorem exec_slotMissingEdge (hp : s.pulseSlot n = true) (hd : s.slotState n ≠ Sl.DISABLED) (hl : s.slotState n ≠ Sl.LOS)
    (hb : (s.slot n).lastBase48 ≠ none) (hr : s.runTo (s.missAt n) = some s1) :
    exec (.slotMissingEdge n) s =
      if (s1.slot n).misses < 2 then .next (s1.setSlot n { s1.slot n with misses := (s1.slot n).misses + 1 }).settle
      else .next (s1.slotLos n).close := by
  show execSlotMissingEdge n s = _
  have hdue : ¬ (s.pulseSlot n = false ∨ s.slotState n = Sl.DISABLED ∨ s.slotState n = Sl.LOS ∨ (s.slot n).lastBase48 = none) := by
    simp [hp, hd, hl, hb]
  simp only [execSlotMissingEdge, if_neg hdue, hr]

theorem exec_pinActivityLoss (h : n = 22 ∨ n.val < 8 ∧ s.slotMode n = 0) :
    exec (.pinActivityLoss n) s = .next (s.slotLos n).close :=
  if_pos (h.imp_left (congrArg Fin.val))

theorem exec_slotQualified (hs : s.slotState n = Sl.QUALIFYING) (hcls : s.slotClass n < 15) (hc : s.composite n = false)
    (hr : s.runTo (s.slot n).qualEnd48 = some s1) :
    exec (.slotQualified n) s = .next (s1.slotTo n Sl.QUALIFIED (some .none)).close := by
  show execSlotQualified n s = _
  have hdue : ¬ (s.slotState n ≠ Sl.QUALIFYING ∨ 15 ≤ s.slotClass n ∨ s.composite n = true) := by
    simp [hs, Nat.not_le.mpr hcls, hc]
  simp only [execSlotQualified, if_neg hdue, hr]

theorem exec_slotSuspHoldExpiry (hs : s.slotState n = Sl.SUSPENDED) (hg : s.slotReason n = slotReasonCode .glitch)
    (hc : s.composite n = false) (hr : s.runTo (s.slot n).suspEnd48 = some s1) :
    exec (.slotSuspHoldExpiry n) s = .next (s1.slotTo n Sl.QUALIFIED none).close := by
  show execSlotSuspHoldExpiry n s = _
  have hdue : ¬ (s.slotState n ≠ Sl.SUSPENDED ∨ s.slotReason n ≠ slotReasonCode .glitch ∨ s.composite n = true) := by
    simp [hs, hg, hc]
  simp only [execSlotSuspHoldExpiry, if_neg hdue, hr]

theorem exec_slotDisqHoldExpiry (hs : s.slotState n = Sl.DISQUALIFIED) (hc : s.composite n = false)
    (hr : s.runTo (s.slot n).disqEnd48 = some s1) :
    exec (.slotDisqHoldExpiry n) s = .next (s1.slotQualifying n none).close := by
  show execSlotDisqHoldExpiry n s = _
  have hdue : ¬ (s.slotState n ≠ Sl.DISQUALIFIED ∨ s.composite n = true) := by simp [hs, hc]
  simp only [execSlotDisqHoldExpiry, if_neg hdue, hr]

end

/-- A slot that is lost already is not lost again. -/
theorem State.slotLos_of_los {s : State} {n : Nat} (h : s.slotState n = Sl.LOS) : s.slotLos n = s :=
  if_pos (.inr h)

/-- Settles O27: the three commands where they are valid and where they are not, then the monitors and the timers. -/
theorem slotCommandsAndTimersComplete : Obligations.SlotCommandsAndTimersComplete := by
  refine ⟨⟨?suspend, ?resume, ?requalify, ?noSuspend, ?noResume, ?noRequalify⟩,
    ?missed, ?lost, fun _ _ => exec_pinActivityLoss, fun _ _ _ => exec_slotQualified, fun _ _ _ => exec_slotSuspHoldExpiry,
    fun _ _ _ => exec_slotDisqHoldExpiry, fun _ _ => State.slotLos_of_los⟩
  case suspend =>
    rintro n s _ hfree hs hc hu rfl
    rw [exec_slotSuspend hfree, State.slotCmd_suspend (State.slotCmdOk_iff.mpr ⟨hs, hc, hu⟩), State.slotSuspend]
  case resume =>
    rintro n s _ hfree hs hr hc hu rfl
    rw [exec_slotResume hfree, State.slotCmd_resume (State.slotCmdOk_iff.mpr ⟨hs, hc, hu⟩) hr, State.slotQualifying]
  case requalify =>
    rintro n s _ hfree hs hc hu rfl
    rw [exec_slotRequalify hfree, State.slotCmd_requalify (State.slotCmdOk_iff.mpr ⟨hs, hc, hu⟩), State.slotQualifying]
  case noSuspend =>
    intro n s hfree hs
    rw [exec_slotSuspend hfree, State.slotCmd_suspend_reject hs, State.slotCmdReject]
  case noResume =>
    intro n s hfree hs
    rw [exec_slotResume hfree, State.slotCmd_resume_reject hs, State.slotCmdReject]
  case noRequalify =>
    intro n s hfree hs
    rw [exec_slotRequalify hfree, State.slotCmd_requalify_reject hs, State.slotCmdReject]
  case missed =>
    intro n s s1 hp hd hl hb hr hm
    rw [exec_slotMissingEdge hp hd hl hb hr, if_pos hm]
  case lost =>
    intro n s s1 hp hd hl hb hr hm
    rw [exec_slotMissingEdge hp hd hl hb hr, if_neg (Nat.not_lt.mpr hm)]

end Sys2Proof.Machine
end

section
/-! PROOFS. The time-of-day messages of slot 23 (R83, R84), and the ESMC PDUs of the ports' slots (R86, R87). -/

namespace Sys2Proof.Machine

/-- The UART that slot 23 listens to (R83). -/
def State.todPort (s : State) : Nat := if bitOn (s.rdN (Obj.SLOT_CFG 23)) 18 then 1 else 0

section
variable {p : Fin 2} {m : List Octet} {gap : Bool} {s : State}

/-- The selected UART's message is one of Table 4-2 in its window, or is discarded and counted (R83, R84). -/
theorem exec_todMessage (hs : s.slotState 23 ≠ Sl.DISABLED) (hp : p.val = s.todPort) :
    exec (.todMessage p m gap) s =
      if todGood m && gap && s.todWindow then .next (s.todAccept m).close
      else .next ((s.bump (Obj.SLOT_TOD_DISCARD 23)).count 0x1B4 1).settle := by
  show execTodMessage p m gap s = _
  have hin : ¬ (s.slotState 23 = Sl.DISABLED ∨ p.val ≠ s.todPort) := by simp [hs, hp]
  exact if_neg hin

theorem exec_todMessage_other (hp : p.val ≠ s.todPort) : exec (.todMessage p m gap) s = .next s :=
  if_pos (.inr hp)

end

/-- A pulse's window closes with no valid message (R84). -/
def State.todMissed (s1 s : State) : State :=
  s1.setSlot 23 { s.slot 23 with windowOpen := false, missing := (s.slot 23).missing + 1 }

theorem exec_todMessageMissing {s s1 : State} (hs : s.slotState 23 ≠ Sl.DISABLED) (hw : (s.slot 23).windowOpen = true)
    (hb : (s.slot 23).lastBase48 ≠ none) (hr : s.runTo ((s.slot 23).lastUp48 + ms48 900) = some s1) :
    exec .todMessageMissing s =
      if (s.slot 23).missing < 2 then .next (s1.todMissed s).settle else .next ((s1.todMissed s).slotLos 23).close := by
  show execTodMessageMissing s = _
  have hdue : ¬ (s.slotState 23 = Sl.DISABLED ∨ (s.slot 23).windowOpen = false ∨ (s.slot 23).lastBase48 = none) := by
    simp [hs, hw, hb]
  simp only [execTodMessageMissing, if_neg hdue, hr]
  rfl

/-- The class that an event PDU leaves standing: 15 where no information PDU has arrived (Table 4-4). -/
def State.esmcClass (s : State) (n : Nat) : Option Nat :=
  match (s.slot n).info with
  | some q => q.cls
  | none => some 15

/-- What a slot takes from a PDU: its QL, and from an information PDU the start of the timeout (R86, R87). -/
def State.esmcSlot (s : State) (n ssm : Nat) (event : Bool) : Slot :=
  { s.slot n with
    info := some { raw := ssm, unc := 0xFFFFFFFF, growth := 0, at48 := 0, cls := if event then s.esmcClass n else none },
    esmc48 := if event then (s.slot n).esmc48 else s.up48 }

theorem State.esmcClass_eq (s : State) (n : Nat) : s.esmcClass n = ((s.slot n).info.map (·.cls)).getD (some 15) := by
  unfold State.esmcClass
  cases (s.slot n).info <;> rfl

theorem exec_esmcPdu {p : Fin 8} {s : State} (event : Bool) (ssm : Fin 16) (h : s.slotState (8 + p.val) ≠ Sl.DISABLED) :
    exec (.esmcPdu p event ssm) s = .next (s.setSlot (8 + p.val) (s.esmcSlot (8 + p.val) ssm.val event)) :=
  if_neg h

theorem exec_esmcTimeout {p : Fin 8} {q : QlInfo} {s s1 : State} (hi : (s.slot (8 + p.val)).info = some q)
    (hr : s.runTo ((s.slot (8 + p.val)).esmc48 + s.rdN Obj.ESMC_TIMEOUT * sec48) = some s1) :
    exec (.esmcTimeout p) s =
      .next (s1.setSlot (8 + p.val) { s1.slot (8 + p.val) with info := some { q with cls := some 15 } }).settle := by
  show execEsmcTimeout p s = _
  simp only [execEsmcTimeout, hi, hr]

/-- Settles O28: the messages of slot 23 and their absence, then the PDUs and their timeout. -/
theorem timeOfDayAndEsmcComplete : Obligations.TimeOfDayAndEsmcComplete := by
  refine ⟨?good, ?bad, fun _ _ _ _ => exec_todMessage_other, ?missed, ?lost, ?pdu, fun _ _ _ _ => exec_esmcTimeout⟩
  case good =>
    intro p m gap s hs hp hm hgap hw
    rw [exec_todMessage hs hp, hm, hgap, hw]
    rfl
  case bad =>
    intro p m gap s hs hp hbad
    have hno : (todGood m && gap && s.todWindow) = false := by rcases hbad with h | h | h <;> simp [h]
    rw [exec_todMessage hs hp, hno]
    rfl
  case missed =>
    intro s s1 hs hw hb hr hm
    rw [exec_todMessageMissing hs hw hb hr, if_pos hm, State.todMissed]
  case lost =>
    intro s s1 hs hw hb hr hm
    rw [exec_todMessageMissing hs hw hb hr, if_neg (Nat.not_lt.mpr hm), State.todMissed]
  case pdu =>
    intro p event ssm s hs
    refine ⟨_, exec_esmcPdu event ssm hs, ?_⟩
    rw [State.slot_setSlot_same, State.esmcSlot, State.esmcClass_eq]
    exact ⟨rfl, rfl, rfl, fun m hm => s.slot_setSlot_ne _ hm, rfl, rfl, rfl⟩

end Sys2Proof.Machine
end

section
/-! PROOFS. The run of the clock: what a change of the rate and a cycle leave alone, and how far the clock runs (R116, R135,
R143). -/

namespace Sys2Proof.Machine

/-- `f` sees no register, no synthesiser and nothing of the GNSS baseband. -/
structure State.RateBlind {β : Sort _} (f : State → β) : Prop where
  wr : ∀ (t : State) (r : Reg) (v : Int), f (t.wr r v) = f t
  syn : ∀ (t : State) (x : Synth), f { t with syn := x } = f t
  gn : ∀ (t : State) (x : Gnss), f { t with gn := x } = f t

section
variable {β : Sort _} {f : State → β} (hf : State.RateBlind f)
include hf

theorem State.RateBlind.fosUnalign (s : State) (k : Nat) : f (s.fosUnalign k) = f s :=
  (State.forEach_keeps f _ _ _ fun t _ => State.when_keeps f t _ _ fun _ => hf.syn _ _).trans (hf.syn _ _)

theorem State.RateBlind.fosRelock (s : State) (k : Nat) : f (s.fosRelock k) = f s :=
  (hf.syn _ _).trans ((hf.wr _ _ _).trans (hf.fosUnalign s k))

theorem State.RateBlind.fosFollow (s : State) (k : Nat) : f (s.fosFollow k) = f s :=
  (State.when_keeps f _ _ _ fun t => hf.fosRelock t k).trans ((hf.wr _ _ _).trans (hf.syn _ _))

theorem State.RateBlind.feFollow (s : State) : f s.feFollow = f s := by
  unfold State.feFollow
  split
  · rfl
  · split
    · rfl
    · exact hf.gn _ _

theorem State.RateBlind.fosFollowAll (s : State) : f s.fosFollowAll = f s :=
  (hf.feFollow _).trans (State.forEach_keeps f _ _ s fun t k => State.when_keeps f t _ _ fun u => hf.fosFollow u k)

/-- The rate word and the ramps themselves are in `ctl` and `hd`. -/
theorem State.RateBlind.rampRate (hparts : ∀ (t : State) (c : Ctl) (h : Herd), f { t with ctl := c, hd := h } = f t)
    (s : State) : f s.rampRate = f s := by
  unfold State.rampRate
  dsimp only
  split
  · rfl
  · exact (hf.fosFollowAll _).trans ((hf.wr _ _ _).trans (hparts _ _ _))

end

/-- A cycle counts events and is seen by the snapshot. -/
theorem State.runPlain_keeps {β : Sort _} (f : State → β) (s : State) (n : Nat)
    (hagrees : ∀ {s t : State}, Agrees s t → f t = f s) (hclk : f { s with clk := s.clk.run n s.step48 } = f s)
    (hsnap : ∀ t : State, f t.snapBase = f t) : f (s.runPlain n) = f s := by
  unfold State.runPlain
  split
  · rw [hagrees ((Agrees.refl _).count _ _), hsnap, hagrees ((Agrees.refl _).count _ _), hclk]
  · rfl

@[simp] theorem State.runPlain_ks (s : State) (n : Nat) : (s.runPlain n).ks = s.ks :=
  s.runPlain_keeps (·.ks) n (fun h => h.ks) rfl fun _ => rfl
@[simp] theorem State.runPlain_ctl (s : State) (n : Nat) : (s.runPlain n).ctl = s.ctl :=
  s.runPlain_keeps (·.ctl) n (fun h => h.ctl) rfl fun _ => rfl

theorem Clock.frozen_run (c : Clock) (n step : Nat) : (c.run n step).frozen = c.frozen := by
  unfold Clock.run
  split
  · rfl
  · split
    · rfl
    · rfl

@[simp] theorem State.runPlain_frozen (s : State) (n : Nat) : (s.runPlain n).clk.frozen = s.clk.frozen :=
  s.runPlain_keeps (·.clk.frozen) n (fun h => congrArg Clock.frozen h.clk) (s.clk.frozen_run n s.step48) fun _ => rfl

@[simp] theorem State.rampRate_ks (s : State) : s.rampRate.ks = s.ks :=
  State.RateBlind.rampRate (f := (·.ks)) ⟨fun _ _ _ => rfl, fun _ _ => rfl, fun _ _ => rfl⟩ (fun _ _ _ => rfl) s
@[simp] theorem State.rampRate_clk (s : State) : s.rampRate.clk = s.clk :=
  State.RateBlind.rampRate (f := (·.clk)) ⟨fun _ _ _ => rfl, fun _ _ => rfl, fun _ _ => rfl⟩ (fun _ _ _ => rfl) s

/-- What a cycle and a step of a ramp leave alone, the run of the clock leaves alone. -/
theorem State.runGap_keeps {β : Sort _} (f : State → β) (gap : State → Nat) (fuel : Nat) (s : State)
    (hplain : ∀ (t : State) (n : Nat), f (t.runPlain n) = f t) (hramp : ∀ t : State, f t.rampRate = f t) :
    f (State.runGap gap fuel s) = f s := by
  induction fuel generalizing s with
  | zero => rfl
  | succ fuel ih =>
    unfold State.runGap
    split
    · rfl
    · split
      · rw [ih, hramp, hplain]
      · exact hplain _ _

@[simp] theorem State.runGap_ks (gap : State → Nat) (fuel : Nat) (s : State) : (State.runGap gap fuel s).ks = s.ks :=
  State.runGap_keeps (·.ks) gap fuel s (fun t n => t.runPlain_ks n) fun t => t.rampRate_ks
@[simp] theorem State.runGap_frozen (gap : State → Nat) (fuel : Nat) (s : State) :
    (State.runGap gap fuel s).clk.frozen = s.clk.frozen :=
  State.runGap_keeps (·.clk.frozen) gap fuel s (fun t n => t.runPlain_frozen n) fun t => congrArg Clock.frozen t.rampRate_clk

/-! How far the clock runs (R143). -/

/-- The progress of one cycle on the timeline that runs on through a freeze. -/
def State.pace48 (s : State) : Nat := if s.clk.frozen then ns48 else s.step48

/-- With no ramp the clock runs in one go. -/
theorem State.runGap_of_steady {gap : State → Nat} {s : State} (h : s.ramping = false) :
    State.runGap gap (gap s) s = if gap s = 0 then s else s.runPlain (ceilDiv (gap s) s.pace48) := by
  cases hg : gap s with
  | zero => rfl
  | succ n =>
    rw [State.runGap, hg, h]
    rfl

theorem le_ceilDiv_mul (a : Nat) {b : Nat} (h : 0 < b) : a ≤ ceilDiv a b * b := by
  have hdiv := Nat.lt_div_mul_add (a := a + b - 1) h
  simp only [ceilDiv]
  omega

theorem State.clk_runPlain {s : State} {n : Nat} (hr : s.clk.running = true) (hn : 0 < n) :
    (s.runPlain n).clk = s.clk.run n s.step48 := by
  rw [State.runPlain, if_pos (by simp [hr, hn]), ((Agrees.refl _).count _ _).clk]
  exact ((Agrees.refl _).count _ _).clk

theorem State.live48_runPlain {s : State} {n : Nat} (hr : s.clk.running = true) (hn : 0 < n) :
    (s.runPlain n).live48 = s.live48 + n * s.pace48 := by
  rw [State.live48, State.clk_runPlain hr hn, Clock.run, State.live48, State.pace48]
  cases s.clk.frozen
  · simp only [hr, Bool.not_true, Bool.false_eq_true, if_false]
    omega
  · simp only [hr, Bool.not_true, Bool.false_eq_true, if_false, if_true, Nat.add_mul]
    omega

theorem State.up48_runPlain {s : State} {n : Nat} (hr : s.clk.running = true) (hf : s.clk.frozen = false) (hn : 0 < n) :
    (s.runPlain n).up48 = s.up48 + n * s.pace48 := by
  rw [State.up48, State.clk_runPlain hr hn, Clock.run, State.pace48]
  simp [hr, hf, State.up48]

/-- A clock whose every cycle brings `reading` on by the pace runs until it is at `due`. -/
theorem State.le_runGap {reading : State → Nat} {due : Nat} {s : State} (hramp : s.ramping = false) (hpace : 0 < s.pace48)
    (hplain : ∀ n, 0 < n → reading (s.runPlain n) = reading s + n * s.pace48) :
    due ≤ reading (State.runGap (fun t => due - reading t) (due - reading s) s) := by
  have hrun := State.runGap_of_steady (gap := fun t => due - reading t) hramp
  rw [hrun]
  split
  · omega
  · have hcover := le_ceilDiv_mul (due - reading s) hpace
    rw [hplain _ (Nat.pos_of_ne_zero fun h0 => by rw [h0] at hcover; omega)]
    omega

theorem State.pace48_pos {s : State} (h : 0 < s.step48) : 0 < s.pace48 := by
  rw [State.pace48]
  split
  · exact Nat.two_pow_pos 48
  · exact h

/-- With no ramp the rate stands, so a run of the clock leaves the control of the mode and the slew alone. -/
theorem State.runGap_ctl {gap : State → Nat} {s : State} (h : s.ramping = false) :
    (State.runGap gap (gap s) s).ctl = s.ctl := by
  rw [State.runGap_of_steady h, apply_ite State.ctl, State.runPlain_ctl, ite_self]

theorem State.liveTo_eq {s : State} (due : Nat) (h : s.clk.running = true) :
    s.liveTo due = some (State.runGap (fun t => due - t.live48) (due - s.live48) s) := by
  simp [State.liveTo, h]

/-- A frozen clock holds what lies on the timeline. -/
theorem State.runTo_of_frozen {s : State} (due : Nat) (h : s.clk.frozen = true) : s.runTo due = none := by
  simp [State.runTo, h]

theorem State.runTo_eq {s : State} (due : Nat) (h : s.clk.running = true) (hf : s.clk.frozen = false) :
    s.runTo due = some (State.runGap (fun t => due - t.up48) (due - s.up48) s) := by
  simp [State.runTo, h, hf]

end Sys2Proof.Machine
end

section
/-! PROOFS. A parity mismatch in a block or in an element of one, the writes that wait, and the end of the restoration (R125, R131,
R368, R423). -/

namespace Sys2Proof.Machine

/-! A block's parity source (R368, Table 17-5). -/

theorem key_SRC_STATE_ne {m n : Nat} (h : m ≠ n) : (Obj.SRC_STATE m).key ≠ (Obj.SRC_STATE n).key := by
  simp only [Obj.SRC_STATE, regKey]
  omega

theorem State.active_wrN_SRC_STATE_ne (s : State) {m n : Nat} (v : Nat) (h : m ≠ n) :
    (s.wrN (Obj.SRC_STATE n) v).active m = s.active m :=
  congrArg (bitOn · 2) (s.rdN_wrN_ne v (key_SRC_STATE_ne h))

theorem State.active_wrN_SRC_STATE_same (s : State) (n v : Nat) : (s.wrN (Obj.SRC_STATE n) v).active n = bitOn v 2 := by
  rw [State.active, State.rdN_wrN_same]

/-- The failing word of a block is noted, for the entry of its source. -/
def State.wordFails (s : State) (b word : Nat) : State :=
  { s with book := { s.book with guard := { s.book.guard with words := SMap.put 0 s.book.guard.words b word } } }

/-- The parity source of a block begins (R405). -/
def State.parityBegins (s : State) (b word : Nat) : State :=
  (s.wrN (Obj.SRC_STATE (0x040 + b)) (setBit (s.rdN (Obj.SRC_STATE (0x040 + b))) 2)).put
    { source := 0x040 + b, ends := false, detail := word, injected := false }

theorem State.parityRaise_of_active {s : State} {b : Nat} (word : Nat) (h : s.active (0x040 + b) = true) :
    s.parityRaise b word = s.wordFails b word :=
  if_pos h

theorem State.parityRaise_of_quiet {s : State} {b : Nat} (word : Nat) (h : s.active (0x040 + b) = false) :
    s.parityRaise b word = (s.wordFails b word).parityBegins b word :=
  if_neg (Bool.eq_false_iff.mp h)

theorem State.parityRaise_keeps {β : Sort _} (f : State → β) (s : State) (b word : Nat)
    (hwr : ∀ (t : State) (r : Reg) (v : Int), f (t.wr r v) = f t) (hput : ∀ (t : State) (d : Due), f (t.put d) = f t)
    (hword : f (s.wordFails b word) = f s) : f (s.parityRaise b word) = f s := by
  cases h : s.active (0x040 + b)
  · rw [State.parityRaise_of_quiet word h, State.parityBegins, hput]
    exact (hwr _ _ _).trans hword
  · rw [State.parityRaise_of_active word h, hword]

@[simp] theorem State.parityRaise_clk (s : State) (b word : Nat) : (s.parityRaise b word).clk = s.clk :=
  s.parityRaise_keeps (·.clk) b word (fun _ _ _ => rfl) (fun _ _ => rfl) rfl
@[simp] theorem State.parityRaise_ctl (s : State) (b word : Nat) : (s.parityRaise b word).ctl = s.ctl :=
  s.parityRaise_keeps (·.ctl) b word (fun _ _ _ => rfl) (fun _ _ => rfl) rfl
@[simp] theorem State.parityRaise_safe (s : State) (b word : Nat) :
    (s.parityRaise b word).book.guard.safe = s.book.guard.safe :=
  s.parityRaise_keeps (·.book.guard.safe) b word (fun _ _ _ => rfl) (fun _ _ => rfl) rfl
@[simp] theorem State.parityRaise_elements (s : State) (b word : Nat) :
    (s.parityRaise b word).book.guard.elements = s.book.guard.elements :=
  s.parityRaise_keeps (·.book.guard.elements) b word (fun _ _ _ => rfl) (fun _ _ => rfl) rfl

theorem State.active_parityBegins_same (s : State) (b word : Nat) : (s.parityBegins b word).active (0x040 + b) = true := by
  refine (s.active_wrN_SRC_STATE_same _ _).trans ?_
  rw [bitOn_setBit, beq_self_eq_true, Bool.or_true]

/-- After a mismatch the parity source of its block is ACTIVE, whether or not it was. -/
theorem State.active_parityRaise_same (s : State) (b word : Nat) : (s.parityRaise b word).active (0x040 + b) = true := by
  cases h : s.active (0x040 + b)
  · rw [State.parityRaise_of_quiet word h, State.active_parityBegins_same]
  · rw [State.parityRaise_of_active word h]
    exact h

theorem State.active_parityRaise_ne (s : State) {b n : Nat} (word : Nat) (h : n ≠ 0x040 + b) :
    (s.parityRaise b word).active n = s.active n := by
  cases hq : s.active (0x040 + b)
  · rw [State.parityRaise_of_quiet word hq]
    exact (s.wordFails b word).active_wrN_SRC_STATE_ne _ h
  · rw [State.parityRaise_of_active word hq]
    rfl

/-! A mismatch in a block, and in an element of one (R368, R423). -/

/-- A block's restoration starts, and where its safe state is the whole block's, it stands in that. -/
def State.blockFails (s : State) (b : Nat) : State :=
  { s with book := { s.book with guard := { s.book.guard with
    restoring := setBit s.book.guard.restoring b
    safe := if wholeBlock b then setBit s.book.guard.safe b else s.book.guard.safe } } }

/-- A block's restoration starts, and one element of it stands in its own safe state. -/
def State.elementFails (s : State) (b i : Nat) : State :=
  { s with book := { s.book with guard := { s.book.guard with
    restoring := setBit s.book.guard.restoring b
    elements := if s.book.guard.elements.contains (b, i) then s.book.guard.elements else s.book.guard.elements ++ [(b, i)] } } }

/-- The word of an entry on a failing object (Table 17-5). -/
def failingWord (index : BitVec 16) (sub : BitVec 8) : Nat := index.toNat * 2 ^ 16 + sub.toNat * 2 ^ 8

section
variable {b : Fin 20} {s : State} (index : BitVec 16) (sub : BitVec 8) (hm : s.mode ≠ Mode.COLD)
include hm

theorem exec_parityMismatch_block :
    exec (.parityMismatch b none index sub) s =
      .next (((s.blockFails b).blockSafe b).parityRaise b (failingWord index sub)).close :=
  if_neg hm

theorem exec_parityMismatch_element {i : Nat} (hg : guardedElement b i = true) :
    exec (.parityMismatch b (some i) index sub) s =
      .next (((s.elementFails b i).elementSafe b i).parityRaise b (failingWord index sub)).close :=
  (if_neg hm).trans (if_neg (by simp [hg]))

end

theorem State.unsafeBlock_blockFails (s : State) {b : Nat} (h : wholeBlock b = true) :
    (s.blockFails b).unsafeBlock b = true := by
  rw [State.unsafeBlock, State.blockFails, h]
  simp

/-- Beyond Herd, the timescale's held request and the bounds, a block's safe state changes nothing at once. -/
theorem State.blockSafe_of_other (s : State) {b : Nat} (h4 : b ≠ 4) (h10 : b ≠ 10) (h11 : b ≠ 11) :
    s.blockSafe b = s := by
  unfold State.blockSafe
  split
  · exact absurd rfl h4
  · exact absurd rfl h10
  · exact absurd rfl h11
  · rfl

theorem State.unsafeElement_elementFails_same (s : State) (b i : Nat) : (s.elementFails b i).unsafeElement b i = true := by
  rw [State.unsafeElement, State.elementFails]
  dsimp only
  split
  · next h => exact h
  · simp

theorem State.unsafeElement_elementFails_ne (s : State) (b : Nat) {i j : Nat} (h : j ≠ i) :
    (s.elementFails b i).unsafeElement b j = s.unsafeElement b j := by
  rw [State.unsafeElement, State.elementFails]
  dsimp only
  split
  · rfl
  · simp [State.unsafeElement, h]

theorem State.unsafeBlock_parityRaise (s : State) (b word c : Nat) :
    (s.parityRaise b word).unsafeBlock c = s.unsafeBlock c := by
  rw [State.unsafeBlock, State.parityRaise_safe, State.unsafeBlock]

theorem State.unsafeElement_parityRaise (s : State) (b word c i : Nat) :
    (s.parityRaise b word).unsafeElement c i = s.unsafeElement c i := by
  rw [State.unsafeElement, State.parityRaise_elements, State.unsafeElement]

/-- A counter in its safe state counts nothing (R423). -/
theorem State.counts_of_unsafe {s : State} {i : Nat} (ev : Nat) (h : s.unsafeElement 17 i = true) : s.counts ev i = false := by
  simp [State.counts, h]

/-- Herd's safe state shows in the source of its missing updates alone (R125, R131). -/
theorem Agrees.blockSafe_herd {s : State} : Agrees s (s.blockSafe 4) := (Agrees.refl s).cond _ _

/-- The safe states are no bookkeeping. -/
theorem Agrees.unsafeBlock {s t : State} (h : Agrees s t) {b : Nat} : t.unsafeBlock b = s.unsafeBlock b := by
  rw [State.unsafeBlock, h.guard, State.unsafeBlock]

/-! The end of a restoration (R368). -/

/-- A restoration ends, and block `b` counts as failed as `failed` says. -/
def State.restorationEnds (s : State) (b failed : Nat) : State :=
  { s with book := { s.book with guard := { s.book.guard with
    restoring := clearBit s.book.guard.restoring b, failed := failed } } }

theorem State.restored_bad (s : State) (b : Nat) :
    s.restored b false = (s.restorationEnds b (setBit s.book.guard.failed b)).raise Src.OD_SHADOW_FAIL := rfl

theorem State.restored_of_failed {s : State} {b : Nat} (h : bitOn s.book.guard.failed b = true) :
    s.restored b true = s.restorationEnds b s.book.guard.failed :=
  if_pos h

/-- A loop whose every call leaves the state alone does so too. -/
theorem State.forEach_of_fixed {α : Type} {p : State → α → State} {l : List α} (s : State)
    (h : ∀ a ∈ l, ∀ t, p t a = t) : State.forEach p l s = s := by
  induction l generalizing s with
  | nil => rfl
  | cons a l ih => exact (congrArg _ (h a List.mem_cons_self s)).trans (ih _ fun b hb => h b (List.mem_cons_of_mem _ hb))

/-- The counters' configuration is back: what stood in a safe state leaves it, and the counters act on it when they are used
(R423). -/
theorem State.restored_counters {s : State} (h : bitOn s.book.guard.failed 17 = false) :
    s.restored 17 true = (s.restorationEnds 17 s.book.guard.failed).guardOff 17 := by
  refine (if_neg (Bool.eq_false_iff.mp h)).trans (State.forEach_of_fixed _ fun e he t => ?_)
  have h17 : e.1 = 17 := by simpa using (List.mem_filter.mp he).2
  rw [h17]
  rfl

section
variable (s : State) (b : Nat)

/-- Of block `b` nothing is left in a safe state. -/
def State.guardCleared : State :=
  { s with book := { s.book with guard := { s.book.guard with
    safe := clearBit s.book.guard.safe b, failed := clearBit s.book.guard.failed b
    elements := s.book.guard.elements.filter fun e => e.1 != b, words := SMap.put 0 s.book.guard.words b 0 } } }

theorem State.guardOff_guard : (s.guardOff b).book.guard = (s.guardCleared b).book.guard := by
  unfold State.guardOff
  dsimp only
  split
  · rfl
  · rfl

theorem State.failed_guardOff : bitOn (s.guardOff b).book.guard.failed b = false := by
  rw [State.guardOff_guard, State.guardCleared]
  simp

theorem State.unsafeBlock_guardOff : (s.guardOff b).unsafeBlock b = false := by
  rw [State.unsafeBlock, State.guardOff_guard, State.guardCleared]
  simp

theorem State.unsafeElement_guardOff (i : Nat) : (s.guardOff b).unsafeElement b i = false := by
  rw [State.unsafeElement, State.guardOff_guard, State.guardCleared]
  simp

theorem State.active_guardOff : (s.guardOff b).active (0x040 + b) = false := by
  unfold State.guardOff
  dsimp only
  split
  · next h => simpa using h
  · refine (State.active_wrN_SRC_STATE_same _ _ _).trans ?_
    simp

end

/-! Writes to a block that is being restored (R368). -/

section
variable {s : State} {b : Nat} (role : Role) (l : Link) (r : Reg) (octets : List Octet) (ds : List Posted)
  (h : s.restoring b = true)
include h

theorem State.orHeld_of_restoring (go : Host.Outcome State Fault Refusal) :
    s.orHeld b role l r octets ds go = .next { s with book := { s.book with held := s.book.held ++ [{
      wait := .restoring b, op := 0, desc := 0,
      req := { registerRequest role (BitVec.ofNat 16 (r.key / 256)) (BitVec.ofNat 8 r.key) octets ds with link := l } }] } } :=
  if_pos h

/-- What the write would have done does not matter. -/
theorem State.orHeld_congr_of_restoring (go other : Host.Outcome State Fault Refusal) :
    s.orHeld b role l r octets ds go = s.orHeld b role l r octets ds other := by
  rw [State.orHeld_of_restoring role l r octets ds h go, State.orHeld_of_restoring role l r octets ds h other]

end

end Sys2Proof.Machine
end

section
/-! PROOFS. The way out of FAULTSAFE (R412 to R414), and with it the statement on protection. -/

namespace Sys2Proof.Machine

theorem State.mayLeave_of_quiet {s : State} (hm : s.mode = Mode.FAULTSAFE) (hl : s.rdB Obj.FS_LATCHED = false)
    (hc : ∀ n ∈ s.causing, s.active n = false) : s.mayLeave = true := by
  simpa [State.mayLeave, hm, hl] using hc

theorem State.mayLeave_of_latched {s : State} (h : s.rdB Obj.FS_LATCHED = true) : s.mayLeave = false := by
  simp [State.mayLeave, h]

theorem exec_faultsafeExit {s s1 : State} (hm : s.mayLeave = true) (hr : s.liveTo s.quietEnd = some s1) :
    exec .faultsafeExit s = .next s1.leaveFaultsafe.close := by
  show execFaultsafeExit s = _
  simp [execFaultsafeExit, hm, hr]

theorem exec_faultsafeExit_barred {s : State} (hm : s.mayLeave = false) : exec .faultsafeExit s = .next s :=
  if_pos (by simp [hm])

theorem exec_fsAnnHoldExpiry {s s1 : State} (hm : s.mode = Mode.FAULTSAFE)
    (hr : s.liveTo (s.ctl.fs.entered48 + s.rdN Obj.FS_ANN_HOLD * sec48) = some s1) :
    exec .fsAnnHoldExpiry s = .next s1.settle := by
  show execFsAnnHoldExpiry s = _
  simp [execFsAnnHoldExpiry, hm, hr]

/-- With the policy ANNOUNCE packet service ends with FS_ANN_HOLD (R412). -/
theorem State.pktService_after_hold {s : State} (hm : s.mode = Mode.FAULTSAFE) (hp : s.rdN Obj.FS_PKT_POLICY = 1)
    (hend : s.ctl.fs.entered48 + s.rdN Obj.FS_ANN_HOLD * sec48 ≤ s.live48) : s.pktService = 0 := by
  have hserves : serviceMode Mode.FAULTSAFE = false := by decide
  simp [State.pktService, hm, hserves, hp, Nat.not_lt.mpr hend]

theorem exec_fsRelease {s : State} (h : s.restoring 16 = false) : exec .fsRelease s = .next s.fsRelease.close :=
  State.orHeld_of_not_restoring _ _ _ _ _ _ h

theorem State.fsRelease_of_not_latched {s : State} (h : s.rdB Obj.FS_LATCHED = false) : s.fsRelease = s :=
  if_pos (by simp [h])

/-- The latch and the window's exits are cleared, with the entry of the release (R414). -/
def State.unlatched (s : State) : State :=
  let s1 := (s.wrN Obj.FS_LATCHED 0).cond Src.FS_LATCHED false
  ({ s1 with ctl := { s1.ctl with fs := { s1.ctl.fs with exits48 := [] } } } : State).logFs 5

theorem State.fsRelease_of_latched {s : State} (h : s.rdB Obj.FS_LATCHED = true) :
    s.fsRelease = if s.unlatched.mayLeave = true ∧ s.unlatched.quietEnd ≤ s.unlatched.live48 then s.unlatched.leaveFaultsafe
      else s.unlatched := by
  have hrel : s.fsRelease = if s.unlatched.mayLeave && decide (s.unlatched.quietEnd ≤ s.unlatched.live48) then
      s.unlatched.leaveFaultsafe else s.unlatched := if_neg (by simp [h])
  simp only [hrel, Bool.and_eq_true, decide_eq_true_eq]

/-- Settles O19: the mismatch by block and by element, the restoration's end, what waits for it, then the way out of FAULTSAFE
and how far the clock runs meanwhile. -/
theorem protectionAndFaultsafeComplete : Obligations.ProtectionAndFaultsafeComplete := by
  refine ⟨⟨?mismatch, ?block, ?herd, ?counter, ?bad, ?failed,
      fun b s => ⟨s.failed_guardOff b, s.unsafeBlock_guardOff b⟩,
      fun b role l r octets ds go s h => State.orHeld_of_restoring role l r octets ds h go, ?waits, ?back⟩,
    ⟨?exit, ?latched, fun _ _ => exec_fsAnnHoldExpiry, fun _ => State.pktService_after_hold, ?release, ?notLatched⟩,
    ?live, ?run, ?stopped⟩
  case mismatch =>
    intro b index sub s hm
    exact exec_parityMismatch_block index sub hm
  case block =>
    intro b index sub s hm hb h4 h10 h11 hq
    refine ⟨_, exec_parityMismatch_block index sub hm, ?_⟩
    rw [State.blockSafe_of_other _ (fun h => h4 (Fin.ext h)) (fun h => h10 (Fin.ext h)) (fun h => h11 (Fin.ext h)),
      State.parityRaise_of_quiet _ (show (s.blockFails b).active (0x040 + b) = false from hq)]
    exact ⟨rfl, s.unsafeBlock_blockFails hb, State.active_parityBegins_same _ _ _, rfl, rfl, rfl, rfl⟩
  case herd =>
    intro index sub s hm hq
    have hsafe := s.unsafeBlock_blockFails (b := 4) rfl
    refine ⟨_, exec_parityMismatch_block index sub hm, ?_, State.active_parityRaise_same _ 4 _, ?_, ?_, ?_⟩
    · exact (State.unsafeBlock_parityRaise _ _ _ _).trans (Agrees.blockSafe_herd.unsafeBlock.trans hsafe)
    · exact (State.active_parityRaise_ne _ _ (by decide)).trans (State.active_cond _ _ _)
    · exact (State.parityRaise_clk _ _ _).trans Agrees.blockSafe_herd.clk
    · exact (State.parityRaise_ctl _ _ _).trans Agrees.blockSafe_herd.ctl
  case counter =>
    intro i index sub s hm hi hq
    have hstop := s.unsafeElement_elementFails_same 17 i
    refine ⟨_, exec_parityMismatch_element index sub hm (decide_eq_true hi), ?_, fun j hj => ?_,
      State.active_parityRaise_same _ 17 _, fun ev => State.counts_of_unsafe ev ?_, State.parityRaise_clk _ _ _,
      State.parityRaise_ctl _ _ _⟩
    · exact (State.unsafeElement_parityRaise _ _ _ _ _).trans hstop
    · exact (State.unsafeElement_parityRaise _ _ _ _ _).trans (s.unsafeElement_elementFails_ne 17 hj)
    · exact (State.unsafeElement_parityRaise _ _ _ _ _).trans hstop
  case bad =>
    intro b s h
    refine ⟨_, s.restored_bad b, rfl, ?_, ?_, rfl⟩
    · simp [State.restorationEnds]
    · simp [State.restorationEnds]
  case failed =>
    intro b s h
    rw [State.restored_of_failed h]
    exact ⟨rfl, rfl, rfl⟩
  case waits =>
    intro v c n f l k s
    exact ⟨fun h => State.orHeld_congr_of_restoring _ _ _ _ _ h _ _, fun h => State.orHeld_congr_of_restoring _ _ _ _ _ h _ _,
      fun h => State.orHeld_congr_of_restoring _ _ _ _ _ h _ _, fun h => State.orHeld_congr_of_restoring _ _ _ _ _ h _ _,
      fun h => State.orHeld_congr_of_restoring _ _ _ _ _ h _ _⟩
  case back =>
    intro s _ h
    rw [State.restored_counters h]
    exact ⟨State.unsafeBlock_guardOff _ _, State.unsafeElement_guardOff _ _, State.active_guardOff _ _⟩
  case exit =>
    intro s s1 hm hl hc hr
    exact exec_faultsafeExit (State.mayLeave_of_quiet hm hl hc) hr
  case latched =>
    intro s h
    exact exec_faultsafeExit_barred (State.mayLeave_of_latched h)
  case release =>
    rintro s _ _ hfree hl rfl rfl
    rw [exec_fsRelease hfree, State.fsRelease_of_latched hl, State.unlatched]
  case notLatched =>
    intro s hfree hl
    rw [exec_fsRelease hfree, State.fsRelease_of_not_latched hl]
  case live =>
    intro s due h
    refine ⟨_, State.liveTo_eq due h, State.runGap_frozen _ _ _, State.runGap_ks _ _ _,
      fun hsteady => ⟨State.runGap_ctl hsteady, fun hstep => ?_⟩⟩
    exact State.le_runGap hsteady (State.pace48_pos hstep) fun n => State.live48_runPlain h
  case run =>
    intro s due h hf
    refine ⟨_, State.runTo_eq due h hf, State.runGap_ks _ _ _,
      fun hsteady => ⟨State.runGap_ctl hsteady, fun hstep => ?_⟩⟩
    exact State.le_runGap hsteady (State.pace48_pos hstep) fun n => State.up48_runPlain h hf
  case stopped =>
    intro s due h
    exact State.runTo_of_frozen due h

end Sys2Proof.Machine
end

section
/-! PROOFS. Herd's updates and what takes effect 1 ms after them (R33, R34, R98, R125, R131). -/

namespace Sys2Proof.Machine

/-! The update, made or missing (R98, R125). -/

theorem exec_herdUpdate (m : List (Fin 8 × Int)) {s s0 : State} (h : s.reach s.nextUpdate = some s0) :
    exec (.herdUpdate m) s = .next ((s0.updateDone s.nextUpdate).herdUpdate m).close := by
  show execHerdUpdate m s = _
  rw [execHerdUpdate, h]

theorem exec_herdUpdateMiss {s s0 : State} (h : s.reach (s.nextUpdate + 15625000) = some s0) :
    exec .herdUpdateMiss s =
      .next ((s0.updateDone (s.nextUpdate + 15625000)).missedUpdate.cond Src.HD_UPDATE_MISS true).close := by
  show execHerdUpdateMiss s = _
  rw [execHerdUpdateMiss, h]

theorem State.herdUpdate_of_stopped {s : State} (m : List (Fin 8 × Int)) (h : s.herdRuns = false) :
    s.herdUpdate m = s.missedUpdate := by
  rw [State.herdUpdate, h]
  rfl

/-- The update is counted, its missing ends, and what the host's loop and LO-A's tuning left due is taken in (R116, R127). -/
def State.updateBegun (s : State) : State :=
  ((((s.bump Obj.HD_UPDATE).count 0x003 1).cond Src.HD_UPDATE_MISS false).closingUpdate).bookRamp

theorem State.herdUpdate_of_running {s : State} (m : List (Fin 8 × Int)) (h : s.herdRuns = true) :
    s.herdUpdate m =
      (((s.updateBegun.loFilters s.base48).updateSlots m s.base48).updateServo s.base48).countWithin :=
  if_neg (by simp [h])

theorem exec_hdEnableWrite (v : Bool) {s : State} (h : s.restoring 4 = false) :
    exec (.hdEnableWrite v) s = .next (s.setHdEnable v).close := State.orHeld_of_not_restoring _ _ _ _ _ _ h

theorem State.setHdEnable_on (s : State) : s.setHdEnable true = s.wr Obj.HD_ENABLE 1 := rfl

theorem State.setHdEnable_off (s : State) :
    s.setHdEnable false = (s.wr Obj.HD_ENABLE 0).cond Src.HD_UPDATE_MISS true := rfl

/-! What the service evaluation counts (R33). -/

theorem State.countWithin_of_over {s : State} (h : s.rdN Obj.TEB_THR_LOCKED < s.bound) :
    s.countWithin.ctl.eval.withinRun = none ∧ s.countWithin.ctl.eval.overCount = s.ctl.eval.overCount + 1 := by
  simp [State.countWithin, Nat.not_le.mpr h]

theorem State.countWithin_of_within {s : State} (h : s.bound ≤ s.rdN Obj.TEB_THR_LOCKED)
    (hm : s.mode = Mode.ACQUIRE ∨ s.mode = Mode.LOCKED ∨ s.mode = Mode.STANDBY) :
    s.countWithin.ctl.eval.withinRun = some (match s.ctl.eval.withinRun with | some n => n + 1 | none => 0) ∧
      s.countWithin.ctl.eval.overCount = 0 := by
  cases hrun : s.ctl.eval.withinRun <;> simp [State.countWithin, h, hm, hrun]

/-! The effect instant (R98). -/

theorem exec_herdEffect {e : HerdEffect} {s s1 : State} (he : s.hd.effect = some e) (hr : s.runTo e.due48 = some s1) :
    exec .herdEffect s = .next (s1.takeEffect e).settle := by
  show execHerdEffect s = _
  simp only [execHerdEffect, he, hr]

/-- The rate word and LO-A's tuning in force at an effect instant, with the slew and the path brought up to it. -/
def State.rateTaken (s : State) (rate : Option Int) (tune : Option (Int × Rat)) : State :=
  ((s.rateEffect rate).tuneEffect tune).slewTick.pathAdvance

/-- SV_RATE shows the rate word in force (R135). -/
def State.rateShown (s : State) : State := s.wr Obj.SV_RATE s.ctl.slew.rateWord

theorem State.effectRate_of_good {s : State} (e : HerdEffect) (h : s.unsafeBlock 4 = false) :
    s.effectRate e = (s.rateTaken e.rate e.tune).rateShown.wr Obj.FP_WORD e.fpWord := by
  rw [State.effectRate, h]
  rfl

/-- While block 4 is in its safe state the words are held (R131). -/
theorem State.effectRate_of_unsafe {s : State} (e : HerdEffect) (h : s.unsafeBlock 4 = true) :
    s.effectRate e = (s.rateTaken none e.tune).rateShown := by
  rw [State.effectRate, h]
  rfl

theorem State.rd_SV_RATE_rateShown (s : State) : s.rateShown.rd Obj.SV_RATE = s.rateShown.ctl.slew.rateWord :=
  State.rd_wr_same _ _ _

theorem State.rd_SV_RATE_effectRate (s : State) (e : HerdEffect) :
    (s.effectRate e).rd Obj.SV_RATE = (s.effectRate e).ctl.slew.rateWord := by
  cases h : s.unsafeBlock 4
  · rw [State.effectRate_of_good e h, State.rd_wr_ne _ _ (by decide), State.wr_ctl, State.rd_SV_RATE_rateShown]
  · rw [State.effectRate_of_unsafe e h, State.rd_SV_RATE_rateShown]

/-! The weights at the effect instant (R89). -/

/-- One slot's weights at an effect instant: those of the update while it is QUALIFIED, and otherwise 0. -/
def State.effectWeight (e : HerdEffect) (s : State) (n : Nat) : State :=
  (s.wrN (Obj.HD_W_TIME n) (if s.slotState n == Sl.QUALIFIED then weightWord (entry e.wTime n) else 0)).wrN (Obj.HD_W_FREQ n)
    (if s.slotState n == Sl.QUALIFIED then weightWord (entry e.wFreq n) else 0)

theorem State.effectWeights_eq (e : HerdEffect) (s : State) :
    s.effectWeights e = State.forEach (State.effectWeight e) (List.range 24) s := rfl

/-- A slot has no weight in either set. -/
def State.weightZero (s : State) (n : Nat) : Prop := s.rdN (Obj.HD_W_TIME n) = 0 ∧ s.rdN (Obj.HD_W_FREQ n) = 0

section
variable (e : HerdEffect) (s : State) {n k : Nat}

theorem State.slotState_effectWeight (hn : n < 24) (k : Nat) : (State.effectWeight e s k).slotState n = s.slotState n := by
  have ht : (Obj.SLOT_STATE n).key ≠ (Obj.HD_W_TIME k).key := by simp only [Obj.SLOT_STATE, Obj.HD_W_TIME, regKey]; omega
  have hf : (Obj.SLOT_STATE n).key ≠ (Obj.HD_W_FREQ k).key := by simp only [Obj.SLOT_STATE, Obj.HD_W_FREQ, regKey]; omega
  exact (State.slotState_wr_ne _ _ hf).trans (State.slotState_wr_ne _ _ ht)

theorem State.weightZero_effectWeight_same (h : s.slotState n ≠ Sl.QUALIFIED) : (State.effectWeight e s n).weightZero n := by
  have htf : (Obj.HD_W_TIME n).key ≠ (Obj.HD_W_FREQ n).key := by simp only [Obj.HD_W_TIME, Obj.HD_W_FREQ, regKey]; omega
  have hq : (s.slotState n == Sl.QUALIFIED) = false := beq_false_of_ne h
  rw [State.weightZero, State.effectWeight, hq, State.rdN_wrN_ne _ _ htf, State.rdN_wrN_same, State.rdN_wrN_same]
  exact ⟨rfl, rfl⟩

theorem State.weightZero_effectWeight_ne (hn : n < 24) (hk : k < 24) (hne : n ≠ k) (h : s.weightZero n) :
    (State.effectWeight e s k).weightZero n := by
  have hread : ∀ q : Reg, q.key = (Obj.HD_W_TIME n).key ∨ q.key = (Obj.HD_W_FREQ n).key →
      (State.effectWeight e s k).rdN q = s.rdN q := by
    intro q hq
    have ht : q.key ≠ (Obj.HD_W_TIME k).key := by simp only [Obj.HD_W_TIME, Obj.HD_W_FREQ, regKey] at hq ⊢; omega
    have hf : q.key ≠ (Obj.HD_W_FREQ k).key := by simp only [Obj.HD_W_TIME, Obj.HD_W_FREQ, regKey] at hq ⊢; omega
    rw [State.effectWeight, State.rdN_wrN_ne _ _ hf, State.rdN_wrN_ne _ _ ht]
  rw [State.weightZero, hread _ (.inl rfl), hread _ (.inr rfl)]
  exact h

end

/-- What one member's call of `p` brings about, and every call keeps, holds after the loop; `inv` holds throughout. -/
theorem State.forEach_establishes {α : Type} {inv post : State → Prop} {p : State → α → State} {l : List α} {a : α}
    {s : State} (hinv : ∀ t, ∀ b ∈ l, inv t → inv (p t b)) (hset : ∀ t, inv t → post (p t a))
    (hkeep : ∀ t, ∀ b ∈ l, inv t → post t → post (p t b)) (hs : inv s) (h : a ∈ l ∨ post s) :
    post (State.forEach p l s) := by
  induction l generalizing s with
  | nil => exact h.resolve_left List.not_mem_nil
  | cons b l ih =>
    refine ih (fun t c hc => hinv t c (List.mem_cons_of_mem _ hc)) (fun t c hc => hkeep t c (List.mem_cons_of_mem _ hc))
      (hinv s b List.mem_cons_self hs) ?_
    rcases h with hmem | hpost
    · rcases List.mem_cons.mp hmem with rfl | hmem
      · exact .inr (hset s hs)
      · exact .inl hmem
    · exact .inr (hkeep s b List.mem_cons_self hs hpost)

/-- A slot that has left QUALIFIED since the update keeps weight 0 (R89). -/
theorem State.weightZero_effectWeights (e : HerdEffect) {n : Nat} {s : State} (hn : n < 24)
    (h : s.slotState n ≠ Sl.QUALIFIED) : (s.effectWeights e).weightZero n := by
  rw [State.effectWeights_eq]
  refine State.forEach_establishes (inv := fun t => t.slotState n ≠ Sl.QUALIFIED) (post := (·.weightZero n))
    (fun t k _ ht => by rwa [State.slotState_effectWeight e t hn k])
    (fun t ht => State.weightZero_effectWeight_same e t ht) (fun t k hk ht hz => ?_) h (.inl (List.mem_range.mpr hn))
  by_cases hnk : n = k
  · subst hnk
    exact State.weightZero_effectWeight_same e t ht
  · exact State.weightZero_effectWeight_ne e t hn (List.mem_range.mp hk) hnk hz

/-! The step that an update called for (R137, R139). -/

theorem State.effectStep_of_none {e : HerdEffect} (s : State) (h : e.step48 = none) : s.effectStep e = s := by
  rw [State.effectStep, h]

theorem State.effectStep_of_not_acquire (e : HerdEffect) {s : State} (h : s.mode ≠ Mode.ACQUIRE) : s.effectStep e = s := by
  rw [State.effectStep]
  cases e.step48 with
  | none => rfl
  | some d => exact if_pos h

/-- Settles O31: the instants, the update that is made and the one that is missing, and then what takes effect. -/
theorem herdUpdatesAndEffectsComplete : Obligations.HerdUpdatesAndEffectsComplete := by
  refine ⟨⟨?instants, ?missing, ?made, fun _ => ⟨rfl, rfl, rfl⟩, fun _ => State.countWithin_of_over,
      fun _ => State.countWithin_of_within, ?miss, ?enable, ?disable⟩,
    fun _ _ _ => exec_herdEffect, ?rate, ?held, fun e _ _ => State.weightZero_effectWeights e,
    fun _ s => s.effectStep_of_none, fun e _ => State.effectStep_of_not_acquire e⟩
  case instants =>
    rintro _ s rfl
    exact ⟨State.nextPeriodic_of_not_done, State.nextPeriodic_of_done⟩
  case missing =>
    rintro m s s0 _ hr rfl hstop
    rw [exec_herdUpdate m hr, State.herdUpdate_of_stopped m hstop]
  case made =>
    rintro m s s0 _ _ hr rfl hrun rfl
    rw [exec_herdUpdate m hr, State.herdUpdate_of_running m hrun, State.updateBegun]
  case miss =>
    rintro s s0 _ hr rfl
    exact exec_herdUpdateMiss hr
  case enable =>
    intro s hfree
    rw [exec_hdEnableWrite true hfree, State.setHdEnable_on]
  case disable =>
    intro s hfree
    rw [exec_hdEnableWrite false hfree, State.setHdEnable_off]
  case rate =>
    intro e s
    refine ⟨s.rd_SV_RATE_effectRate e, fun h => ?_⟩
    rw [State.effectRate_of_good e h, State.rd_wr_same]
  case held =>
    intro e s h
    rw [State.effectRate_of_unsafe e h, State.effectRate_of_unsafe _ h]

end Sys2Proof.Machine
end

section
/-! PROOFS. The local oscillators, with their flags, losses and measurements (R111, R112, R178), and LO-A's tuning port (R116,
R438). -/

namespace Sys2Proof.Machine

/-! The warm-up flag, and an LO that leaves service (R112). -/

/-- The warm-up flag of an LO takes a level now. -/
def State.warmTo (s : State) (n : Nat) (level : Bool) : State :=
  s.setLo n { s.lo n with warm := level, ready48 := s.live48 }

theorem exec_loWarmChange_high {lo : Lo} {s : State} (h : (s.lo (loNum lo)).warm = false) :
    exec (.loWarmChange lo true) s = .next (s.warmTo (loNum lo) true).settle :=
  if_neg (by simp [h])

theorem exec_loWarmChange_low {lo : Lo} {s : State} (h : (s.lo (loNum lo)).warm = true) :
    exec (.loWarmChange lo false) s = .next ((s.warmTo (loNum lo) false).loOut (loNum lo)).settle :=
  if_neg (by simp [h])

theorem exec_loLoss (lo : Lo) (s : State) : exec (.loLoss lo) s = .next (s.loOut (loNum lo)).settle := rfl

/-- The monitor no longer sees an LO, which must be measured again before it returns (R178). -/
def State.loUnseen (s : State) (n : Nat) : State :=
  s.setLo n { s.lo n with measured := false, seen := false, serving := false }

theorem State.loOut_of_not_serving {s : State} {n : Nat} (h : (s.lo n).serving = false) : s.loOut n = s.loUnseen n := by
  simp [State.loOut, h, State.loUnseen]

section
variable {s : State} {n : Nat} (hs : (s.lo n).serving = true)
include hs

theorem State.loOut_of_not_base (hb : s.base ≠ n) : s.loOut n = (s.loUnseen n).cond (loOutSource n) true := by
  simp [State.loOut, hs, hb, State.loUnseen]

theorem State.loOut_of_other (hb : s.base = n) (ho : s.loServing (1 - n) = true) :
    s.loOut n = ((s.loUnseen n).cond (loOutSource n) true).rebase (1 - n) := by
  simp [State.loOut, hs, hb, ho, State.loUnseen]

theorem State.loOut_of_alone (hb : s.base = n) (ho : s.loServing (1 - n) = false) :
    s.loOut n = ((s.loUnseen n).cond (loOutSource n) true).bothOut := by
  simp [State.loOut, hs, hb, ho, State.loUnseen]

end

/-! An LO that returns (R112). -/

theorem exec_loReturn {lo : Lo} {s s1 : State} (hs : (s.lo (loNum lo)).serving = false) (hw : (s.lo (loNum lo)).warm = true)
    (hseen : (s.lo (loNum lo)).seen = true) (hb : 7 ≤ s.ctl.boot.step)
    (hl : s.liveTo ((s.lo (loNum lo)).ready48 + sec48) = some s1) :
    exec (.loReturn lo) s = .next (s1.loIn (loNum lo)).settle := by
  show execLoReturn lo s = _
  simp [execLoReturn, hs, hw, hseen, Nat.not_lt.mpr hb, hl]

theorem State.loServing_eq (s : State) (n : Nat) : s.loServing n = (s.lo n).serving :=
  (apply_ite LoState.serving _ _ _).symm

/-- Beyond the LO itself its return writes registers and conditions alone. -/
theorem State.hd_loIn (s : State) (n : Nat) :
    (s.loIn n).hd = (s.setLo n { s.lo n with serving := true, since48 := s.up48 }).hd := by
  have hcond (t : State) (k : Nat) (on : Bool) : (t.cond k on).hd = t.hd := ((Agrees.refl t).cond k on).hd
  unfold State.loIn
  dsimp only
  split
  · exact hcond _ _ _
  · exact (hcond _ _ _).trans (hcond _ _ _)

theorem State.loServing_loIn (s : State) (n : Nat) : (s.loIn n).loServing n = true := by
  rw [State.loServing_eq, State.lo, State.hd_loIn, ← State.lo, State.lo_setLo_same]

/-! The measurement of an input that is not in service (R178). -/

/-- An LO has been measured, within a window or not. -/
def State.loMeasured (s : State) (n : Nat) (seen : Bool) : State :=
  s.setLo n { s.lo n with measured := true, seen := seen, ready48 := s.live48 }

section
variable {lo : Lo} {hz : Nat} {s : State}

theorem exec_loFreqMeasurement_again (h : (s.lo (loNum lo)).measured = true) : exec (.loFreqMeasurement lo hz) s = .next s :=
  if_pos (by simp [h])

section
variable (hs : (s.lo (loNum lo)).serving = false) (hm : (s.lo (loNum lo)).measured = false) (hc : s.mode ≠ Mode.COLD)
include hs hm hc

theorem exec_loFreqMeasurement {ten hundred : Bool} (h10 : decide (8500000 ≤ hz ∧ hz ≤ 11500000) = ten)
    (h100 : decide (85000000 ≤ hz ∧ hz ≤ 115000000) = hundred) :
    exec (.loFreqMeasurement lo hz) s =
      .next ((s.loMeasured (loNum lo) (ten || hundred)).when (ten || hundred) fun t =>
        t.wrN Obj.LO_FREQ (putBit ((s.loMeasured (loNum lo) (ten || hundred)).rdN Obj.LO_FREQ) (loNum lo) hundred)).settle := by
  subst h10 h100
  exact if_neg (by simp [hs, hm, hc])

theorem exec_loFreqMeasurement_ten (h1 : 8500000 ≤ hz) (h2 : hz ≤ 11500000) :
    exec (.loFreqMeasurement lo hz) s = .next ((s.loMeasured (loNum lo) true).wrN Obj.LO_FREQ
      (putBit ((s.loMeasured (loNum lo) true).rdN Obj.LO_FREQ) (loNum lo) false)).settle :=
  exec_loFreqMeasurement hs hm hc (ten := true) (hundred := false) (decide_eq_true ⟨h1, h2⟩) (decide_eq_false (by omega))

theorem exec_loFreqMeasurement_hundred (h1 : 85000000 ≤ hz) (h2 : hz ≤ 115000000) :
    exec (.loFreqMeasurement lo hz) s = .next ((s.loMeasured (loNum lo) true).wrN Obj.LO_FREQ
      (putBit ((s.loMeasured (loNum lo) true).rdN Obj.LO_FREQ) (loNum lo) true)).settle :=
  exec_loFreqMeasurement hs hm hc (ten := false) (hundred := true) (decide_eq_false (by omega)) (decide_eq_true ⟨h1, h2⟩)

theorem exec_loFreqMeasurement_below (h : hz < 8500000) :
    exec (.loFreqMeasurement lo hz) s = .next (s.loMeasured (loNum lo) false).settle :=
  exec_loFreqMeasurement hs hm hc (ten := false) (hundred := false) (decide_eq_false (by omega)) (decide_eq_false (by omega))

end
end

/-! LO-A's tuning port (R116, R438). -/

theorem exec_loaTuneEnWrite (v : Bool) {s : State} (h : s.restoring 4 = false) :
    exec (.loaTuneEnWrite v) s = .next (s.setTuneEn v).settle := State.orHeld_of_not_restoring _ _ _ _ _ _ h

/-- LOA_TUNE_EN rises, and the interval begins. -/
def State.tuneEnabled (s : State) : State :=
  (s.wr Obj.LOA_TUNE_EN 1).setTune { s.hd.tune with since48 := s.up48, rateSum := 0, rateCount := 0 }

theorem State.setTuneEn_rise {s : State} (h : s.rdB Obj.LOA_TUNE_EN = false) : s.setTuneEn true = s.tuneEnabled.tuneDrive := by
  simp only [State.setTuneEn, h]
  rfl

theorem State.setTuneEn_off (s : State) : s.setTuneEn false = s.wr Obj.LOA_TUNE_EN 0 := rfl

theorem State.rdB_wr_same (s : State) (r : Reg) (v : Int) : (s.wr r v).rdB r = (v != 0) := by
  rw [State.rdB, State.rd_wr_same]

theorem State.rdB_wr_ne (s : State) {r q : Reg} (v : Int) (h : q.key ≠ r.key) : (s.wr r v).rdB q = s.rdB q := by
  rw [State.rdB, State.rd_wr_ne s v h, State.rdB]

/-- The enable writes no register of the mode, and so leaves the modes that drive the port alone. -/
theorem State.tunePort_tuneEnabled (s : State) : s.tuneEnabled.tunePort = s.tunePort := by
  have hmode : s.tuneEnabled.mode = s.mode := s.rdN_wr_ne 1 (show Obj.MODE_CURRENT.key ≠ Obj.LOA_TUNE_EN.key by decide)
  rw [State.tunePort, State.tunePort, hmode]

/-- A port that was not driven yet is driven where it is enabled in a mode that drives it (R116). -/
theorem State.tuneDrive_first {s : State} (hd : s.hd.tune.driven = false) (hp : s.tunePort = true)
    (he : s.rdB Obj.LOA_TUNE_EN = true) :
    s.tuneDrive = (s.setTune { s.hd.tune with driven := true }).tuneSend (s.rd Obj.LOA_TUNE_INIT) :=
  if_neg (by simp [hd, hp, he])

/-- A word goes out at once where no frame is being sent (R438). -/
theorem State.tuneSend_of_idle {s : State} (w : Int) (h : s.hd.tune.sending = false) :
    s.tuneSend w = ((s.wr Obj.LOA_TUNE_WORD w).setTune { s.hd.tune with sending := true }).emit (.tuning (tuneFrame w)) :=
  if_neg (by simp [h])

/-- The first enable in a mode that drives the port sends LOA_TUNE_INIT (R116). -/
theorem State.setTuneEn_first {s : State} (hen : s.rdB Obj.LOA_TUNE_EN = false) (hd : s.hd.tune.driven = false)
    (hs : s.hd.tune.sending = false) (hp : s.tunePort = true) :
    s.setTuneEn true = ((s.tuneEnabled.wr Obj.LOA_TUNE_WORD (s.rd Obj.LOA_TUNE_INIT)).setTune
      { s.tuneEnabled.hd.tune with driven := true, sending := true }).emit (.tuning (tuneFrame (s.rd Obj.LOA_TUNE_INIT))) := by
  have hinit : s.tuneEnabled.rd Obj.LOA_TUNE_INIT = s.rd Obj.LOA_TUNE_INIT := s.rd_wr_ne 1 (by decide)
  have hport : s.tuneEnabled.tunePort = true := s.tunePort_tuneEnabled.trans hp
  rw [State.setTuneEn_rise hen, State.tuneDrive_first (s := s.tuneEnabled) hd hport (s.rdB_wr_same _ _), hinit]
  exact State.tuneSend_of_idle _ hs

/-- An interval's end computes a step where LO-A may be tuned, and starts the interval again. -/
theorem exec_loaTuneStep {s s1 : State} (hen : s.rdB Obj.LOA_TUNE_EN = true)
    (hr : s.runTo (s.hd.tune.since48 + s.rdN Obj.LOA_TUNE_INTERVAL * sec48) = some s1) :
    exec .loaTuneStep s = .next (if s1.tunes s1.hd.timeSet then s1.tuneStep
      else s1.setTune { s1.hd.tune with since48 := s1.up48, rateSum := 0, rateCount := 0 }).settle := by
  show execLoaTuneStep s = _
  simp only [execLoaTuneStep, hen, hr, Bool.not_true, Bool.false_eq_true, if_false]
  split <;> rfl

section
variable {s : State} (hs : s.hd.tune.sending = true)
include hs

theorem exec_loaTuneFrameEnd_waiting {w : Int} (hq : s.hd.tune.queued = some w) :
    exec .loaTuneFrameEnd s =
      .next ((s.setTune { s.hd.tune with queued := none }).emit (.tuning (tuneFrame w))).settle := by
  show execLoaTuneFrameEnd s = _
  simp [execLoaTuneFrameEnd, hs, hq]

theorem exec_loaTuneFrameEnd_idle (hq : s.hd.tune.queued = none) :
    exec .loaTuneFrameEnd s = .next (s.setTune { s.hd.tune with sending := false }).settle := by
  show execLoaTuneFrameEnd s = _
  simp [execLoaTuneFrameEnd, hs, hq]

end

/-- Settles O33: the LOs by flag, loss, return and measurement, then the tuning port's enable, interval and frames. -/
theorem loChangesAndTuningComplete : Obligations.LoChangesAndTuningComplete := by
  refine ⟨⟨fun _ _ => exec_loWarmChange_high, fun _ _ => exec_loWarmChange_low, ?unseen, ?lost, fun _ _ _ => exec_loReturn,
      fun lo s => s.loServing_loIn (loNum lo), ?ten, ?hundred, ?below, fun _ _ _ => exec_loFreqMeasurement_again⟩,
    ?enable, ?disable, ?step, ?skip, fun _ _ hs => exec_loaTuneFrameEnd_waiting hs, fun _ => exec_loaTuneFrameEnd_idle⟩
  case unseen =>
    intro lo s hs
    rw [exec_loLoss, State.loOut_of_not_serving hs, State.loUnseen]
  case lost =>
    rintro lo s _ hs rfl
    rw [exec_loLoss]
    refine ⟨fun hb => ?_, fun hb ho => ?_, fun hb ho => ?_⟩
    · rw [State.loOut_of_not_base hs hb, State.loUnseen]
    · rw [State.loOut_of_other hs hb ho, State.loUnseen]
    · rw [State.loOut_of_alone hs hb ho, State.loUnseen]
  case ten =>
    rintro lo hz s _ hs h1 h2 hm hc rfl
    exact exec_loFreqMeasurement_ten hs hm hc h1 h2
  case hundred =>
    rintro lo hz s _ hs h1 h2 hm hc rfl
    exact exec_loFreqMeasurement_hundred hs hm hc h1 h2
  case below =>
    intro lo hz s hs h hm hc
    exact exec_loFreqMeasurement_below hs hm hc h
  case enable =>
    intro s hfree hen hd hsend hp
    refine ⟨_, exec_loaTuneEnWrite true hfree, ?_⟩
    rw [State.setTuneEn_first hen hd hsend hp]
    exact ⟨(State.rdB_wr_ne _ _ (by decide)).trans (s.rdB_wr_same _ _), State.rd_wr_same _ _ _, rfl, rfl, rfl, rfl, rfl⟩
  case disable =>
    intro s hfree
    rw [exec_loaTuneEnWrite false hfree, State.setTuneEn_off]
  case step =>
    intro s s1 hen hr ht
    rw [exec_loaTuneStep hen hr, if_pos ht]
  case skip =>
    intro s s1 hen hr ht
    rw [exec_loaTuneStep hen hr, if_neg (by simp [ht])]

end Sys2Proof.Machine
end

section
/-! PROOFS. The software servo: what a write of SWL_TAG commits, and what SWL_TIMEOUT closes (R126, R127). -/

namespace Sys2Proof.Machine

/-- How many updates back a tag lies, modulo its 32 bits (R126). -/
def State.tagAge (s : State) (tag : Nat) : Nat := (s.rdN Obj.HD_UPDATE + 2 ^ 32 - tag) % 2 ^ 32

/-- The correction in SWL_RATE is accepted under a tag (R126). -/
def State.rateCommitted (s : State) (tag : Nat) : State :=
  let s1 := s.wrN Obj.SWL_TAG tag
  { s1 with hd := { s1.hd with swl :=
    { s1.hd.swl with rate := some (s.rd Obj.SWL_RATE), at48 := s.up48, fresh := true, tag := tag } } }

theorem State.commitTag_of_recent {s : State} {tag : Nat} (h : s.tagAge tag ≤ 63) : s.commitTag tag = s.rateCommitted tag :=
  if_pos h

theorem State.commitTag_of_stale {s : State} {tag : Nat} (h : 63 < s.tagAge tag) :
    s.commitTag tag = (s.wrN Obj.SWL_TAG tag).stick Obj.HD_STATUS 2 :=
  if_neg (Nat.not_le.mpr h)

theorem exec_swlTag (tag : BitVec 32) (s : State) : exec (.swlTag tag) s = .next (s.commitTag tag.toNat).settle := rfl

theorem exec_swlTimeout {s s1 : State} (hm : s.rdN Obj.HD_LOOP_MODE = 1) (hc : s.hd.swl.closing = false)
    (hr : s.runTo (s.hd.swl.at48 + ms48 (s.rdN Obj.SWL_TIMEOUT)) = some s1) :
    exec .swlTimeout s = .next s1.loopCloses.settle := by
  show execSwlTimeout s = _
  simp [execSwlTimeout, hm, hc, hr]

theorem State.loopCloses_closing {s : State} (h : s.rdN Obj.HD_LOOP_MODE = 1) : s.loopCloses.hd.swl.closing = true := by
  rw [State.loopCloses, h, beq_self_eq_true, State.when_true]

/-- Settles O34: a tag that is recent, one that is stale, and the timeout with what it does. -/
theorem softwareServoCommandsComplete : Obligations.SoftwareServoCommandsComplete := by
  refine ⟨?recent, ?stale, fun _ _ => exec_swlTimeout, fun _ => State.loopCloses_closing⟩
  case recent =>
    rintro tag s _ h rfl
    rw [exec_swlTag, State.commitTag_of_recent h]
    rfl
  case stale =>
    intro tag s h
    rw [exec_swlTag, State.commitTag_of_stale h]

end Sys2Proof.Machine
end

section
/-! PROOFS. The timescale counts (R5, R116, R132, R143), and the short stamp of a time (R133). -/

namespace Sys2Proof.Machine

/-! Readings and stamps (R132, R133). -/

/-- A counter set from a reading reads it again; only whole turns of the 48 bits of seconds are lost. -/
theorem TsCount.to48_of48 (t : Nat) : (TsCount.of48 t).to48 = t % (2 ^ 48 * sec48) := by
  have hsec : t % (2 ^ 48 * sec48) = t % sec48 + sec48 * (t / sec48 % 2 ^ 48) := by
    rw [Nat.mul_comm, Nat.mod_mul]
  have hns : t % sec48 = t % ns48 + ns48 * (t / ns48 % giga) := by
    rw [sec48, Nat.mul_comm, Nat.mod_mul]
  rw [hsec, hns, TsCount.to48, TsCount.of48, sec48, Nat.add_mul, Nat.mul_assoc, Nat.mul_comm (t / ns48 % giga),
    Nat.mul_comm (t / (giga * ns48) % 2 ^ 48), Nat.add_comm, Nat.add_comm (giga * ns48 * _), Nat.add_assoc]

/-- The fraction of a reading stands below its whole nanoseconds. -/
theorem TsCount.to48_div_ns48 {t : TsCount} (h : t.frac < ns48) : t.to48 / ns48 = t.sec * giga + t.ns := by
  rw [TsCount.to48, Nat.mul_comm, Nat.mul_add_div (show 0 < ns48 from Nat.two_pow_pos 48), Nat.div_eq_of_lt h, Nat.add_zero]

/-- The 16 bits of a stamp are the top of the fraction's 48. -/
theorem TsCount.to48_top_fraction {t : TsCount} (h : t.frac < ns48) : t.to48 / 2 ^ 32 % 65536 = t.frac / 2 ^ 32 := by
  rw [ns48] at h
  rw [TsCount.to48, ns48]
  omega

/-- Settles O10: the whole nanoseconds and the top of the fraction of one reading. -/
theorem shortStampOfATime : Obligations.ShortStampOfATime := by
  intro t _ hfrac
  rw [shortStamp, TsCount.to48_div_ns48 hfrac, TsCount.to48_top_fraction hfrac]

/-! The clock runs, stands frozen, or has not started (R132, R143). -/

section
variable {c : Clock} (n step : Nat)

theorem Clock.run_of_free (hr : c.running = true) (hf : c.frozen = false) :
    c.run n step = { c with
      ts := TsCount.of48 (c.ts.to48 + n * step), cycles := c.cycles + n, up48 := c.up48 + n * step,
      before48 := if n = 0 then c.before48 else c.ts.to48 + (n - 1) * step } := by
  simp [Clock.run, hr, hf]

theorem Clock.run_of_frozen (hr : c.running = true) (hf : c.frozen = true) :
    c.run n step = { c with frozenCycles := c.frozenCycles + n } := by
  simp [Clock.run, hr, hf]

theorem Clock.run_of_stopped (hr : c.running = false) : c.run n step = c := by
  simp [Clock.run, hr]

end

/-- The fields of a counter set from a reading are within their bounds. -/
theorem Clock.wf_of_ts_of48 {c : Clock} {t : Nat} (h : c.ts = TsCount.of48 t) : c.wf := by
  rw [Clock.wf, h]
  exact ⟨Nat.mod_lt _ (by decide), Nat.mod_lt _ (by decide), Nat.mod_lt _ (by decide)⟩

/-! Cycles at one rate, and cycles while a tuning step is being booked (R116, R135). -/

theorem State.runCycles_of_steady {s : State} (n : Nat) (h : s.ramping = false) :
    s.runCycles (n + 1) = s.runPlain (n + 1) :=
  if_neg (by simp [h])

theorem State.runCycles_of_ramping {s : State} (n : Nat) (h : s.ramping = true) (hr : s.clk.running = true)
    (hf : s.clk.frozen = false) : s.runCycles (n + 1) = (s.runPlain 1).rampRate.runCycles n :=
  if_pos (by simp [h, hr, hf])

/-- Settles O11: the clock in its three conditions, then the cycles of the machine, and the step of each. -/
theorem timescaleCounts : Obligations.TimescaleCounts := by
  refine ⟨?free, fun c n step => Clock.run_of_frozen n step, fun c n step => Clock.run_of_stopped n step, ?steady, ?ramping,
    fun s h => Int.toNat_of_nonneg h⟩
  case free =>
    intro c n step hr hf
    rw [Clock.run_of_free n step hr hf]
    exact ⟨TsCount.to48_of48 _, Clock.wf_of_ts_of48 rfl, rfl, rfl⟩
  case steady =>
    intro s n h hr
    rw [State.runCycles_of_steady n h, State.clk_runPlain hr (Nat.succ_pos n)]
  case ramping =>
    intro s n h hr hf
    have hone : s.runCycles 1 = (s.runPlain 1).rampRate := State.runCycles_of_ramping 0 h hr hf
    rw [State.runCycles_of_ramping n h hr hf, hone, State.rampRate_clk, State.clk_runPlain hr Nat.one_pos]
    exact ⟨rfl, rfl⟩

end Sys2Proof.Machine
end

section
/-! PROOFS. The slew engine at an effect instant (R136). -/

namespace Sys2Proof.Machine

/-- What one interval of 1/64 s applies at TS_SLEW_MAX, in 2^-48 ns. -/
def State.slewInterval (s : State) : Rat := (s.rdN Obj.TS_SLEW_MAX : Rat) / 100 * (15625 / 1000000) * (ns48 : Nat)

/-- The slew's last interval has run, and nothing stays pending. -/
theorem State.slewTick_of_last {s : State} (h : s.ctl.slew.lastInterval = true) :
    s.slewTick.ctl.slew =
      { s.ctl.slew with term := 0, pend48 := 0, lastInterval := false, sinceCycle := s.clk.cycles } :=
  if_pos h

section
variable {s : State} (h : s.ctl.slew.lastInterval = false)
include h

theorem State.slewTick_of_done (hleft : s.slewLeft = 0) :
    s.slewTick.ctl.slew = { s.ctl.slew with term := 0, pend48 := 0, sinceCycle := s.clk.cycles } :=
  (if_neg (by simp [h])).trans (if_pos hleft)

/-- At least one interval's worth is left, and the interval that begins applies it at TS_SLEW_MAX. -/
theorem State.slewTick_of_full (hleft : s.slewLeft ≠ 0) (hmore : s.slewInterval ≤ ((s.slewLeft.natAbs : Nat) : Rat)) :
    s.slewTick.ctl.slew = { s.ctl.slew with
      term := if s.slewLeft < 0 then -s.slewMax.floor else s.slewMax.floor, pend48 := s.slewLeft,
      sinceCycle := s.clk.cycles } :=
  (if_neg (by simp [h])).trans ((if_neg hleft).trans (if_pos hmore))

/-- Less than one interval's worth is left: the interval that begins is the last. -/
theorem State.slewTick_of_rest (hleft : s.slewLeft ≠ 0) (hless : ((s.slewLeft.natAbs : Nat) : Rat) < s.slewInterval) :
    s.slewTick.ctl.slew = { s.ctl.slew with
      term := truncDiv s.slewLeft 15625000, pend48 := s.slewLeft, lastInterval := true, sinceCycle := s.clk.cycles } :=
  (if_neg (by simp [h])).trans ((if_neg hleft).trans (if_neg (Rat.not_le.mpr hless)))

end

/-- Settles O32: the end of the last interval, no slew, and the last and a whole interval beginning. -/
theorem slewRunsOut : Obligations.SlewRunsOut := by
  refine ⟨?ended, ?idle, ?last, ?full⟩
  case ended =>
    intro s h
    rw [State.slewTick_of_last h]
    exact ⟨rfl, rfl, rfl⟩
  case idle =>
    intro s h hpend hterm
    have hleft : s.slewLeft = 0 := by rw [State.slewLeft, hpend, hterm, Int.zero_mul, Int.sub_zero]
    rw [State.slewTick_of_done h hleft]
    exact ⟨rfl, rfl⟩
  case last =>
    rintro s _ h hleft rfl hless
    rw [State.slewTick_of_rest h hleft hless]
    exact ⟨rfl, rfl, rfl⟩
  case full =>
    rintro s _ h hpos rfl hmore
    rw [State.slewTick_of_full h (Int.ne_of_gt hpos) hmore]
    exact ⟨if_neg (Int.not_lt.mpr (Int.le_of_lt hpos)), rfl⟩

end Sys2Proof.Machine
end

section
/-! PROOFS. TS_SET_CMD by the rules of R140, and what its request becomes at TS_SET_AT (R137, R140). -/

namespace Sys2Proof.Machine

/-! The commands, while the block is not being restored. -/

section
variable {s : State} (hfree : s.restoring 10 = false)
include hfree

theorem exec_tsSetStep : exec .tsSetStep s = .next (s.tsSet false).settle :=
  State.orHeld_of_not_restoring _ _ _ _ _ _ hfree
theorem exec_tsSetSlew : exec .tsSetSlew s = .next (s.tsSet true).settle :=
  State.orHeld_of_not_restoring _ _ _ _ _ _ hfree
theorem exec_tsSetCancel : exec .tsSetCancel s = .next (s.setRequest none).settle :=
  State.orHeld_of_not_restoring _ _ _ _ _ _ hfree

end

/-! The rules of R140 in their order. -/

/-- The request that the host has written into TS_SET_AT, TS_SET_VAL and TS_SET_UNC. -/
def State.asked (s : State) (slew : Bool) : SetRequest :=
  ⟨slew, s.rdN Obj.TS_SET_AT, s.rdN Obj.TS_SET_VAL, s.rdN Obj.TS_SET_UNC⟩

theorem State.tsSet_of_other_mode {s : State} (slew : Bool) (h : s.mode ≠ Mode.FREERUN) :
    s.tsSet slew = s.stick Obj.TS_STATUS 3 :=
  if_pos h

section
variable {s : State} (slew : Bool) (hm : s.mode = Mode.FREERUN)
include hm

theorem State.tsSet_of_part_second (h : s.rdN Obj.TS_SET_AT % giga ≠ 0) : s.tsSet slew = s.stick Obj.TS_STATUS 1 :=
  (if_neg (not_not_intro hm)).trans (if_pos h)

variable (hw : s.rdN Obj.TS_SET_AT % giga = 0)
include hw

theorem State.tsSet_of_late (h : s.rdN Obj.TS_SET_AT * ns48 < s.now48 + ms48 1) :
    s.tsSet slew = s.stick Obj.TS_STATUS 2 :=
  (if_neg (not_not_intro hm)).trans ((if_neg (not_not_intro hw)).trans (if_pos h))

variable (ha : s.now48 + ms48 1 ≤ s.rdN Obj.TS_SET_AT * ns48)
include ha

/-- A request in FREERUN for a whole second in good time is left to the step policy and the size of a slew. -/
theorem State.tsSet_of_good_instant :
    s.tsSet slew =
      if s.rdB Obj.TS_VALID && !slew && !s.stepAllowed then s.stick Obj.TS_STATUS 3
      else if s.rdB Obj.TS_VALID && slew && decide (sec48 < (s.asked slew).offset48.natAbs) then s.stick Obj.TS_STATUS 1
      else s.setRequest (some (s.asked slew)) :=
  (if_neg (not_not_intro hm)).trans ((if_neg (not_not_intro hw)).trans (if_neg (Nat.not_lt.mpr ha)))

theorem State.tsSet_step_held (h : s.rdB Obj.TS_VALID = false ∨ s.stepAllowed = true) :
    s.tsSet false = s.setRequest (some (s.asked false)) := by
  rw [State.tsSet_of_good_instant false hm hw ha, if_neg (by rcases h with h | h <;> simp [h]), if_neg (by simp)]

theorem State.tsSet_step_barred (hv : s.rdB Obj.TS_VALID = true) (hp : s.stepAllowed = false) :
    s.tsSet false = s.stick Obj.TS_STATUS 3 := by
  rw [State.tsSet_of_good_instant false hm hw ha, if_pos (by simp [hv, hp])]

theorem State.tsSet_slew_held (h : s.rdB Obj.TS_VALID = false ∨ (s.asked true).offset48.natAbs ≤ sec48) :
    s.tsSet true = s.setRequest (some (s.asked true)) := by
  rw [State.tsSet_of_good_instant true hm hw ha, if_neg (by simp),
    if_neg (by rcases h with h | h <;> simp [h])]

theorem State.tsSet_slew_too_far (hv : s.rdB Obj.TS_VALID = true) (hfar : sec48 < (s.asked true).offset48.natAbs) :
    s.tsSet true = s.stick Obj.TS_STATUS 1 := by
  rw [State.tsSet_of_good_instant true hm hw ha, if_neg (by simp), if_pos (by simp [hv, hfar])]

end

/-- Settles O36: the two requests that are held, then the rules that refuse one, in the order of R140, and CANCEL. -/
theorem timeSetCommandsComplete : Obligations.TimeSetCommandsComplete := by
  refine ⟨?step, ?slew, ?mode, ?part, ?late, ?policy, ?far, fun _ => exec_tsSetCancel⟩
  case step =>
    rintro s _ hfree hm rfl hw ha h
    rw [exec_tsSetStep hfree, State.tsSet_step_held hm hw ha h, State.asked]
  case slew =>
    rintro s _ hfree hm rfl hw ha h
    rw [exec_tsSetSlew hfree, State.tsSet_slew_held hm hw ha h, State.asked]
  case mode =>
    intro s hfree hm
    rw [exec_tsSetStep hfree, exec_tsSetSlew hfree, State.tsSet_of_other_mode _ hm, State.tsSet_of_other_mode _ hm]
    exact ⟨rfl, rfl⟩
  case part =>
    intro s hfree hm h
    rw [exec_tsSetStep hfree, exec_tsSetSlew hfree, State.tsSet_of_part_second _ hm h, State.tsSet_of_part_second _ hm h]
    exact ⟨rfl, rfl⟩
  case late =>
    intro s hfree hm hw h
    rw [exec_tsSetStep hfree, exec_tsSetSlew hfree, State.tsSet_of_late _ hm hw h, State.tsSet_of_late _ hm hw h]
    exact ⟨rfl, rfl⟩
  case policy =>
    intro s hfree hm hw ha hv hp
    rw [exec_tsSetStep hfree, State.tsSet_step_barred hm hw ha hv hp]
  case far =>
    rintro s _ hfree hm rfl hw ha hv hfar
    rw [exec_tsSetSlew hfree, State.tsSet_slew_too_far hm hw ha hv hfar]

end Sys2Proof.Machine
end

section
/-! PROOFS. TS_SET_AT, the whole seconds, the end of UTC_AUTO_HOLD and the instant of a leap (R21, R137, R140, R142, R145,
R146, R149). -/

namespace Sys2Proof.Machine

/-! The held request at its instant (R137, R140). -/

theorem exec_tsSetApply {r : SetRequest} {s s1 : State} (h : s.ctl.slew.request = some r) (hr : s.reach r.at80 = some s1) :
    exec .tsSetApply s = .next (s1.tsApply r).settle := by
  show execTsSetApply s = _
  simp only [execTsSetApply, h, hr]

/-- A new offset for the slew engine, counted from now on. -/
def State.slewLoaded (s : State) (offset48 : Int) : State :=
  { s with ctl := { s.ctl with slew :=
    { s.ctl.slew with pend48 := offset48, lastInterval := false, sinceCycle := s.clk.cycles } } }

section
variable {r : SetRequest} {s : State}

theorem State.tsApply_of_slew (hv : s.rdB Obj.TS_VALID = true) (hs : r.slew = true) :
    s.tsApply r =
      ((((s.setRequest none).tebHostSet r.unc r.offset48 true).slewLoaded r.offset48).tebLog 5).tebCoefLog s :=
  if_pos (by simp [hv, hs])

theorem State.tsApply_of_barred (hv : s.rdB Obj.TS_VALID = true) (hs : r.slew = false) (hp : s.stepAllowed = false) :
    s.tsApply r = (s.setRequest none).stick Obj.TS_STATUS 3 :=
  (if_neg (by simp [hs])).trans (if_pos (by simp [hv, hp]))

/-- A placement, or a step that the policy allows. -/
theorem State.tsApply_of_step (h : s.rdB Obj.TS_VALID = false ∨ (r.slew = false ∧ s.stepAllowed = true)) :
    s.tsApply r = (((s.setRequest none).tebHostSet r.unc r.offset48 false).applyStep r.offset48).tebCoefLog s := by
  have hslew : ¬(s.rdB Obj.TS_VALID && r.slew) = true := by rcases h with h | ⟨h, -⟩ <;> simp [h]
  have hpolicy : ¬(s.rdB Obj.TS_VALID && !s.stepAllowed) = true := by rcases h with h | ⟨-, h⟩ <;> simp [h]
  exact (if_neg hslew).trans (if_neg hpolicy)

end

/-! The whole seconds (R21, R149). -/

theorem exec_secondBoundary {s s1 : State} (hr : s.reach s.nextSecond = some s1) :
    exec .secondBoundary s = .next ((s1.secondDone s.nextSecond).housekeeping.secondWork).settle := by
  show execSecondBoundary s = _
  rw [execSecondBoundary, hr]

theorem key_RING_EPOCH_ne {m n : Nat} (h : m ≠ n) : (Obj.RING_EPOCH m).key ≠ (Obj.RING_EPOCH n).key := by
  simp only [Obj.RING_EPOCH, regKey]
  omega

theorem key_TS_STEP_GEN_ne_RING_EPOCH (n : Nat) : Obj.TS_STEP_GEN.key ≠ (Obj.RING_EPOCH n).key := by
  simp only [Obj.TS_STEP_GEN, Obj.RING_EPOCH, regKey]
  omega

/-- A trailer goes out to the host's memory, or waits at its ring, and is in no register. -/
theorem State.rdN_trailer (s : State) (k : Nat) (r : Reg) : (s.trailer k).rdN r = s.rdN r := by
  unfold State.trailer
  split <;> rfl

/-- The epoch word of this second: TS_STEP_GEN above the seconds. -/
def State.epochWord (s : State) : Nat := s.rdN Obj.TS_STEP_GEN * 2 ^ 48 + s.clk.ts.sec % 2 ^ 48

/-- One ring's epoch word, and its trailer unless it is OFF. -/
def State.epochRing (s : State) (k : Nat) : State :=
  (s.wrN (Obj.RING_EPOCH k) s.epochWord).when (s.rdN (Obj.RING_STATE k) != 0) (·.trailer k)

theorem State.epochWords_eq (s : State) : s.epochWords = State.forEach State.epochRing (List.range 64) s := rfl

theorem State.rdN_epochRing (s : State) (k : Nat) (r : Reg) :
    (s.epochRing k).rdN r = (s.wrN (Obj.RING_EPOCH k) s.epochWord).rdN r :=
  State.when_keeps (·.rdN r) _ _ _ fun t => t.rdN_trailer k r

/-- What a ring's turn writes is not what the words are made of. -/
theorem State.epochWord_epochRing (s : State) (k : Nat) : (s.epochRing k).epochWord = s.epochWord := by
  have hsec : (s.epochRing k).clk = s.clk :=
    (State.when_keeps (·.clk) _ _ _ fun t => ((Agrees.refl t).trailer k).clk).trans (State.wrN_clk _ _ _)
  rw [State.epochWord, State.rdN_epochRing, s.rdN_wrN_ne _ (key_TS_STEP_GEN_ne_RING_EPOCH k), hsec, State.epochWord]

/-- Every ring has the word once its turn has come, and the later turns leave it. -/
theorem State.rdN_RING_EPOCH_epochWords (s : State) {k : Nat} (h : k < 64) :
    s.epochWords.rdN (Obj.RING_EPOCH k) = s.epochWord := by
  rw [State.epochWords_eq]
  refine State.forEach_establishes (inv := fun t => t.epochWord = s.epochWord)
    (post := fun t => t.rdN (Obj.RING_EPOCH k) = s.epochWord) (fun t j _ ht => (t.epochWord_epochRing j).trans ht)
    (fun t ht => ?_) (fun t j _ ht hk => ?_) rfl (.inl (List.mem_range.mpr h))
  · rw [State.rdN_epochRing, State.rdN_wrN_same, ht]
  · rw [State.rdN_epochRing]
    by_cases hj : k = j
    · rw [hj, State.rdN_wrN_same, ht]
    · rw [State.rdN_wrN_ne _ _ (key_RING_EPOCH_ne hj), hk]

/-! The end of UTC_AUTO_HOLD (R145). -/

section
variable {o : Int} {since : Nat} {s s1 : State} (hheld : s.utc.held = some (o, since))
  (hr : s.runTo (since + s.rdN Obj.UTC_AUTO_HOLD * sec48) = some s1) (hgood : s1.utcHeld = false)
include hheld hr hgood

theorem exec_utcAutoHoldExpiry_reported {n leap : Nat} (hrep : s1.utcReport = some (n, o, leap)) :
    exec .utcAutoHoldExpiry s = .next ((s1.setOffset o).utcDrop).settle := by
  show execUtcAutoHoldExpiry s = _
  simp [execUtcAutoHoldExpiry, hheld, hr, hgood, hrep]

theorem exec_utcAutoHoldExpiry_silent (hrep : s1.utcReport = none) :
    exec .utcAutoHoldExpiry s = .next s1.utcDrop.settle := by
  show execUtcAutoHoldExpiry s = _
  simp [execUtcAutoHoldExpiry, hheld, hr, hgood, hrep]

end

/-- A leap that is computed again has its own register. -/
theorem State.rd_UTC_OFFSET_setOffset (s : State) (o : Int) : (s.setOffset o).rd Obj.UTC_OFFSET = o :=
  (State.when_keeps (·.rd Obj.UTC_OFFSET) _ _ _ fun t => t.rd_wrN_ne _ (by decide)).trans (s.rd_wr_same _ _)

/-! The instant of a leap (R146). -/

/-- The offset that a leap leads to. -/
def leapOffset (offset : Int) (leap : Nat) : Int := if leap = 1 then offset + 1 else offset - 1

/-- From the next second on, what is missing to a whole day of the new offset. -/
theorem leapAt_eq (now : Nat) (offset : Int) (leap : Nat) :
    (leapAt now offset leap : Int) = now + 1 + (leapOffset offset leap - (now + 1)) % 86400 := by
  have hrest := Int.emod_nonneg (leapOffset offset leap - (now + 1)) (b := 86400) (by decide)
  exact Int.toNat_of_nonneg (show 0 ≤ (now + 1 : Int) + (leapOffset offset leap - (now + 1)) % 86400 by omega)

/-- Settles O37: the request's three ends, the whole second with its epoch words, the two ends of the wait, and the leap. -/
theorem timeInstantsAndLeapsComplete : Obligations.TimeInstantsAndLeapsComplete := by
  refine ⟨⟨?slew, ?barred, ?step, fun _ _ => exec_secondBoundary, ?instants,
    fun _ s hk => s.rdN_RING_EPOCH_epochWords hk, ?reported, fun _ _ _ _ => exec_utcAutoHoldExpiry_silent,
    fun o s => s.rd_UTC_OFFSET_setOffset o⟩, ?leap⟩
  case slew =>
    rintro r s s1 _ h hr hs hv rfl
    rw [exec_tsSetApply h hr, State.tsApply_of_slew hv hs, State.slewLoaded]
  case barred =>
    intro r s s1 h hr hs hv hp
    rw [exec_tsSetApply h hr, State.tsApply_of_barred hv hs hp]
  case step =>
    intro r s s1 h hr hstep
    rw [exec_tsSetApply h hr, State.tsApply_of_step hstep]
  case instants =>
    rintro _ s rfl
    exact ⟨State.nextPeriodic_of_not_done, State.nextPeriodic_of_done⟩
  case reported =>
    intro o since s s1 hheld hr hgood hsome hsame
    obtain ⟨⟨n, v, leap⟩, hrep⟩ := Option.isSome_iff_exists.mp hsome
    obtain rfl : v = o := hsame _ hrep
    exact exec_utcAutoHoldExpiry_reported hheld hr hgood hrep
  case leap =>
    rintro now offset leap _ rfl
    have hat := leapAt_eq now offset leap
    rw [leapOffset] at hat
    refine ⟨by omega, by omega, fun t ht hday => by omega⟩

end Sys2Proof.Machine
end

section
/-! PROOFS. The snapshot's commands, and what a snapshot that falls in the present cycle does (R151, R152). -/

namespace Sys2Proof.Machine

/-! The two commands, while the block is not being restored (R151). -/

section
variable {s : State} (hfree : s.restoring 10 = false)
include hfree

theorem exec_snapNow : exec .snapNow s = .next s.snapNow.settle := State.orHeld_of_not_restoring _ _ _ _ _ _ hfree
theorem exec_snapAtWrite (sec : BitVec 48) (ns : Fin 1000000000) :
    exec (.snapAtWrite sec ns) s = .next (s.setSnapAt (sec.toNat * giga + ns)).settle :=
  State.orHeld_of_not_restoring _ _ _ _ _ _ hfree

end

theorem State.setSnapAt_of_late {s : State} {at80 : Nat} (h : at80 * ns48 < s.now48 + us48 10) :
    s.setSnapAt at80 = s.stick Obj.SNAP_STATUS 0 :=
  if_pos h

theorem State.setSnapAt_of_ahead {s : State} {at80 : Nat} (h : s.now48 + us48 10 ≤ at80 * ns48) :
    s.setSnapAt at80 =
      ({ s with snap := { s.snap with atPending := some at80 } } : State).wrN Obj.SNAP_AT at80 :=
  if_neg (Nat.not_lt.mpr h)

/-! The instants (R151). -/

section
variable {s : State} (hr : s.clk.running = true)
include hr

theorem exec_snapshot_now (hnow : s.snap.nowPending = true) :
    exec .snapshot s = .next ((s.runCycles 1).snapshot (s.runCycles 1).inStepCycle).settle := by
  show execSnapshot s = _
  simp [execSnapshot, hr, hnow]

variable (hnow : s.snap.nowPending = false)
include hnow

theorem exec_snapshot_at {t : Nat} {s1 : State} (hat : s.snap.atPending = some t) (hev : s.rdB Obj.SNAP_EVERY = false)
    (ht : s.reach t = some s1) : exec .snapshot s = .next (s1.snapshot s1.inStepCycle).settle := by
  show execSnapshot s = _
  simp [execSnapshot, hr, hnow, hat, hev, ht]

theorem exec_snapshot_every {s1 : State} (hat : s.snap.atPending = none) (hev : s.rdB Obj.SNAP_EVERY = true)
    (ht : s.reach s.everyAt = some s1) : exec .snapshot s = .next (s1.snapshot s1.inStepCycle).settle := by
  show execSnapshot s = _
  simp [execSnapshot, hr, hnow, hat, hev, ht]

end

/-! A snapshot that falls in the present cycle (R151, R152). -/

/-- The instants that the present cycle reaches no longer wait, whether or not the snapshot is taken. -/
def State.snapTried (s : State) : State :=
  { s with snap := { s.snap with
    nowPending := false
    atPending := match s.snap.atPending with | some t => if t * ns48 ≤ s.now48 then none else some t | none => none
    tried48 := some s.now48 } }

/-- The snapshot is taken, and its copy has started. -/
def State.snapTaken (s : State) : State :=
  { s.snapTried with snap := { s.snapTried.snap with lastAt48 := some s.now48, copying := true } }

/-- The snapshot before lies less than 4 µs back. -/
def State.snapMissed (s : State) : Bool :=
  match s.snap.lastAt48 with | some t => decide (t ≤ s.now48 ∧ s.now48 < t + us48 4) | none => false

theorem State.snapshot_eq (s : State) (b : Bool) :
    s.snapshot b =
      if s.snapMissed then (s.snapTried.stick Obj.SNAP_STATUS 1).raise Src.SNAP_MISSED
      else (s.snapTaken.copyHeld.wrN Obj.SNAP_STATUS (putBit (s.rdN Obj.SNAP_STATUS) 3 b)).count 0x004 1 := rfl

theorem State.snapMissed_of_recent {s : State} {t : Nat} (hlast : s.snap.lastAt48 = some t) (hle : t ≤ s.now48)
    (hlt : s.now48 < t + us48 4) : s.snapMissed = true := by
  simp [State.snapMissed, hlast, hle, hlt]

theorem State.snapMissed_of_first {s : State} (hlast : s.snap.lastAt48 = none) : s.snapMissed = false := by
  simp [State.snapMissed, hlast]

theorem State.snapshot_of_missed {s : State} (b : Bool) (h : s.snapMissed = true) :
    s.snapshot b = (s.snapTried.stick Obj.SNAP_STATUS 1).raise Src.SNAP_MISSED := by
  rw [State.snapshot_eq, if_pos h]

/-- The copy of a family is in its holding registers. -/
theorem State.copyAll_snap (s : State) (n : Nat) (src dst : Nat → Reg) : (s.copyAll n src dst).snap = s.snap :=
  State.forEach_keeps (·.snap) _ _ s fun _ _ => rfl

/-- Beside the holding registers a copy keeps Trestle's counts. -/
theorem State.copyHeld_snap (s : State) :
    s.copyHeld.snap = { s.snap with
      heldDrop := (List.range 48).map fun c => (s.atStart (Obj.CH_DROP c)).toNat
      heldLost := (s.atStart Obj.TR_RING_LOST).toNat } := by
  unfold State.copyHeld
  dsimp only
  refine Eq.trans (State.forEach_keeps State.snap _ _ _ ?_) (Eq.trans (State.forEach_keeps State.snap _ _ _ ?_) ?_)
  · exact fun _ _ => rfl
  · exact fun _ _ => rfl
  · rw [State.wrN_snap, State.copyAll_snap, State.copyAll_snap, State.copyAll_snap, State.copyAll_snap]

/-- A snapshot that is taken waits no longer, has its instant, and has started its copy (R152). -/
theorem State.snap_snapshot_of_taken {s : State} (b : Bool) (h : s.snapMissed = false) :
    (s.snapshot b).snap = s.snapTaken.copyHeld.snap := by
  rw [State.snapshot_eq, if_neg (by simp [h]), ((Agrees.refl _).count _ _).snap, State.wrN_snap]

/-- Settles O38: the two commands, the three instants, and a snapshot that is missed and one that is taken. -/
theorem snapshotCommandsComplete : Obligations.SnapshotCommandsComplete := by
  refine ⟨?now, ?ahead, ?late, fun _ => exec_snapshot_now,
    fun _ _ _ hr hnow => exec_snapshot_at hr hnow, fun _ _ hr hnow => exec_snapshot_every hr hnow,
    ?missed, ?taken⟩
  case now =>
    intro s hfree
    rw [exec_snapNow hfree, State.snapNow]
  case ahead =>
    intro sec ns s hfree h
    rw [exec_snapAtWrite hfree, State.setSnapAt_of_ahead h]
  case late =>
    intro sec ns s hfree h
    rw [exec_snapAtWrite hfree, State.setSnapAt_of_late h]
  case missed =>
    intro t b s hlast hle hlt
    exact ⟨s.snapTried, State.snapshot_of_missed b (State.snapMissed_of_recent hlast hle hlt), rfl, rfl⟩
  case taken =>
    intro b s hlast
    rw [State.snap_snapshot_of_taken b (State.snapMissed_of_first hlast), State.copyHeld_snap]
    exact ⟨rfl, rfl, rfl⟩

end Sys2Proof.Machine
end

section
/-! PROOFS. The APLLs: writes of their configuration, their locks, and a loss of lock (R143, R179 to R181, Table 1-6). -/

namespace Sys2Proof.Machine

/-! The configuration, while the block is not being restored (R181). -/

theorem exec_apllConfigWrite (w : Apll) (f : Fin 3) (v : Nat) {s : State} (h : s.restoring 5 = false) :
    exec (.apllConfigWrite w f v) s = .next (s.apllConfig w f v).settle := State.orHeld_of_not_restoring _ _ _ _ _ _ h

section
variable {w : Apll} {f : Fin 3} {v : Nat} (s : State)

theorem State.apllConfig_of_in_range (hlo : (apllField w f).2.1 ≤ v) (hhi : v ≤ (apllField w f).2.2) :
    s.apllConfig w f v = (s.wrN (apllField w f).1 v).apllOut w :=
  if_neg fun h => h.elim (Nat.not_lt.mpr hlo) (Nat.not_lt.mpr hhi)

theorem State.apllConfig_of_out_of_range (h : v < (apllField w f).2.1 ∨ (apllField w f).2.2 < v) :
    s.apllConfig w f v = s.rangeReject 5 (apllField w f).1.key := if_pos h

end

/-! Conditions (R405). -/

theorem State.active_cond_ne (s : State) {m n : Nat} (on : Bool) (h : m ≠ n) : (s.cond n on).active m = s.active m := by
  unfold State.cond
  split
  · rfl
  · exact s.active_wrN_SRC_STATE_ne _ h

/-- The mode is a register that no condition shows in. -/
theorem State.mode_cond (s : State) (n : Nat) (on : Bool) : (s.cond n on).mode = s.mode :=
  s.rdN_cond n on (show Obj.MODE_CURRENT.key < 0xD00000 by decide)

/-! The end of a freeze (R143). -/

theorem State.unfreeze_of_frozen {s : State} (h : s.clk.frozen = true) :
    s.unfreeze = ({ s with clk := { s.clk with frozen := false } } : State).cond Src.TS_FROZEN false := by
  simp [State.unfreeze, h]

/-- It shows in the clock and in its source alone. -/
theorem Agrees.unfreeze (s : State) : Agrees { s with clk := { s.clk with frozen := false } } s.unfreeze := by
  cases h : s.clk.frozen with
  | true => exact State.unfreeze_of_frozen h ▸ (Agrees.refl _).cond _ _
  | false =>
    have hclk : { s.clk with frozen := false } = s.clk := by rw [← h]
    have hid : s.unfreeze = s := by simp [State.unfreeze, h]
    rw [hclk, hid]
    exact Agrees.refl s

/-! A lock (R179). -/

/-- APLL-A's lock ends its loss of lock, and with it the freeze. -/
def State.apllALocked (s : State) : State := ((s.wrN Obj.APLLA_STATE 1).cond Src.APLLA_LOL false).unfreeze

section
variable (s : State)

theorem State.apllALocked_clk : s.apllALocked.clk = { s.clk with frozen := false } := by
  rw [State.apllALocked, (Agrees.unfreeze _).clk, ((Agrees.refl _).cond _ _).clk, State.wrN_clk]

theorem State.apllALocked_ctl : s.apllALocked.ctl = s.ctl :=
  (Agrees.unfreeze _).ctl.trans ((Agrees.refl _).cond _ _).ctl

theorem State.apllALocked_hd : s.apllALocked.hd = s.hd :=
  (Agrees.unfreeze _).hd.trans ((Agrees.refl _).cond _ _).hd

theorem State.apllALocked_rdN {r : Reg} (h : r.low) : s.apllALocked.rdN r = (s.wrN Obj.APLLA_STATE 1).rdN r :=
  congrArg Int.toNat (((Agrees.unfreeze _).rd r h).trans (((Agrees.refl _).cond _ _).rd r h))

theorem State.apllALocked_apllA : s.apllALocked.apllA = true := by
  rw [State.apllA, State.apllALocked_rdN _ (show Obj.APLLA_STATE.key < 0xD00000 by decide), State.rdN_wrN_same]
  rfl

theorem State.apllALocked_mode : s.apllALocked.mode = s.mode :=
  (s.apllALocked_rdN (show Obj.MODE_CURRENT.key < 0xD00000 by decide)).trans (s.rdN_wrN_ne _ (by decide))

variable {s}

theorem State.apllALocked_of_frozen (h : s.clk.frozen = true) :
    s.apllALocked.active Src.APLLA_LOL = false ∧ s.apllALocked.active Src.TS_FROZEN = false := by
  rw [State.apllALocked, State.unfreeze_of_frozen (by rw [((Agrees.refl _).cond _ _).clk]; exact h)]
  exact ⟨(State.active_cond_ne _ _ (by decide)).trans (State.active_cond _ _ _), State.active_cond _ _ _⟩

end

theorem exec_apllLock_a {s : State} (hst : s.rdN Obj.APLLA_STATE = 0) (hb : s.base ≠ 3) (h7 : 7 ≤ s.ctl.boot.step) :
    exec (.apllLock .a) s = .next (s.apllALocked.bootLock .a).settle :=
  if_neg fun h => h.elim (· hst) fun h => h.elim hb (Nat.not_lt.mpr h7)

theorem exec_apllLock_b {s : State} (hst : s.rdN Obj.APLLB_STATE = 0) (hb : s.base ≠ 3) (h9 : 9 ≤ s.ctl.boot.step) :
    exec (.apllLock .b) s = .next (((s.wrN Obj.APLLB_STATE 1).cond Src.APLLB_LOL false).bootLock .b).settle :=
  if_neg fun h => h.elim (· hst) fun h => h.elim hb (Nat.not_lt.mpr h9)

theorem State.bootLock_of_other_mode {s : State} (w : Apll) (h : s.mode ≠ Mode.BOOT) : s.bootLock w = s := if_pos h

/-- BOOT step 7 is over: the timescale and FE_CLK's divider run, and step 8 follows at once (Table 2-4). -/
def State.timescaleStarted (s : State) : State :=
  { s with
    clk := { s.clk with running := true }
    gn := { s.gn with fe := some (s.feCompute 0) }
    ctl := { s.ctl with boot := { s.ctl.boot with step := 9 } } }

theorem State.bootLock_a_of_step_seven {s : State} (hm : s.mode = Mode.BOOT) (h7 : s.ctl.boot.step = 7) :
    s.bootLock .a = s.timescaleStarted.coresRun.unlockKeystone :=
  (if_neg (not_not_intro hm)).trans (if_pos h7)

/-- The cores' start shows in their own registers alone. -/
theorem State.coresRun_keeps {β : Sort _} (f : State → β) (s : State)
    (h : ∀ (t : State) (c : Nat), f (t.wrN (Obj.CORE_STATE c) 1) = f t) : f s.coresRun = f s :=
  State.forEach_keeps f _ _ s h

theorem State.coresRun_apllA (s : State) : s.coresRun.apllA = s.apllA :=
  State.coresRun_keeps _ s fun t c =>
    congrArg (· == 1) (t.rdN_wrN_ne 1 (by simp only [Obj.APLLA_STATE, Obj.CORE_STATE, regKey]; omega))

/-! A loss of lock (R180). -/

theorem exec_apllLossOfLock_a {s : State} (h : s.apllA = true) : exec (.apllLossOfLock .a) s = .next (s.apllOut .a).settle :=
  if_pos h

theorem exec_apllLossOfLock_b {s : State} (h : s.apllB = true) : exec (.apllLossOfLock .b) s = .next (s.apllOut .b).settle :=
  if_pos h

theorem State.freeze_of_frozen {s : State} (h : s.clk.frozen = true) : s.freeze = s :=
  if_pos (by rw [h, Bool.or_true])

/-- Settles O35: the configuration writes, the locks in and out of BOOT, and the two losses of lock. -/
theorem apllChangesComplete : Obligations.ApllChangesComplete := by
  refine ⟨?inRange, ?outOfRange, ?lockA, ?bootLockA, ?lockB, fun _ => exec_apllLossOfLock_a, fun _ => exec_apllLossOfLock_b,
    fun _ _ => State.freeze_of_frozen⟩
  case inRange =>
    intro w f v s hfree hlo hhi
    rw [exec_apllConfigWrite w f v hfree, State.apllConfig_of_in_range s hlo hhi]
  case outOfRange =>
    intro w f v s hfree h
    rw [exec_apllConfigWrite w f v hfree, State.apllConfig_of_out_of_range s h]
  case lockA =>
    intro s hst hb h7 hm hf
    obtain ⟨hlol, hts⟩ := State.apllALocked_of_frozen hf
    refine ⟨s.apllALocked, ?_, s.apllALocked_apllA, s.apllALocked_clk, hlol, hts, s.apllALocked_hd, s.apllALocked_ctl⟩
    rw [exec_apllLock_a hst hb h7, State.bootLock_of_other_mode .a (by rwa [s.apllALocked_mode])]
  case bootLockA =>
    intro s hst hb hm h7 hf
    refine ⟨s.apllALocked.timescaleStarted.coresRun, ?_, ?_, ?_, ?_⟩
    · rw [exec_apllLock_a hst hb (Nat.le_of_eq h7.symm),
        State.bootLock_a_of_step_seven (s.apllALocked_mode.trans hm) (by rw [s.apllALocked_ctl, h7])]
    · have hclk : s.apllALocked.clk = s.clk := by rw [s.apllALocked_clk, ← hf]
      rw [State.coresRun_keeps State.clk _ fun _ _ => rfl, State.timescaleStarted, hclk]
    · rw [State.coresRun_keeps State.ctl _ fun _ _ => rfl, State.timescaleStarted]
    · exact (State.coresRun_apllA _).trans s.apllALocked_apllA
  case lockB =>
    intro s hst hb h9 hm
    have hmode : ((s.wrN Obj.APLLB_STATE 1).cond Src.APLLB_LOL false).mode = s.mode :=
      (State.mode_cond _ _ _).trans (s.rdN_wrN_ne _ (by decide))
    rw [exec_apllLock_b hst hb h9, State.bootLock_of_other_mode .b (by rwa [hmode])]

end Sys2Proof.Machine
end

section
/-! PROOFS. The fractional synthesisers and the clock outputs (R179, R183, R184, R186, R188), and their loop-back checks (R197,
R198). -/

namespace Sys2Proof.Machine

/-! FOS_EN, FOS_FREQ and OUT_EN, while the block is not being restored (R184, R186). -/

section
variable {s : State} (hfree : s.restoring 5 = false)
include hfree

theorem exec_fosEnWrite (f : Fin 8) (v : Bool) : exec (.fosEnWrite f v) s = .next (s.setFosEn f v).settle :=
  State.orHeld_of_not_restoring _ _ _ _ _ _ hfree

theorem exec_fosFreqWrite (f : Fin 8) (v : Nat) : exec (.fosFreqWrite f v) s = .next (s.setFosFreq f v).settle :=
  State.orHeld_of_not_restoring _ _ _ _ _ _ hfree

theorem exec_outEnWrite (o : Fin 16) (v : Bool) : exec (.outEnWrite o v) s = .next (s.setOutEn o v).settle :=
  State.orHeld_of_not_restoring _ _ _ _ _ _ hfree

end

/-- FOS `f` as a start loads it (R185). -/
def State.fosStarted (s : State) (f : Nat) : Fos :=
  { Fos.reset with seed := s.rdN (Obj.FOS_SEED f), seeded := s.clk.cycles + s.clk.frozenCycles }

theorem State.setFosEn_rise {s : State} {f : Nat} (h : s.rdB (Obj.FOS_EN f) = false) :
    s.setFosEn f true = (((s.wr (Obj.FOS_EN f) 1).setFos f (s.fosStarted f)).fosCompute f).fosTo f 1 := by
  have hseed : (s.wr (Obj.FOS_EN f) 1).rdN (Obj.FOS_SEED f) = s.rdN (Obj.FOS_SEED f) :=
    s.rdN_wr_ne 1 (by simp only [Obj.FOS_EN, Obj.FOS_SEED, regKey]; omega)
  simp [State.setFosEn, h, State.fosStart, State.fosStarted, hseed, flag]

theorem State.setFosEn_off (s : State) (f : Nat) :
    s.setFosEn f false = ((s.wr (Obj.FOS_EN f) 0).fosTo f 0).cond (Src.FOS_LOL f) false := rfl

section
variable {s : State} {f v : Nat}

theorem State.setFosFreq_of_out_of_range (h : v < 4800000000000000 ∨ 5600000000000000 < v) :
    s.setFosFreq f v = s.rangeReject 5 (Obj.FOS_FREQ f).key := if_pos h

variable (hlo : 4800000000000000 ≤ v) (hhi : v ≤ 5600000000000000)
include hlo hhi

theorem State.setFosFreq_of_in_range :
    s.setFosFreq f v =
      if s.fosState f = 0 then s.wrN (Obj.FOS_FREQ f) v
      else ((s.wrN (Obj.FOS_FREQ f) v).fosFollow f).when (decide (2 ≤ ((s.wrN (Obj.FOS_FREQ f) v).fosFollow f).fosState f))
        (·.fosTo f 2) :=
  if_neg (by omega)

theorem State.setFosFreq_off (h0 : s.fosState f = 0) : s.setFosFreq f v = s.wrN (Obj.FOS_FREQ f) v := by
  rw [State.setFosFreq_of_in_range hlo hhi, if_pos h0]

variable (h0 : s.fosState f ≠ 0)
include h0

/-- A synthesiser that is still locked with its new word is realigned (R188). -/
theorem State.setFosFreq_locked (h : 2 ≤ ((s.wrN (Obj.FOS_FREQ f) v).fosFollow f).fosState f) :
    s.setFosFreq f v = ((s.wrN (Obj.FOS_FREQ f) v).fosFollow f).fosTo f 2 := by
  rw [State.setFosFreq_of_in_range hlo hhi, if_neg h0, decide_eq_true h, State.when_true]

theorem State.setFosFreq_acquiring (h : ((s.wrN (Obj.FOS_FREQ f) v).fosFollow f).fosState f < 2) :
    s.setFosFreq f v = (s.wrN (Obj.FOS_FREQ f) v).fosFollow f := by
  rw [State.setFosFreq_of_in_range hlo hhi, if_neg h0, decide_eq_false (Nat.not_le.mpr h), State.when_false]

end

/-! Lock, loss of lock and the end of an alignment (R179, R184, R185, R188, R202). -/

/-- FOS `f` as a lock leaves it: a lock after another loads the seed again (R185). -/
def State.fosAtLock (s : State) (f : Nat) : Fos :=
  { s.fosOf f with
    relock := false
    again := false
    seed := if (s.fosOf f).again then s.rdN (Obj.FOS_SEED f) else (s.fosOf f).seed
    seeded := if (s.fosOf f).again then s.clk.cycles + s.clk.frozenCycles else (s.fosOf f).seeded }

theorem State.fosLocked_eq (s : State) (f : Nat) :
    s.fosLocked f = (((s.wrN (Obj.FOS_STATE f) 2).cond (Src.FOS_LOL f) false).setFos f (s.fosAtLock f)).when (s.fosOf f).relock
      fun s => (s.stick Obj.SYN_STATUS 4).raise Src.FOS_RELOCK := by
  cases h : (s.fosOf f).again <;> simp [State.fosLocked, State.fosAtLock, h]

theorem exec_fosLock {f : Fin 8} {s : State} (h : s.fosState f = 1) : exec (.fosLock f) s = .next (s.fosLocked f).settle :=
  if_neg (not_not_intro h)

theorem exec_fosLossOfLock {f : Fin 8} {s : State} (h : 2 ≤ s.fosState f) : exec (.fosLossOfLock f) s =
    .next (((s.fosTo f 1).setFos f { (s.fosTo f 1).fosOf f with again := true }).cond (Src.FOS_LOL f) true).settle :=
  if_neg (Nat.not_lt.mpr h)

/-- The residual slew of FOS `f` is over (R188). -/
def State.fosAligned (s : State) (f : Nat) : State :=
  (s.setFos f { s.fosOf f with aligning := false }).wrN (Obj.FOS_STATE f) 3

/-- An output on an aligned synthesiser enters RUN, where it has no loop-back check to pass first (R188). -/
def State.outAligned (s : State) (n : Nat) : State :=
  s.when ((s.outOf n).started && !bitOn (s.rdN (Obj.OUT_CFG n)) 18) (·.setOut n { s.outOf n with run := true })

theorem exec_fosAlignComplete {f : Fin 8} {s : State} (h : s.fosState f = 2) (ha : (s.fosOf f).aligning = true) :
    exec (.fosAlignComplete f) s =
      .next (State.forEach State.outAligned ((s.fosAligned f).alignedOuts f) (s.fosAligned f)).settle :=
  if_neg fun hn => hn.elim (· h) (by simp [ha])

theorem State.outAligned_of_unchecked {s : State} {n : Nat} (hs : (s.outOf n).started = true)
    (hl : bitOn (s.rdN (Obj.OUT_CFG n)) 18 = false) : s.outAligned n = s.setOut n { s.outOf n with run := true } := by
  simp [State.outAligned, hs, hl]

theorem State.rdN_FOS_STATE_fosTo (f n : Nat) (s : State) : (s.fosTo f n).rdN (Obj.FOS_STATE f) = n := State.rdN_wrN_same _ _ _

theorem State.rd_FOS_WORD_fosCompute (f : Nat) (s : State) : (s.fosCompute f).rd (Obj.FOS_WORD f) =
    ((s.rdN (Obj.FOS_FREQ f) : Rat) * ((2 ^ 48 + s.fosTarget f : Int) : Rat) / 250000000000000 + (s.fosOf f).rem).floor :=
  State.rd_wr_same _ _ _

/-! OUT_EN (R186). -/

section
variable {s : State} {n : Nat} (h : s.rdB (Obj.OUT_EN n) = false)
include h

theorem State.setOutEn_of_good (hg : s.outGood n = true) :
    s.setOutEn n true = (s.wr (Obj.OUT_EN n) 1).setOut n { Output.reset with swing := s.rdB (Obj.OUT_HISWING n) } := by
  simp [State.setOutEn, h, hg]

theorem State.setOutEn_of_bad (hg : s.outGood n = false) : s.setOutEn n true = s.rangeReject 5 (Obj.OUT_EN n).key := by
  simp [State.setOutEn, h, hg]

end

theorem State.setOutEn_off (s : State) (n : Nat) :
    s.setOutEn n false = ((s.wr (Obj.OUT_EN n) 0).setOut n Output.reset).cond (Src.OUT_LB_FAIL n) false := rfl

/-! The loop-back gate of each millisecond (R197, R198). -/

section
variable {s s0 s1 : State} (hr : s.reach s.nextGate = some s0)
  (h1 : s1 = { s0 with syn := { s0.syn with gate80 := some s.nextGate } })
include hr h1

theorem exec_loopbackCheck_idle (w : Option Int) (h : s1.calRunning = true ∨ s1.lbNext = none) :
    exec (.loopbackCheck w) s = .next s1.settle := by
  subst h1
  show execLoopbackCheck w s = _
  rcases h with h | h <;> simp [execLoopbackCheck, hr, h]

variable {k : Nat} (hc : s1.calRunning = false) (hk : s1.lbNext = some k)
include hc hk

section
variable {s2 : State} {w : Option Int} (hrun : (s1.channel 45).state = .run)
  (h2 : s2 = { s1 with syn := { s1.syn with gate := k, suspended48 := none, stale := false } })
include hrun h2

/-- With channel 45 in RUN the edge that came is compared with the one expected. -/
theorem exec_loopbackCheck_measured {e : Int} (he : w.bind (s2.lbError k) = some e) :
    exec (.loopbackCheck w) s =
      .next ((s2.wr (if k < 16 then Obj.OUT_LB k else Obj.EVT_LB (k - 16)) (clampAbs (2 ^ 31 - 1) e)).lbResult k
        (decide (e.natAbs * 1000 ≤ s2.rdN Obj.LB_TOL * 65536))).settle := by
  subst h1 h2
  show execLoopbackCheck w s = _
  simp only [execLoopbackCheck, hr, hc, hk, hrun, he, ne_eq, not_true_eq_false, Bool.false_eq_true, if_false]

theorem exec_loopbackCheck_unmeasured (he : w.bind (s2.lbError k) = none) : exec (.loopbackCheck w) s = .next s2.settle := by
  subst h1 h2
  show execLoopbackCheck w s = _
  simp only [execLoopbackCheck, hr, hc, hk, hrun, he, ne_eq, not_true_eq_false, Bool.false_eq_true, if_false]

end

theorem exec_loopbackCheck_suspended {s2 : State} (w : Option Int) (hrun : (s1.channel 45).state ≠ .run)
    (h2 : s2 = { s1 with syn := { s1.syn with gate := k, suspended48 := some (s1.syn.suspended48.getD s1.up48) } }) :
    exec (.loopbackCheck w) s = .next (s2.when s1.syn.stale (·.lbResult k false)).settle := by
  subst h1 h2
  show execLoopbackCheck w s = _
  simp only [execLoopbackCheck, hr, hc, hk, hrun, ne_eq, not_false_eq_true, Bool.false_eq_true, if_false, if_true]

end

theorem State.lbError_of_expected {k : Nat} {w at16 x : Int} {s : State}
    (hat : at16 = (s.now48 / 2 ^ 32 : Nat) + w - s.rd (Obj.CH_OFFSET 45)) (hx : s.lbExpected k at16 = some x) :
    s.lbError k w = some (at16 - x) := by
  subst hat
  rw [State.lbError, hx, Option.map_some]

theorem exec_loopbackStale {t : Nat} {s s1 : State} (hrun : (s.channel 45).state ≠ .run)
    (ht : t = s.syn.suspended48.getD s.up48) (hr : s.runTo (t + s.rdN Obj.LB_STALE * sec48) = some s1) :
    exec .loopbackStale s = .next ({ s1 with syn := { s1.syn with suspended48 := some t, stale := true } } : State).settle := by
  subst ht
  show execLoopbackStale s = _
  simp only [execLoopbackStale, hrun, hr, if_false]

/-! What one failed check of an output does (R198). -/

/-- The checks of output `k` after a failure. -/
def State.lbFailure (s : State) (k : Nat) : Loopback := { s.lbOf k with passes := 0, fails := (s.lbOf k).fails + 1 }

theorem State.lbResult_of_few {k : Nat} {s : State} (h : (s.lbOf k).fails + 1 < s.rdN Obj.LB_FAILS) :
    s.lbResult k false = s.setLb k (s.lbFailure k) := if_pos (.inl h)

/-- A pulse that is cut changes its generator and leaves a mark of it. -/
theorem State.cutPulses_syn (s : State) : s.cutPulses.syn = s.syn := by
  refine State.forEach_keeps State.syn _ _ s fun t n => ?_
  dsimp only
  split <;> rfl

section
variable {s : State} {k : Nat} (hk : k < 16)
include hk

theorem State.lbOf_eq (s : State) : s.lbOf k = (s.outOf k).lb := if_pos hk

theorem State.lbOf_setLb_same (s : State) (x : Loopback) : (s.setLb k x).lbOf k = x := by
  rw [State.setLb, if_pos hk, State.lbOf_eq hk, State.outOf_setOut_same]

/-- The checks of an output are a part of the synthesis. -/
theorem State.lbOf_congr {t : State} (h : t.syn = s.syn) : t.lbOf k = s.lbOf k := by
  rw [State.lbOf_eq hk, State.lbOf_eq hk, State.outOf, State.outOf, h]

/-- The failure that LB_FAILS counts to is the output's: its source begins, and LB_SQUELCH of its configuration squelches it. -/
theorem State.lbResult_of_many (hf : (s.lbOf k).failed = false) (h : s.rdN Obj.LB_FAILS ≤ (s.lbOf k).fails + 1) :
    s.lbResult k false = ((((s.setLb k (s.lbFailure k)).setLb k { s.lbFailure k with
      failed := true, squelched := bitOn (s.rdN (Obj.OUT_CFG k)) 17 }).stick Obj.SYN_STATUS 2).cond (Src.OUT_LB_FAIL k)
        true).cutPulses := by
  have hmany : ¬ ((s.lbOf k).fails + 1 < s.rdN Obj.LB_FAILS ∨ (s.lbOf k).failed = true) := by
    simp [hf, Nat.not_lt.mpr h]
  simp only [State.lbResult, Bool.false_eq_true, if_false, hmany, decide_true, if_true, hk, State.lbOf_setLb_same,
    State.lbFailure]

theorem State.lbOf_lbResult_of_many (hf : (s.lbOf k).failed = false) (h : s.rdN Obj.LB_FAILS ≤ (s.lbOf k).fails + 1) :
    (s.lbResult k false).lbOf k =
      { s.lbFailure k with failed := true, squelched := bitOn (s.rdN (Obj.OUT_CFG k)) 17 } := by
  rw [State.lbResult_of_many hk hf h, State.lbOf_congr hk (State.cutPulses_syn _),
    State.lbOf_congr hk ((Agrees.refl _).cond _ _).syn, State.lbOf_congr hk (State.stick_syn _ _ _), State.lbOf_setLb_same hk]

end

/-- Settles O48: the synthesisers' enables, words, locks and alignment; then the outputs' enables, and the gates of their
loop-back checks with what a failure leads to. -/
theorem outputsComplete : Obligations.OutputsComplete := by
  refine ⟨⟨?fosOn, ?fosOff, ?freqBad, ?freqOff, ?freqRunning, ?lock, ?lossOfLock, ?alignNone, ?alignOne,
      State.rdN_FOS_STATE_fosTo, State.rd_FOS_WORD_fosCompute⟩,
    ⟨?outGood, ?outBad, ?outOff, ?measured, fun _ _ _ _ _ => State.lbError_of_expected, ?noEdge, ?idle, ?suspended,
      fun _ _ _ => exec_loopbackStale, ?failed, fun _ _ _ => State.lbResult_of_few⟩⟩
  case fosOn =>
    rintro f s s1 hfree hoff rfl
    rw [exec_fosEnWrite hfree, State.setFosEn_rise hoff]
    rfl
  case fosOff =>
    intro f s hfree
    rw [exec_fosEnWrite hfree, State.setFosEn_off]
  case freqBad =>
    intro f v s hfree h
    rw [exec_fosFreqWrite hfree, State.setFosFreq_of_out_of_range h]
  case freqOff =>
    intro f v s hfree hlo hhi h0
    rw [exec_fosFreqWrite hfree, State.setFosFreq_off hlo hhi h0]
  case freqRunning =>
    rintro f v s s1 hfree hlo hhi h0 rfl
    refine ⟨fun h => ?_, fun h => ?_⟩
    · rw [exec_fosFreqWrite hfree, State.setFosFreq_locked hlo hhi h0 h]
    · rw [exec_fosFreqWrite hfree, State.setFosFreq_acquiring hlo hhi h0 h]
  case lock =>
    rintro f s _ _ h1 rfl rfl
    refine ⟨fun h => ?_, fun h => ?_⟩
    · rw [exec_fosLock h1, State.fosLocked_eq, h, State.when_true]
      rfl
    · rw [exec_fosLock h1, State.fosLocked_eq, h, State.when_false]
      rfl
  case lossOfLock =>
    rintro f s _ h rfl
    exact exec_fosLossOfLock h
  case alignNone =>
    rintro f s s1 h ha rfl hno
    rw [exec_fosAlignComplete h ha, State.fosAligned, hno]
    rfl
  case alignOne =>
    rintro f n s s1 h ha rfl hn hs hl
    rw [exec_fosAlignComplete h ha, State.fosAligned, hn]
    show Host.Outcome.next (State.outAligned _ n).settle = _
    rw [State.outAligned_of_unchecked hs hl]
  case outGood =>
    intro o s hfree hoff hg
    rw [exec_outEnWrite hfree, State.setOutEn_of_good hoff hg]
  case outBad =>
    intro o s hfree hoff hg
    rw [exec_outEnWrite hfree, State.setOutEn_of_bad hoff hg]
  case outOff =>
    intro o s hfree
    rw [exec_outEnWrite hfree, State.setOutEn_off]
  case measured =>
    intro k w e s s0 s1 s2 hr h1 hc hk h16 hrun h2 he
    rw [exec_loopbackCheck_measured (w := some w) hr h1 hc hk hrun h2 he, if_pos h16]
  case noEdge =>
    intro k s s0 s1 hr h1 hc hk hrun
    exact exec_loopbackCheck_unmeasured hr h1 hc hk hrun rfl rfl
  case idle =>
    intro w s s0 s1 hr h1 h
    exact exec_loopbackCheck_idle hr h1 w h
  case suspended =>
    intro k w s s0 s1 s2 hr h1 hc hk hrun h2
    rw [exec_loopbackCheck_suspended hr h1 hc hk w hrun h2]
    exact ⟨fun h => by rw [h, State.when_true], fun h => by rw [h, State.when_false]⟩
  case failed =>
    intro k s hk hf h
    rw [State.lbOf_lbResult_of_many hk hf h]
    exact ⟨rfl, rfl⟩

end Sys2Proof.Machine
end

section
/-! PROOFS. The event generators' enables, calibrations and queues (R191, R192, R194, R200). -/

namespace Sys2Proof.Machine

/-! Host writes to the block, while it is not being restored. -/

section
variable {s : State} (hfree : s.restoring 6 = false)
include hfree

theorem exec_evtEnWrite (e : Fin 16) (v : Bool) : exec (.evtEnWrite e v) s = .next (s.setEvtEn e v).settle :=
  State.orHeld_of_not_restoring _ _ _ _ _ _ hfree

theorem exec_evtEntPush (l : Link) (e : Fin 16) : exec (.evtEntPush l e) s = .next (s.push l e).settle :=
  State.orHeld_of_not_restoring _ _ _ _ _ _ hfree

theorem exec_evtQFlush (e : Fin 16) : exec (.evtQFlush e) s = .next (s.flush e).settle :=
  State.orHeld_of_not_restoring _ _ _ _ _ _ hfree

theorem exec_evEnableWrite (v : Bool) : exec (.evEnableWrite v) s = .next (s.setEvEnable v).settle :=
  State.orHeld_of_not_restoring _ _ _ _ _ _ hfree

end

/-! EVT_EN (R191, R194, R200). -/

theorem State.setEvtEn_off (s : State) (e : Nat) : s.setEvtEn e false = s.evtOff e := rfl

/-- A generator that is OFF, by its enable or by a block reset, begins its calibration. -/
theorem State.setEvtEn_of_good {s : State} {e : Nat} (hoff : s.rdB (Obj.EVT_EN e) = false ∨ s.evtState e = 0)
    (hen : s.rdB Obj.EV_ENABLE = true) (hg : s.evtProgramme e = false ∨ s.programmeGood e = true) :
    s.setEvtEn e true = ((s.wr (Obj.EVT_EN e) 1).wrN (Obj.EVT_STATE e) 1).setEvt e
      { s.evt e with calStart48 := s.up48, lb := Loopback.reset } := by
  have hrun : (s.rdB (Obj.EVT_EN e) && s.evtState e != 0) = false := by
    rcases hoff with h | h <;> simp [h]
  have hbad : (!s.rdB Obj.EV_ENABLE || (s.evtProgramme e && !s.programmeGood e)) = false := by
    rcases hg with h | h <;> simp [h, hen]
  simp only [State.setEvtEn, hrun, hbad, Bool.not_true, Bool.false_eq_true, if_false]

theorem State.setEvtEn_of_bad {s : State} {e : Nat} (hoff : s.rdB (Obj.EVT_EN e) = false)
    (hbad : s.rdB Obj.EV_ENABLE = false ∨ (s.evtProgramme e = true ∧ s.programmeGood e = false)) :
    s.setEvtEn e true = s.rangeReject 6 (Obj.EVT_EN e).key := by
  have hbad' : (!s.rdB Obj.EV_ENABLE || (s.evtProgramme e && !s.programmeGood e)) = true := by
    rcases hbad with h | ⟨hp, hg⟩
    · simp [h]
    · simp [hp, hg]
  simp only [State.setEvtEn, hoff, hbad', Bool.not_true, Bool.false_and, Bool.false_eq_true, if_false, if_true]

/-! The end of a calibration (R191). -/

theorem State.evtProgramme_wrN_EVT_STATE (s : State) (e v : Nat) :
    (s.wrN (Obj.EVT_STATE e) v).evtProgramme e = s.evtProgramme e :=
  congrArg (bitOn · 0) (s.rdN_wrN_ne v (by simp only [Obj.EVT_CFG, Obj.EVT_STATE, regKey]; omega))

section
variable {e : Fin 16} {s s1 : State} (h : s.evtState e = 1) (hr : s.runTo ((s.evt e).calStart48 + ms48 16) = some s1)
include h hr

/-- It ends in RUN, where a programme takes up at its first edge that is not past. -/
theorem exec_evtCalComplete_good (h45 : (s1.channel 45).state = .run) : exec (.evtCalComplete e true) s =
    .next ((s1.wrN (Obj.EVT_STATE e) 2).when (s1.evtProgramme e) (·.anchor e)).settle := by
  show execEvtCalComplete e true s = _
  simp [execEvtCalComplete, h, hr, h45, State.evtProgramme_wrN_EVT_STATE]

theorem exec_evtCalComplete_bad {good : Bool} (hbad : good = false ∨ (s1.channel 45).state ≠ .run) :
    exec (.evtCalComplete e good) s = .next ((s1.wrN (Obj.EVT_STATE e) 4).raise Src.EVT_CAL_FAIL).settle := by
  show execEvtCalComplete e good s = _
  rcases hbad with hb | hb <;> simp [execEvtCalComplete, h, hr, hb]

end

/-! A push (R192). -/

theorem State.push_of_refused {s : State} {l : Link} {e : Nat} (h : s.pushResult e (s.staged l e) ≠ 0) :
    s.push l e = (s.wrN (Obj.EVT_PUSH_RESULT (linkCode l) e) (s.pushResult e (s.staged l e))).stick Obj.EV_STATUS 2 := if_pos h

/-- Outside UNDERRUN an entry that is taken joins the queue, and nothing else changes. -/
theorem State.push_of_taken {s : State} {l : Link} {e : Nat} (h : s.pushResult e (s.staged l e) = 0) (h3 : s.evtState e ≠ 3) :
    s.push l e = (s.wrN (Obj.EVT_PUSH_RESULT (linkCode l) e) 0).setEvt e
      { s.evt e with queue := (s.evt e).queue ++ [s.staged l e] } := by
  cases hg : s.groupOf e <;> simp [State.push, h, h3, hg]

/-! The outcome of a push, in the order of log entry 17. -/

theorem State.pushResult_of_programme {s : State} {e : Nat} (x : EvEntry) (h : s.evtProgramme e = true) : s.pushResult e x = 5 :=
  if_pos h

section
variable {s : State} {e : Nat} {x : EvEntry} (hq : s.evtProgramme e = false) (hx : x.kind = 2 ∨ x.kind = 3)
include hq hx

theorem State.pushResult_of_full (h : 64 ≤ (s.evt e).queue.length) : s.pushResult e x = 1 := by
  have hkind : ¬ (x.kind = 0 ∨ (x.kind = 1 ∧ x.width9 < 1024)) := by omega
  simp only [State.pushResult, hq, hkind, h, Bool.false_eq_true, if_false, if_true]

/-- An entry in time is out of order where it lies less than 2 ns behind the last edge before it. -/
theorem State.pushResult_of_room {y : EvEntry} (hroom : (s.evt e).queue.length < 64)
    (hy : (s.evt e).queue.getLast?.or (s.evt e).last = some y) (ht : s.now48 + 2000 * ns48 ≤ s.entryAt32 e x * 2 ^ 16) :
    s.pushResult e x = if s.entryAt32 e x < s.entryEnd32 e y + 2 * 2 ^ 32 then 2 else 0 := by
  have hkind : ¬ (x.kind = 0 ∨ (x.kind = 1 ∧ x.width9 < 1024)) := by omega
  simp only [State.pushResult, hq, hkind, Nat.not_le.mpr hroom, Int.not_lt.mpr ht, hy, Bool.false_eq_true, if_false]

end

/-! A flush, and EV_ENABLE (R191, R192, R200). -/

theorem State.evt_toIdle_same (s : State) (e : Nat) : (s.toIdle e).evt e = { s.evt e with active := false } := by
  unfold State.toIdle
  dsimp only
  split
  · exact State.evt_setEvt_same _ _ _
  · next h => rw [← Bool.eq_false_iff.mpr h]

theorem State.evt_flush_same (s : State) (e : Nat) :
    (s.flush e).evt e = { s.evt e with active := false, queue := [], last := none } := by
  rw [State.flush, State.evt_setEvt_same, State.evt_toIdle_same]

theorem State.setEvEnable_on (s : State) : s.setEvEnable true = s.wr Obj.EV_ENABLE 1 := rfl

theorem State.setEvEnable_off (s : State) : s.setEvEnable false =
    State.forEach State.evtOff (List.range 16) (((((s.wr Obj.EV_ENABLE 0).setGrpEn 0 false).setGrpEn 1 false).setGrpEn 2
      false).setGrpEn 3 false) := by
  have hgroups : List.range 4 = [0, 1, 2, 3] := by decide
  simp only [State.setEvEnable, Bool.false_eq_true, if_false, hgroups, State.forEach, List.foldl_cons, List.foldl_nil, flag]

/-- Settles O49: EVT_EN, the end of a calibration, the pushes with their outcomes, a flush, and EV_ENABLE. -/
theorem eventQueuesComplete : Obligations.EventQueuesComplete := by
  refine ⟨?enGood, ?enBad, ?enOff, ?calRun, ?calProgramme, fun _ _ _ _ h hr => exec_evtCalComplete_bad h hr, ?refused,
    ?taken, ?order, fun _ x _ => State.pushResult_of_programme x, fun _ _ _ => State.pushResult_of_full, ?flush, ?evOn, ?evOff⟩
  case enGood =>
    rintro e s _ hfree hoff hen hg rfl
    rw [exec_evtEnWrite hfree, State.setEvtEn_of_good hoff hen hg]
  case enBad =>
    intro e s hfree hoff hbad
    rw [exec_evtEnWrite hfree, State.setEvtEn_of_bad hoff hbad]
  case enOff =>
    intro e s hfree
    rw [exec_evtEnWrite hfree, State.setEvtEn_off]
  case calRun =>
    intro e s s1 h hr hp h45
    rw [exec_evtCalComplete_good h hr h45, hp, State.when_false]
  case calProgramme =>
    intro e s s1 h hr hp h45
    rw [exec_evtCalComplete_good h hr h45, hp, State.when_true]
  case refused =>
    rintro l e _ s hfree rfl h
    rw [exec_evtEntPush hfree, State.push_of_refused h]
  case taken =>
    rintro l e _ s _ hfree rfl h h3 rfl
    rw [exec_evtEntPush hfree, State.push_of_taken h h3, State.evt_wrN]
  case order =>
    intro e x y s hq hx hroom hy ht
    rw [State.pushResult_of_room hq hx hroom hy ht]
    simp
  case flush =>
    intro e s hfree
    rw [exec_evtQFlush hfree, State.evt_flush_same]
    exact ⟨rfl, rfl, rfl⟩
  case evOn =>
    intro s hfree
    rw [exec_evEnableWrite hfree, State.setEvEnable_on]
  case evOff =>
    intro s hfree
    rw [exec_evEnableWrite hfree, State.setEvEnable_off]

end Sys2Proof.Machine
end

section
/-! PROOFS. The edges of queues and programmes (R190, R193, R194), and the aligned groups (R195, R196, R200). -/

namespace Sys2Proof.Machine

theorem State.when_beq (s : State) (a b : Nat) (p : State → State) : s.when (a == b) p = if a = b then p s else s := by
  simp [State.when]

/-! The next edge of the entry at the head of a queue (R193). -/

section
variable {e : Fin 16} {x : EvEntry} {r : List EvEntry} {s s1 : State} {b : Int} (hq : (s.evt e).queue = x :: r)
include hq

section
variable (hx : x.begun = false) (hb : b = s.ball9 e (s.entryAt32 e x)) (hr : s.reach (b / 512).toNat = some s1)
include hx hb hr

theorem exec_evtQueueEdge_first (h : s.now80 ≤ (b / 512).toNat) :
    exec (.evtQueueEdge e) s = .next (s1.headEdge e x).settle := by
  subst hb
  show execEvtQueueEdge e s = _
  simp only [execEvtQueueEdge, hq, hx, hr, Nat.not_lt.mpr h, Bool.false_eq_true, if_false]

theorem exec_evtQueueEdge_first_past (h : (b / 512).toNat < s.now80) :
    exec (.evtQueueEdge e) s = .next ((s1.popEntry e).lateDrop e).settle := by
  subst hb
  show execEvtQueueEdge e s = _
  simp only [execEvtQueueEdge, hq, hx, hr, h, Bool.false_eq_true, if_false, if_true]

end

variable (hx : x.begun = true) (hb : b = s.ball9 e (s.entryEnd32 e x)) (hr : s.reach (b / 512).toNat = some s1)
include hx hb hr

theorem exec_evtQueueEdge_last (h : s.now80 ≤ (b / 512).toNat) : exec (.evtQueueEdge e) s =
    .next ((if s1.evtCauses e = 0 then s1.drive e false b.toNat else s1).popEntry e).settle := by
  subst hb
  show execEvtQueueEdge e s = _
  simp only [execEvtQueueEdge, hq, hx, hr, Nat.not_lt.mpr h, if_false, if_true, State.when_beq]

/-- A pulse whose last edge is past ends without it. -/
theorem exec_evtQueueEdge_last_past (h : (b / 512).toNat < s.now80) :
    exec (.evtQueueEdge e) s = .next ((s1.toIdle e).popEntry e).settle := by
  subst hb
  show execEvtQueueEdge e s = _
  simp only [execEvtQueueEdge, hq, hx, hr, h, if_true]

end

/-! What the head entry's first edge comes to (R193, R195): in RUN, outside every group, and before RUN. -/

/-- A pulse stays at the head, with its instant resolved, until its last edge. -/
def State.pulseBegun (s : State) (e : Nat) (x : EvEntry) : State :=
  let s1 := s.drive e true (s.ball9 e (s.entryAt32 e x)).toNat
  s1.setEvt e { s1.evt e with queue := s.resolved e x :: (s1.evt e).queue.tail }

section
variable {e : Nat} {x : EvEntry} {s : State} (h2 : s.evtState e = 2) (hg : s.groupOf e = none)
include h2 hg

theorem State.headEdge_of_run : s.headEdge e x =
    if s.evtCauses e ≠ 0 then (s.popEntry e).suppress e
    else if x.kind = 1 then s.pulseBegun e x
    else (s.drive e (x.kind == 2) (s.ball9 e (s.entryAt32 e x)).toNat).popEntry e := by
  simp only [State.headEdge, State.pulseBegun, h2, hg]
  rfl

theorem State.headEdge_of_squelch (hc : s.evtCauses e ≠ 0) : s.headEdge e x = (s.popEntry e).suppress e := by
  rw [State.headEdge_of_run h2 hg, if_pos hc]

variable (hc : s.evtCauses e = 0)
include hc

theorem State.headEdge_of_pulse (hx : x.kind = 1) : s.headEdge e x = s.pulseBegun e x := by
  rw [State.headEdge_of_run h2 hg, if_neg (not_not_intro hc), if_pos hx]

theorem State.headEdge_of_level (hx : x.kind ≠ 1) :
    s.headEdge e x = (s.drive e (x.kind == 2) (s.ball9 e (s.entryAt32 e x)).toNat).popEntry e := by
  rw [State.headEdge_of_run h2 hg, if_neg (not_not_intro hc), if_neg hx]

end

/-- In OFF and in CAL no group's boundary is waited for, and the entry is late (log entry 114). -/
theorem State.headEdge_before_run {e : Nat} (x : EvEntry) {s : State} (h : s.evtState e < 2) :
    s.headEdge e x = (s.popEntry e).lateDrop e := by
  have h3 : s.evtState e ≠ 3 := by omega
  have h01 : s.evtState e = 0 ∨ s.evtState e = 1 := by omega
  cases hg : s.groupOf e with
  | none => simp [State.headEdge, hg, h3, h01]
  | some k => simp [State.headEdge, hg, h3, beq_false_of_ne h3, ← or_assoc, h01]

/-- The edge leaves the ball and is counted (R190). -/
theorem State.drive_of_change {e : Nat} {active : Bool} {s : State} (b : Nat) (h : (s.evt e).active ≠ active) :
    s.drive e active b =
      ((s.setEvt e { s.evt e with active := active }).emit (.eventEdge e active b)).count (0x1C0 + e) 1 := if_neg h

/-! The next edge of a programme (R193, R194). -/

/-- The instant of a programme's next edge, in 2^-9 ns. -/
def State.programmeAt9 (s : State) (e : Nat) : Nat :=
  recur9 (s.programmeBase9 e) (s.rdN (Obj.EVT_PRG_S e)) (s.rdN (Obj.EVT_PRG_N e)) (s.evt e).edge +
    if (s.evt e).falling then s.rdN (Obj.EVT_PRG_WIDTH e) else 0

section
variable {e : Fin 16} {s s1 s2 : State} {b : Int} (h2 : s.evtState e = 2) (hp : s.evtProgramme e = true)
  (hb : b = s.ball9 e (s.programmeAt9 e * 2 ^ 23)) (hr : s.reach (b / 512).toNat = some s1)
include h2 hp hb hr

theorem exec_evtProgrammeEdge_past (h : (b / 512).toNat < s.now80) :
    exec (.evtProgrammeEdge e) s = .next ((s1.toIdle e).anchor e).settle := by
  rw [State.programmeAt9] at hb
  have hgoes : ¬ (s.evtState e ≠ 2 ∨ s.evtProgramme e = false) := by simp [h2, hp]
  show execEvtProgrammeEdge e s = _
  simp only [execEvtProgrammeEdge, hgoes, ← hb, hr, h, if_false, if_true]

theorem exec_evtProgrammeEdge_due (h : s.now80 ≤ (b / 512).toNat)
    (hs2 : s2 = if s1.evtCauses e = 0 then s1.drive e (!(s.evt e).falling) b.toNat else s1) :
    exec (.evtProgrammeEdge e) s = .next (s2.setEvt e { s2.evt e with
      falling := !(s.evt e).falling
      edge := if (s.evt e).falling then (s.evt e).edge + 1 else (s.evt e).edge }).settle := by
  rw [State.programmeAt9] at hb
  have hgoes : ¬ (s.evtState e ≠ 2 ∨ s.evtProgramme e = false) := by simp [h2, hp]
  have hdriven : (s1.when (s1.evtCauses e == 0) fun s' => s'.drive e (!(s.evt e).falling) b.toNat) = s2 := by
    rw [State.when_beq, hs2]
  show execEvtProgrammeEdge e s = _
  simp only [execEvtProgrammeEdge, hgoes, ← hb, hr, Nat.not_lt.mpr h, hdriven, if_false]

end

/-! GRP_EN, while the block is not being restored (R195, R200). -/

theorem exec_grpEnWrite (g : Fin 4) (v : Bool) {s : State} (h : s.restoring 6 = false) :
    exec (.grpEnWrite g v) s = .next (s.setGrpEn g v).settle := State.orHeld_of_not_restoring _ _ _ _ _ _ h

/-- A member of group `g` belongs to another group that is enabled (R195). -/
def State.groupClash (s : State) (g : Nat) : Bool :=
  (List.range 4).any fun h => h != g && s.rdB (Obj.GRP_EN h) && (s.rdN (Obj.GRP_MEMBERS h) &&& s.rdN (Obj.GRP_MEMBERS g)) != 0

theorem State.groupClash_of_disjoint {s : State} {g : Nat} (h : ∀ k, k < 4 → k ≠ g → s.rdB (Obj.GRP_EN k) = true →
    s.rdN (Obj.GRP_MEMBERS k) &&& s.rdN (Obj.GRP_MEMBERS g) = 0) : s.groupClash g = false := by
  simpa [State.groupClash, List.any_eq_false, and_imp] using h

section
variable {s : State} {g : Nat} (hoff : s.rdB (Obj.GRP_EN g) = false)
include hoff

theorem State.setGrpEn_on : s.setGrpEn g true =
    if !s.rdB Obj.EV_ENABLE || s.groupClash g || decide (s.rdN (Obj.GRP_START g) < s.now80 + 1000000) then
      s.rangeReject 6 (Obj.GRP_EN g).key
    else ((s.wr (Obj.GRP_EN g) 1).setGroupNext g 0).regroup (s.rdN (Obj.GRP_MEMBERS g)) := by
  rw [State.groupClash]
  simp only [State.setGrpEn, hoff, Bool.not_true, Bool.false_eq_true, if_false]

theorem State.setGrpEn_of_good (hen : s.rdB Obj.EV_ENABLE = true) (hd : s.groupClash g = false)
    (hst : s.now80 + 1000000 ≤ s.rdN (Obj.GRP_START g)) :
    s.setGrpEn g true = ((s.wr (Obj.GRP_EN g) 1).setGroupNext g 0).regroup (s.rdN (Obj.GRP_MEMBERS g)) := by
  rw [State.setGrpEn_on hoff, hen, hd, decide_eq_false (Nat.not_lt.mpr hst)]
  rfl

theorem State.setGrpEn_of_bad (hbad : s.rdB Obj.EV_ENABLE = false ∨ s.rdN (Obj.GRP_START g) < s.now80 + 1000000) :
    s.setGrpEn g true = s.rangeReject 6 (Obj.GRP_EN g).key := by
  rw [State.setGrpEn_on hoff, if_pos]
  rcases hbad with h | h <;> simp [h]

end

theorem State.setGrpEn_off {s : State} {g : Nat} (hon : s.rdB (Obj.GRP_EN g) = true) : s.setGrpEn g false = s.groupOff g :=
  if_pos hon

/-! A boundary of a group (R196). -/

theorem exec_groupBoundary {g : Fin 4} {s s1 : State} {b : Nat} (hen : s.rdB (Obj.GRP_EN g) = true)
    (hb : b = s.boundary9 g (s.groupNext g)) (hr : s.reach (b / 512) = some s1) :
    exec (.groupBoundary g) s =
      .next ((State.forEach (State.memberBoundary g b) (List.range 16) s1).setGroupNext g (s.groupNext g + 1)).settle := by
  subst hb
  show execGroupBoundary g s = _
  simp only [execGroupBoundary, hen, hr, Bool.not_true, Bool.false_eq_true, if_false]

theorem State.memberBoundary_of_outsider {g e : Nat} (b : Nat) {s : State} (h : bitOn (s.rdN (Obj.GRP_MEMBERS g)) e = false) :
    State.memberBoundary g b s e = s :=
  if_pos (by rw [h]; rfl)

/-- The bookkeeping does not touch the state of a generator. -/
theorem Agrees.evtState {s t : State} {e : Nat} (h : Agrees s t) (he : e < 16) : t.evtState e = s.evtState e :=
  congrArg Int.toNat (h.rd _ (by simp only [Reg.low, Obj.EVT_STATE, regKey]; omega))

/-- A member in RUN whose queue is empty goes to UNDERRUN: its group marks it, and the underrun is counted and reported. -/
theorem State.memberBoundary_of_empty {g e : Nat} (b : Nat) {s : State} (hm : bitOn (s.rdN (Obj.GRP_MEMBERS g)) e = true)
    (hp : s.evtProgramme e = false) (h2 : s.evtState e = 2) (hq : (s.evt e).queue = []) :
    State.memberBoundary g b s e = ((((((s.toIdle e).wrN (Obj.EVT_STATE e) 3).wrN (Obj.GRP_UNDERRUN g)
      (setBit (s.rdN (Obj.GRP_UNDERRUN g)) e)).stick Obj.EV_STATUS 3).raise Src.EVT_UNDERRUN).count 0x1D0 1).underrunNotice
        g e 0 b := by
  simp [State.memberBoundary, hm, hp, h2, hq]

/-- What marks and reports an underrun leaves the generator's state alone. -/
theorem State.evtState_memberBoundary_of_empty {g e : Nat} (b : Nat) {s : State} (he : e < 16)
    (hm : bitOn (s.rdN (Obj.GRP_MEMBERS g)) e = true) (hp : s.evtProgramme e = false) (h2 : s.evtState e = 2)
    (hq : (s.evt e).queue = []) : (State.memberBoundary g b s e).evtState e = 3 := by
  rw [State.memberBoundary_of_empty b hm hp h2 hq, State.underrunNotice,
    (((Agrees.refl _).raise _).count _ _ |>.notice _ _ _ _).evtState he, State.evtState, State.stick,
    State.rdN_wrN_ne _ _ (by simp only [Obj.EV_STATUS, Obj.EVT_STATE, regKey]; omega),
    State.rdN_wrN_ne _ _ (by simp only [Obj.GRP_UNDERRUN, Obj.EVT_STATE, regKey]; omega), State.rdN_wrN_same]

/-- Settles O50: the edges of queues, entries and programmes, the groups' enables, and a boundary with its members. -/
theorem edgesAndGroupsComplete : Obligations.EdgesAndGroupsComplete := by
  refine ⟨?firstEdge, ?lastEdge, ?entry, fun _ x _ => State.headEdge_before_run x, fun _ b _ _ => State.drive_of_change b,
    ?rising, ?falling, ?groupOn, ?groupBad, ?groupOff, fun _ _ _ _ => exec_groupBoundary, ?member,
    fun _ b _ _ => State.memberBoundary_of_outsider b⟩
  case firstEdge =>
    intro e x r s s1 b hq hx hb hr
    exact ⟨exec_evtQueueEdge_first hq hx hb hr, exec_evtQueueEdge_first_past hq hx hb hr⟩
  case lastEdge =>
    intro e x r s s1 b hq hx hb hr
    refine ⟨exec_evtQueueEdge_last_past hq hx hb hr, fun h hc => ?_, fun h hc => ?_⟩
    · rw [exec_evtQueueEdge_last hq hx hb hr h, if_pos hc]
    · rw [exec_evtQueueEdge_last hq hx hb hr h, if_neg hc]
  case entry =>
    rintro e _ x s _ h2 hg rfl rfl
    refine ⟨State.headEdge_of_squelch h2 hg, fun hc hx => ?_, fun hc hx => ?_, State.headEdge_of_pulse h2 hg⟩
    · rw [State.headEdge_of_level h2 hg hc (by omega), hx]
      rfl
    · rw [State.headEdge_of_level h2 hg hc (by omega), hx]
      rfl
  case rising =>
    intro e s s1 s2 b h2 hp hf hb hr hs2
    have hb' : b = s.ball9 e (s.programmeAt9 e * 2 ^ 23) := by
      rw [hb, State.programmeAt9, hf, if_neg Bool.false_ne_true, Nat.add_zero]
    refine ⟨exec_evtProgrammeEdge_past h2 hp hb' hr, fun h => ?_⟩
    rw [exec_evtProgrammeEdge_due h2 hp (s2 := s2) hb' hr h (by rw [hs2, hf, Bool.not_false]), hf]
    rfl
  case falling =>
    intro e s s1 s2 b h2 hp hf hb hr hs2
    have hb' : b = s.ball9 e (s.programmeAt9 e * 2 ^ 23) := by
      rw [hb, State.programmeAt9, hf, if_pos rfl]
    refine ⟨exec_evtProgrammeEdge_past h2 hp hb' hr, fun h => ?_⟩
    rw [exec_evtProgrammeEdge_due h2 hp (s2 := s2) hb' hr h (by rw [hs2, hf, Bool.not_true]), hf]
    rfl
  case groupOn =>
    intro g s hfree hoff hen hd hst
    rw [exec_grpEnWrite g true hfree, State.setGrpEn_of_good hoff hen (State.groupClash_of_disjoint hd) hst]
  case groupBad =>
    intro g s hfree hoff hbad
    rw [exec_grpEnWrite g true hfree, State.setGrpEn_of_bad hoff hbad]
  case groupOff =>
    intro g s hfree hon
    rw [exec_grpEnWrite g false hfree, State.setGrpEn_off hon]
  case member =>
    intro g b e s _ he hm hp h2 hq
    exact State.evtState_memberBoundary_of_empty b he hm hp h2 hq

end Sys2Proof.Machine
end

section
/-! PROOFS. The GNSS baseband's streams, acquisition and tracking channels, and the writes that start and stop its receivers (R204,
R206 to R210, R216, R218, R222, R224, R226). -/

namespace Sys2Proof.Machine

/-! Streams (R204, R206, R207, R222). -/

theorem exec_feStreamLoss {b : Fin 4} {s : State} (h : s.feState b = 2) :
    exec (.feStreamLoss b) s = .next ((((s.wrN (Obj.FE_STATE b) 3).stick Obj.GN_STATUS 3).cond (Src.GN_STREAM_LOSS b) true).bandCoast
      b).settle := if_neg (not_not_intro h)

/-- The stream of a band that waits for one, or has lost its own, runs again under a locked APLL-A. -/
theorem exec_feStreamReturn {b : Fin 4} {s : State} (h : s.feState b = 1 ∨ s.feState b = 3) (ha : s.apllA = true) :
    exec (.feStreamReturn b) s =
      .next (((s.bandSearch b).wrN (Obj.FE_STATE b) 2).cond (Src.GN_STREAM_LOSS b) false).settle := by
  refine if_neg ?_
  rintro (h0 | h2 | hoff)
  · omega
  · omega
  · simp [ha] at hoff

theorem State.feSample_of_twosComplement {s : State} {b : Nat} (i q : BitVec 4) (h : bitOn (s.rdN (Obj.FE_CFG b)) 0 = false) :
    s.feSample b i q = (i.toInt, if bitOn (s.rdN (Obj.FE_CFG b)) 2 then -q.toInt else q.toInt) := by
  simp only [State.feSample, fePart, h, Bool.false_eq_true, if_false]

theorem State.feClk_of_unlocked {s : State} (h : s.apllA = false) : s.feClk = none := by
  simp [State.feClk, h]

/-! Acquisition (R208, R209). -/

section
variable {r : Fin 2} {g : Fin 9} {sv : BitVec 8} {s : State} (hmay : s.maySearch r g sv.toNat = true)
include hmay

/-- A search takes its time on the engine that is free first, and a detection is handed on. -/
theorem exec_acqSearchComplete_of_search (x : SearchEnd) {s1 : State} (hno : s.handover r g sv.toNat = none)
    (hr : s.runTo (s.searchEnd r g sv.toNat) = some s1) :
    exec (.acqSearchComplete r g sv x) s = .next (s1.engineDone.when (s1.detects r g sv.toNat x)
      fun t => t.detected r g sv.toNat (t.cellFound g x)).settle := by
  show execAcqSearchComplete r g sv x s = _
  simp only [execAcqSearchComplete, hmay, hno, hr, Bool.not_true, Bool.false_eq_true, if_false]

theorem exec_acqSearchComplete_of_handover (x : SearchEnd) {o : Oscillators} (ho : s.handover r g sv.toNat = some o) :
    exec (.acqSearchComplete r g sv x) s = .next (s.detected r g sv.toNat o).settle := by
  show execAcqSearchComplete r g sv x s = _
  simp only [execAcqSearchComplete, hmay, ho, Bool.not_true, Bool.false_eq_true, if_false]

end

theorem State.detects_iff (s : State) (r g sv : Nat) (x : SearchEnd) : s.detects r g sv x = true ↔
    (x.confirmed = true ∧ s.rdN Obj.ACQ_THRESH < x.power ∧ s.inWindow r g sv x.doppler x.code = true) := by
  simp only [State.detects, Bool.and_eq_true, decide_eq_true_eq, and_assoc]

theorem State.detected_of_free {s : State} {r c : Nat} (g sv : Nat) (o : Oscillators) (h : s.freeChannel r = some c) :
    s.detected r g sv o = s.assign c r g sv o := by
  simp only [State.detected, h]

theorem State.detected_of_full {s : State} {r : Nat} (g sv : Nat) (o : Oscillators) (h : s.freeChannel r = none) :
    s.detected r g sv o = ({ s with gn := { s.gn with waiting := s.gn.waiting ++ [⟨r, g, sv, s.up48, o⟩] } } : State) := by
  simp only [State.detected, h]

theorem State.dopplerWindow_of_aided {s : State} {r : Nat} (g sv : Nat) (h : s.aided r = true) :
    s.dopplerWindow r g sv = (s.rdN Obj.ACQ_AID_FMARGIN : Rat) + (carrierHz g sv : Rat) * s.freqSpread := if_pos h

theorem State.dopplerWindow_of_cold {s : State} {r : Nat} (g sv : Nat) (h : s.aided r = false) :
    s.dopplerWindow r g sv = (s.rdN Obj.ACQ_COLD_WIN : Rat) := by
  simp [State.dopplerWindow, h]

/-- A cold search tries the whole code in half chips. -/
theorem State.hypotheses_of_cold {s : State} {r : Nat} (g : Nat) (h : s.aided r = false) :
    s.hypotheses r g = 2 * (signalCode g).1 := by
  simp [State.hypotheses, h]

/-- The channel that a detection takes is the lowest one in IDLE, while the receiver has fewer than its quota. -/
theorem State.freeChannel_eq_some {s : State} {r c : Nat} (h : s.freeChannel r = some c) :
    s.trkState c = 0 ∧ (∀ d < c, s.trkState d ≠ 0) ∧ (s.rxChannels r).length < s.rdN (Obj.RX_CH_QUOTA r) := by
  rw [State.freeChannel, Option.ite_none_right_eq_some, List.find?_range_eq_some] at h
  obtain ⟨hquota, hidle, -, hlower⟩ := h
  exact ⟨by simpa using hidle, fun d hd => by simpa using hlower d hd, hquota⟩

theorem exec_acqDetectionExpire {d : Detection} {rest : List Detection} {s s1 : State} (hw : s.gn.waiting = d :: rest)
    (hr : s.runTo (d.at48 + sec48) = some s1) :
    exec .acqDetectionExpire s = .next ({ s1 with gn := { s1.gn with waiting := rest } } : State).settle := by
  show execAcqDetectionExpire s = _
  simp only [execAcqDetectionExpire, hw, hr]

/-! Tracking channels (Table 9-3). -/

theorem exec_trkPullInSuccess {c : Fin 192} {s s1 : State} (h : s.trkState c = 1)
    (hr : s.runTo ((s.tracker c).since48 + ms48 500) = some s1) :
    exec (.trkPullInSuccess c) s = .next (s1.trkTo c 2).settle := by
  show execTrkPullInSuccess c s = _
  simp [execTrkPullInSuccess, h, hr]

theorem exec_trkPullInTimeout {c : Fin 192} {s s1 : State} (h : s.trkState c = 1)
    (hr : s.runTo ((s.tracker c).since48 + 2 * sec48) = some s1) :
    exec (.trkPullInTimeout c) s = .next (s1.trkIdle c).settle := by
  show execTrkPullInTimeout c s = _
  simp [execTrkPullInTimeout, h, hr]

theorem exec_trkSignalLoss {c : Fin 192} {s : State} (h : s.trkState c = 2) :
    exec (.trkSignalLoss c) s = .next (s.trkTo c 3).settle := if_pos h

theorem exec_trkCoastRecover {c : Fin 192} {s : State} (h : s.trkState c = 3)
    (hsoon : s.up48 ≤ (s.tracker c).since48 + 2 * sec48) (hrun : s.feState (s.trkBand c) = 2)
    (hsafe : s.bandUnsafe (s.trkBand c) = false) : exec (.trkCoastRecover c) s = .next (s.trkTo c 1).settle :=
  if_pos ⟨h, hsoon, hrun, hsafe⟩

theorem exec_trkCoastExpiry {c : Fin 192} {s s1 : State} (h : s.trkState c = 3)
    (hr : s.runTo ((s.tracker c).since48 + 2 * sec48) = some s1) :
    exec (.trkCoastExpiry c) s = .next (s1.trkIdle c).settle := by
  show execTrkCoastExpiry c s = _
  simp [execTrkCoastExpiry, h, hr]

theorem State.trkRx_lt_two (s : State) (c : Nat) : s.trkRx c < 2 := Nat.mod_lt _ (by decide)

/-- Of the registers, a receiver's progress touches its RX_STATE alone. -/
theorem State.rdN_rxTracking_ne (s : State) {r : Nat} {q : Reg} (h : q.key ≠ (Obj.RX_STATE r).key) :
    (s.rxTracking r).rdN q = s.rdN q := by
  rw [State.rxTracking]
  split
  · rfl
  · exact s.rdN_wrN_ne _ h

theorem State.trkState_trkTo (s : State) {c : Nat} (st : Nat) (hc : c < 192) : (s.trkTo c st).trkState c = st := by
  have hr := s.trkRx_lt_two c
  rw [State.trkTo, State.trkState,
    State.rdN_rxTracking_ne _ (by simp only [Obj.TRK_STATE, Obj.RX_STATE, regKey]; omega), State.rdN_wrN_same]

/-! Host writes to the block, while it is not being restored (R210, R216, R224). -/

section
variable {s : State} (hfree : s.restoring 7 = false)
include hfree

theorem exec_rxEnWrite (r : Fin 2) (v : Bool) : exec (.rxEnWrite r v) s = .next (s.setRxEn r v).settle :=
  State.orHeld_of_not_restoring _ _ _ _ _ _ hfree

theorem exec_rxPosWrite (r : Fin 2) (x y z : Int) :
    exec (.rxPosWrite r x y z) s = .next ((s.setRxPos r (posOctets x y z)).byHost .pcie (Obj.RX_POS r)).settle :=
  State.orHeld_of_not_restoring _ _ _ _ _ _ hfree

theorem exec_gnEnableWrite (v : Bool) : exec (.gnEnableWrite v) s = .next (s.setGnEnable v).settle :=
  State.orHeld_of_not_restoring _ _ _ _ _ _ hfree

end

/-- The quota that the other receiver takes up, where that is enabled (R210). -/
def State.otherQuota (s : State) (r : Nat) : Nat :=
  if s.rdB (Obj.RX_EN (1 - r)) then s.rdN (Obj.RX_CH_QUOTA (1 - r)) else 0

/-- A receiver is not enabled over the quotas' sum, nor in position hold without a position. -/
theorem State.setRxEn_of_bad {s : State} {r : Nat} (hoff : s.rdB (Obj.RX_EN r) = false)
    (hbad : 192 < s.rdN (Obj.RX_CH_QUOTA r) + s.otherQuota r ∨
      (s.rdN (Obj.RX_MODE r) = 1 ∧ s.rdB (Obj.RX_POS_VALID r) = false)) :
    s.setRxEn r true = s.rangeReject 7 (Obj.RX_EN r).key := by
  rw [State.otherQuota] at hbad
  simp only [State.setRxEn, hoff, hbad, Bool.not_true, Bool.false_eq_true, if_false, if_true]

theorem State.setRxEn_of_good {s : State} {r : Nat} (hoff : s.rdB (Obj.RX_EN r) = false)
    (hquota : s.rdN (Obj.RX_CH_QUOTA r) + s.otherQuota r ≤ 192)
    (hpos : s.rdN (Obj.RX_MODE r) ≠ 1 ∨ s.rdB (Obj.RX_POS_VALID r) = true) :
    s.setRxEn r true = (((s.wr (Obj.RX_EN r) 1).bandSearch (2 * r)).bandSearch (2 * r + 1)).rxTracking r := by
  have hgood : ¬ (192 < s.rdN (Obj.RX_CH_QUOTA r) + s.otherQuota r ∨
      (s.rdN (Obj.RX_MODE r) = 1 ∧ s.rdB (Obj.RX_POS_VALID r) = false)) := by
    rintro (hover | ⟨hmode, hnone⟩)
    · omega
    · simp [hmode, hnone] at hpos
  rw [State.otherQuota] at hgood
  simp only [State.setRxEn, hoff, hgood, Bool.not_true, Bool.false_eq_true, if_false]

theorem State.setRxEn_off {s : State} {r : Nat} (hon : s.rdB (Obj.RX_EN r) = true) :
    s.setRxEn r false = (s.wr (Obj.RX_EN r) 0).rxStop r := by
  simp [State.setRxEn, hon]

/-- The block starts with epoch 0 and searches every band from now on. -/
theorem State.setGnEnable_on {s s1 : State} (hoff : s.rdB Obj.GN_ENABLE = false) (h1 : s1 = s.wr Obj.GN_ENABLE 1) :
    s.setGnEnable true = ((({ s1 with gn := { s1.gn with epochSeq := 0 } } : State).forEach (l := List.range 4)
      (p := State.bandSearch)).rxTracking 0).rxTracking 1 := by
  subst h1
  simp only [State.setGnEnable, hoff, flag, Bool.false_eq_true, if_false, if_true]

theorem State.setGnEnable_off (s : State) : s.setGnEnable false = ((s.wr Obj.GN_ENABLE 0).rxStop 0).rxStop 1 := rfl

/-! The almanac (R209, R226). -/

theorem exec_almanacStale_of_held {r : Fin 2} {age t : Nat} {s s1 : State} (ha : (s.rx r).almanac = some (age, t))
    (hr : s.runTo (t + (s.rdN (Obj.RX_ALM_MAXAGE r) * 86400 + 1 - age) * sec48) = some s1) :
    exec (.almanacStale r) s = .next (s1.cond Src.GN_ALM_STALE true).settle := by
  show execAlmanacStale r s = _
  simp only [execAlmanacStale, ha, hr]

theorem exec_almanacStale_of_none {r : Fin 2} {s : State} (ha : (s.rx r).almanac = none) :
    exec (.almanacStale r) s = .next (s.cond Src.GN_ALM_STALE true).settle := by
  show execAlmanacStale r s = _
  simp only [execAlmanacStale, ha]

/-- Settles O54, clause by clause: the streams, searches and detections, the channels' states, the three writes and the
almanac's age. -/
theorem receiversAndTrackingComplete : Obligations.ReceiversAndTrackingComplete := by
  refine ⟨⟨fun _ _ => exec_feStreamLoss, fun _ _ => exec_feStreamReturn, fun _ i q _ => State.feSample_of_twosComplement i q,
      fun _ => State.feClk_of_unlocked, ?search, fun r g sv x s => s.detects_iff r g sv x,
      fun _ _ _ x _ _ hmay => exec_acqSearchComplete_of_handover hmay x, fun _ g sv _ o _ => State.detected_of_free g sv o,
      fun _ g sv o _ => State.detected_of_full g sv o, fun _ g sv _ => State.dopplerWindow_of_aided g sv, ?cold,
      fun _ _ _ => State.freeChannel_eq_some, fun _ _ _ _ => exec_acqDetectionExpire, ?pullIn,
      fun _ _ => exec_trkSignalLoss, fun _ _ => exec_trkCoastRecover, fun _ _ _ => exec_trkCoastExpiry,
      fun _ st s => s.trkState_trkTo st⟩,
    ?rxOn, ?rxOff, fun r x y z _ _ hfree h1 => h1 ▸ exec_rxPosWrite hfree r x y z, ?gnOn, ?gnOff,
    fun _ _ _ _ _ => exec_almanacStale_of_held, fun _ _ => exec_almanacStale_of_none⟩
  case search =>
    intro r g sv x s s1 hmay hno hr
    rw [exec_acqSearchComplete_of_search hmay x hno hr]
    exact ⟨fun hd => by rw [hd, State.when_true], fun hd => by rw [hd, State.when_false]⟩
  case cold =>
    intro r g sv s h
    exact ⟨State.dopplerWindow_of_cold g sv h, State.hypotheses_of_cold g h⟩
  case pullIn =>
    intro c s s1 h
    exact ⟨exec_trkPullInSuccess h, exec_trkPullInTimeout h⟩
  case rxOn =>
    rintro r s _ hfree hoff rfl
    rw [exec_rxEnWrite hfree]
    exact ⟨fun hbad => by rw [State.setRxEn_of_bad hoff hbad],
      fun hquota hpos => by rw [State.setRxEn_of_good hoff hquota hpos]⟩
  case rxOff =>
    intro r s hfree hon
    rw [exec_rxEnWrite hfree, State.setRxEn_off hon]
  case gnOn =>
    intro s s1 hfree hoff h1
    rw [exec_gnEnableWrite hfree, State.setGnEnable_on hoff h1]
  case gnOff =>
    intro s hfree
    rw [exec_gnEnableWrite hfree, State.setGnEnable_off]

end Sys2Proof.Machine
end

section
/-! PROOFS. The traffic of the field ports: what becomes of a received frame, and transmission with back-off (R243 to R245). -/

namespace Sys2Proof.Machine

/-! Reception (R245). -/

/-- A frame on the medium shows in the port's idle mark. -/
theorem State.fp_fpHeard_same (s : State) (f : Nat) : (s.fpHeard f).fp f = { s.fp f with idle := false } :=
  s.fp_setFp_same f _

section
variable {f : Fin 2} {r : RxFrame} {s : State}

theorem exec_fpFrameRx_of_not_up (h : s.rdN (Obj.FP_STATE f) ≠ 2) : exec (.fpFrameRx f r) s = .next (s.fpHeard f) := if_pos h

/-- The tests of R245 in their order, on a port that is UP. -/
theorem exec_fpFrameRx_of_up (h : s.rdN (Obj.FP_STATE f) = 2) :
    exec (.fpFrameRx f r) s =
      if !r.complete || !r.fcsOk then .next ((s.fpHeard f).fpDiscard f 2).settle
      else if !s.fpWanted f r.octets then .next ((s.fpHeard f).fpDiscard f 4).settle
      else if 4 ≤ (s.fp f).rx then .next ((s.fpHeard f).fpDiscard f 3).settle
      else .next ((s.fpHeard f).setFp f { s.fp f with idle := false, rx := (s.fp f).rx + 1 }).settle := by
  have hexec : exec (.fpFrameRx f r) s = _ := if_neg (not_not_intro h)
  rw [hexec, State.fp_fpHeard_same]
  rfl

end

/-! The start and the end of a frame (R243). -/

section
variable {f : Fin 2} {s : State}

theorem exec_fpDeferralEnd_deferring (h : (s.fp f).phase = .deferring) :
    exec (.fpDeferralEnd f) s = .next ((s.setFp f { s.fp f with idle := true }).fpSend f).settle := by
  show execFpDeferralEnd f s = _
  simp only [execFpDeferralEnd, h]

theorem exec_fpDeferralEnd_sending (h : (s.fp f).phase = .sending) :
    exec (.fpDeferralEnd f) s = .next (((s.setFp f { s.fp f with idle := true }).fpDone f).fpSend f).settle := by
  show execFpDeferralEnd f s = _
  simp only [execFpDeferralEnd, h]

theorem exec_fpDeferralEnd_backoff {due : Nat} (h : (s.fp f).phase = .backoff due) :
    exec (.fpDeferralEnd f) s = .next (s.setFp f { s.fp f with idle := true }) := by
  show execFpDeferralEnd f s = _
  simp only [execFpDeferralEnd, h]

end

theorem State.fpSend_of_good {f : Nat} {e : List Octet} {rest : List (List Octet)} {s : State} (htx : (s.fp f).tx = e :: rest)
    (hup : s.rdN (Obj.FP_STATE f) = 2) (hg : s.unsafeElement 9 f = false) :
    s.fpSend f = (s.setFp f { s.fp f with phase := .sending, idle := false }).emit (.fieldFrame f e) := by
  simp only [State.fpSend, htx, hup, hg, and_self, if_true]

/-- A message takes a free transmit buffer (Table 10-6). -/
theorem State.tx_sendFp_of_room {f : Nat} (mac : Nat) (m : List Octet) {s : State} (h : (s.fp f).tx.length < 4) :
    ((s.sendFp f mac m).fp f).tx = (s.fp f).tx ++
      [framePadded (beBytes 6 mac ++ beBytes 6 (s.rdN (Obj.FP_MAC f)) ++ [0x88, 0xB5] ++ m)] := by
  simp only [State.sendFp, if_pos h, State.fp_setFp_same]

/-! Collisions and back-off (R244). -/

theorem backoffSlots_lt (draw n : Nat) : backoffSlots draw n < 2 ^ min n 10 := Nat.mod_lt _ (Nat.two_pow_pos _)

section
variable {f : Fin 2} {s s1 : State} (hsend : (s.fp f).phase = .sending) (h1 : s1 = s.count (0x1EA + f) 1)
include hsend h1

theorem exec_fpCollision_late :
    exec (.fpCollision f true) s = .next ((s1.stick (Obj.FP_STICKY f) 1).fpDone f).settle := by
  subst h1
  exact if_neg (not_not_intro hsend)

theorem exec_fpCollision_sixteenth (h : 15 ≤ (s1.fp f).collisions) : exec (.fpCollision f false) s =
    .next (((s1.stick (Obj.FP_STICKY f) 0).raise (Src.FP_EXCESS_COLL f)).fpDone f).settle := by
  subst h1
  exact (if_neg (not_not_intro hsend)).trans (if_pos (Nat.succ_le_succ h))

theorem exec_fpCollision_early (h : (s1.fp f).collisions < 15) : exec (.fpCollision f false) s =
    .next (s1.setFp f { s1.fp f with
      collisions := (s1.fp f).collisions + 1, draws := (s1.fp f).draws + 1,
      phase := .backoff (s1.up48 + backoffSlots (s1.fp f).draws ((s1.fp f).collisions + 1) * 51200 * ns48) }).settle := by
  subst h1
  exact (if_neg (not_not_intro hsend)).trans (if_neg (Nat.not_le.mpr (Nat.succ_lt_succ h)))

end

theorem exec_fpBackoffExpiry {f : Fin 2} {due : Nat} {s s1 : State} (h : (s.fp f).phase = .backoff due)
    (hr : s.runTo due = some s1) : exec (.fpBackoffExpiry f) s =
      .next (if (s1.fp f).idle then s1.fpSend f else s1.setFp f { s1.fp f with phase := .deferring }).settle := by
  show execFpBackoffExpiry f s = _
  simp only [execFpBackoffExpiry, h, hr]

/-- Settles O39, clause by clause: the fates of a received frame, then the start and end of a frame, collisions and back-off. -/
theorem fieldPortTrafficCompletes : Obligations.FieldPortTrafficCompletes := by
  refine ⟨⟨?heard, ?taken, ?bad, ?unwanted, ?full, fun _ _ _ => exec_fpFrameRx_of_not_up⟩,
    fun _ _ _ h h1 => h1 ▸ exec_fpDeferralEnd_deferring h, fun _ _ _ h h1 => h1 ▸ exec_fpDeferralEnd_sending h,
    fun _ _ _ => exec_fpDeferralEnd_backoff, fun _ _ _ _ => State.fpSend_of_good, fun _ mac m _ => State.tx_sendFp_of_room mac m,
    fun _ _ _ => exec_fpCollision_late, fun _ _ _ => exec_fpCollision_sixteenth, ?early, ?again, ?busy⟩
  case heard => exact fun f s => ⟨rfl, rfl, s.fp_fpHeard_same f, fun g hg => s.fp_setFp_ne _ hg⟩
  case taken =>
    intro f r s hup hc hk hw hroom
    rw [exec_fpFrameRx_of_up hup, if_neg (by simp [hc, hk]), if_neg (by simp [hw]), if_neg (Nat.not_le.mpr hroom)]
  case bad =>
    intro f r s hup hbad
    rw [exec_fpFrameRx_of_up hup, if_pos (by simpa using hbad)]
    rfl
  case unwanted =>
    intro f r s hup hc hk hw
    rw [exec_fpFrameRx_of_up hup, if_neg (by simp [hc, hk]), if_pos (by simp [hw])]
    rfl
  case full =>
    intro f r s hup hc hk hw hfull
    rw [exec_fpFrameRx_of_up hup, if_neg (by simp [hc, hk]), if_neg (by simp [hw]), if_pos hfull]
    rfl
  case early =>
    intro f s s1 hsend h1 hfew
    exact ⟨_, backoffSlots_lt (s1.fp f).draws _, exec_fpCollision_early hsend h1 hfew⟩
  case again =>
    intro f due s s1 hp hr hidle
    rw [exec_fpBackoffExpiry hp hr, if_pos hidle]
  case busy =>
    intro f due s s1 hp hr hidle
    rw [exec_fpBackoffExpiry hp hr, if_neg (by simp [hidle])]

end Sys2Proof.Machine
end

section
/-! PROOFS. The links of the field ports: the poll of the PHY, FP_EN, and what waits for a reply to leave (R246, R248, R312, R358). -/

namespace Sys2Proof.Machine

/-! The poll (R246). -/

section
variable {f : Fin 2} {s : State} (hen : s.rdB (Obj.FP_EN f) = true) (ho : s.open = true)
include hen ho

theorem exec_fpLinkPoll_up :
    exec (.fpLinkPoll f true) s = .next ((s.wrN (Obj.FP_STATE f) 2).cond (Src.FP_LINK_DOWN f) false).settle :=
  if_neg (by simp [hen, ho])

/-- A link that was down already brings nothing else down. -/
theorem exec_fpLinkPoll_down_again (h : s.rdN (Obj.FP_STATE f) ≠ 2) :
    exec (.fpLinkPoll f false) s = .next (s.wrN (Obj.FP_STATE f) 1).settle :=
  (if_neg (by simp [hen, ho])).trans (if_neg h)

/-- Where nothing waits for a reply, a link that goes down ends the session and empties the port alone. -/
theorem exec_fpLinkPoll_down (h : s.rdN (Obj.FP_STATE f) = 2) (ha : (s.fp f).after = []) :
    exec (.fpLinkPoll f false) s = .next (((((s.endSession (if f = 0 then .fp0 else .fp1)).wrN (Obj.FP_STATE f) 1).fpEmpty
      f).stick (Obj.FP_STICKY f) 5).cond (Src.FP_LINK_DOWN f) true).settle := by
  have hpolled : ¬(s.rdB (Obj.FP_EN f) = false ∨ s.open = false) := by simp [hen, ho]
  show execFpLinkPoll f false s = _
  rw [execFpLinkPoll, if_neg hpolled, if_neg Bool.false_ne_true, if_pos h, ha]
  dsimp only
  rw [List.any_nil, List.any_nil, State.when_false, State.when_false, State.fpStick]

end

/-! FP_EN (R246). -/

theorem exec_fpEnWrite (f : Fin 2) (v : Bool) {s : State} (h : s.restoring 9 = false) :
    exec (.fpEnWrite f v) s = .next (s.setFpEn f v).settle := State.orHeld_of_not_restoring _ _ _ _ _ _ h

theorem State.setFpEn_start {s : State} {f : Nat} (h : s.rdB (Obj.FP_EN f) = false) :
    s.setFpEn f true = ((s.setFp f { s.fp f with after := (s.fp f).after.filter fun a => a.2 != .stop }).wrN (Obj.FP_EN f)
      1).wrN (Obj.FP_STATE f) 1 := by
  simp [State.setFpEn, h]

/-- A port that stops holds nothing, in either direction. -/
theorem State.setFpEn_stop {s : State} {f : Fin 2} (h : s.rdB (Obj.FP_EN f) = true) :
    ∃ u : State, s.setFpEn f false = u.cond (Src.FP_LINK_DOWN f) false ∧ u.fp f =
        { s.fp f with tx := [], rx := 0, idle := false, phase := .deferring, collisions := 0, after := [] } ∧
      u.book = (((s.wrN (Obj.FP_EN f) 0).endSession (if f = 0 then .fp0 else .fp1)).wrN (Obj.FP_STATE f) 0).book ∧
      u.clk = s.clk := by
  have hlink : (if (f : Nat) = 0 then Link.fp0 else .fp1) = if f = 0 then .fp0 else .fp1 := by
    simp only [Fin.val_eq_zero_iff]
  refine ⟨_, by rw [State.setFpEn, if_neg Bool.false_ne_true, if_pos h], ?_, ?_, ?_⟩
  · simp only [State.fpEmpty, State.fp_setFp_same, State.fp_wrN]
    rfl
  · rw [hlink]
    rfl
  · rfl

/-! What waits for a reply to leave (R246, R358). -/

theorem State.fp_afterReply_same (s : State) (f : Nat) (a : AfterReply) :
    (s.afterReply f a).fp f = { s.fp f with after := (s.fp f).after ++ [((s.fp f).tx.length, a)] } :=
  s.fp_setFp_same f _

theorem State.fp_fpNext_same (s : State) (f : Nat) : (s.fpNext f).fp f = { s.fp f with
    tx := (s.fp f).tx.tail, collisions := 0, phase := .deferring, after := (s.fp f).after.map fun a => (a.1 - 1, a.2) } :=
  s.fp_setFp_same f _

section
variable {s : State} {f : Nat} {a : AfterReply}

/-- The reply itself is still to leave. -/
theorem State.fpDone_of_waiting {n : Nat} (h : (s.fp f).after = [(n + 2, a)]) :
    s.fpDone f = (s.fpNext f).setFp f { (s.fpNext f).fp f with after := [(n + 1, a)] } := by
  have hnext : ((s.fpNext f).fp f).after = [(n + 1, a)] := by simp [State.fp_fpNext_same, h]
  simp [State.fpDone, State.replied, hnext]

/-- The reply was the frame that has left. -/
theorem State.fpDone_of_left (h : (s.fp f).after = [(1, a)]) :
    s.fpDone f = (((s.fpNext f).setFp f { (s.fpNext f).fp f with after := [] }).nowAfter f a).close := by
  have hnext : ((s.fpNext f).fp f).after = [(0, a)] := by simp [State.fp_fpNext_same, h]
  simp [State.fpDone, State.replied, hnext, State.forEach]

end

/-- Settles O40, clause by clause: the poll, FP_EN, and what waits for a reply. -/
theorem fieldPortLinksComplete : Obligations.FieldPortLinksComplete := by
  refine ⟨fun _ _ => exec_fpLinkPoll_up, ?down, fun _ _ => exec_fpLinkPoll_down_again, ?start, ?stop, ?reply, ?waiting, ?left⟩
  case down =>
    rintro f s _ _ hen ho hup ha rfl rfl
    exact exec_fpLinkPoll_down hen ho hup ha
  case start =>
    rintro f s _ hfree hoff rfl
    rw [exec_fpEnWrite f true hfree, State.setFpEn_start hoff]
  case stop =>
    rintro f s _ hfree hon rfl
    obtain ⟨u, hu, hfp, hbook, hclk⟩ := State.setFpEn_stop hon
    refine ⟨u, by rw [exec_fpEnWrite f false hfree, hu], ?_, ?_, ?_, hbook, hclk⟩ <;> rw [hfp]
  case reply =>
    intro f a s
    rw [State.fp_afterReply_same]
    exact ⟨rfl, rfl⟩
  case waiting =>
    intro f n a s h
    rw [State.fpDone_of_waiting h, State.fp_setFp_same, State.fp_fpNext_same]
    exact ⟨rfl, rfl, rfl⟩
  case left =>
    rintro f a s _ h rfl
    exact State.fpDone_of_left h

end Sys2Proof.Machine
end

section
/-! PROOFS. The Ethernet ports: configuration, training, alignment and loss (R90, R227 to R230), and PAUSE (R232, R238, R239). -/

namespace Sys2Proof.Machine

/-! PORT_EN and ETH_ENABLE, while the block is not being restored (R227, R229). -/

section
variable {s : State} (hfree : s.restoring 8 = false)
include hfree

theorem exec_portEnWrite (p : Fin 8) (v : Bool) : exec (.portEnWrite p v) s = .next (s.setPortEn p v).close :=
  State.orHeld_of_not_restoring _ _ _ _ _ _ hfree

theorem exec_ethEnableWrite (v : Bool) : exec (.ethEnableWrite v) s = .next (s.setEthEnable v).close :=
  State.orHeld_of_not_restoring _ _ _ _ _ _ hfree

end

section
variable {s : State} {p : Nat} (hoff : s.rdB (Obj.PORT_EN p) = false)
include hoff

theorem State.setPortEn_of_good (hg : s.portConfigGood p = true) :
    s.setPortEn p true = (s.wrN (Obj.PORT_EN p) 1).when (s.rdB Obj.ETH_ENABLE) (·.portStart p) := by
  simp [State.setPortEn, hoff, hg]

theorem State.setPortEn_of_bad (hg : s.portConfigGood p = false) :
    s.setPortEn p true = s.rangeReject 8 (Obj.PORT_EN p).key := by
  simp [State.setPortEn, hoff, hg]

end

theorem State.setPortEn_off (s : State) (p : Nat) : s.setPortEn p false = (s.wrN (Obj.PORT_EN p) 0).portOff p := rfl

theorem State.setEthEnable_on (s : State) : s.setEthEnable true = s.wr Obj.ETH_ENABLE 1 := rfl

theorem State.setEthEnable_off (s : State) :
    s.setEthEnable false = (s.wr Obj.ETH_ENABLE 0).forEach (l := List.range 8) (p := State.portOff) := rfl

/-- No address, watermarks that do not rise, and four lanes on an odd port, are each refused (R227, R238). -/
theorem State.portConfigGood_eq_false {s : State} {p : Nat} (h : s.rdN (Obj.PORT_MAC p) = 0 ∨
    s.rdN (Obj.PORT_BUF_HI p) ≤ s.rdN (Obj.PORT_BUF_LO p) ∨ (s.speed p = 4 ∧ p % 2 = 1)) : s.portConfigGood p = false := by
  rcases h with hmac | hbuf | ⟨hspeed, hodd⟩
  · simp [State.portConfigGood, hmac]
  · simp [State.portConfigGood, Nat.not_lt.mpr hbuf]
  · simp [State.portConfigGood, hspeed, hodd]

/-! What a port's state reads as. -/

theorem low_PORT_STATE {p : Nat} (h : p < 8) : (Obj.PORT_STATE p).low := by
  simp only [Reg.low, Obj.PORT_STATE, regKey]
  omega

theorem low_PORT_DESKEW {p : Nat} (h : p < 8) : (Obj.PORT_DESKEW p).low := by
  simp only [Reg.low, Obj.PORT_DESKEW, regKey]
  omega

/-- The begin or the end of a condition leaves the state of every port alone. -/
theorem State.portState_cond (s : State) (n : Nat) (on : Bool) {p : Nat} (h : p < 8) :
    (s.cond n on).portState p = s.portState p :=
  s.rdN_cond n on (low_PORT_STATE h)

theorem State.portTo_of_up {s : State} {p : Nat} (st : Nat) (h : s.portState p = 3) : s.portTo p st = s.portLeave p st := if_pos h

theorem State.portState_portTo {s : State} {p : Nat} (st : Nat) (hp : p < 8) (h : s.portState p ≠ 3) :
    (s.portTo p st).portState p = st := by
  rw [State.portTo, if_neg h, State.portState_cond _ _ _ hp]
  exact State.rdN_wrN_same _ _ _

/-! What a change of a slot's state leaves of the registers above those of the slots and of Herd. -/

section
variable (s : State) {n : Nat} {q : Reg} (hn : n < 24) (hlow : q.low) (hq : 0x500000 ≤ q.key)
include hn hlow hq

theorem State.rd_slotStateTo_above (new : Nat) (r : Option SlotReason) : (s.slotStateTo n new r).rd q = s.rd q := by
  have hstate : q.key ≠ (Obj.SLOT_STATE n).key := by simp only [Obj.SLOT_STATE, regKey]; omega
  by_cases hs : s.slotState n = new
  · rw [State.slotStateTo_same r hs, State.rd_wrN_ne _ _ hstate]
  · have hcleared : ∀ t : State, (t.slotCleared n).rd q = t.rd q := fun t => by
      refine t.rd_slotCleared ?_ ?_ ?_ <;> simp only [Obj.SLOT_CLASS, Obj.SLOT_UNC_RX, Obj.SLOT_QL_RAW, regKey] <;> omega
    have hweightless : ∀ t : State, (t.weightless n).rd q = t.rd q := fun t => by
      rw [State.weightless, State.rd_wrN_ne, State.rd_wrN_ne] <;> simp only [Obj.HD_W_TIME, Obj.HD_W_FREQ, regKey] <;> omega
    rw [(Agrees.slotStateTo r hs).rd q hlow, State.slotChanged, State.when_keeps (·.rd q) _ _ _ hcleared,
      State.when_keeps (·.rd q) _ _ _ hweightless, State.slotWordTo, State.rd_stick_ne _ _ hstate, State.rd_wrN_ne _ _ hstate]

theorem State.rd_slotQualifying_above (r : Option SlotReason) (h23 : n ≠ 23) : (s.slotQualifying n r).rd q = s.rd q := by
  have hslot : (s.slotQualifying n r).rd q = (s.slotTo n Sl.QUALIFYING r).rd q := rfl
  rw [hslot, State.slotTo_of_ne_23 _ _ _ h23, s.rd_slotStateTo_above hn hlow hq]

end

theorem State.slotState_slotQualifying (s : State) {n : Nat} (r : Option SlotReason) (hn : n < 24) (h23 : n ≠ 23) :
    (s.slotQualifying n r).slotState n = Sl.QUALIFYING := by
  have hslot : (s.slotQualifying n r).slotState n = (s.slotTo n Sl.QUALIFYING r).slotState n := rfl
  rw [hslot, State.slotTo_of_ne_23 _ _ _ h23, s.slotState_slotStateTo r hn (by decide)]

/-! The skew of the lanes (R90, R230, R233). -/

/-- The port is UP with its skew measured, on a grid whose phase is where its PCS put it. -/
def State.portAlignedAt (s : State) (p : Nat) (deskew : Int) : State :=
  let s1 := s.setPort p { s.port p with phase := some (Config.gridPhase s.net.phases % s.blockStep p), reserved := [] }
  let s2 : State := { s1 with net := { s1.net with phases := s1.net.phases + 1 } }
  (((s2.wr (Obj.PORT_DESKEW p) deskew).wrN (Obj.PORT_STATE p) 3).cond (Src.PORT_DESKEW_FAIL p) false).cond (Src.PORT_DOWN p) false

section
variable (s : State) {p sp : Nat} (d : Int)

theorem State.deskew_of_narrow (h : sp ≤ 11796480) : s.deskew p sp d = (s.portAlignedAt p d).when
    ((s.portAlignedAt p d).slotState (8 + p) == Sl.LOS) (·.slotQualifying (8 + p) none) :=
  if_neg (Nat.not_lt.mpr h)

theorem State.deskew_of_wide (h : 11796480 < sp) : s.deskew p sp d =
    ((s.setPort p { s.port p with since48 := s.up48 }).stick (Obj.PORT_STICKY p) 9).cond (Src.PORT_DESKEW_FAIL p) true :=
  if_pos h

/-- The two conditions that end leave every register of the port as the alignment wrote it. -/
theorem State.rd_portAlignedAt {q : Reg} (hlow : q.low) :
    (s.portAlignedAt p d).rd q = ((s.wr (Obj.PORT_DESKEW p) d).wrN (Obj.PORT_STATE p) 3).rd q :=
  (((Agrees.refl _).cond _ _).cond _ _).rd q hlow

variable (hp : p < 8)
include hp

theorem State.portState_portAlignedAt : (s.portAlignedAt p d).portState p = 3 := by
  rw [State.portState, State.rdN, s.rd_portAlignedAt d (low_PORT_STATE hp), State.rd_wrN_same]
  rfl

theorem State.rd_PORT_DESKEW_portAlignedAt : (s.portAlignedAt p d).rd (Obj.PORT_DESKEW p) = d := by
  rw [s.rd_portAlignedAt d (low_PORT_DESKEW hp),
    State.rd_wrN_ne _ _ (by simp only [Obj.PORT_DESKEW, Obj.PORT_STATE, regKey]; omega), State.rd_wr_same]

theorem State.slotState_portAlignedAt : (s.portAlignedAt p d).slotState (8 + p) = s.slotState (8 + p) := by
  refine State.slotState_of_rd ?_
  rw [s.rd_portAlignedAt d (low_SLOT_STATE (by omega)),
    State.rd_wrN_ne _ _ (by simp only [Obj.SLOT_STATE, Obj.PORT_STATE, regKey]; omega),
    State.rd_wr_ne _ _ (by simp only [Obj.SLOT_STATE, Obj.PORT_DESKEW, regKey]; omega)]

/-- The return of the port's slot from LOS leaves the port's own registers as they are. -/
theorem State.rd_deskew_of_narrow (h : sp ≤ 11796480) {q : Reg} (hlow : q.low) (hq : 0x500000 ≤ q.key) :
    (s.deskew p sp d).rd q = (s.portAlignedAt p d).rd q := by
  rw [s.deskew_of_narrow d h]
  exact State.when_keeps (·.rd q) _ _ _ fun t => t.rd_slotQualifying_above (by omega) hlow hq none (by omega)

theorem State.portState_deskew_of_narrow (h : sp ≤ 11796480) : (s.deskew p sp d).portState p = 3 := by
  rw [State.portState, State.rdN, s.rd_deskew_of_narrow d hp h (low_PORT_STATE hp) (by simp only [Obj.PORT_STATE, regKey]; omega)]
  exact s.portState_portAlignedAt d hp

theorem State.rd_PORT_DESKEW_deskew (h : sp ≤ 11796480) : (s.deskew p sp d).rd (Obj.PORT_DESKEW p) = d := by
  rw [s.rd_deskew_of_narrow d hp h (low_PORT_DESKEW hp) (by simp only [Obj.PORT_DESKEW, regKey]; omega)]
  exact s.rd_PORT_DESKEW_portAlignedAt d hp

theorem State.slotState_deskew_of_los (h : sp ≤ 11796480) (hlos : s.slotState (8 + p) = Sl.LOS) :
    (s.deskew p sp d).slotState (8 + p) = Sl.QUALIFYING := by
  rw [s.deskew_of_narrow d h, s.slotState_portAlignedAt d hp, hlos, beq_self_eq_true, State.when_true]
  exact State.slotState_slotQualifying _ _ (by omega) (by omega)

theorem State.portState_deskew_of_wide (h : 11796480 < sp) : (s.deskew p sp d).portState p = s.portState p := by
  rw [s.deskew_of_wide d h, State.portState_cond _ _ _ hp, State.portState, State.rdN,
    State.rd_stick_ne _ _ (by simp only [Obj.PORT_STATE, Obj.PORT_STICKY, regKey]; omega)]
  rfl

end

/-! The port's events, each in the state in which it can come (R228 to R230). -/

section
variable {p : Fin 8} {s s1 : State}

theorem exec_portTrainingComplete (h : s.portState p = 1) : exec (.portTrainingComplete p) s = .next (s.portTo p 2).settle :=
  if_neg (not_not_intro h)

section
variable (h : s.portState p = 2) (sp d : BitVec 32)
include h

theorem exec_portAligned (hf : s.active (Src.PORT_DESKEW_FAIL p) = false) :
    exec (.portAligned p sp d) s = .next (s.deskew p sp.toNat d.toInt).settle :=
  if_neg (by simp [h, hf])

theorem exec_portDeskewRetry (hf : s.active (Src.PORT_DESKEW_FAIL p) = true)
    (hr : s.runTo ((s.port p).since48 + ms48 10) = some s1) :
    exec (.portDeskewRetry p sp d) s = .next (s1.deskew p sp.toNat d.toInt).settle := by
  have hdue : ¬(s.portState p ≠ 2 ∨ s.active (Src.PORT_DESKEW_FAIL p) = false) := by simp [h, hf]
  show execPortDeskewRetry p sp d s = _
  simp only [execPortDeskewRetry, if_neg hdue, hr]

end

theorem exec_portLinkLoss (h : s.portState p = 3) (rxCut : Bool) : exec (.portLinkLoss p rxCut) s =
    .next (((s.when rxCut (·.truncated p)).portLeave p 4).cond (Src.PORT_DOWN p) true).close :=
  if_neg (not_not_intro h)

theorem exec_portDownExpiry (h : s.portState p = 4) (hr : s.runTo ((s.port p).since48 + ms48 10) = some s1) :
    exec (.portDownExpiry p) s = .next (s1.portStart p).settle := by
  show execPortDownExpiry p s = _
  simp only [execPortDownExpiry, if_neg (not_not_intro h), hr]

end

/-! PAUSE (R238, R239). -/

/-- The instant of the next PAUSE, after one of `q` quanta: half of them on, while the buffer is not below PORT_BUF_LO (R238). -/
def State.pauseAgain (s : State) (p q : Nat) : Option Nat :=
  if 0 < q ∧ s.rdN (Obj.PORT_BUF_LO p) ≤ s.ingress p then some (s.up48 + q * s.quantum48 p / 2) else none

/-- The PAUSE of port `p` leaves at block `k`. -/
def State.pauseLaunched (s : State) (p k q : Nat) : State :=
  (((s.setPort p { s.port p with pause := none, repeat48 := s.pauseAgain p q }).stick (Obj.PORT_STICKY p) 6).portEvent p 11
    1).launchAt p (s.blockTime p k) (pauseFrame (s.rdN (Obj.PORT_MAC p)) q)

section
variable {p : Fin 8} {k q : Nat} {s : State} (hw : (s.port p).pause = some (k, q))
include hw

/-- A PAUSE of a port that may not send is given up. -/
theorem exec_pauseFrameSend_barred (hs : s.portSends p = false) :
    exec (.pauseFrameSend p) s = .next (s.setPort p { s.port p with pause := none }).settle := by
  show execPauseFrameSend p s = _
  simp only [execPauseFrameSend, hw, hs, Bool.not_false, if_true]

variable {s1 : State} (hs : s.portSends p = true) (hr : s.reach (s.blockTime p k / ns48) = some s1)
include hs hr

/-- So is one of a port that may not send by then. -/
theorem exec_pauseFrameSend_barred_by_then (hs1 : s1.portSends p = false) :
    exec (.pauseFrameSend p) s = .next (s1.setPort p { s1.port p with pause := none }).settle := by
  show execPauseFrameSend p s = _
  simp only [execPauseFrameSend, hw, hs, hr, hs1, Bool.not_true, Bool.not_false, Bool.false_eq_true, if_false, if_true]

/-- A PAUSE of 0 follows where the buffer is below PORT_BUF_LO by then. -/
theorem exec_pauseFrameSend (hs1 : s1.portSends p = true) :
    exec (.pauseFrameSend p) s = .next ((s1.pauseLaunched p k q).when
      (decide (0 < q) && !decide (s1.rdN (Obj.PORT_BUF_LO p) ≤ s1.ingress p)) (·.pauseDue p 0)).settle := by
  show execPauseFrameSend p s = _
  simp only [execPauseFrameSend, hw, hs, hr, hs1, Bool.not_true, Bool.false_eq_true, if_false, decide_eq_true_eq,
    State.pauseLaunched, State.pauseAgain]

end

theorem exec_pauseRepeat {p : Fin 8} {due : Nat} {s s1 s2 : State} (h : (s.port p).repeat48 = some due)
    (hr : s.runTo due = some s1) (h2 : s2 = s1.setPort p { s1.port p with repeat48 := none }) : exec (.pauseRepeat p) s =
      if s2.rdN (Obj.PORT_BUF_LO p) ≤ s2.ingress p then .next (s2.pauseDue p (s2.rdN (Obj.PORT_PAUSE_TIME p))).settle
      else .next s2.settle := by
  subst h2
  show execPauseRepeat p s = _
  simp only [execPauseRepeat, h, hr]

theorem exec_receivedPauseEnd {p : Fin 8} {due : Nat} {s s1 : State} (h : (s.port p).held48 = some due)
    (hr : s.runTo due = some s1) :
    exec (.receivedPauseEnd p) s = .next (s1.setPort p { s1.port p with held48 := none }).settle := by
  show execReceivedPauseEnd p s = _
  simp only [execReceivedPauseEnd, h, hr]

/-- Settles O51, clause by clause: the enables, the states of a port with the skew that decides on UP, and PAUSE. -/
theorem portCommandsComplete : Obligations.PortCommandsComplete := by
  refine ⟨⟨?on, ?rejected, ?off, fun _ _ => State.portConfigGood_eq_false, ?ethOn, ?ethOff,
      fun _ _ => exec_portTrainingComplete, fun _ sp d _ h => exec_portAligned h sp d,
      fun _ sp d _ _ h => exec_portDeskewRetry h sp d, ?up, fun _ _ d s hp h => s.slotState_deskew_of_los d hp h,
      fun _ _ d s hp h => s.portState_deskew_of_wide d hp h, fun _ _ h => ⟨exec_portLinkLoss h false, exec_portLinkLoss h true⟩,
      fun _ _ _ => exec_portDownExpiry, fun _ st _ hp => ⟨State.portTo_of_up st, State.portState_portTo st hp⟩⟩,
    ?send, fun _ _ _ _ _ hw => exec_pauseFrameSend_barred_by_then hw, fun _ _ _ _ => rfl, fun _ _ _ _ => exec_pauseFrameSend_barred,
    ?again, fun _ _ _ _ => exec_receivedPauseEnd⟩
  case on =>
    intro p s hfree hoff hg
    rw [exec_portEnWrite hfree, State.setPortEn_of_good hoff hg]
    exact ⟨fun he => by rw [he, State.when_true], fun he => by rw [he, State.when_false]⟩
  case rejected =>
    intro p s hfree hoff hg
    rw [exec_portEnWrite hfree, State.setPortEn_of_bad hoff hg]
  case off =>
    intro p s hfree
    rw [exec_portEnWrite hfree, State.setPortEn_off]
  case ethOn =>
    intro s hfree
    rw [exec_ethEnableWrite hfree, State.setEthEnable_on]
  case ethOff =>
    intro s hfree
    rw [exec_ethEnableWrite hfree, State.setEthEnable_off]
  case up => exact fun p sp d s hp h => ⟨s.portState_deskew_of_narrow d hp h, s.rd_PORT_DESKEW_deskew d hp h⟩
  case send =>
    rintro p k q s s1 _ _ hw hs hr hs1 rfl rfl
    have hexec := exec_pauseFrameSend hw hs hr hs1
    constructor
    · intro hhigh
      have hno : (decide (0 < q) && !decide (s1.rdN (Obj.PORT_BUF_LO p) ≤ s1.ingress p)) = false := by
        rcases hhigh with h0 | hge
        · simp [h0]
        · simp [hge]
      rwa [hno, State.when_false] at hexec
    · intro hq hlow
      rwa [decide_eq_true hq, decide_eq_false (Nat.not_le.mpr hlow), Bool.not_false, Bool.and_self, State.when_true] at hexec
  case again =>
    intro p due s s1 s2 h hr h2
    rw [exec_pauseRepeat h hr h2]
    exact ⟨fun hhigh => if_pos hhigh, fun hlow => if_neg (Nat.not_le.mpr hlow)⟩

end Sys2Proof.Machine
end

section
/-! PROOFS. The reception of frames: the checks of Table 10-4 in their order, the rule that takes a frame, and its policer (R235,
R280 to R282, R284). -/

namespace Sys2Proof.Machine

/-! The checks (R235, Table 10-4). -/

theorem exec_portFrameRx {p : Fin 8} {s : State} (f : RxFrame) (hup : s.portState p = 3) (hg : s.portGood p = true) :
    exec (.portFrameRx p f) s = .next (s.receive p f).settle :=
  if_neg (by simp [hup, hg])

/-- The frame and its octets are counted, with the FCS. -/
def State.frameCounted (s : State) (p : Nat) (f : RxFrame) : State := (s.portEvent p 0 1).portEvent p 1 (f.octets.length + 4)

section
variable (s : State) (p : Nat) {f : RxFrame}

theorem State.receive_of_incomplete (h : f.complete = false) : s.receive p f = s.truncated p := by
  simp [State.receive, h]

variable (hc : f.complete = true)
include hc

theorem State.receive_of_bad_fcs (hk : f.fcsOk = false) :
    s.receive p f = ((s.frameCounted p f).portEvent p 4 1).stick (Obj.PORT_STICKY p) 1 := by
  simp [State.receive, hc, hk, State.frameCounted]

variable (hk : f.fcsOk = true)
include hk

theorem State.receive_of_bad_length (h : f.octets.length + 4 < 64 ∨ s.rdN (Obj.PORT_MTU p) < f.octets.length + 4) :
    s.receive p f = ((s.frameCounted p f).portEvent p 5 1).stick (Obj.PORT_STICKY p) 3 := by
  simp only [State.receive, hc, hk, Bool.not_true, Bool.false_eq_true, if_false, if_pos h, State.frameCounted]

/-- A frame that passes every check comes to the classifier. -/
theorem State.receive_of_good (hmin : 64 ≤ f.octets.length + 4) (hmax : f.octets.length + 4 ≤ s.rdN (Obj.PORT_MTU p))
    (hmac : (packetOf f.octets).ethertype ≠ 0x8808) (hhead : (packetOf f.octets).header = true) (hsum : (packetOf f.octets).sum ≠ 1)
    (hroom : s.ingress p + (f.octets.length + 4) ≤ 524288) : s.receive p f =
      (s.frameCounted p f).classifyFrame p (packetOf f.octets) (s.ingressStamp p f).toNat false f.octets := by
  have hlen : ¬(f.octets.length + 4 < 64 ∨ s.rdN (Obj.PORT_MTU p) < f.octets.length + 4) := by omega
  have hgood : (!(packetOf f.octets).header || (packetOf f.octets).sum == 1) = false := by simp [hhead, hsum]
  simp only [State.receive, hc, hk, Bool.not_true, Bool.false_eq_true, if_false, if_neg hlen, if_neg hmac,
    if_neg (Nat.not_lt.mpr hroom), hgood, State.when_false, State.frameCounted]

end

/-! The classifier (R280, R281). -/

/-- The lowest rule that matches takes the frame. -/
theorem State.ruleFor_eq_some {s : State} {p n : Nat} {k : Packet} (h : s.ruleFor p k = some n) :
    s.ruleMatches p k n = true ∧ ∀ m, m < n → s.ruleMatches p k m = false := by
  obtain ⟨hmatch, -, hlower⟩ := List.find?_range_eq_some.mp h
  exact ⟨hmatch, fun m hm => by simpa using hlower m hm⟩

theorem State.ruleMatches_of_off {s : State} {p n : Nat} {k : Packet} (h : s.rdB (Obj.RULE_EN n) = false) :
    s.ruleMatches p k n = false := by
  simp [State.ruleMatches, h]

/-- A TIMING rule takes no fragment (R281). -/
theorem State.ruleMatches_of_fragment {s : State} {p n : Nat} {k : Packet} (hf : k.fragment = true) (ht : s.ruleAction n = 1) :
    s.ruleMatches p k n = false := by
  simp [State.ruleMatches, hf, ht]

/-! Policers (R284). -/

/-- The policer number that stands for none. -/
theorem State.police_none (s : State) : s.police 0xFF = (s, true) := if_pos (.inl rfl)

theorem State.police_of_off {s : State} {q : Nat} (hoff : s.rdB (Obj.POL_EN q) = false) (hg : s.drvUnsafe (64 + q) = false) :
    s.police q = (s, true) := if_pos (.inr ⟨hoff, hg⟩)

/-- Without a rule the default action takes the frame, past the policers. -/
theorem State.classifyFrame_of_dropped {s : State} {p : Nat} {k : Packet} (st : Nat) (o : List Octet) (hr : s.ruleFor p k = none)
    (hd : s.rdN Obj.DRV_DEFAULT = 0) : s.classifyFrame p k st false o = s.portEvent p 13 1 := by
  have hnone : bitsAt 0xFF0000 16 8 = 0xFF := by decide
  simp only [State.classifyFrame, hr, hd, hnone, State.police_none, Bool.false_and, Bool.not_true, Bool.false_eq_true, if_false]

/-! RULE_EN, while the block is not being restored (R282). -/

theorem exec_ruleEnWrite (n : Fin 64) (v : Bool) {s : State} (h : s.restoring 13 = false) :
    exec (.ruleEnWrite n v) s = .next (s.setRuleEn n v).settle := State.orHeld_of_not_restoring _ _ _ _ _ _ h

theorem State.setRuleEn_of_bad {s : State} {n : Nat} (hoff : s.rdB (Obj.RULE_EN n) = false) (hg : s.ruleGood n = false) :
    s.setRuleEn n true = s.rangeReject 13 (Obj.RULE_EN n).key := by
  simp [State.setRuleEn, hoff, hg]

theorem State.setRuleEn_of_good {s : State} {n : Nat} {v : Bool}
    (h : v = false ∨ s.rdB (Obj.RULE_EN n) = true ∨ s.ruleGood n = true) : s.setRuleEn n v = s.wr (Obj.RULE_EN n) (flag v) := by
  refine if_neg ?_
  rcases h with h | h | h <;> simp [h]

/-- Settles O52, clause by clause: the checks, the rule that takes a frame, its policer, and the enable of a rule. -/
theorem frameReceptionCompletes : Obligations.FrameReceptionCompletes := by
  refine ⟨fun _ f _ => exec_portFrameRx f, fun p _ s => s.receive_of_incomplete p, ?counted, ?good,
    fun _ st _ o _ => State.classifyFrame_of_dropped st o, fun _ _ _ _ => State.ruleFor_eq_some, ?unmatched,
    fun _ _ => State.police_of_off, ?rejected, ?enabled⟩
  case counted =>
    rintro p f s _ hc rfl
    exact ⟨s.receive_of_bad_fcs p hc, s.receive_of_bad_length p hc⟩
  case good =>
    rintro p f s _ _ hc hk rfl rfl
    exact s.receive_of_good p hc hk
  case unmatched =>
    rintro p n k s (hoff | ⟨hf, ht⟩)
    · exact State.ruleMatches_of_off hoff
    · exact State.ruleMatches_of_fragment hf ht
  case rejected =>
    intro n s hfree hoff hg
    rw [exec_ruleEnWrite n true hfree, State.setRuleEn_of_bad hoff hg]
  case enabled =>
    intro n v s hfree h
    rw [exec_ruleEnWrite n v hfree, State.setRuleEn_of_good h]
    rfl

end Sys2Proof.Machine
end

section
/-! PROOFS. The messages of the timing protocol engine's clients: the checks of counters 05 to 09, Signaling, and Delay_Req (R251,
R259, R261, R276). -/

namespace Sys2Proof.Machine

/-! The checks (R251, R276). -/

theorem exec_unsupportedMessageRx {pl : Fin 4} {w : Passage} {xx : Nat} {s : State} (hw : s.nextPassage pl = some w)
    (hj : s.judge w = .drop xx) : exec (.unsupportedMessageRx pl) s = .next ((s.dropPassage w xx).watched s).settle := by
  show execUnsupportedMessageRx pl s = _
  simp only [execUnsupportedMessageRx, hw, hj]

/-- SVC_OFF comes before every look at the message. -/
theorem State.judgePtp_of_off {s : State} (p : Nat) (k : Packet) (payload : List Octet) (h : s.tpeOn = false) :
    s.judgePtp p k payload = .drop 5 := if_pos (.inl (by simp [h]))

theorem State.judgePtp_of_malformed {s : State} {payload : List Octet} (p : Nat) (k : Packet) (hon : s.tpeOn = true)
    (hsvc : s.pktService = 2) (hparse : ptpParse payload = none) : s.judgePtp p k payload = .drop 6 := by
  simp [State.judgePtp, hon, hsvc, hparse]

/-! Signaling (R259). -/

theorem exec_signalingRequest {pl : Fin 4} {w : Passage} {x : Nat} {m : List Octet} {tlvs : List (Nat × List Octet)} {s : State}
    (h : s.nextSignal pl true = some (w, x, m, tlvs)) :
    exec (.signalingRequest pl) s = .next ((s.signal? w x m tlvs).watched s).settle := by
  show execSignalingRequest pl s = _
  simp only [execSignalingRequest, h]

theorem exec_signalingCancel {pl : Fin 4} {w : Passage} {x : Nat} {m : List Octet} {tlvs : List (Nat × List Octet)} {s : State}
    (h : s.nextSignal pl false = some (w, x, m, tlvs)) :
    exec (.signalingCancel pl) s = .next ((s.signal? w x m tlvs).watched s).settle := by
  show execSignalingCancel pl s = _
  simp only [execSignalingCancel, h]

theorem State.signal?_of_bad {w : Passage} {x xx : Nat} {m : List Octet} {tlvs : List (Nat × List Octet)} {s s1 : State}
    (h : s.clientProof x (clientKey w.port (packetOf w.octets) m) m tlvs = (s1, .bad xx)) :
    s.signal? w x m tlvs = s1.dropPassage w xx := by
  simp only [State.signal?, h]

/-! A Signaling message that has passed its checks and has something to be answered. -/

section
variable {w : Passage} {x : Nat} {m reply : List Octet} {tlvs : List (Nat × List Octet)} {e : Option Nat} {s s1 s2 : State}
  {key : ClientKey} {g : Bool} (hkey : key = clientKey w.port (packetOf w.octets) m)
  (hproof : s.clientProof x key m tlvs = (s1, .good e))
  (htlvs : ((s1.passed w).tpeCount 1).signalTlvs ⟨w, packetOf w.octets, key, x, e⟩ tlvs = (s2, reply, g)) (hreply : reply ≠ [])
include hkey hproof htlvs hreply

/-- A client without a record, whose requests were refused, is answered at once. -/
theorem State.signal?_of_unknown (hl : s2.lookup key = none) : s.signal? w x m tlvs = s2.signalReply {
    jseq := s2.rdN Obj.JR_TX, record := none, write := none, due := [], passage := w, profile := x, body := reply,
    auth := e.map fun n => (n, portIdentity (key.clockId, key.portNum)) } := by
  subst hkey
  simp only [State.signal?, hproof, htlvs, hl, if_neg hreply]
  rfl

variable {n : Nat} {y : FoldRecord} {h : HeldReply} (hl : s2.lookup key = some (n, y))
  (hheld : h = { jseq := (s2.touch n).rdN Obj.JR_TX, record := some n, write := none, due := [], passage := w, profile := x,
                 body := reply, auth := replyAuth (some y) e key })
include hl hheld

/-- Where nothing was granted, or no twin acknowledges it, the reply goes out at once. -/
theorem State.signal?_answered (hno : g = false ∨ (s2.touch n).awaits = false) :
    s.signal? w x m tlvs = (s2.touch n).signalReply h := by
  subst hkey hheld
  have hg : (g && (s2.touch n).awaits) = false := Bool.and_eq_false_iff.mpr hno
  simp only [State.signal?, hproof, htlvs, hl, if_neg hreply, hg]
  rfl

/-- What was granted waits with its reply for the twin's acknowledgement (R272). -/
theorem State.signal?_held (hg : g = true) (ha : (s2.touch n).awaits = true) :
    (s.signal? w x m tlvs).tpe.replies =
      ((s2.touch n).unwritten ((s1.passed w).tpeCount 1) n y).tpe.replies ++
        [{ h with write := some y, due := (s2.touch n).entriesOf n }] := by
  subst hkey hheld hg
  simp only [State.signal?, hproof, htlvs, hl, if_neg hreply, ha, Bool.and_self]
  rfl

end

/-! The TLVs of a Signaling message (R259). -/

/-- Rule 5 of R259 for a client that has a record. -/
theorem State.requestTlv_granted {q : Request} {body : List Octet} {type r : Nat} {log : Int} {f : FoldRecord} {s : State}
    (htype : type = field body 0 1 / 16) (hlog : log = fieldInt body 1 1)
    (hserved : type = Ptp.ANNOUNCE ∨ type = Ptp.SYNC ∨ type = Ptp.DELAY_RESP)
    (hlow : s.interval q.profile (intervalLo type) ≤ log) (hhigh : log ≤ 6) (hdur : field body 2 4 ≠ 0)
    (hl : s.lookup q.key = some (r, f)) (hquota : s.overQuota (some f) f.cls type log = false) :
    let d := min (field body 2 4) (s.rdN (Obj.PROF_GRANT_MAXDUR q.profile))
    s.requestTlv q body = (s.grantTo r { f with mac := q.k.src } type log
      (ceilDiv (q.w.stamp16 + d * giga * 65536) (giga * 65536)) q.w.stamp16, grantTlv type log d, true) := by
  have hgood : ¬((type ≠ Ptp.ANNOUNCE ∧ type ≠ Ptp.SYNC ∧ type ≠ Ptp.DELAY_RESP) ∨
      log < s.interval q.profile (intervalLo type) ∨ 6 < log ∨ field body 2 4 = 0) := by
    omega
  have hclass : classOf (some f) q.w = f.cls := rfl
  intro d
  rw [State.requestTlv]
  dsimp only
  rw [← htype, ← hlog, if_neg hgood, hl, Option.map_some, hclass, hquota, if_neg Bool.false_ne_true]

/-- Rule 2 of R259: a request for no time at all is refused. -/
theorem State.requestTlv_of_no_duration {q : Request} {body : List Octet} {s : State} (h : field body 2 4 = 0) :
    s.requestTlv q body = (s.tpeCount 0x15, grantTlv (field body 0 1 / 16) (fieldInt body 1 1) 0, false) :=
  if_pos (.inr (.inr (.inr h)))

theorem State.cancelTlv_sync {q : Request} {body : List Octet} {r : Nat} {f : FoldRecord} {s : State}
    (hl : s.lookup q.key = some (r, f)) (htype : field body 0 1 / 16 = Ptp.SYNC) (hlive : (grantOf f Ptp.SYNC).exp ≠ 0) :
    s.cancelTlv q body =
      ((s.endGrant r Ptp.SYNC).journal (.cancel q.key Ptp.SYNC), tlv Tlv.ACK_CANCEL [oct (Ptp.SYNC * 16), 0], false) := by
  simp [State.cancelTlv, hl, htype, hlive]

/-! Delay_Req (R261). -/

theorem exec_delayReqRx {pl : Fin 4} {w : Passage} {x : Nat} {ses : Option Nat} {m : List Octet} {tlvs : List (Nat × List Octet)}
    {s : State} (h : s.nextPtp pl (· == Ptp.DELAY_REQ) = some (w, x, ses, m, tlvs)) :
    exec (.delayReqRx pl) s = .next ((s.delayReq w x m tlvs).watched s).settle := by
  show execDelayReqRx pl s = _
  simp only [execDelayReqRx, h]

/-- A Delay_Req that its record admits is noted there and answered. -/
theorem State.delayReq_answered {w : Passage} {x r : Nat} {m : List Octet} {tlvs : List (Nat × List Octet)} {e : Option Nat}
    {f f1 : FoldRecord} {s s1 : State} {key : ClientKey} (hkey : key = clientKey w.port (packetOf w.octets) m)
    (hproof : s.clientProof x key m tlvs = (s1, .good e)) (hl : s1.lookup key = some (r, f))
    (hgood : dreqDrop (some f) w.stamp16 (ptpSeq m) = none)
    (hf1 : f1 = { f with mac := (packetOf w.octets).src, dreqLastSeq := ptpSeq m, dreqLastNs := some (w.stamp16 / 65536),
                         exempt := false, dreqRcvd := wrapSucc f.dreqRcvd }) :
    s.delayReq w x m tlvs =
      ((((s1.touch r).setRecord r f1).passed w).tpeCount 1).delayResp w x r f1 (packetOf w.octets) m := by
  subst hkey hf1
  simp only [State.delayReq, hproof, hl, Option.map_some, hgood]

/-- DREQ_NO_GRANT: the record has no Delay_Resp grant, or one that has run out. -/
theorem dreqDrop_of_no_grant {f : FoldRecord} {t : Nat} (q : Nat) (h : f.dresp.exp = 0 ∨ f.dresp.exp * giga * 65536 ≤ t) :
    dreqDrop (some f) t q = some 0xE := if_pos h

/-- Settles O56, clause by clause: the checks, Signaling with its TLVs and its reply, and Delay_Req. -/
theorem clientMessagesComplete : Obligations.ClientMessagesComplete := by
  refine ⟨fun _ _ _ _ => exec_unsupportedMessageRx, fun p k payload _ => State.judgePtp_of_off p k payload,
    fun p k _ _ => State.judgePtp_of_malformed p k, fun _ _ _ _ _ _ => ⟨exec_signalingRequest, exec_signalingCancel⟩,
    fun _ _ _ _ _ _ _ => State.signal?_of_bad, ?unknown, ?known, fun _ _ _ _ _ _ _ => State.requestTlv_granted,
    fun _ _ _ => State.requestTlv_of_no_duration, fun _ _ _ _ _ => State.cancelTlv_sync, fun _ _ _ _ _ _ _ => exec_delayReqRx,
    fun _ _ _ _ _ _ _ _ _ _ _ => State.delayReq_answered, fun _ _ q => dreqDrop_of_no_grant q, fun _ _ => rfl⟩
  case unknown =>
    intro w x m reply tlvs e s s1 s2 key g hkey hproof htlvs hl hreply
    exact State.signal?_of_unknown hkey hproof htlvs hreply hl
  case known =>
    rintro w x n m reply tlvs e y s s1 s2 _ key g h hkey hproof htlvs hl hreply rfl hheld
    exact ⟨State.signal?_answered hkey hproof htlvs hreply hl hheld, State.signal?_held hkey hproof htlvs hreply hl hheld⟩

end Sys2Proof.Machine
end

section
/-! PROOFS. Peer delay, the ends of grants and records, and FOLD_QUERY (R254, R255, R262). -/

namespace Sys2Proof.Machine

/-! Peer delay: what is received (R262). -/

theorem exec_pdelayReqRx {pl : Fin 4} {w : Passage} {x : Nat} {ses : Option Nat} {m : List Octet} {tlvs : List (Nat × List Octet)}
    {s s1 : State} {e : Option Nat} (h : s.nextPtp pl (· == Ptp.PDELAY_REQ) = some (w, x, ses, m, tlvs))
    (hproof : s.clientProof x (clientKey w.port (packetOf w.octets) m) m tlvs = (s1, .good e)) :
    exec (.pdelayReqRx pl) s = .next ((s1.pdelayReply w x e m).watched s).settle := by
  show execPdelayReqRx pl s = _
  simp only [execPdelayReqRx, h, hproof]

theorem exec_pdelayReqRx_of_bad {pl : Fin 4} {w : Passage} {x xx : Nat} {ses : Option Nat} {m : List Octet}
    {tlvs : List (Nat × List Octet)} {s s1 : State} (h : s.nextPtp pl (· == Ptp.PDELAY_REQ) = some (w, x, ses, m, tlvs))
    (hproof : s.clientProof x (clientKey w.port (packetOf w.octets) m) m tlvs = (s1, .bad xx)) :
    exec (.pdelayReqRx pl) s = .next ((s1.dropPassage w xx).watched s).settle := by
  show execPdelayReqRx pl s = _
  simp only [execPdelayReqRx, h, hproof]

theorem exec_pdelayRespRx {pl : Fin 4} {w : Passage} {x : Nat} {ses : Option Nat} {m : List Octet}
    {tlvs : List (Nat × List Octet)} {s s1 : State} {e : Option Nat}
    (h : s.nextPtp pl (fun t => t == Ptp.PDELAY_RESP || t == Ptp.PDELAY_RESP_FOLLOW_UP) = some (w, x, ses, m, tlvs))
    (hproof : s.clientProof x (clientKey w.port (packetOf w.octets) m) m tlvs = (s1, .good e)) :
    exec (.pdelayRespRx pl) s = .next ((((s1.passed w).tpeCount 1).pdelayResp w x m).watched s).settle := by
  show execPdelayRespRx pl s = _
  simp only [execPdelayRespRx, h, hproof]

/-- A one-step Pdelay_Resp to the request that is out reports half of what its round trip took beyond the correction. -/
theorem State.pdelayResp_one_step {w : Passage} {x : Nat} {m : List Octet} {t1 : Int} {s : State}
    (ht1 : (s.peer (peerKey w.port x)).t1 = some t1) (hmine : slice m 44 10 = portIdentity (s.ownPort w.port))
    (hseq : ptpSeq m = (s.peer (peerKey w.port x)).seq) (htype : ptpType m = Ptp.PDELAY_RESP) (hone : ptpTwoStep m = false) :
    s.pdelayResp w x m =
      (s.wr (Obj.TPE_PEER_DELAY w.port) (truncDiv ((w.stamp16 : Int) - t1 - ptpCorrection m) 2)).setPeer (peerKey w.port x)
        { s.peer (peerKey w.port x) with t1 := none, t4 := none } := by
  simp [State.pdelayResp, ht1, hmine, hseq, htype, hone]

/-! Peer delay: the request (R249 to R251, R262). -/

/-- The Pdelay_Req of an exchange, from its number and its sequenceId on. -/
def State.pdelayDraft (s : State) (p x n i seq : Nat) : Draft :=
  { id := i, port := p, pl := p % 4, kind := .pdelayReq n seq,
    addr := s.multicastTo p x (((List.range 3).find? fun t => bitOn (s.profCfg x) (transportBit t)).getD 2) true true,
    bit := 8, from48 := 0, record := none,
    auth := if s.rdN (Obj.PROF_SPP x) = 0xFF then none else some (s.rdN (Obj.PROF_SPP x), portIdentity (s.ownPort p)),
    parts := 2 }

section
variable {p : Fin 8} {x : Fin 16} {s s1 : State} {n : Nat} (hn : n = peerKey p x) (hbound : s.bound? p x = true)
  (hp2p : s.profP2p x = true)
  (hrun : s.runTo (max ((s.peer n).sent48 + period48 (s.interval x 8)) (s.freeFrom (p % 4))) = some s1)
include hn hbound hp2p hrun

/-- Without packet service none is built, and the interval begins again. -/
theorem exec_pdelayReqSend_of_off (h : s1.tpeOn = false ∨ s1.pktService ≠ 2) :
    exec (.pdelayReqSend p x) s = .next (s1.setPeer n { s1.peer n with sent48 := s1.up48 }).settle := by
  subst hn
  have hoff : (!s1.tpeOn) = true ∨ s1.pktService ≠ 2 := by simpa using h
  show execPdelayReqSend p x s = _
  simp only [execPdelayReqSend, hbound, hp2p, hrun, Bool.true_eq_false, or_self, if_false, if_pos hoff]

variable (hon : s1.tpeOn = true) (hsvc : s1.pktService = 2)
include hon hsvc

/-- Without room in its pipeline the request waits. -/
theorem exec_pdelayReqSend_of_full (hroom : s1.roomFor (p % 4) p = false) :
    exec (.pdelayReqSend p x) s = .next s1.settle := by
  subst hn
  show execPdelayReqSend p x s = _
  simp [execPdelayReqSend, hbound, hp2p, hrun, hon, hsvc, hroom]

theorem exec_pdelayReqSend_of_room {s2 : State} {seq i : Nat} (hroom : s1.roomFor (p % 4) p = true)
    (hseq : seq = ((s1.peer n).seq + 1) % 65536)
    (hid : ((s1.taken (p % 4)).setPeer n ⟨seq, none, none, s1.up48⟩).newId = (s2, i)) :
    exec (.pdelayReqSend p x) s =
      .next ((s2.sendMessage (s1.pdelayDraft p x n i seq) 54 fun dep48 => ptpMessage Ptp.PDELAY_REQ
        (s1.rdN (Obj.PROF_DOMAIN x)) (s1.flagField p false (dep48 / ns48)) 0 (s1.ownPort p) seq (s1.interval x 8)
        (ptpTimestamp (Config.pdelayOrigin i) ++ List.replicate 10 0)).watched s).settle := by
  subst hn hseq
  show execPdelayReqSend p x s = _
  simp [execPdelayReqSend, hbound, hp2p, hrun, hon, hsvc, hroom, hid, State.pdelayDraft]

end

/-! The ends of grants and records (R254). -/

theorem exec_grantExpiry {r type exp : Nat} {s s1 : State} (h : s.nextExpiry = some (r, type, exp))
    (hr : s.reach (exp * giga) = some s1) : exec .grantExpiry s = .next (s1.endGrant r type).settle := by
  show execGrantExpiry s = _
  simp only [execGrantExpiry, h, hr]

theorem exec_foldRecordFree {r t : Nat} {s s1 : State} (h : s.nextFree = some (r, t)) (hr : s.reach (t + 60 * giga) = some s1) :
    exec .foldRecordFree s = .next ({ s1 with tpe := { s1.tpe with fold := SMap.del r s1.tpe.fold } } : State).settle := by
  show execFoldRecordFree s = _
  simp only [execFoldRecordFree, h, hr]

/-! FOLD_QUERY (R255). -/

theorem exec_foldQuery (image : List Octet) {s : State} (h : s.restoring 12 = false) :
    exec (.foldQuery image) s = .next (s.foldQuery image).settle := State.orHeld_of_not_restoring _ _ _ _ _ _ h

theorem State.foldQuery_of_none {image : List Octet} {s : State} (h : s.lookup (imageKey image) = none) :
    s.foldQuery image = (s.wrBlob (List.replicate 128 0) Obj.FOLD_QUERY (padTo 128 image)).wrBlob (List.replicate 128 0)
      Obj.FOLD_RESULT (List.replicate 128 0) := by
  simp only [State.foldQuery, h]

theorem State.foldQuery_of_some {image : List Octet} {r : Nat} {f : FoldRecord} {s : State}
    (h : s.lookup (imageKey image) = some (r, f)) :
    s.foldQuery image = (s.wrBlob (List.replicate 128 0) Obj.FOLD_QUERY (padTo 128 image)).wrBlob (List.replicate 128 0)
      Obj.FOLD_RESULT (s.recordOctets r f) := by
  simp only [State.foldQuery, h]

/-- Settles O57, clause by clause: what is received of peer delay, its request, the ends, and the query. -/
theorem peerDelayAndRecordEndsComplete : Obligations.PeerDelayAndRecordEndsComplete := by
  refine ⟨fun _ _ _ _ _ _ _ _ _ => exec_pdelayReqRx, fun _ _ _ _ _ _ _ _ _ => exec_pdelayReqRx_of_bad,
    fun _ _ _ _ _ _ _ _ _ => exec_pdelayRespRx, ?reported, ?sent, ?unsent, fun _ _ _ _ _ => exec_grantExpiry,
    fun _ _ _ _ => exec_foldRecordFree, ?absent, ?found⟩
  case reported =>
    intro w x m t1 s ht1 hmine hseq htype hone
    rw [State.pdelayResp_one_step ht1 hmine hseq htype hone, State.rd_setPeer, State.rd_wr_same]
  case sent =>
    intro p x s s1 s2 n seq i hn hbound hp2p hrun hon hsvc hroom hseq hid
    exact ⟨s1.pdelayDraft p x n i seq, rfl, rfl, rfl,
      exec_pdelayReqSend_of_room hn hbound hp2p hrun hon hsvc hroom hseq hid⟩
  case unsent =>
    intro p x s s1 n hn hbound hp2p hrun
    exact ⟨exec_pdelayReqSend_of_off hn hbound hp2p hrun, exec_pdelayReqSend_of_full hn hbound hp2p hrun⟩
  case absent =>
    rintro image s _ hfree rfl hl
    rw [exec_foldQuery image hfree, State.foldQuery_of_none hl]
  case found =>
    rintro image r f s _ hfree rfl hl
    rw [exec_foldQuery image hfree, State.foldQuery_of_some hl]

end Sys2Proof.Machine
end

section
/-! PROOFS. NTP, NTS, and the completion of a lane's job (R263 to R268, R316). -/

namespace Sys2Proof.Machine

/-! A plain request (R267). -/

section
variable {pl : Fin 4} {w : Passage} {src : Nat} {m : List Octet} {exts : List (Nat × List Octet)} {s : State}

theorem exec_ntpRequest_answered (h : s.nextNtp pl false = some (w, src, m, exts)) (hen : s.rdB Obj.NTP_PLAIN_EN = true) :
    exec (.ntpRequest pl) s = .next ((((s.passed w).tpeCount 3).sendMessage (s.ntpDraft w src) 48
      fun dep48 => s.ntpHeader w m false dep48).watched s).settle := by
  show execNtpRequest pl s = _
  simp [execNtpRequest, h, hen]

/-- NTP_PLAIN_OFF. -/
theorem exec_ntpRequest_dropped (h : s.nextNtp pl false = some (w, src, m, exts)) (hen : s.rdB Obj.NTP_PLAIN_EN = false) :
    exec (.ntpRequest pl) s = .next ((s.dropPassage w 0x13).watched s).settle := by
  show execNtpRequest pl s = _
  simp [execNtpRequest, h, hen]

/-! An NTS request (R268). -/

theorem exec_ntsRequest (h : s.nextNtp pl true = some (w, src, m, exts)) :
    exec (.ntsRequest pl) s = .next ((s.nts w src m exts).watched s).settle := by
  show execNtsRequest pl s = _
  simp only [execNtsRequest, h]

variable {uid body cookie : List Octet} {rest : List (List Octet)} (huid : extOf exts Ext.UNIQUE_ID = [uid])
  (hauth : extOf exts Ext.AUTHENTICATOR = body :: rest) (hlong : 32 ≤ uid.length)
  (hcookie : cookie = ((extOf exts Ext.COOKIE).head?).getD [])
include huid hauth hlong hcookie

/-- A cookie under no master slot is answered by the NAK. -/
theorem State.nts_of_unknown (h : s.unseal cookie = .unknown) : s.nts w src m exts = s.nak w src m uid := by
  subst hcookie
  simp only [State.nts, huid, hauth, if_neg (Nat.not_lt.mpr hlong), h]

/-- A slot that fails the job is a key failure (R315). -/
theorem State.nts_of_keyFailed {status : Nat} (h : s.unseal cookie = .keyFailed status) :
    s.nts w src m exts = (s.jobsDone status 1).dropPassage w 0xC := by
  subst hcookie
  simp only [State.nts, huid, hauth, if_neg (Nat.not_lt.mpr hlong), h]

/-- A cookie that does not open is answered by the NAK, after its job. -/
theorem State.nts_of_bad {status : Nat} (h : s.unseal cookie = .bad status) :
    s.nts w src m exts = (s.jobsDone status 1).nak w src m uid := by
  subst hcookie
  simp only [State.nts, huid, hauth, if_neg (Nat.not_lt.mpr hlong), h]

/-- An opened cookie gives the key of the Authenticator, and a good one a response with one cookie more than the placeholders of
its length ask for, up to NTS_MAX_COOKIES. -/
theorem State.nts_of_opened {text : List Octet} (h : s.unseal cookie = .opened text) :
    s.nts w src m exts =
      if authGood (slice text 4 32) m body then
        s.ntsReply w src m uid text (min (1 + ((extOf exts Ext.PLACEHOLDER).filter fun b =>
          b.length == cookie.length).length) (s.rdN Obj.NTS_MAX_COOKIES))
      else (s.jobsDone Ks.OK 2).dropPassage w 0x11 := by
  subst hcookie
  simp only [State.nts, huid, hauth, if_neg (Nat.not_lt.mpr hlong), h]
  cases authGood (slice text 4 32) m body <;> rfl

end

/-! A job that completes in a lane (R316). -/

theorem exec_cryptoJobComplete {lane : Fin 9} {j : Job} {s : State}
    (h : s.ks.jobs.find? (fun x => x.lane == some lane.val) = some j) :
    exec (.cryptoJobComplete lane) s = .next ((s.jobComplete j).sendReplies.watched s).settle := by
  show execCryptoJobComplete lane s = _
  simp only [execCryptoJobComplete, h]

/-- The job has left its lane and is counted, and the jobs that waited are admitted. -/
def State.jobTaken (s : State) (j : Job) : State :=
  ((({ s with ks := { s.ks with jobs := s.ks.jobs.filter fun x => x.id != j.id } } : State).jobsDone j.status
    j.parts).keyJobDone j.id).admitJobs

/-- Its frame is gone, or it never had one. -/
theorem State.jobComplete_of_no_frame {s : State} {j : Job}
    (h : ((s.jobTaken j).tpe.frames.find? fun f => tagJob f.tag == some j.id) = none) : s.jobComplete j = s.jobTaken j := by
  unfold State.jobTaken at h ⊢
  simp only [State.jobComplete, h]

section
variable {s : State} {j : Job} {f : Frame} (h : ((s.jobTaken j).tpe.frames.find? fun f => tagJob f.tag == some j.id) = some f)
include h

/-- KEY_FAIL. -/
theorem State.jobComplete_of_failed (hst : j.status ≠ Ks.OK) : s.jobComplete j = ((s.jobTaken j).dropFrame f).keyFail := by
  unfold State.jobTaken at h ⊢
  simp only [State.jobComplete, h, if_pos hst]

theorem State.jobComplete_of_ok {f1 : Frame} (hf1 : f1 = { f with msg := f.msg ++ tagOctets j.key f.msg f.tag, tag := .ready })
    (hst : j.status = Ks.OK) :
    s.jobComplete j = { s.jobTaken j with tpe := { (s.jobTaken j).tpe with
      frames := (s.jobTaken j).tpe.frames.map fun x => if x.id = f.id then f1 else x } } := by
  subst hf1
  unfold State.jobTaken at h ⊢
  simp only [State.jobComplete, h, if_neg (not_not_intro hst)]

end

/-- Settles O59, clause by clause: the plain request, the NTS request by what becomes of its cookie, and the job. -/
theorem ntpAndCryptoJobsComplete : Obligations.NtpAndCryptoJobsComplete := by
  refine ⟨fun _ _ _ _ _ _ h => ⟨exec_ntpRequest_answered h, exec_ntpRequest_dropped h⟩, fun _ _ _ _ _ _ => exec_ntsRequest,
    ?cookie, fun _ _ _ => exec_cryptoJobComplete, ?noFrame, ?frame⟩
  case cookie =>
    intro w src m uid body rest exts s cookie huid hauth hlong hcookie
    cases hopen : s.unseal cookie with
    | unknown => exact State.nts_of_unknown huid hauth hlong hcookie hopen
    | keyFailed status => exact State.nts_of_keyFailed huid hauth hlong hcookie hopen
    | bad status => exact State.nts_of_bad huid hauth hlong hcookie hopen
    | opened text => exact State.nts_of_opened huid hauth hlong hcookie hopen
  case noFrame =>
    rintro j s _ rfl h
    exact State.jobComplete_of_no_frame h
  case frame =>
    rintro j f f1 s _ rfl h hf1
    exact ⟨State.jobComplete_of_failed h, State.jobComplete_of_ok h hf1⟩

end Sys2Proof.Machine
end

section
/-! PROOFS. The sessions of the timing protocol engine: SES_EN, their messages, and their timers (R85, R171, R270, R274, R275). -/

namespace Sys2Proof.Machine

/-! SES_EN (R274). -/

theorem exec_sesEnWrite (n : Fin 4) (v : Bool) {s : State} (h : s.restoring 12 = false) :
    exec (.sesEnWrite n v) s = .next (s.setSesEn n v).close := State.orHeld_of_not_restoring _ _ _ _ _ _ h

/-- A session starts, unless its profile measures peer delay (Table 11-8). -/
theorem State.setSesEn_on {s : State} {n : Nat} (h : s.rdB (Obj.SES_EN n) = false) :
    s.setSesEn n true = if s.profP2p (s.sesProfile n) then s.rangeReject 12 (Obj.SES_EN n).key
      else (s.wrN (Obj.SES_EN n) 1).sesStart n := by
  simp [State.setSesEn, h]

theorem State.setSesEn_off (s : State) (n : Nat) :
    s.setSesEn n false = ((((s.wrN (Obj.SES_EN n) 0).wrN (Obj.SES_STATE n) 0).setSession n Session.reset).cond
      (Src.SES_TIMEOUT n) false).slotLos (16 + n) := rfl

/-! A session's messages reach it by their type, and act once they are authenticated (R264 to R266, R274). -/

section
variable {pl : Fin 4} {w : Passage} {n : Nat} {m : List Octet} {tlvs : List (Nat × List Octet)} {s : State}

theorem exec_sessionSyncRx (h : s.nextSes pl (fun t _ => t == Ptp.SYNC || t == Ptp.FOLLOW_UP) = some (w, n, m, tlvs)) :
    exec (.sessionSyncRx pl) s = .next ((s.sesMessage w n m tlvs (State.sesSyncMessage w n m)).watched s).close := by
  show execSessionSyncRx pl s = _
  simp only [execSessionSyncRx, h]

theorem exec_sessionDelayRespRx (h : s.nextSes pl (fun t _ => t == Ptp.DELAY_RESP) = some (w, n, m, tlvs)) :
    exec (.sessionDelayRespRx pl) s = .next ((s.sesMessage w n m tlvs (State.sesDelayResp n m)).watched s).settle := by
  show execSessionDelayRespRx pl s = _
  simp only [execSessionDelayRespRx, h]

theorem exec_sessionAnnounceRx (h : s.nextSes pl (fun t _ => t == Ptp.ANNOUNCE) = some (w, n, m, tlvs)) :
    exec (.sessionAnnounceRx pl) s = .next ((s.sesMessage w n m tlvs (State.sesAnnounce n m tlvs)).watched s).close := by
  show execSessionAnnounceRx pl s = _
  simp only [execSessionAnnounceRx, h]

theorem exec_sessionGrantRx
    (h : s.nextSes pl (fun t tlvs => t == Ptp.SIGNALING && hasTlv tlvs Tlv.GRANT) = some (w, n, m, tlvs)) :
    exec (.sessionGrantRx pl) s = .next ((s.sesMessage w n m tlvs (State.sesGrants n tlvs)).watched s).settle := by
  show execSessionGrantRx pl s = _
  simp only [execSessionGrantRx, h]

variable {f : State → State} {s1 : State}

theorem State.sesMessage_of_bad {xx : Nat}
    (h : s.authenticate ((s.sesAuth n).isSome || bitOn (s.profCfg (s.sesProfile n)) 12) (portIdentity (s.ownPort (s.sesPort n)))
      m tlvs = (s1, .bad xx)) : s.sesMessage w n m tlvs f = s1.dropPassage w xx := by
  simp only [State.sesMessage, h]

theorem State.sesMessage_of_good {e : Option Nat}
    (h : s.authenticate ((s.sesAuth n).isSome || bitOn (s.profCfg (s.sesProfile n)) 12) (portIdentity (s.ownPort (s.sesPort n)))
      m tlvs = (s1, .good e)) (hst : ((s1.passed w).tpeCount 1).rdN (Obj.SES_STATE n) ≠ 3) :
    s.sesMessage w n m tlvs f = f ((s1.passed w).tpeCount 1) := by
  simp only [State.sesMessage, h, beq_false_of_ne hst, Bool.false_and, State.when_false]

end

/-! Measurements (R274, R275). -/

section
variable {w : Passage} {n : Nat} {m : List Octet} {s : State} (htype : ptpType m = Ptp.SYNC)
include htype

theorem State.sesSyncMessage_one_step (h : ptpTwoStep m = false) :
    State.sesSyncMessage w n m s = s.sesSync n ((timestampOf (slice m 34 10) * 65536 : Nat) + ptpCorrection m) w.stamp16 := by
  simp [State.sesSyncMessage, htype, h]

/-- A two-step Sync waits for its Follow_Up. -/
theorem State.sesSyncMessage_two_step (h : ptpTwoStep m = true) :
    State.sesSyncMessage w n m s =
      s.setSession n { s.session n with waiting := some ⟨ptpSeq m, ptpCorrection m, w.stamp16, s.up48⟩ } := by
  simp [State.sesSyncMessage, htype, h]

end

section
variable {n : Nat} {t1 t2 : Int} {s s1 : State}
  (h1 : s1 = s.setSession n { s.session n with last := some (t1, t2), waiting := none })
include h1

/-- Without a recent path delay a Sync gives no measurement. -/
theorem State.sesSync_of_no_path (hp : s1.recentPath n = none) : s.sesSync n t1 t2 = s1 := by
  subst h1
  simp only [State.sesSync, hp]

theorem State.sesSync_of_path {path o : Int} {s2 : State} (hp : s1.recentPath n = some path)
    (ho : o = t2 - t1 - path - s1.rd (Obj.SES_ASYM n)) (h2 : s2 = (s1.wr (Obj.SES_OFFSET n) o).sesRun n) :
    s.sesSync n t1 t2 = s2.measure (16 + n)
      { base48 := t2 * 2 ^ 32 - s2.lead48, ready48 := s2.base48, phase48 := ((-o * 2 ^ 32 : Int) : Rat) + s2.lead48 } := by
  subst h2 ho h1
  simp only [State.sesSync, hp]

end

/-- A Delay_Resp to the Delay_Req that is out gives the mean of both ways as the path delay. -/
theorem State.sesDelayResp_answer {n seq : Nat} {m : List Octet} {t1 t2 t3 t4 : Int} {s : State}
    (hmine : slice m 44 10 = portIdentity (s.ownPort (s.sesPort n))) (hreq : (s.session n).request = some (seq, some t3))
    (hlast : (s.session n).last = some (t1, t2)) (hseq : seq = ptpSeq m)
    (ht4 : t4 = (timestampOf (slice m 34 10) * 65536 : Nat) - ptpCorrection m) :
    State.sesDelayResp n m s =
      (s.wr (Obj.SES_PATH_DELAY n) (truncDiv (t2 - t1 + (t4 - t3)) 2)).setSession n
        { s.session n with request := none, path := some (truncDiv (t2 - t1 + (t4 - t3)) 2, s.up48) } := by
  simp only [State.sesDelayResp, beq_iff_eq.mpr hmine, hreq, hlast, if_pos hseq, ← ht4]

/-! Grants (R274). -/

section
variable {n dur : Nat} {b : List Octet} {s : State} {x : Session} (hdur : dur = field b 2 4)
  (hx : x = { s.session n with asked48 := without (s.session n).asked48 [field b 0 1 / 16] })
include hdur hx

/-- A refusal is tried again after 10 s. -/
theorem State.sesGrants_refused (h : dur = 0) :
    State.sesGrants n [(Tlv.GRANT, b)] s = s.setSession n { x with
      retry48 := stampAll x.retry48 [field b 0 1 / 16] (s.up48 + 10 * sec48) } := by
  subst hx
  exact if_pos (hdur ▸ h)

/-- A grant runs for its duration, and its renewal is due after 3/4 of it. -/
theorem State.sesGrants_granted (h : dur ≠ 0) :
    State.sesGrants n [(Tlv.GRANT, b)] s = s.setSession n { x with
      grants := SMap.ins (field b 0 1 / 16) {
        end48 := s.up48 + dur * sec48, log := fieldInt b 1 1,
        renew48 := s.up48 + dur * sec48 * 3 / 4 } x.grants,
      retry48 := without x.retry48 [field b 0 1 / 16] } := by
  subst hx hdur
  exact if_neg h

end

theorem exec_sesGrantRenew {n : Fin 4} {ty : Nat} {g g1 : SesGrant} {s s1 : State} (hon : s.sesOn n = true)
    (huni : s.sesUnicast n = true) (h : s.nextRenewal n = some (ty, g)) (hr : s.runTo g.renew48 = some s1)
    (hg1 : g1 = { g with renew48 := g.end48 }) : exec (.sesGrantRenew n) s =
      .next (((s1.setSession n { s1.session n with grants := SMap.ins ty g1 (s1.session n).grants }).sesRequest n [ty]).watched
        s).settle := by
  subst hg1
  show execSesGrantRenew n s = _
  simp only [execSesGrantRenew, hon, huni, h, hr, Bool.not_true, Bool.or_self, Bool.false_eq_true, if_false]

section
variable {n : Fin 4} {t : Nat} {s s1 : State}

section
variable (h : earliest (s.session n).retry48 = some t) (hr : s.runTo (max t (s.freeFrom (s.sesPipeline n))) = some s1)
include h hr

theorem exec_sesRetry (hon : s1.sesOn n = true) (huni : s1.sesUnicast n = true) (hst : s1.rdN (Obj.SES_STATE n) ≠ 3) :
    exec (.sesRetry n) s =
      .next ((s1.sesRequest n (typesBy (s1.session n).retry48 s1.up48)).watched s).settle := by
  show execSesRetry n s = _
  simp only [execSesRetry, h, hr, hon, huni, beq_false_of_ne hst, State.when_false, Bool.not_true, Bool.or_self,
    Bool.false_eq_true, if_false]

/-- A session that is OFF, or listens to multicast, asks for nothing. -/
theorem exec_sesRetry_of_off (hoff : s1.sesOn n = false ∨ s1.sesUnicast n = false) :
    exec (.sesRetry n) s = .next s1.settle := by
  have hno : (!s1.sesOn n || !s1.sesUnicast n) = true := by simpa using hoff
  show execSesRetry n s = _
  simp only [execSesRetry, h, hr, hno, if_true]

end

theorem exec_sesReplyTimeout {l : List Nat} (h : earliest (s.session n).asked48 = some t) (hr : s.runTo (t + sec48) = some s1)
    (hl : l = typesBy (s1.session n).asked48 (s1.up48 - sec48)) :
    exec (.sesReplyTimeout n) s = .next (s1.setSession n { s1.session n with
      asked48 := without (s1.session n).asked48 l,
      retry48 := stampAll (s1.session n).retry48 l (s1.up48 + 10 * sec48) }).settle := by
  subst hl
  show execSesReplyTimeout n s = _
  simp only [execSesReplyTimeout, h, hr]

/-! The other timers (R85, R270, R274, R275). -/

theorem exec_sesFollowUpTimeout {y : WaitingSync} (h : (s.session n).waiting = some y) (hr : s.runTo (y.at48 + sec48) = some s1) :
    exec (.sesFollowUpTimeout n) s = .next (s1.setSession n { s1.session n with waiting := none }).settle := by
  show execSesFollowUpTimeout n s = _
  simp only [execSesFollowUpTimeout, h, hr]

section
variable {log : Int} (hlog : s.sesDelayLog n = some log)
  (hr : s.runTo (max ((s.session n).dreqAt48 + period48 log) (s.freeFrom (s.sesPipeline n))) = some s1)
include hlog hr

theorem exec_sesDelayReqSend {s2 : State} {seq : Nat} (hseq : seq = ((s1.session n).dreqSeq + 1) % 65536)
    (h2 : s2 = s1.setSession n { s1.session n with dreqAt48 := s1.up48, dreqSeq := seq, request := some (seq, none) })
    (hserved : s1.sesServed = true) (hroom : s1.sesRoom n = true) :
    exec (.sesDelayReqSend n) s = .next ((s2.sesSend n (.delayReq n seq) true 44 fun dep48 =>
      ptpMessage Ptp.DELAY_REQ (s1.rdN (Obj.PROF_DOMAIN (s1.sesProfile n)))
        (s1.flagField (s1.sesPort n) (s1.sesUnicast n) (dep48 / ns48)) 0 (s1.ownPort (s1.sesPort n)) seq log
        (ptpTimestamp (dep48 / ns48))).watched s).settle := by
  subst h2 hseq
  show execSesDelayReqSend n s = _
  simp only [execSesDelayReqSend, hlog, hr, hserved, hroom, Bool.not_true, Bool.false_eq_true, if_false]

/-- Without packet service none is built, and the period begins again (R251). -/
theorem exec_sesDelayReqSend_of_unserved (hserved : s1.sesServed = false) :
    exec (.sesDelayReqSend n) s = .next (s1.setSession n { s1.session n with dreqAt48 := s1.up48 }).settle := by
  show execSesDelayReqSend n s = _
  simp only [execSesDelayReqSend, hlog, hr, hserved, Bool.not_false, if_true]

end

theorem exec_sesTimeout {r : List (Nat × Nat)} (hon : s.sesOn n = true) (hst : s.rdN (Obj.SES_STATE n) ≠ 3)
    (hr : s.runTo (s.sesTimeoutAt n) = some s1)
    (hretry : r = if s1.sesUnicast n && (s1.session n).retry48.isEmpty then stampAll [] sesTypes s1.up48
      else (s1.session n).retry48) :
    exec (.sesTimeout n) s = .next ((((s1.wrN (Obj.SES_STATE n) 3).setSession n { s1.session n with retry48 := r }).cond
      (Src.SES_TIMEOUT n) true).slotLos (16 + n)).close := by
  subst hretry
  show execSesTimeout n s = _
  simp only [execSesTimeout, hon, hst, hr, Bool.not_true, Bool.false_eq_true, or_self, if_false]

end

/-- A session times out SES_TIMEOUT after its last measurement, or before. -/
theorem State.sesTimeoutAt_le (s : State) (n : Nat) :
    s.sesTimeoutAt n ≤ (s.session n).measured48 + ms48 (s.rdN (Obj.SES_TIMEOUT n)) := Nat.min_le_left _ _

/-- Settles O60, clause by clause: SES_EN, the messages with their effects, and the timers. -/
theorem sessionCommandsComplete : Obligations.SessionCommandsComplete := by
  refine ⟨⟨?started, ?rejected, ?ended, fun _ _ _ _ _ _ =>
      ⟨exec_sessionSyncRx, exec_sessionDelayRespRx, exec_sessionAnnounceRx, exec_sessionGrantRx⟩,
      fun _ _ _ _ _ _ _ _ => State.sesMessage_of_bad, fun _ _ _ _ _ _ _ _ => State.sesMessage_of_good,
      fun _ _ _ _ htype => ⟨State.sesSyncMessage_one_step htype, State.sesSyncMessage_two_step htype⟩, ?measured, ?path⟩,
    fun _ _ _ _ _ _ => exec_sesGrantRenew, fun _ _ _ _ h hr => ⟨exec_sesRetry h hr, exec_sesRetry_of_off h hr⟩,
    fun _ _ _ _ _ => exec_sesReplyTimeout, fun _ _ _ _ => exec_sesFollowUpTimeout, ?delayReq, fun _ _ _ _ => exec_sesTimeout,
    fun _ _ _ _ _ hdur hx => ⟨State.sesGrants_refused hdur hx, State.sesGrants_granted hdur hx⟩,
    fun n s => s.sesTimeoutAt_le n⟩
  case started =>
    intro n s hfree hoff hp2p
    rw [exec_sesEnWrite n true hfree, State.setSesEn_on hoff, hp2p]
    rfl
  case rejected =>
    intro n s hfree hoff hp2p
    rw [exec_sesEnWrite n true hfree, State.setSesEn_on hoff, hp2p]
    rfl
  case ended =>
    rintro n s _ hfree rfl
    rw [exec_sesEnWrite n false hfree, State.setSesEn_off]
  case measured =>
    intro n t1 t2 path s s1 h1
    exact ⟨State.sesSync_of_no_path h1, fun _ _ => State.sesSync_of_path h1⟩
  case path =>
    intro n seq m t1 t2 t3 t4 s hmine hreq hlast hseq ht4
    rw [State.sesDelayResp_answer hmine hreq hlast hseq ht4, State.rd_setSession, State.rd_wr_same]
  case delayReq =>
    intro n log s s1 s2 seq hlog hr hseq h2
    exact ⟨exec_sesDelayReqSend hlog hr hseq h2, exec_sesDelayReqSend_of_unserved hlog hr⟩

end Sys2Proof.Machine
end

section
/-! PROOFS. The block as a whole: a step, the cycles in which nothing happens, the dictionary's registers, and what bookkeeping
leaves alone; a status word's clear (R367), the freeze of the counters (R419), SD_INJECT (R415) and the test port (R440). -/

namespace Sys2Proof.Machine

/-- Settles O1: the step's own case of a queue that is not empty. -/
theorem stepRunsFrontCommand : Obligations.StepRunsFrontCommand := by
  intro c rest s h
  simp only [step, h]

/-! Cycles in which nothing happens (R33, R36, R174, R406). -/

theorem step_idle {s : State} (h : s.pending = []) : step s = .next (s.runCycles 1).settle := by
  simp only [step, h]

/-- Outside FREERUN to DEGRADED no evaluation takes place (R36). -/
theorem State.evaluate_of_not_service {s : State} (h : serviceMode s.mode = false) : s.evaluate = s := by
  simp only [State.evaluate, h, Bool.not_false, if_true]

/-- Settles O2: with nothing to run, to log and to evaluate, each part of the end of a cycle is the identity. -/
theorem quietCycles : Obligations.QuietCycles := by
  refine ⟨⟨fun _ => step_idle, ?idle⟩, State.settle_due, State.settle_calm, fun _ => State.evaluate_of_not_service, ?close⟩
  case idle =>
    intro s hpending hstopped hsettled hpaired hseen
    rw [step_idle hpending, State.runCycles_stopped s 1 hstopped, State.settle_calm s hsettled hpaired hseen]
  case close =>
    intro s hdue hpaired hseen hmode
    rw [State.close, State.settle_calm s hdue hpaired hseen, State.evaluate_of_not_service hmode,
      State.settle_calm s hdue hpaired hseen]

/-! The dictionary's maps and the bookkeeping. -/

/-- Settles O5: the laws of the sparse maps, at the registers and at the octets. -/
theorem registerReadAfterWrite : Obligations.RegisterReadAfterWrite :=
  ⟨State.rd_wr_same, fun s _ _ v => s.rd_wr_ne v, State.blob_wrBlob_same, fun s d d' _ _ v => s.blob_wrBlob_ne d d' v,
    fun s r v h => ⟨s.wr_sorted r v h.1, h.2⟩, fun s d r v h => ⟨h.1, s.wrBlob_sorted d r v h.2⟩,
    fun s r => SMap.put_default r.reset s.book.objs r.key⟩

/-- Settles O6: each operation of bookkeeping keeps the agreement that a state has with itself. -/
theorem bookkeepingLeavesTheRestAlone : Obligations.BookkeepingLeavesTheRestAlone :=
  ⟨fun s => (Agrees.refl s).count, fun s => (Agrees.refl s).raise, fun s => (Agrees.refl s).cond, fun s => (Agrees.refl s).log,
    fun s => (Agrees.refl s).toRing, fun s => (Agrees.refl s).notice⟩

/-! A clear with the current sequence number (R367). -/

/-- A word is its bits under a mask and its bits outside it. -/
theorem land_add_ldiff (w : Nat) : ∀ m : Nat, (w &&& m) + Nat.ldiff w m = w := by
  induction w using Nat.binaryRec with
  | zero => simp [Nat.ldiff]
  | bit b w ih =>
    intro m
    obtain ⟨c, k, rfl⟩ : ∃ c k, m = Nat.bit c k := ⟨m.bodd, m.div2, (Nat.bit_bodd_div2 m).symm⟩
    have hw := ih k
    rw [Nat.land_bit, Nat.ldiff_bit]
    cases b <;> cases c <;> simp only [Nat.bit_val] <;> simp <;> omega

theorem bitOn_sub_land (w m k : Nat) : bitOn (w - (w &&& m)) k = (bitOn w k && !bitOn m k) := by
  have h : w - (w &&& m) = Nat.ldiff w m := by
    have := land_add_ldiff w m
    omega
  rw [h, bitOn_eq_testBit, bitOn_eq_testBit, bitOn_eq_testBit, Nat.testBit_ldiff]

/-- Settles O8: the bits that the clear takes away are those of the mask, below the sequence number. -/
theorem currentFlagClearClearsTheMaskedBits : Obligations.CurrentFlagClearClearsTheMaskedBits := by
  intro w mask m _ hmask hm
  have hlow : (seqOf w * 65536 + m) % 65536 = m := by omega
  have hbits : ∀ k, bitOn (m &&& mask) k = (bitOn m k && bitOn mask k) := by simp [bitOn_eq_testBit]
  refine ⟨w - (w &&& (m &&& mask)), ?clears, ?seq, fun k _ => ?bit⟩
  case clears => rw [sqClear, seqOf_upper_half (seqOf_lt w) hm, if_pos rfl, hlow]
  case seq =>
    refine bitsAt_congr fun k _ => ?_
    have hhigh : bitOn mask (16 + k) = false := by
      rw [bitOn_eq_testBit]
      exact Nat.testBit_lt_two_pow (hmask.trans_le (Nat.pow_le_pow_right (n := 2) (by decide) (by omega : 16 ≤ 16 + k)))
    rw [bitOn_sub_land, hbits, hhigh, Bool.and_false, Bool.not_false, Bool.and_true]
  case bit => rw [bitOn_sub_land, hbits]

/-! CTR_FREEZE, SD_INJECT and the test access port, while their blocks are not being restored (R415, R419, R440). -/

theorem exec_ctrFreezeWrite (v : Bool) {s : State} (h : s.restoring 17 = false) :
    exec (.ctrFreezeWrite v) s = .next (s.wr Obj.CTR_FREEZE (flag v)).settle := State.orHeld_of_not_restoring _ _ _ _ _ _ h

theorem key_CTR_VALUE_ne_CTR_FREEZE (n : Nat) : (Obj.CTR_VALUE n).key ≠ Obj.CTR_FREEZE.key := by
  simp only [Obj.CTR_VALUE, Obj.CTR_FREEZE, regKey]
  omega

/-- Settles O9: `State.count` looks at CTR_FREEZE first, and the write of CTR_FREEZE is no write of a CTR_VALUE. -/
theorem freezeStopsEveryCounter : Obligations.FreezeStopsEveryCounter := by
  refine ⟨fun s ev amt h => ?frozen, fun v s h => ⟨_, exec_ctrFreezeWrite v h, ?reads, fun n => ?counter⟩⟩
  case frozen => simp only [State.count, h, Bool.true_or, if_true]
  case reads => cases v <;> simp [State.rdB, flag]
  case counter => exact s.rd_wr_ne _ (key_CTR_VALUE_ne_CTR_FREEZE n)

theorem exec_sdInject (n : BitVec 16) {s : State} (h : s.restoring 16 = false) :
    exec (.sdInject n) s = .next (s.inject n.toNat).settle := State.orHeld_of_not_restoring _ _ _ _ _ _ h

theorem State.inject_in_factory {s : State} {n : Nat} (hm : s.mode = Mode.FACTORY) (hn : (sourceRow? n).isSome = true) :
    s.inject n = s.put { source := n, ends := false, detail := 0, injected := true } := by
  simp only [State.inject, hm, hn, beq_self_eq_true, Bool.and_self, State.when_true]

theorem State.inject_elsewhere {s : State} (n : Nat) (hm : s.mode ≠ Mode.FACTORY) : s.inject n = s := by
  simp only [State.inject, beq_false_of_ne hm, Bool.false_and, State.when_false]

/-- Settles O20: the two cases of SD_INJECT, and those of the instruction register. -/
theorem injectionAndTestPort : Obligations.InjectionAndTestPort := by
  refine ⟨⟨fun n s h hm hn => ?inside, fun n s h hm => ?outside⟩, fun i s h => ?port⟩
  case inside => rw [exec_sdInject n h, State.inject_in_factory hm hn]
  case outside => rw [exec_sdInject n h, State.inject_elsewhere n.toNat hm]
  case port =>
    have hi : (if i = .other ∧ s.mode ≠ Mode.FACTORY then Jtag.bypass else i) = if i = .other then .bypass else i := by
      by_cases ho : i = .other
      · simp [ho, h.resolve_right (not_not_intro ho)]
      · simp [ho]
    have he : ((if i = .other then Jtag.bypass else i) == .extest) = decide (i = .extest) := by cases i <;> rfl
    show execJtagInstructionLoad i s = _
    simp only [execJtagInstructionLoad, hi, he]

end Sys2Proof.Machine
end

section
/-! PROOFS. No step leaves a raise over (R405, R406): how each command's outcome is built of its guards, the run of the clock and
the end of the cycle. -/

namespace Sys2Proof.Machine

/-! What the end of a cycle leaves settled, and what keeps it so. -/

theorem State.when_settled {s : State} {b : Bool} {p : State → State} (h : s.settled) (hp : ∀ t, (p t).settled) :
    (s.when b p).settled := by
  cases b
  · exact h
  · exact hp s

/-- An acquisition ends the cycle, and ends it again where it leaves STANDBY (R35, R339). -/
theorem State.takeOver_settled (s : State) (takeover : Bool) : (s.takeOver takeover).settled := by
  unfold State.takeOver
  extract_lets
  split
  · exact State.close_due _
  · exact State.settle_due _

theorem State.toFactory_settled {s : State} (h : s.settled) : s.toFactory.settled := by
  unfold State.toFactory
  split
  · exact State.settle_due _
  · exact h

/-- An operation on the key cells that ends with a status raises nothing. -/
theorem State.stopped_due (s : State) (op : CellOp) (rest : List CellOp) (status : Nat) :
    (s.stopped op rest status).book.due = s.book.due := by
  unfold State.stopped
  extract_lets _ s1
  have hs1 : s1.book.due = s.book.due := by
    unfold s1
    split <;> rfl
  cases op.gen != 0
  exacts [hs1, hs1]

/-- Nor does the begin of the next one. -/
theorem State.cellsBegin_due (ops : List CellOp) (s : State) : (State.cellsBegin ops s).book.due = s.book.due := by
  induction ops generalizing s with
  | nil => rfl
  | cons op rest ih =>
    unfold State.cellsBegin
    split
    · exact (ih _).trans (State.stopped_due _ _ _ _)
    · split
      · dsimp only
        split
        · exact (ih _).trans (State.stopped_due _ _ _ _)
        · rfl
      · rfl

/-! Outcomes. -/

/-- An outcome that, where it is a next state, leaves no raise over in it. -/
def SettledNext : Host.Outcome State Fault Refusal → Prop
  | .next t => t.settled
  | _ => True

theorem SettledNext.settle {s : State} : SettledNext (.next s.settle) := s.settle_due

theorem SettledNext.close {s : State} : SettledNext (.next s.close) := s.close_due

theorem SettledNext.same {s : State} (h : s.settled) : SettledNext (.next s) := h

theorem SettledNext.ite {c : Prop} {d : Decidable c} {a b : Host.Outcome State Fault Refusal} (ha : SettledNext a)
    (hb : SettledNext b) : SettledNext (if c then a else b) := by
  split
  · exact ha
  · exact hb

/-- A write that waits for a restoration is put down with those that wait, and raises nothing (R368). -/
theorem SettledNext.orHeld {s : State} {b : Nat} {role : Role} {l : Link} {r : Reg} {octets : List Octet}
    {descs : List Posted} {go : Host.Outcome State Fault Refusal} (hs : s.settled) (hgo : SettledNext go) :
    SettledNext (s.orHeld b role l r octets descs go) := .ite hs hgo

section
variable {s : State} (hs : s.settled)
include hs

/-! The outcomes that several commands share, or that end otherwise than by the end of the cycle. -/

theorem gop_settledNext (op : Nat) (q : GopRequest) : SettledNext (gop op q s) :=
  .ite (.same hs) (by split; exacts [.same hs, .ite trivial .settle])

theorem State.writeRegister_settledNext (path : Path) (index : BitVec 16) (sub : BitVec 8) (value : Nat)
    (descs : List Posted) (statusOnly : Bool) : SettledNext (s.writeRegister path index sub value descs statusOnly) := by
  unfold State.writeRegister
  split
  exacts [.ite (.same hs) .settle, .ite trivial (.same hs), .same hs]

/-- The root's record is the one commit that does not end its cycle (R50, R302): it and what begins after it raise nothing. -/
theorem execKeyCellWriteComplete_settledNext : SettledNext (execKeyCellWriteComplete s) := by
  unfold execKeyCellWriteComplete
  split
  · exact .same hs
  · refine .ite (.same hs) (.ite (.ite .settle .settle) ?_)
    split
    exacts [.settle, .same ((State.cellsBegin_due _ _).trans hs), .settle, .settle]

theorem execLeaseAcquire_settledNext : SettledNext (execLeaseAcquire s) := by
  unfold execLeaseAcquire
  split
  · exact .same hs
  · refine .ite (.same hs) ?_
    split
    · exact .same hs
    · split
      · exact .settle
      · split
        exacts [.settle, .ite (.same (State.takeOver_settled _ _)) .settle]

/-- A snapshot falls due at SNAP_AT, at SNAP_EVERY's next instant, or never (R151). -/
theorem execSnapshot_settledNext : SettledNext (execSnapshot s) := by
  refine .ite (.same hs) (.ite .settle ?_)
  extract_lets due
  clear_value due
  split
  · exact .same hs
  · split
    exacts [.same hs, .settle]

theorem execQueuedFrameStart_settledNext (port : Fin 8) : SettledNext (execQueuedFrameStart port s) := by
  refine .ite .settle (.ite (.same hs) ?_)
  extract_lets s1 k q
  clear_value q
  split
  exacts [.settle, .settle]

theorem execEsmcTimeout_settledNext (port : Fin 8) : SettledNext (execEsmcTimeout port s) := by
  unfold execEsmcTimeout
  extract_lets n
  split
  exacts [.same hs, by split; exacts [.same hs, .settle]]

theorem execEvtQueueEdge_settledNext (e : Fin 16) : SettledNext (execEvtQueueEdge e s) := by
  unfold execEvtQueueEdge
  split
  · exact .same hs
  · extract_lets b9 due
    split
    exacts [.same hs, .ite (.ite .settle .settle) (.ite .settle .settle)]

theorem execLoopbackCheck_settledNext (after : Option Int) : SettledNext (execLoopbackCheck after s) := by
  unfold execLoopbackCheck
  split
  · exact .same hs
  · refine .ite .settle ?_
    split
    · exact .settle
    · refine .ite .settle ?_
      extract_lets s3
      split
      exacts [.settle, .settle]

theorem execReceiverPps_settledNext (rx : Fin 2) (tap vernier : Fin 32) : SettledNext (execReceiverPps rx tap vernier s) := by
  unfold execReceiverPps
  extract_lets r n
  split
  · exact .same hs
  · extract_lets edge16
    split
    exacts [.same hs, .ite .settle .close]

omit hs in
theorem execSlowPathTxPost_settledNext (port : Fin 8) (octets : Option (List Octet)) :
    SettledNext (execSlowPathTxPost port octets s) := by
  unfold execSlowPathTxPost
  extract_lets k s0
  split
  · exact .settle
  · extract_lets d s1
    split
    exacts [.settle, .settle]

theorem execPdelayReqRx_settledNext (pl : Fin 4) : SettledNext (execPdelayReqRx pl s) := by
  unfold execPdelayReqRx
  split
  · extract_lets a
    split
    exacts [.settle, .settle]
  · exact .same hs

theorem execPdelayRespRx_settledNext (pl : Fin 4) : SettledNext (execPdelayRespRx pl s) := by
  unfold execPdelayRespRx
  split
  · extract_lets a
    split
    exacts [.settle, .settle]
  · exact .same hs

/-- The loss of a field port's link ends the cycle before what waited for it takes effect, each with a cycle's end of its own
(R246, R312). -/
theorem execFpLinkPoll_settledNext (fp : Fin 2) (up : Bool) : SettledNext (execFpLinkPoll fp up s) :=
  .ite (.same hs) (.ite .settle (.ite (.same (State.when_settled (State.when_settled (State.settle_due _)
    fun _ => State.settle_due _) fun _ => State.settle_due _)) .settle))

end

/-- Every command's outcome: unchanged where a guard fails or its instant cannot come, and the end of a cycle otherwise. -/
theorem exec_settledNext (c : Instr) {s : State} (hs : s.settled) : SettledNext (exec c s) := by
  cases c with
  | powerOnResetRelease | hrstNRelease | loEligible | dramTrainingComplete | loWarmChange | loReturn
    | loFreqMeasurement | snapshotComplete | fosLock | fosLossOfLock | fosAlignComplete | feStreamLoss | feStreamReturn
    | portTrainingComplete | portAligned | portFrameRx | drbgReseed | cwLaneChange | ringDmaError =>
    exact .ite (.same hs) .settle
  | vddBelowThreshold | hrstNLow | dllLock | loLoss | swlTag | laneSelfTest | trngHealthFail | journalRx | journalAckRx
    | resyncReqRx | hostLinkUp | tempBypassRevoke | tempBypassRestore | coreWdog | busMasterEnableChange
    | jtagInstructionLoad =>
    exact .settle
  | softReset | blockReset | lockBitSet | loaTuneEnWrite | tsSetStep | tsSetSlew | tsSetCancel | snapNow | snapAtWrite
    | apllConfigWrite | fosEnWrite | fosFreqWrite | outEnWrite | evtEnWrite | evtEntPush | evtQFlush | grpEnWrite
    | evEnableWrite | rxEnWrite | rxPosWrite | gnEnableWrite | fpEnWrite | tpeEnableWrite | foldQuery | tpeFence
    | profEnWrite | ruleEnWrite | gateEnWrite | gateSwitchAtWrite | keyImport | keyDerive | keyRetire | keyReactivate
    | keyInvalidate | keyDelete | idCsrSubjectWrite | idChallengeWrite | provInstall | fwUpdBegin | fwUpdData
    | fwUpdCommit | fwUpdAbort | fwSvnCommit | ksZeroiseCmd | bwForceRelease | bwForceHoldOff | bwEnableWrite | ringDb
    | ringEnWrite | vdDataEnWrite | sdInject | ctrFreezeWrite | ctrValueWrite =>
    exact .orHeld hs .settle
  | firmwareVerifyComplete | supplyInhibitAssert | fpCollision | trngRetest | resyncComplete =>
    exact .ite (.same hs) (.ite .settle (.ite .settle .settle))
  | pufRegeneration =>
    refine .ite (.same hs) (.ite .settle ?_)
    split
    · exact .settle
    · split
      exacts [.settle, .ite .settle (.ite .settle .settle)]
  | rootGeneration => exact .ite (.same hs) (.ite .settle (.ite (.same hs) .settle))
  | bootComplete => exact .ite (.same hs) (.same (State.toFactory_settled (State.close_due _)))
  | supplyInhibitRelease | codeDensityComplete => exact .ite (.same hs) (.ite .settle .settle)
  | journalPersistRetry | trRingFlush | codeDensityTimeout | calFailRetry | swlTimeout | groupBoundary | loopbackStale
    | trkPullInSuccess | trkPullInTimeout | trkCoastExpiry | gnssSecondNotice | portDeskewRetry | portDownExpiry
    | keyRotation | gateChange | helloSend | pairRecordPersist | irqHoldoffExpiry | fsAnnHoldExpiry =>
    exact .ite (.same hs) (by split; exacts [.same hs, .settle])
  | zeroisationComplete | apllLossOfLock | trkSignalLoss | trkCoastRecover | causewayAuthFail | bar0BadAccess =>
    exact .ite .settle (.same hs)
  | trestleEdge | helloRx | renewRx | releaseRx | takeRx | stateRx =>
    exact .close
  | dllLoss | tableMonitorUpdate => exact .ite (.same hs) (.ite .settle .close)
  | chRecal | chEnWrite | trEnableWrite | slotEnWrite | slEnableWrite | slotSuspend | slotResume | slotRequalify
    | hdEnableWrite | portEnWrite | ethEnableWrite | sesEnWrite | fsRelease =>
    exact .orHeld hs .close
  | slotMissingEdge | todMessageMissing => exact .ite (.same hs) (by split; exacts [.same hs, .ite .settle .close])
  | pinActivityLoss | shadowRestoreComplete => exact .ite .close (.same hs)
  | slotQualified | slotSuspHoldExpiry | slotDisqHoldExpiry | measurementEpoch | sesTimeout | leaseExpiry
    | faultsafeExit =>
    exact .ite (.same hs) (by split; exacts [.same hs, .close])
  | todMessage => exact .ite (.same hs) (.ite .close .settle)
  | esmcPdu => exact .ite (.same hs) (.same hs)
  | loaTuneStep | evtCalComplete | evtProgrammeEdge | leaseRenewal =>
    exact .ite (.same hs) (by split; exacts [.same hs, .ite .settle .settle])
  | loaTuneFrameEnd => exact .ite (.same hs) (by split; exacts [.settle, .settle])
  | acqSearchComplete => exact .ite (.same hs) (by split; exacts [.settle, by split; exacts [.same hs, .settle]])
  | timeSolution => exact .ite (.same hs) (by split; exacts [.ite .settle .settle, .settle])
  | portLinkLoss | leaseRelease | leaseInChange =>
    exact .ite (.same hs) .close
  | fpFrameRx => exact .ite (.same hs) (.ite .settle (.ite .settle (.ite .settle .settle)))
  | fpLinkPoll => exact execFpLinkPoll_settledNext hs _ _
  | sesGrantRenew => exact .ite (.same hs) (by split; exacts [.same hs, by split; exacts [.same hs, .settle]])
  | pdelayReqSend => exact .ite (.same hs) (by split; exacts [.same hs, .ite .settle (.ite .settle .settle)])
  | tamperEvent => exact .ite (.same hs) (.ite (.ite .settle .settle) .settle)
  | contendHoldExpiry =>
    exact .ite (.same hs) (by split; exacts [.same hs, .ite (.same (State.takeOver_settled _ _)) .settle])
  | parityMismatch => exact .ite (.same hs) (by split; exacts [.close, .ite (.same hs) .close])
  | ringDescriptorWriteback => exact .ite (.same hs) (by split; exacts [.settle, by split; exacts [.settle, .settle]])
  | hostLinkLoss | sramEccError | dramEccError =>
    exact .ite .settle .settle
  | pairTimeout =>
    show SettledNext (execPairTimeout _ s); unfold execPairTimeout; split
    exacts [.same hs, by split; exacts [.same hs, .settle]]
  | herdEffect =>
    show SettledNext (execHerdEffect s); unfold execHerdEffect; split
    exacts [.same hs, by split; exacts [.same hs, .settle]]
  | tsSetApply =>
    show SettledNext (execTsSetApply s); unfold execTsSetApply; split
    exacts [.same hs, by split; exacts [.same hs, .settle]]
  | acqDetectionExpire =>
    show SettledNext (execAcqDetectionExpire s); unfold execAcqDetectionExpire; split
    exacts [.same hs, by split; exacts [.same hs, .settle]]
  | frameLaunch =>
    show SettledNext (execFrameLaunch _ s); unfold execFrameLaunch; split
    exacts [.same hs, by split; exacts [.same hs, .settle]]
  | grantExpiry =>
    show SettledNext (execGrantExpiry s); unfold execGrantExpiry; split
    exacts [.same hs, by split; exacts [.same hs, .settle]]
  | foldRecordFree =>
    show SettledNext (execFoldRecordFree s); unfold execFoldRecordFree; split
    exacts [.same hs, by split; exacts [.same hs, .settle]]
  | sesReplyTimeout =>
    show SettledNext (execSesReplyTimeout _ s); unfold execSesReplyTimeout; split
    exacts [.same hs, by split; exacts [.same hs, .settle]]
  | sesFollowUpTimeout =>
    show SettledNext (execSesFollowUpTimeout _ s); unfold execSesFollowUpTimeout; split
    exacts [.same hs, by split; exacts [.same hs, .settle]]
  | gateSwitch =>
    show SettledNext (execGateSwitch _ s); unfold execGateSwitch; split
    exacts [.same hs, by split; exacts [.same hs, .settle]]
  | receivedPauseEnd =>
    show SettledNext (execReceivedPauseEnd _ s); unfold execReceivedPauseEnd; split
    exacts [.same hs, by split; exacts [.same hs, .settle]]
  | herdUpdate => show SettledNext (execHerdUpdate _ s); unfold execHerdUpdate; split; exacts [.same hs, .close]
  | herdUpdateMiss => show SettledNext (execHerdUpdateMiss s); unfold execHerdUpdateMiss; split; exacts [.same hs, .close]
  | tebPinHoldExpiry =>
    show SettledNext (execTebPinHoldExpiry s); unfold execTebPinHoldExpiry; split
    exacts [.same hs, .ite (.same hs) (by split; exacts [.same hs, .settle])]
  | calendarHandover =>
    show SettledNext (execCalendarHandover _ s); unfold execCalendarHandover; split
    exacts [.same hs, .ite (.same hs) (by split; exacts [.same hs, .settle])]
  | journalAckTimeout =>
    show SettledNext (execJournalAckTimeout s); unfold execJournalAckTimeout; split
    exacts [.same hs, .ite (.same hs) (by split; exacts [.same hs, .settle])]
  | secondBoundary => show SettledNext (execSecondBoundary s); unfold execSecondBoundary; split; exacts [.same hs, .settle]
  | ntsRequest => show SettledNext (execNtsRequest _ s); unfold execNtsRequest; split; exacts [.same hs, .settle]
  | cryptoJobComplete =>
    show SettledNext (execCryptoJobComplete _ s); unfold execCryptoJobComplete; split
    exacts [.same hs, .settle]
  | pkuOpComplete => show SettledNext (execPkuOpComplete s); unfold execPkuOpComplete; split; exacts [.same hs, .settle]
  | utcAutoHoldExpiry =>
    show SettledNext (execUtcAutoHoldExpiry s); unfold execUtcAutoHoldExpiry; split
    exacts [.same hs, by split; exacts [.same hs, .ite .settle (by split; exacts [.settle, .settle])]]
  | apllLock =>
    show SettledNext (execApllLock _ s); unfold execApllLock; split
    exacts [.ite (.same hs) .settle, .ite (.same hs) .settle]
  | pauseFrameSend =>
    show SettledNext (execPauseFrameSend _ s); unfold execPauseFrameSend; split
    exacts [.same hs, .ite .settle (by split; exacts [.same hs, .ite .settle .settle])]
  | pauseRepeat =>
    show SettledNext (execPauseRepeat _ s); unfold execPauseRepeat; split
    exacts [.same hs, by split; exacts [.same hs, .ite .settle .settle]]
  | sesRetry =>
    show SettledNext (execSesRetry _ s); unfold execSesRetry; split
    exacts [.same hs, by split; exacts [.same hs, .ite .settle .settle]]
  | fpBackoffExpiry =>
    show SettledNext (execFpBackoffExpiry _ s); unfold execFpBackoffExpiry; split
    exacts [by split; exacts [.same hs, .settle], .same hs]
  | signalingRequest =>
    show SettledNext (execSignalingRequest _ s); unfold execSignalingRequest; split
    exacts [.settle, .same hs]
  | signalingCancel =>
    show SettledNext (execSignalingCancel _ s); unfold execSignalingCancel; split
    exacts [.settle, .same hs]
  | delayReqRx => show SettledNext (execDelayReqRx _ s); unfold execDelayReqRx; split; exacts [.settle, .same hs]
  | sessionDelayRespRx =>
    show SettledNext (execSessionDelayRespRx _ s); unfold execSessionDelayRespRx; split
    exacts [.settle, .same hs]
  | sessionGrantRx => show SettledNext (execSessionGrantRx _ s); unfold execSessionGrantRx; split; exacts [.settle, .same hs]
  | sessionSyncRx => show SettledNext (execSessionSyncRx _ s); unfold execSessionSyncRx; split; exacts [.close, .same hs]
  | sessionAnnounceRx =>
    show SettledNext (execSessionAnnounceRx _ s); unfold execSessionAnnounceRx; split
    exacts [.close, .same hs]
  | ntpRequest =>
    show SettledNext (execNtpRequest _ s); unfold execNtpRequest; split
    exacts [.same hs, .ite .settle .settle]
  | provInstallComplete =>
    show SettledNext (execProvInstallComplete s); unfold execProvInstallComplete; split
    exacts [.same hs, .ite .settle .settle]
  | unsupportedMessageRx =>
    show SettledNext (execUnsupportedMessageRx _ s); unfold execUnsupportedMessageRx; split
    exacts [.same hs, by split; exacts [.settle, .same hs]]
  | calendarEntryDue =>
    show SettledNext (execCalendarEntryDue s); unfold execCalendarEntryDue; split
    exacts [.same hs, by split; exacts [.same hs, by split; exacts [.settle, .settle]]]
  | tpeFenceComplete =>
    show SettledNext (execTpeFenceComplete s); unfold execTpeFenceComplete; split
    exacts [.same hs, .ite (.same hs) .settle]
  | ringOwnGap =>
    show SettledNext (execRingOwnGap _ s); unfold execRingOwnGap; split
    exacts [.same hs, .ite (.same hs) .settle]
  | sesDelayReqSend =>
    show SettledNext (execSesDelayReqSend _ s); unfold execSesDelayReqSend; split
    exacts [.same hs, by split; exacts [.same hs, .ite .settle (.ite .settle .settle)]]
  | splitDetect =>
    show SettledNext (execSplitDetect s); unfold execSplitDetect; split
    exacts [.same hs, .ite (.same hs) (by split; exacts [.same hs, .ite .close .settle])]
  | fpDeferralEnd =>
    show SettledNext (execFpDeferralEnd _ s); unfold execFpDeferralEnd; split
    exacts [.settle, .settle, .same hs]
  | almanacStale =>
    show SettledNext (execAlmanacStale _ s); unfold execAlmanacStale; split
    exacts [.settle, by split; exacts [.same hs, .settle]]
  | keyCellWriteComplete => exact execKeyCellWriteComplete_settledNext hs
  | snapshot => exact execSnapshot_settledNext hs
  | queuedFrameStart => exact execQueuedFrameStart_settledNext hs _
  | esmcTimeout => exact execEsmcTimeout_settledNext hs _
  | evtQueueEdge => exact execEvtQueueEdge_settledNext hs _
  | loopbackCheck => exact execLoopbackCheck_settledNext hs _
  | receiverPps => exact execReceiverPps_settledNext hs _ _ _
  | slowPathTxPost => exact execSlowPathTxPost_settledNext _ _
  | pdelayReqRx => exact execPdelayReqRx_settledNext hs _
  | pdelayRespRx => exact execPdelayRespRx_settledNext hs _
  | leaseAcquire => exact execLeaseAcquire_settledNext hs
  | gopRead | gopWrite | gopReadBlock | gopWriteBlock | gopSubscribe | gopUnsubscribe | gopInvalidRequest =>
    exact gop_settledNext hs _ _
  | registerWrite | statusClear => exact State.writeRegister_settledNext hs _ _ _ _ _ _

/-- Settles O4: a cycle of the clock ends settled, and so does every command, from the state with the queue's rest. -/
theorem everyStepSettlesItsRaises : Obligations.EveryStepSettlesItsRaises := by
  intro s t hs hstep
  have hnext : SettledNext (step s) := by
    unfold step
    split
    · exact exec_settledNext _ hs
    · exact .settle
  rwa [hstep] at hnext

end Sys2Proof.Machine
end

section
/-! PROOFS. The key commands (R306 to R314): what the guards of R312 give, and what a command does with that. -/

namespace Sys2Proof.Machine

/-- KEY_VALUE of a link and slot is cleared, whatever the outcome (R312). -/
def State.valueCleared (s : State) (l : Link) (k : Nat) : State :=
  s.wrBlob (List.replicate 32 0) (Obj.KEY_VALUE (linkCode l) k) (List.replicate 32 0)

/-! The guards of R312. -/

section
variable {l : Link} {k cmd : Nat} {s : State}

/-- The mode is judged first (R326). -/
theorem State.keyPlan_of_mode (h : s.ksMode ≠ Ks.OK) : (s.keyPlan l k cmd).1 = s.ksMode := by
  simp only [State.keyPlan, ne_eq, h, not_false_eq_true, if_true]

/-- Slots 0 to 3 accept no command (R306). -/
theorem State.keyPlan_of_identity_slot (hm : s.ksMode = Ks.OK) (hk : k < 4) : (s.keyPlan l k cmd).1 = Ks.STATE := by
  have hadm : keyAdmits k cmd (s.keysAhead.keyState k) = false := by simp [keyAdmits, Nat.not_le.mpr hk]
  simp only [State.keyPlan, hm, hadm, ne_eq, not_true_eq_false, if_false, Bool.not_false, Bool.or_true, if_true]

variable (hm : s.ksMode = Ks.OK) (hu : s.unsafeBlock 14 = false)
include hm hu

theorem State.keyPlan_import {g : Nat} (hadm : keyAdmits k 1 (s.keysAhead.keyState k) = true) (hlock : s.locked 4 = false)
    (husage : s.rdN (Obj.KEY_USAGE (linkCode l) k) < 32) (hkdf : s.rdN (Obj.KEY_KDF (linkCode l) k) ≤ 1)
    (hg : s.nextGen (s.rdN (Obj.KEY_GEN_REQ (linkCode l) k)) = some g) (hinh : s.inhibited = false)
    (hlane : (s.lanesFor false).isEmpty = false) :
    s.keyPlan l k 1 = (Ks.OK,
      { state := .active, value := s.stagedKey l k, usage := s.rdN (Obj.KEY_USAGE (linkCode l) k),
        kdf := s.rdN (Obj.KEY_KDF (linkCode l) k), origin := 1, depth := 0, gen := g, parent := none,
        recordGen := (s.keysAhead.slotOf k).recordGen + 1 }) := by
  simp [State.keyPlan, hm, hu, hadm, hlock, Nat.not_le.mpr husage, Nat.not_lt.mpr hkdf, hg, hinh, hlane]

theorem State.keyPlan_derive {g : Nat} (hadm : keyAdmits k 2 (s.keysAhead.keyState k) = true)
    (husage : s.rdN (Obj.KEY_USAGE (linkCode l) k) < 32) (hkdf : s.rdN (Obj.KEY_KDF (linkCode l) k) ≤ 1)
    (hn : s.rdN (Obj.KEY_PARENT (linkCode l) k) ≤ 1023) (hlabel : s.stagedLabel l k ≠ [])
    (hg : s.nextGen (s.rdN (Obj.KEY_GEN_REQ (linkCode l) k)) = some g)
    (hp : s.keysAhead.parentStatus (s.rdN (Obj.KEY_PARENT (linkCode l) k)) = Ks.OK) (hinh : s.inhibited = false)
    (hlane : (s.lanesFor ((s.keysAhead.slotOf (s.rdN (Obj.KEY_PARENT (linkCode l) k))).kdf == 0)).isEmpty = false) :
    s.keyPlan l k 2 = (Ks.OK,
      { state := .active
        value := deriveKey (s.keysAhead.slotOf (s.rdN (Obj.KEY_PARENT (linkCode l) k))) (s.stagedLabel l k)
        usage := s.rdN (Obj.KEY_USAGE (linkCode l) k), kdf := s.rdN (Obj.KEY_KDF (linkCode l) k), origin := 2
        depth := (s.keysAhead.slotOf (s.rdN (Obj.KEY_PARENT (linkCode l) k))).depth + 1, gen := g
        parent := some (s.rdN (Obj.KEY_PARENT (linkCode l) k),
          (s.keysAhead.slotOf (s.rdN (Obj.KEY_PARENT (linkCode l) k))).gen)
        recordGen := (s.keysAhead.slotOf k).recordGen + 1 }) := by
  simp [State.keyPlan, hm, hu, hadm, Nat.not_le.mpr husage, Nat.not_lt.mpr hkdf, Nat.not_lt.mpr hn, hlabel, hg, hp, hinh, hlane]

theorem State.keyPlan_retire (hadm : keyAdmits k 3 (s.keysAhead.keyState k) = true) : s.keyPlan l k 3 =
    (Ks.OK, { s.keysAhead.slotOf k with recordGen := (s.keysAhead.slotOf k).recordGen + 1, state := .retiring }) := by
  simp [State.keyPlan, hm, hu, hadm]

theorem State.keyPlan_reactivate (hadm : keyAdmits k 4 (s.keysAhead.keyState k) = true) : s.keyPlan l k 4 =
    (Ks.OK, { s.keysAhead.slotOf k with recordGen := (s.keysAhead.slotOf k).recordGen + 1, state := .active }) := by
  simp [State.keyPlan, hm, hu, hadm]

theorem State.keyPlan_invalidate (hadm : keyAdmits k 5 (s.keysAhead.keyState k) = true) : s.keyPlan l k 5 =
    (Ks.OK, { s.keysAhead.slotOf k with recordGen := (s.keysAhead.slotOf k).recordGen + 1, state := .invalid }) := by
  simp [State.keyPlan, hm, hu, hadm]

theorem State.keyPlan_delete (hadm : keyAdmits k 6 (s.keysAhead.keyState k) = true) : s.keyPlan l k 6 =
    (Ks.OK, { KeySlot.none with recordGen := (s.keysAhead.slotOf k).recordGen + 1 }) := by
  simp [State.keyPlan, hm, hu, hadm]

end

/-- KEY_GEN_REQ 0 asks for the next generation (R309). -/
theorem State.nextGen_zero {s : State} (h : s.rdN Obj.KS_GEN_HIGH + 1 < 2 ^ 48) :
    s.nextGen 0 = some (s.rdN Obj.KS_GEN_HIGH + 1) := by
  simp only [State.nextGen, if_true, Nat.lt_succ_self, h, and_self]

/-! What a command does. -/

/-- A command that a guard stops leaves the guard's status, and no job has run for it (R312). -/
theorem State.keyCommand_refused {s : State} {l : Link} {k cmd n : Nat} (h : (s.keyPlan l k cmd).1 = n) (hok : n ≠ Ks.OK)
    (hlane : n ≠ Ks.LANE_FAULT) :
    s.keyCommand l k cmd = (s.valueCleared l k).wrN (Obj.KEY_RESULT (linkCode l) k) n := by
  simp only [State.keyCommand, State.keyJobs, h, hok, ne_eq, not_false_eq_true, if_true, beq_false_of_ne hok,
    beq_false_of_ne hlane, Bool.or_false, Bool.and_false, State.when_false]
  rfl

/-- A change of a key's state needs no job and takes no generation (R314). -/
theorem State.keyCommand_changed {s : State} {l : Link} {k cmd : Nat} {x : KeySlot} (h : s.keyPlan l k cmd = (Ks.OK, x))
    (h1 : cmd ≠ 1) (h2 : cmd ≠ 2) :
    s.keyCommand l k cmd = { s.valueCleared l k with ks := { (s.valueCleared l k).ks with
      cells := (s.valueCleared l k).ks.cells ++ [{ recordsLeft := 1, commit := .slot (some l) k cmd x }] } } := by
  simp only [State.keyCommand, State.keyJobs, h, ne_eq, not_true_eq_false, if_false, beq_false_of_ne h1, beq_false_of_ne h2,
    Bool.or_false, Bool.false_and, State.when_false]
  rfl

/-- A placement's record starts to be written and its generation is taken; its slot is as it was (R50, R308, R309). -/
theorem State.keyCommand_placed {s : State} {l : Link} {k cmd : Nat} {x : KeySlot} (h : s.keyPlan l k cmd = (Ks.OK, x))
    (hcmd : cmd = 1 ∨ cmd = 2) :
    (s.keyCommand l k cmd).ks.cells = s.ks.cells ++ [{ recordsLeft := 1, commit := .slot (some l) k cmd x }] ∧
    (s.keyCommand l k cmd).rdN Obj.KS_GEN_HIGH = x.gen ∧
    (s.keyCommand l k cmd).blob (List.replicate 32 0) (Obj.KEY_VALUE (linkCode l) k) = List.replicate 32 0 ∧
    (s.keyCommand l k cmd).ks.slots = s.ks.slots ∧ (s.keyCommand l k cmd).clk = s.clk ∧ (s.keyCommand l k cmd).ctl = s.ctl := by
  have hb : (cmd == 1 || cmd == 2) = true := by rcases hcmd with rfl | rfl <;> rfl
  have hjobs : Agrees (s.valueCleared l k) ((s.valueCleared l k).keyJobs cmd Ks.OK) :=
    (Agrees.refl _).when _ _ fun u => (Agrees.refl u).count _ _
  have hcommand : s.keyCommand l k cmd =
      ({ (s.valueCleared l k).keyJobs cmd Ks.OK with ks := { ((s.valueCleared l k).keyJobs cmd Ks.OK).ks with
        cells := ((s.valueCleared l k).keyJobs cmd Ks.OK).ks.cells ++
          [{ recordsLeft := 1, commit := .slot (some l) k cmd x }] } } : State).wrN Obj.KS_GEN_HIGH x.gen := by
    simp only [State.keyCommand, h, ne_eq, not_true_eq_false, if_false, hb, State.when_true]
    rfl
  rw [hcommand]
  refine ⟨congrArg (·.cells ++ _) hjobs.ks, State.rdN_wrN_same _ _ _, ?value, (congrArg Keystone.slots hjobs.ks :),
    (hjobs.clk :), (hjobs.ctl :)⟩
  case value =>
    refine (congrArg (SMap.get _ · _) hjobs.blobs).trans ?_
    exact s.blob_wrBlob_same _ _ _

theorem State.ksMode_of_zeroised {s : State} (h : s.mode = Mode.ZEROISED) : s.ksMode = Ks.ZEROISED := by
  simp [State.ksMode, h]

section
variable {s : State} (l : Link) (k : Fin 1024) (hfree : s.restoring 14 = false)
include hfree

theorem exec_keyImport : exec (.keyImport l k) s = .next (s.keyCommand l k 1).settle :=
  State.orHeld_of_not_restoring _ _ _ _ _ _ hfree
theorem exec_keyDerive : exec (.keyDerive l k) s = .next (s.keyCommand l k 2).settle :=
  State.orHeld_of_not_restoring _ _ _ _ _ _ hfree
theorem exec_keyRetire : exec (.keyRetire l k) s = .next (s.keyCommand l k 3).settle :=
  State.orHeld_of_not_restoring _ _ _ _ _ _ hfree
theorem exec_keyReactivate : exec (.keyReactivate l k) s = .next (s.keyCommand l k 4).settle :=
  State.orHeld_of_not_restoring _ _ _ _ _ _ hfree
theorem exec_keyInvalidate : exec (.keyInvalidate l k) s = .next (s.keyCommand l k 5).settle :=
  State.orHeld_of_not_restoring _ _ _ _ _ _ hfree
theorem exec_keyDelete : exec (.keyDelete l k) s = .next (s.keyCommand l k 6).settle :=
  State.orHeld_of_not_restoring _ _ _ _ _ _ hfree

/-- Where every command of a slot plans one refusal, each of the six leaves it. -/
theorem exec_keyCommand_refused {n : Nat} (h : ∀ cmd, (s.keyPlan l k cmd).1 = n) (hok : n ≠ Ks.OK)
    (hlane : n ≠ Ks.LANE_FAULT) : ∀ c ∈ [Instr.keyImport l k, .keyDerive l k, .keyRetire l k, .keyReactivate l k,
      .keyInvalidate l k, .keyDelete l k],
      exec c s = .next ((s.valueCleared l k).wrN (Obj.KEY_RESULT (linkCode l) k) n).settle := by
  have hcmd : ∀ cmd, s.keyCommand l k cmd = (s.valueCleared l k).wrN (Obj.KEY_RESULT (linkCode l) k) n :=
    fun cmd => State.keyCommand_refused (h cmd) hok hlane
  simp only [List.forall_mem_cons, exec_keyImport l k hfree, exec_keyDerive l k hfree, exec_keyRetire l k hfree,
    exec_keyReactivate l k hfree, exec_keyInvalidate l k hfree, exec_keyDelete l k hfree, hcmd, true_and]
  exact List.forall_mem_nil _

end

/-- Settles O16: the plan that the guards of R312 give each command, and what the command makes of it. -/
theorem keySlotCommandsComplete : Obligations.KeySlotCommandsComplete := by
  refine ⟨⟨?import_, ?derive⟩, ?change, ?identity, ?zeroised⟩
  case import_ =>
    intro l k s hfree hm hu hk4 hk7 hempty hlock husage hkdf hreq hgen hinh hlane x
    have hadm : keyAdmits k 1 (s.keysAhead.keyState k) = true := by simp [keyAdmits, hempty, hk4, hk7]
    have hg : s.nextGen (s.rdN (Obj.KEY_GEN_REQ (linkCode l) k)) = some (s.rdN Obj.KS_GEN_HIGH + 1) := by
      rw [hreq, State.nextGen_zero hgen]
    exact ⟨_, exec_keyImport l k hfree,
      State.keyCommand_placed (State.keyPlan_import hm hu hadm hlock husage hkdf hg hinh hlane) (.inl rfl)⟩
  case derive =>
    intro l k s hfree hm hu hk hempty husage hkdf hn hlabel hreq hgen hp hinh hlane n p x
    have hadm : keyAdmits k 2 (s.keysAhead.keyState k) = true := by
      have hk4 : 4 ≤ k.val := by omega
      simp [keyAdmits, hempty, hk, hk4]
    have hg : s.nextGen (s.rdN (Obj.KEY_GEN_REQ (linkCode l) k)) = some (s.rdN Obj.KS_GEN_HIGH + 1) := by
      rw [hreq, State.nextGen_zero hgen]
    exact ⟨_, exec_keyDerive l k hfree,
      State.keyCommand_placed (State.keyPlan_derive hm hu hadm husage hkdf hn hlabel hg hp hinh hlane) (.inr rfl)⟩
  case change =>
    intro l k s hfree hm hu hk4 hk7 a old s1 written
    refine ⟨fun h => ?retire, fun h => ?reactivate, fun h => ?invalidate, fun h => ?delete⟩
    case retire =>
      have hadm : keyAdmits k 3 (s.keysAhead.keyState k) = true := by simpa [keyAdmits, hk4, hk7] using h
      rw [exec_keyRetire l k hfree, State.keyCommand_changed (State.keyPlan_retire hm hu hadm) (by decide) (by decide)]
      rfl
    case reactivate =>
      have hadm : keyAdmits k 4 (s.keysAhead.keyState k) = true := by simpa [keyAdmits, hk4, hk7] using h
      rw [exec_keyReactivate l k hfree, State.keyCommand_changed (State.keyPlan_reactivate hm hu hadm) (by decide) (by decide)]
      rfl
    case invalidate =>
      have hadm : keyAdmits k 5 (s.keysAhead.keyState k) = true := by simpa [keyAdmits, hk4, hk7] using h
      rw [exec_keyInvalidate l k hfree, State.keyCommand_changed (State.keyPlan_invalidate hm hu hadm) (by decide) (by decide)]
      rfl
    case delete =>
      have hadm : keyAdmits k 6 (s.keysAhead.keyState k) = true := by simpa [keyAdmits, hk4, hk7] using h
      rw [exec_keyDelete l k hfree, State.keyCommand_changed (State.keyPlan_delete hm hu hadm) (by decide) (by decide)]
      rfl
  case identity =>
    intro l k s hfree hm hk
    exact exec_keyCommand_refused l k hfree (fun _ => State.keyPlan_of_identity_slot hm hk) (by decide) (by decide)
  case zeroised =>
    intro l k s hfree hz
    have hm := State.ksMode_of_zeroised hz
    refine exec_keyCommand_refused l k hfree (fun cmd => ?_) (by decide) (by decide)
    rw [State.keyPlan_of_mode (by rw [hm]; decide), hm]

end Sys2Proof.Machine
end

section
/-! PROOFS. Drover's slow path and time gates (R242, R292 to R298). -/

namespace Sys2Proof.Machine

/-! The slow path: the next descriptor of a ring, and the start of a queued frame. -/

section
variable {p : Fin 8} {s s1 : State}

theorem exec_slowPathTxPost_of_none (o : Option (List Octet)) (h : (s.ahead (11 + p)).nextTaken (11 + p) = none) :
    exec (.slowPathTxPost p o) s = .next (s.ahead (11 + p)).settle := by
  show execSlowPathTxPost p o s = _
  simp only [execSlowPathTxPost, h]

theorem exec_slowPathTxPost_refused {o : Option (List Octet)} {t : Taken} {st : Nat} (h1 : s1 = s.ahead (11 + p))
    (ht : s1.nextTaken (11 + p) = some t) (hst : s1.slowStatus p t.desc o = some st) :
    exec (.slowPathTxPost p o) s = .next ((s1.takeStart (11 + p) t).finishUnsent (11 + p) t.count st).settle := by
  show execSlowPathTxPost p o s = _
  simp only [execSlowPathTxPost, ← h1, ht, hst]

theorem exec_slowPathTxPost_queued {o b : List Octet} {t : Taken} {s2 : State} (h1 : s1 = s.ahead (11 + p))
    (ht : s1.nextTaken (11 + p) = some t) (hst : s1.slowStatus p t.desc (some o) = none) (h2 : s2 = s1.takeStart (11 + p) t)
    (hb : b = padTo (max 60 t.desc.length) (padTo t.desc.length o)) :
    exec (.slowPathTxPost p (some o)) s = .next (s2.setQueue p (t.desc.aux % 8) (s2.queue p (t.desc.aux % 8) ++
      [⟨t.count, t.desc, if bitOn t.desc.aux 3 then withChecksums b else b⟩])).settle := by
  subst hb h2
  show execSlowPathTxPost p (some o) s = _
  simp only [execSlowPathTxPost, ← h1, ht, hst, Option.getD_some]

theorem State.slowStatus_of_short (s : State) (p : Nat) {d : Posted} (o : Option (List Octet)) (h : d.length < 14) :
    s.slowStatus p d o = some 2 := if_pos h

theorem State.slowStatus_of_long {p : Nat} {d : Posted} (o : Option (List Octet)) (h : 14 ≤ d.length)
    (hmtu : s.rdN (Obj.PORT_MTU p) - 4 < d.length) : s.slowStatus p d o = some 1 := by
  simp only [State.slowStatus, Nat.not_lt.mpr h, if_false, hmtu, if_true]

theorem State.slowStatus_of_closed {p : Nat} {d : Posted} (o : Option (List Octet)) (h : 14 ≤ d.length)
    (hmtu : d.length ≤ s.rdN (Obj.PORT_MTU p) - 4) (hopen : s.slowOpen p = false) : s.slowStatus p d o = some 3 := by
  simp only [State.slowStatus, Nat.not_lt.mpr h, Nat.not_lt.mpr hmtu, if_false, hopen, Bool.not_false, if_true]

theorem exec_queuedFrameStart_of_closed (h : s.slowOpen p = false) :
    exec (.queuedFrameStart p) s = .next (s.queuesDown p).settle := by
  show execQueuedFrameStart p s = _
  simp only [execQueuedFrameStart, h, Bool.not_false, if_true]

/-- On an open port with queued frames that may send, service comes to a queue, and the others are held for it (R293, R294). -/
theorem exec_queuedFrameStart_of_open (hopen : s.slowOpen p = true) (hq : (s.port p).queues ≠ [])
    (hsends : s.portSends p = true) (hheld : (s.port p).held48 = none) (hvd : s.rdB Obj.VD_DATA_EN = true)
    (h1 : s1 = (s.prune p).turnOn 80000 p) :
    exec (.queuedFrameStart p) s = match s1.offer p (s1.firstBlock p s1.now48) with
      | none => .next (s1.holdQueues p (s1.firstBlock p s1.now48) none).settle
      | some q =>
        let s2 := s1.holdQueues p (s1.firstBlock p s1.now48) (some q)
        .next (s2.when (s2.leaseAt (s2.blockTime p (s1.firstBlock p s1.now48)))
          fun s => s.startQueued p (s1.firstBlock p s1.now48) q).settle := by
  subst h1
  show execQueuedFrameStart p s = _
  simp only [execQueuedFrameStart, hopen, hq, hsends, hheld, hvd, Bool.not_true, Bool.false_eq_true, Bool.true_eq_false,
    Option.isSome_none, or_self, if_false]
  cases ((s.prune p).turnOn 80000 p).offer p _ <;> rfl

/-- A turn that has had its quantum stays where the head lies within the deficit (R293). -/
theorem State.turnOn_of_within {p q : Nat} {h : QueuedFrame} {r : List QueuedFrame} (f : Nat) (hq : s.queue p q = h :: r)
    (hturn : (s.port p).turn = q) (hgained : (s.port p).gained = true) (hwithin : s.counted p h ≤ s.deficit p q) :
    s.turnOn (f + 1) p = s := by
  subst hturn
  unfold State.turnOn
  simp only [hq, hgained, if_true, if_pos hwithin]

/-- A descriptor not owned by the engine, or with no room, holds back those after it (R383, R389). -/
theorem State.takeAhead_of_stop {k : Nat} {d : Posted} (r : List Posted) (h : d.own = false ∨ s.takesOne k d = false) :
    State.takeAhead k (d :: r) s = s := by
  have hstop : (!d.own || !s.takesOne k d) = true := by simpa using h
  simp only [State.takeAhead, hstop, if_true]

end

/-! Gates (R295, R297, R298). -/

section
variable {p : Fin 8} {s : State} (hfree : s.restoring 13 = false)
include hfree

theorem exec_gateEnWrite (v : Bool) : exec (.gateEnWrite p v) s = .next (s.setGateEn p v).settle :=
  State.orHeld_of_not_restoring _ _ _ _ _ _ hfree

theorem exec_gateSwitchAtWrite (sec : BitVec 48) (ns : Fin 1000000000) :
    exec (.gateSwitchAtWrite p sec ns) s = .next (s.setGateSwitch p (sec.toNat * giga + ns)).settle :=
  State.orHeld_of_not_restoring _ _ _ _ _ _ hfree

end

section
variable {p : Nat} {s : State}

theorem State.setGateEn_of_good (hoff : s.rdB (Obj.GATE_EN p) = false)
    (hg : gateListGood (s.rdN (Obj.GATE_CYCLE p)) (s.gateList p) = true) :
    s.setGateEn p true = ((s.wrN (Obj.GATE_EN p) 1).setPort p { s.port p with gates := some s.now80 }).gatesNow p := by
  simp only [State.setGateEn, hoff, hg, Bool.not_true, Bool.false_eq_true, if_false]

theorem State.setGateEn_of_bad (hoff : s.rdB (Obj.GATE_EN p) = false)
    (hg : gateListGood (s.rdN (Obj.GATE_CYCLE p)) (s.gateList p) = false) :
    s.setGateEn p true = s.rangeReject 13 (Obj.GATE_EN p).key := by
  simp only [State.setGateEn, hoff, hg, Bool.not_true, Bool.false_eq_true, if_false, Bool.not_false, if_true]

theorem State.setGateSwitch_of_early {t : Nat} (h : t < s.now80 + 1000000) : s.setGateSwitch p t = s.stick Obj.DRV_STATUS 6 :=
  if_pos h

theorem State.setGateSwitch_of_bad {t : Nat} (h : s.now80 + 1000000 ≤ t)
    (hg : gateListGood (s.rdN (Obj.ADM_CYCLE p)) (s.adminList p) = false) :
    s.setGateSwitch p t = s.rangeReject 13 (Obj.GATE_SWITCH_AT p).key := by
  simp only [State.setGateSwitch, Nat.not_lt.mpr h, if_false, hg, Bool.not_false, if_true]

theorem State.setGateSwitch_of_good {t : Nat} (h : s.now80 + 1000000 ≤ t)
    (hg : gateListGood (s.rdN (Obj.ADM_CYCLE p)) (s.adminList p) = true) : s.setGateSwitch p t =
      ((s.wrN (Obj.GATE_SWITCH_AT p) t).setPort p { s.port p with switch := some t }).switchBit := by
  simp only [State.setGateSwitch, Nat.not_lt.mpr h, if_false, hg, Bool.not_true, Bool.false_eq_true]

end

theorem exec_gateSwitch {p : Fin 8} {t : Nat} {s s1 : State} (hsw : (s.port p).switch = some t) (hr : s.reach t = some s1) :
    exec (.gateSwitch p) s = .next ((s1.gateSwitch p).when s1.leaseCurrent (·.gatesNow p)).settle := by
  show execGateSwitch p s = _
  simp only [execGateSwitch, hsw, hr]

theorem exec_gateChange {p : Fin 8} {s s1 : State} (hon : (s.port p).gates.isSome = true) (hl : s.leaseCurrent = true)
    (hr : s.reach (ceilDiv (s.gateState p (s.port p).gateAt48).2 ns48) = some s1) :
    exec (.gateChange p) s = .next (s1.when s1.leaseCurrent (·.gatesNow p)).settle := by
  have hgo : ((s.port p).gates.isNone || !s.leaseCurrent) = false := by simp [hl, Option.isNone_eq_false_iff, hon]
  show execGateChange p s = _
  simp only [execGateChange, hgo, Bool.false_eq_true, if_false, hr]

/-- An update of the engine's own, in a cycle in which the host does not write the object (R366). -/
theorem State.hw_of_not_hostWrote {s : State} {r : Reg} (v : Int) (h : s.hostWrote r = false) : s.hw r v = s.wr r v := by
  simp only [State.hw, h, Bool.false_eq_true, if_false]

theorem State.rd_hw_ne (s : State) {r q : Reg} (v : Int) (h : q.key ≠ r.key) : (s.hw r v).rd q = s.rd q := by
  unfold State.hw
  split
  · rfl
  · exact s.rd_wr_ne v h

@[simp] theorem State.hostWrote_hw (s : State) (r q : Reg) (v : Int) : (s.hw r v).hostWrote q = s.hostWrote q := by
  unfold State.hw
  split <;> rfl

theorem State.rdN_hw_same {s : State} {r : Reg} (v : Nat) (h : s.hostWrote r = false) : (s.hw r v).rdN r = v := by
  rw [State.hw_of_not_hostWrote _ h]
  exact s.rdN_wrN_same r v

/-- What follows the three updates of a switch writes no register below DRV_STATUS's own but that one (R298). -/
theorem State.rd_gateSwitch (s : State) (p : Nat) {r : Reg} (h : r.key ≠ Obj.DRV_STATUS.key) :
    (s.gateSwitch p).rd r = (((s.hw (Obj.GATE_BASE p) (s.rdN (Obj.ADM_BASE p))).hw (Obj.GATE_CYCLE p)
      (s.rdN (Obj.ADM_CYCLE p))).hw (Obj.GATE_LEN p) (s.rdN (Obj.ADM_LEN p))).rd r := by
  unfold State.gateSwitch State.switchBit
  rw [State.rd_wrN_ne _ _ h]
  exact State.when_keeps (·.rd r) _ _ _ fun _ => rfl

/-- The operational list takes its length from the administrative bank (R298). -/
theorem State.rdN_gateSwitch_LEN {p : Nat} {s : State} (hp : p < 8) (h : s.hostWrote (Obj.GATE_LEN p) = false) :
    (s.gateSwitch p).rdN (Obj.GATE_LEN p) = s.rdN (Obj.ADM_LEN p) := by
  have hne : (Obj.GATE_LEN p).key ≠ Obj.DRV_STATUS.key := by simp only [Obj.GATE_LEN, Obj.DRV_STATUS, regKey]; omega
  rw [State.rdN, State.rd_gateSwitch s p hne]
  exact State.rdN_hw_same _ (by simpa using h)

/-- And so its cycle. -/
theorem State.rdN_gateSwitch_CYCLE {p : Nat} {s : State} (hp : p < 8) (h : s.hostWrote (Obj.GATE_CYCLE p) = false) :
    (s.gateSwitch p).rdN (Obj.GATE_CYCLE p) = s.rdN (Obj.ADM_CYCLE p) := by
  have hne : (Obj.GATE_CYCLE p).key ≠ Obj.DRV_STATUS.key := by simp only [Obj.GATE_CYCLE, Obj.DRV_STATUS, regKey]; omega
  have hlen : (Obj.GATE_CYCLE p).key ≠ (Obj.GATE_LEN p).key := by simp only [Obj.GATE_CYCLE, Obj.GATE_LEN, regKey]; omega
  rw [State.rdN, State.rd_gateSwitch s p hne, State.rd_hw_ne _ _ hlen]
  exact State.rdN_hw_same _ (by simpa using h)

/-- Settles O53: each case of the slow path's and the gates' operations by its own lemma. -/
theorem slowPathAndGatesComplete : Obligations.SlowPathAndGatesComplete := by
  refine ⟨fun p o s => exec_slowPathTxPost_of_none o, fun p o s s1 t st => exec_slowPathTxPost_refused,
    fun p o s s1 s2 t b => exec_slowPathTxPost_queued, fun p d o s => ?status, fun p s => exec_queuedFrameStart_of_closed,
    ?starts, ?held, fun p q f h r s => State.turnOn_of_within f, fun k d r s => State.takeAhead_of_stop r,
    fun p s hf hoff hg => ?gateOn, fun p s hf hoff hg => ?gateBad, fun p s hf => ?gateOff, ?switchAt, ?switch,
    fun p s hp hl hc => ⟨State.rdN_gateSwitch_LEN hp hl, State.rdN_gateSwitch_CYCLE hp hc⟩, ?change, fun p s => rfl⟩
  case status =>
    exact ⟨s.slowStatus_of_short p o, State.slowStatus_of_long o, State.slowStatus_of_closed o⟩
  case starts =>
    intro p q s s1 s2 hopen hq hsends hheld hvd h1 hoffer h2 hlease
    subst h2
    simp only [exec_queuedFrameStart_of_open hopen hq hsends hheld hvd h1, hoffer, hlease, State.when_true]
  case held =>
    intro p s s1 hopen hq hsends hheld hvd h1 hoffer
    simp only [exec_queuedFrameStart_of_open hopen hq hsends hheld hvd h1, hoffer]
  case gateOn => rw [exec_gateEnWrite hf, State.setGateEn_of_good hoff hg]
  case gateBad => rw [exec_gateEnWrite hf, State.setGateEn_of_bad hoff hg]
  case gateOff => rw [exec_gateEnWrite hf]; rfl
  case switchAt =>
    intro p sec ns s t hf ht
    subst ht
    rw [exec_gateSwitchAtWrite hf]
    refine ⟨fun h => ?early, fun h hg => ?bad, fun h hg => ?good⟩
    case early => rw [State.setGateSwitch_of_early h]
    case bad => rw [State.setGateSwitch_of_bad h hg]
    case good => rw [State.setGateSwitch_of_good h hg]
  case switch =>
    intro p t s s1 hsw hr
    rw [exec_gateSwitch hsw hr]
    exact ⟨fun h => by rw [h, State.when_true], fun h => by rw [h, State.when_false]⟩
  case change =>
    intro p s s1 hon hl hr
    rw [exec_gateChange hon hl hr]
    exact ⟨fun h => by rw [h, State.when_true], fun h => by rw [h, State.when_false]⟩

end Sys2Proof.Machine
end

section
/-! PROOFS. Mode changes: the four registers of a mode change (R32), and what it does besides leaves alone. -/

namespace Sys2Proof.Machine

/-! No part of a mode change but the writes of MODE_* writes a register of block 1. -/

section
variable {r : Reg} (h : r.key < 0x200000)
include h

theorem State.rd_wrN_above (s : State) {q : Reg} (v : Nat) (hq : 0x200000 ≤ q.key) : (s.wrN q v).rd r = s.rd r :=
  s.rd_wrN_ne v (by omega)

theorem rd_of_agrees_above {s t : State} (ha : Agrees s t) : t.rd r = s.rd r := ha.rd r (by unfold Reg.low; omega)

theorem State.rd_tebLog (s : State) (cause : Nat) : (s.tebLog cause).rd r = s.rd r := by
  unfold State.tebLog
  extract_lets lost _ s1 x
  have hlost : ∀ (t : State) (b : Bool), (lost t b).rd r = t.rd r := fun _ _ => rfl
  have hbump : ∀ t : State, (t.bump Obj.TEB_LOG_SUPPR).rd r = t.rd r := fun t => t.rd_wrN_above h _ (by decide)
  have hx : x.1.rd r = s.rd r :=
    (rd_of_agrees_above h ((Agrees.refl s1).toRing 22 0 s.stampNs (s1.tebRecord cause)) :).trans rfl
  split
  · split <;> rfl
  · split
    · exact (hlost _ _).trans ((rd_of_agrees_above h ((Agrees.refl _).count _ _)).trans (hbump s))
    · split
      · exact hx
      · exact hx
      · have hstick : ∀ t : State, (t.stick Obj.TEB_STATUS 2).rd r = t.rd r := fun t => t.rd_wrN_above h _ (by decide)
        refine (rd_of_agrees_above h ((Agrees.refl _).raise _)).trans ((hstick _).trans ?_)
        refine (rd_of_agrees_above h ((Agrees.refl _).count _ _)).trans (Eq.trans ?_ hx)
        exact State.rd_wrN_above h _ _ (by decide)

theorem State.rd_tebFreerun (s : State) : s.tebFreerun.rd r = s.rd r := by
  unfold State.tebFreerun
  split
  · rfl
  · exact State.when_keeps (·.rd r) _ _ _ fun t => t.rd_tebLog h 7

theorem State.rd_noCauses (s : State) : s.noCauses.rd r = s.rd r :=
  State.forEach_keeps (·.rd r) _ _ _ fun t n => t.rd_wrN_above h _ (Nat.le_trans (by decide) (key_SRC_STATE n))

theorem State.rd_slotStateTo (s : State) (n new : Nat) (reason : Option SlotReason) :
    (s.slotStateTo n new reason).rd r = s.rd r := by
  have hword : ∀ (t : State) (v : Nat), (t.wrN (Obj.SLOT_STATE n) v).rd r = t.rd r := fun t v =>
    t.rd_wrN_above h v (by simp only [Obj.SLOT_STATE, regKey]; omega)
  by_cases hs : s.slotState n = new
  · rw [State.slotStateTo_same reason hs, hword]
  · have hweight : ∀ t : State, (t.weightless n).rd r = t.rd r := fun t =>
      (State.rd_wrN_above h _ _ (by simp only [Obj.HD_W_FREQ, regKey]; omega)).trans
        (t.rd_wrN_above h _ (by simp only [Obj.HD_W_TIME, regKey]; omega))
    have hclear : ∀ t : State, (t.slotCleared n).rd r = t.rd r := fun t => by
      refine t.rd_slotCleared ?_ ?_ ?_ <;> simp only [Obj.SLOT_CLASS, Obj.SLOT_UNC_RX, Obj.SLOT_QL_RAW, regKey] <;> omega
    rw [rd_of_agrees_above h (.slotStateTo reason hs), State.slotChanged, State.when_keeps (·.rd r) _ _ _ hclear,
      State.when_keeps (·.rd r) _ _ _ hweight]
    exact (hword _ _).trans (hword _ _)

theorem State.rd_slotsDisabled (s : State) : s.slotsDisabled.rd r = s.rd r :=
  State.forEach_keeps (·.rd r) _ _ _ fun t n => by
    split
    · rfl
    · exact t.rd_slotStateTo h n _ _

theorem State.rd_fosFollowAll (s : State) : s.fosFollowAll.rd r = s.rd r := by
  have hfe : ∀ t : State, t.feFollow.rd r = t.rd r := fun t => by
    unfold State.feFollow
    split
    · rfl
    · split <;> rfl
  have hunalign : ∀ (t : State) (k : Nat), (t.fosUnalign k).rd r = t.rd r := fun t k =>
    State.forEach_keeps (·.rd r) _ _ _ fun u _ => State.when_keeps (·.rd r) u _ _ fun _ => rfl
  have hrelock : ∀ (t : State) (k : Nat), (t.fosRelock k).rd r = t.rd r := fun t k =>
    (State.rd_wrN_above h _ _ (by simp only [Obj.FOS_STATE, regKey]; omega)).trans (hunalign t k)
  have hword : ∀ (t : State) (k : Nat), (t.fosCompute k).rd r = t.rd r := fun t k =>
    State.rd_wr_ne (t.setFos k _) _ (by simp only [Obj.FOS_WORD, regKey]; omega)
  refine (hfe _).trans (State.forEach_keeps (·.rd r) _ _ _ fun t k => State.when_keeps (·.rd r) t _ _ fun u => ?_)
  exact (State.when_keeps (·.rd r) _ _ _ fun v => hrelock v k).trans (hword u k)

/-- Of block 1's registers a mode change writes the four of Table 2-3 alone. -/
theorem State.rd_modeTo (s : State) (num mode : Nat) : (s.modeTo num mode).rd r =
    ((((s.wrN Obj.MODE_PREVIOUS s.mode).wrN Obj.MODE_CURRENT mode).wrN Obj.MODE_REASON num).wrN Obj.MODE_SINCE s.now80).rd r := by
  unfold State.modeTo
  extract_lets old s1 c _ slew held _ eval model _ teb s2 s3
  change _ = s1.rd r
  clear_value s1 slew held eval teb
  have hcut := (State.leaseBlind_rd (r := r) (by omega)).cutPulses
  have h2 : s2.rd r = s1.rd r := (State.rd_fosFollowAll h _ :).trans rfl
  have h3 : s3.rd r = s2.rd r := by
    refine (State.when_keeps (·.rd r) _ _ State.dramBack fun _ => rfl).trans ?_
    refine (State.when_keeps (·.rd r) _ _ _ fun t => t.rd_noCauses h).trans ?_
    exact State.when_keeps (·.rd r) _ _ _ fun t => t.rd_tebFreerun h
  rw [State.when_keeps (·.rd r) _ _ _ fun t => t.rd_slotsDisabled h, hcut, rd_of_agrees_above h ((Agrees.refl _).notice _ _ _ _),
    s3.rd_tebLog h 1, h3, h2]

end

/-- Transition `num` to `mode` is on record: the mode, the one before, the reason and the instant (R32). -/
theorem State.modeTo_record (s : State) (num mode : Nat) : (s.modeTo num mode).mode = mode ∧
    (s.modeTo num mode).rdN Obj.MODE_PREVIOUS = s.mode ∧ (s.modeTo num mode).rdN Obj.MODE_REASON = num ∧
    (s.modeTo num mode).rdN Obj.MODE_SINCE = s.now80 := by
  have hread : ∀ q : Reg, q.key < 0x200000 → (s.modeTo num mode).rdN q =
      ((((s.wrN Obj.MODE_PREVIOUS s.mode).wrN Obj.MODE_CURRENT mode).wrN Obj.MODE_REASON num).wrN Obj.MODE_SINCE s.now80).rdN q :=
    fun q hq => congrArg Int.toNat (s.rd_modeTo hq num mode)
  refine ⟨?current, ?previous, ?reason, ?since⟩
  case current =>
    rw [State.mode, hread _ (by decide), State.rdN_wrN_ne _ _ (by decide), State.rdN_wrN_ne _ _ (by decide), State.rdN_wrN_same]
  case previous =>
    rw [hread _ (by decide), State.rdN_wrN_ne _ _ (by decide), State.rdN_wrN_ne _ _ (by decide),
      State.rdN_wrN_ne _ _ (by decide), State.rdN_wrN_same]
  case reason => rw [hread _ (by decide), State.rdN_wrN_ne _ _ (by decide), State.rdN_wrN_same]
  case since => rw [hread _ (by decide), State.rdN_wrN_same]

end Sys2Proof.Machine
end

section
/-! PROOFS. The steps of BOOT and what it leads to (R35, R38, R40, R41, R302 to R304, R321, Tables 2-3 and 2-4). -/

namespace Sys2Proof.Machine

/-- An operation on the key cells is handed in without the inhibit. -/
theorem State.cellsAppend_of_not_inhibited {s : State} (op : CellOp) (h : s.inhibited = false) :
    s.cellsAppend op = { s with ks := { s.ks with cells := s.ks.cells ++ [op] } } := by
  simp only [State.cellsAppend, h, Bool.and_false, Bool.false_and, Bool.false_eq_true, if_false]

/-! The images (R39, R321). -/

/-- The firmware of an accepted image runs: FW_RUN names its bank and its SVN, and BOOT goes on. -/
def State.runsImage (s : State) (bank : Nat) (i : FwImage) : State :=
  let s1 := s.wrN Obj.FW_RUN (bank * 2 ^ 32 + i.svn % 2 ^ 32)
  ({ s1 with ctl := { s1.ctl with boot := { s1.ctl.boot with config := some i.config } } } : State).bootTo 4

section
variable {i0 i1 : FwImage} {s : State} (hm : s.mode = Mode.BOOT)
include hm

section
variable (hstep : s.ctl.boot.step = 3) (hno : s.ctl.boot.noImage = false)
include hstep hno

/-- The image that FW_BOOT_BANK names is taken where it is accepted. -/
theorem exec_firmwareVerifyComplete_accepted {bank : Nat} {i : FwImage} (hb : bitsAt (s.rdN Obj.FW_BOOT_BANK) 0 1 = bank)
    (hi : (if bank = 0 then i0 else i1) = i) (hok : s.accepts i = true) :
    exec (.firmwareVerifyComplete i0 i1) s = .next (s.runsImage bank i).settle := by
  show execFirmwareVerifyComplete i0 i1 s = _
  simp only [execFirmwareVerifyComplete, hm, hstep, hno, hb, hi, hok, ne_eq, not_true_eq_false, Bool.false_eq_true, or_self,
    if_false, if_true]
  rfl

theorem exec_firmwareVerifyComplete_rejected (h0 : s.accepts i0 = false) (h1 : s.accepts i1 = false) :
    exec (.firmwareVerifyComplete i0 i1) s =
      .next ({ (s.raise Src.KS_FW_REJECT).raise Src.KS_FW_REJECT with
        ctl := { s.ctl with boot := { s.ctl.boot with noImage := true } } } : State).settle := by
  have hstart : ¬ (s.mode ≠ Mode.BOOT ∨ s.ctl.boot.step ≠ 3 ∨ s.ctl.boot.noImage = true) := by simp [hm, hstep, hno]
  have hbank : ∀ b : Nat, s.accepts (if b = 0 then i0 else i1) = false := fun b => by split <;> assumption
  have hother : ∀ b : Nat, (s.raise Src.KS_FW_REJECT).accepts (if b = 0 then i0 else i1) = false := hbank
  show execFirmwareVerifyComplete i0 i1 s = _
  simp only [execFirmwareVerifyComplete, hstart, hbank, hother, Bool.false_eq_true, if_false]
  rfl

end

/-! The root (R302 to R304). -/

section
variable (n : Fin 9) (ber : Fin 10001) {r : RootRecord} {key : BitVec 256} (hstep : s.ctl.boot.step = 4)
  (hz : s.ctl.boot.zeroised = false)
include hstep hz

theorem exec_pufRegeneration_unwrapped (hr : s.ks.root = some r) (hk : r.unwrapped = some key) (hn : n.val < 8) :
    exec (.pufRegeneration n ber) s =
      let s1 := (({ s with ks := { s.ks with puf := some r.helper, rootKey := some key } } : State).wrN Obj.PUF_BER ber).bootTo 6
      if ber.val ≤ 800 then .next s1.settle else .next ((s1.raise Src.KS_PUF_MARGIN).reenrol r).settle := by
  show execPufRegeneration n ber s = _
  simp only [execPufRegeneration, hm, hstep, hz, hr, hk, Nat.ne_of_lt hn, ne_eq, not_true_eq_false, Bool.false_eq_true, or_self,
    if_false]

theorem exec_pufRegeneration_failed (hr : s.ks.root = some r) (hbad : n.val = 8 ∨ r.unwrapped = none) :
    exec (.pufRegeneration n ber) s = .next (((s.raise Src.KS_PUF_FAIL).zeroise 10).bootTo 6).settle := by
  show execPufRegeneration n ber s = _
  simp only [execPufRegeneration, hm, hstep, hz, hr, ne_eq, not_true_eq_false, Bool.false_eq_true, or_self, if_false]
  cases hu : r.unwrapped with
  | none => rfl
  | some key => simp only [hbad.resolve_right (by simp [hu]), if_true]

theorem exec_pufRegeneration_enrols (hr : s.ks.root = none) :
    exec (.pufRegeneration n ber) s = .next (s.enrol.1.bootTo 5).settle := by
  show execPufRegeneration n ber s = _
  simp only [execPufRegeneration, hm, hstep, hz, hr, ne_eq, not_true_eq_false, Bool.false_eq_true, or_self, if_false]

end

theorem exec_rootGeneration (hstep : s.ctl.boot.step = 5) (hz : s.ctl.boot.zeroised = false) (hi : s.inhibited = false)
    (ht : s.ks.trngFailed = false) (hc : s.ks.cells = []) :
    exec .rootGeneration s = .next ((s.seeded.draw 1).1.cellsAppend { recordsLeft := 2, commit := .root {
      number := s.ks.draws, helper := s.ks.puf.getD 0, under := s.ks.puf.getD 0,
      value := (Config.random s.ks.draws).extractLsb' 0 256, recordGen := 1 } }).settle := by
  show execRootGeneration s = _
  simp only [execRootGeneration, hm, hstep, hz, hi, ht, hc, ne_eq, not_true_eq_false, Bool.false_eq_true, or_self, if_false,
    List.isEmpty_nil, Bool.not_true, Bool.or_self]
  rfl

/-! The oscillators, the DRAM, and the end of BOOT (R35, R38, R40, R41). -/

theorem exec_loEligible_loA (hstep : s.ctl.boot.step = 6) (hw : s.hd.loA.warm = true) (hs : s.hd.loA.seen = true) :
    exec .loEligible s = .next ((({ s with hd := { s.hd with
      loA := { s.hd.loA with serving := true }
      loB := { s.hd.loB with serving := s.hd.loB.warm && s.hd.loB.seen } } } : State).wrN Obj.LO_SEL 0).bootTo 7).settle := by
  show execLoEligible s = _
  simp only [execLoEligible, hm, hstep, hw, hs, ne_eq, not_true_eq_false, Bool.and_self, Bool.true_or, Bool.true_eq_false,
    or_self, if_false, if_true]

theorem exec_dramTrainingComplete (ok : Bool) (hstep : s.ctl.boot.step = 11) :
    exec (.dramTrainingComplete ok) s = .next ((((({ (s.draw 1).1 with
      tpe := { s.tpe with hashDraw := s.ks.draws, cache := [] } } : State).wrN Obj.DRAM_STATE (if ok then 2 else 3)).bootTo
        13).when (!ok) (·.raise Src.DRAM_TRAIN_FAIL))).settle := by
  show execDramTrainingComplete ok s = _
  simp only [execDramTrainingComplete, hm, hstep, ne_eq, not_true_eq_false, or_self, if_false]
  rfl

theorem exec_bootComplete {s1 : State} (hstep : s.ctl.boot.step = 13)
    (h1 : s1 = (s.bootTo 14).forEach (l := [0, 1]) (p := fun s f => s.when (s.rdB (Obj.FP_EN f)) (·.wrN (Obj.FP_STATE f) 1))) :
    exec .bootComplete s = .next ((s1.bootExit.when s1.bootExit.monitorsRun State.slotsStart).close).toFactory := by
  subst h1
  show execBootComplete s = _
  simp only [execBootComplete, hm, hstep, ne_eq, not_true_eq_false, or_self, if_false]

end

/-- The objects of the DRAM's configuration, with `base` its top 256 MiB (R399). -/
def State.dramAs (s : State) (c : BootConfig) (base : Nat) : State :=
  (((({ s with
    ctl := { s.ctl with boot := { s.ctl.boot with step := 11 } }
    book := { s.book with pci := { s.book.pci with subsystem := c.subsystem } } } : State).wrN Obj.DRAM_SIZE c.dramMib).wrN
      Obj.DRAM_RATE c.dramRate).wrN Obj.DRAM_FW_BASE base).wrN Obj.DRAM_STATE 1

theorem State.dramTrains_of_config {c : BootConfig} {s : State} (h : s.ctl.boot.config = some c) :
    s.dramTrains = s.dramAs c ((c.dramMib - 256) * 2 ^ 20) := by
  simp only [State.dramTrains, h, State.dramAs]

theorem State.dramAs_objects (s : State) (c : BootConfig) (base : Nat) :
    (s.dramAs c base).ctl.boot.step = 11 ∧ (s.dramAs c base).rdN Obj.DRAM_STATE = 1 ∧
      (s.dramAs c base).rdN Obj.DRAM_SIZE = c.dramMib ∧ (s.dramAs c base).rdN Obj.DRAM_RATE = c.dramRate ∧
      (s.dramAs c base).rdN Obj.DRAM_FW_BASE = base ∧ (s.dramAs c base).book.pci.subsystem = c.subsystem ∧
      (s.dramAs c base).ks = s.ks ∧ (s.dramAs c base).clk = s.clk := by
  refine ⟨rfl, State.rdN_wrN_same _ _ _, ?size, ?rate, ?base, rfl, rfl, rfl⟩
  case size =>
    rw [State.dramAs, State.rdN_wrN_ne _ _ (by decide), State.rdN_wrN_ne _ _ (by decide), State.rdN_wrN_ne _ _ (by decide),
      State.rdN_wrN_same]
  case rate => rw [State.dramAs, State.rdN_wrN_ne _ _ (by decide), State.rdN_wrN_ne _ _ (by decide), State.rdN_wrN_same]
  case base => rw [State.dramAs, State.rdN_wrN_ne _ _ (by decide), State.rdN_wrN_same]

section
variable {s : State}

theorem State.bootExit_zeroised (h : s.ctl.boot.zeroised = true) : s.bootExit = s.modeTo 4 Mode.ZEROISED := if_pos h

variable (hz : s.ctl.boot.zeroised = false)
include hz

theorem State.bootExit_fault (hf : s.ctl.boot.fault = true) : s.bootExit = s.enterFaultsafe 19 := by
  simp only [State.bootExit, hz, hf, Bool.false_eq_true, if_false, if_true]

theorem State.bootExit_service (hf : s.ctl.boot.fault = false) (hk : s.keyState 7 = Key.ACTIVE) :
    s.bootExit = s.enterService 6 := by
  simp only [State.bootExit, hz, hf, hk, Bool.false_eq_true, if_false, true_or, if_true]

theorem State.bootExit_unprovisioned (hf : s.ctl.boot.fault = false) (hk : s.keyState 7 = Key.EMPTY) :
    s.bootExit = s.modeTo 5 Mode.UNPROVISIONED := by
  have hno : ¬ (Key.EMPTY = Key.ACTIVE ∨ Key.EMPTY = Key.RETIRING) := by decide
  simp only [State.bootExit, hz, hf, hk, hno, Bool.false_eq_true, if_false]

end

theorem State.toFactory_allowed {s : State} (hm : s.mode = Mode.UNPROVISIONED) (hf : s.ctl.boot.factoryEn = true)
    (hl : s.locked 1 = false) : s.toFactory = (((s.runCycles 1).modeTo 7 Mode.FACTORY).zeroise 11).settle := by
  simp only [State.toFactory, hm, hf, hl, Bool.not_false, Bool.and_self, and_self, if_true]

theorem State.toFactory_barred {s : State}
    (h : s.mode ≠ Mode.UNPROVISIONED ∨ s.ctl.boot.factoryEn = false ∨ s.locked 1 = true) : s.toFactory = s := by
  refine if_neg fun hgo => ?_
  obtain ⟨hm, hf⟩ := hgo
  rw [Bool.and_eq_true, Bool.not_eq_true'] at hf
  obtain ⟨hen, hl⟩ := hf
  simp [hm, hen, hl] at h

/-- Settles O14: each step by its lemma, then what leaves BOOT, and a mode change's record. -/
theorem bootSequenceCompletes : Obligations.BootSequenceCompletes := by
  refine ⟨⟨?bank0, ?bank1, ?reject, ?regenerate, ?margin, ?fail, ?enrol, ?root, ?lo, ?dram, ?trained, ?complete⟩,
    fun s => State.bootExit_zeroised, fun s => State.bootExit_fault, fun s => State.bootExit_service,
    fun s => State.bootExit_unprovisioned, fun s => State.toFactory_allowed, fun s => State.toFactory_barred,
    fun s num mode _ => s.modeTo_record num mode⟩
  case bank0 =>
    intro i0 i1 s s1 hm hstep hno h1 hb hok
    rw [exec_firmwareVerifyComplete_accepted hm hstep hno hb rfl hok, h1, State.runsImage, Nat.zero_mul, Nat.zero_add]
    rfl
  case bank1 =>
    intro i0 i1 s s1 hm hstep hno h1 hb hok
    rw [exec_firmwareVerifyComplete_accepted hm hstep hno hb rfl hok, h1, State.runsImage, Nat.one_mul]
    rfl
  case reject =>
    intro i0 i1 s hm hstep hno h0 h1
    refine ⟨_, exec_firmwareVerifyComplete_rejected hm hstep hno h0 h1, hstep, rfl, rfl, ?_⟩
    exact List.append_assoc _ _ _
  case regenerate =>
    intro n ber r key s hm hstep hz hr hk hn hber
    rw [exec_pufRegeneration_unwrapped hm n ber hstep hz hr hk hn]
    exact if_pos hber
  case margin =>
    intro n ber r key s hm hstep hz hr hk hn hber hinh
    rw [exec_pufRegeneration_unwrapped hm n ber hstep hz hr hk hn]
    refine ⟨_, if_neg (Nat.not_le.mpr hber), ?_⟩
    rw [State.reenrol, State.cellsAppend_of_not_inhibited]
    · exact ⟨State.rdN_wrN_same _ _ _, rfl, rfl, rfl, rfl, rfl⟩
    · exact hinh
  case fail => exact fun n ber r s hm hstep hz hr hbad => exec_pufRegeneration_failed hm n ber hstep hz hr hbad
  case enrol => exact fun n ber s hm hstep hz hr => exec_pufRegeneration_enrols hm n ber hstep hz hr
  case root =>
    intro s hm hstep hz hi ht hc
    refine ⟨_, exec_rootGeneration hm hstep hz hi ht hc, ?_⟩
    rw [State.cellsAppend_of_not_inhibited]
    · exact ⟨rfl, rfl, congrArg (· ++ _) hc, rfl, rfl, rfl, rfl⟩
    · exact hi
  case lo =>
    intro s hm hstep hw hs
    exact ⟨_, exec_loEligible_loA hm hstep hw hs, State.rdN_wrN_same _ _ _, rfl, rfl, rfl, rfl, rfl⟩
  case dram =>
    intro c s u h hu
    rw [hu, State.dramTrains_of_config h]
    exact s.dramAs_objects c _
  case trained =>
    intro ok s hm hstep
    refine ⟨_, exec_dramTrainingComplete hm ok hstep, ?_⟩
    cases ok with
    | true => exact ⟨State.rdN_wrN_same _ _ _, rfl, rfl, fun h => absurd h (by decide)⟩
    | false => exact ⟨(State.rdN_wrN_same _ Obj.DRAM_STATE 3 :), rfl, rfl,
        fun _ => List.mem_append_right _ (List.mem_singleton.mpr rfl)⟩
  case complete => exact fun s s1 hm hstep h1 => exec_bootComplete hm hstep h1

end Sys2Proof.Machine
end

section
/-! PROOFS. Keystone's lanes, entropy and public-key unit, and the zeroisation (R317 to R320, R323 to R325). -/

namespace Sys2Proof.Machine

/-! Lanes and the entropy source (R317, R318). -/

/-- A lane's failure in the registers: it is out of KS_LANES, and LANE_FAIL_SEEN is set. -/
def State.laneOut (s : State) (n : Nat) : State :=
  (s.wrN Obj.KS_LANES (putBit (s.rdN Obj.KS_LANES) n false)).stick Obj.KS_STATUS 3

theorem State.rdN_laneOut_LANES (s : State) (n : Nat) :
    (s.laneOut n).rdN Obj.KS_LANES = putBit (s.rdN Obj.KS_LANES) n false := by
  rw [State.laneOut, State.stick, State.rdN_wrN_ne _ _ (by decide), State.rdN_wrN_same]

theorem State.laneOut_status (s : State) (n : Nat) : bitOn ((s.laneOut n).rdN Obj.KS_STATUS) 3 = true := by
  rw [State.laneOut, State.rdN_stick_same, bitOn_sqSet _ _ _ (by decide), beq_self_eq_true, Bool.or_true]

/-- What a lane's failure does then: its jobs fail, and its source is raised, or begins. -/
def State.laneJobsFail (s : State) (n : Nat) : State :=
  let t : State := { s with ks := { s.ks with
    jobs := s.ks.jobs.map fun j => if j.lane = some n then { j with status := Ks.LANE_FAULT } else j } }
  if t.active Src.KS_LANE_FAIL then t.raise Src.KS_LANE_FAIL else t.cond Src.KS_LANE_FAIL true

theorem State.laneFails_eq (s : State) (n : Nat) : s.laneFails n = (s.laneOut n).laneJobsFail n := rfl

theorem State.rdN_laneJobsFail (s : State) (n : Nat) {r : Reg} (h : r.key < 0xD00000) :
    (s.laneJobsFail n).rdN r = s.rdN r := by
  unfold State.laneJobsFail
  dsimp only
  split
  · rfl
  · exact State.rdN_cond _ _ _ h

/-- Of the registers below D000 a lane's failure writes these two. -/
theorem State.rdN_laneFails (s : State) (n : Nat) {r : Reg} (h : r.key < 0xD00000) :
    (s.laneFails n).rdN r = (s.laneOut n).rdN r := by
  rw [State.laneFails_eq, State.rdN_laneJobsFail _ _ h]

/-- The failed lane is out of service, the others are as before, and LANE_FAIL_SEEN is set. -/
theorem State.laneFails_shows (s : State) (n : Nat) :
    (s.laneFails n).laneUp n = false ∧ (∀ m, m < 8 → m ≠ n → (s.laneFails n).laneUp m = s.laneUp m) ∧
      bitOn ((s.laneFails n).rdN Obj.KS_STATUS) 3 = true := by
  simp only [State.laneUp, s.rdN_laneFails n (by decide : Obj.KS_LANES.key < 0xD00000),
    s.rdN_laneFails n (by decide : Obj.KS_STATUS.key < 0xD00000), s.rdN_laneOut_LANES, s.laneOut_status, bitOn_putBit, if_true,
    true_and, and_true]
  exact fun m _ hm => if_neg hm

/-- A health test has failed, before its source is raised. -/
def State.healthFailed (s : State) : State :=
  ({ s with ks := { s.ks with trngFailed := true, passes := 0 } } : State).stick Obj.KS_STATUS 2

theorem exec_trngHealthFail (s : State) :
    exec .trngHealthFail s = .next (s.healthFailed.cond Src.KS_TRNG_FAIL true).settle := rfl

theorem State.healthFailed_status (s : State) : bitOn (s.healthFailed.rdN Obj.KS_STATUS) 2 = true := by
  rw [State.healthFailed, State.rdN_stick_same, bitOn_sqSet _ _ _ (by decide), beq_self_eq_true, Bool.or_true]

section
variable {s : State} (hf : s.ks.trngFailed = true)
include hf

theorem exec_trngRetest_passed (hp : s.ks.passes + 1 < 64) :
    exec (.trngRetest true) s = .next ({ s with ks := { s.ks with passes := s.ks.passes + 1 } } : State).settle := by
  show execTrngRetest true s = _
  simp only [execTrngRetest, hf, hp, Bool.not_true, Bool.false_eq_true, if_false, if_true]

theorem exec_trngRetest_failed :
    exec (.trngRetest false) s = .next ({ s with ks := { s.ks with passes := 0 } } : State).settle := by
  show execTrngRetest false s = _
  simp only [execTrngRetest, hf, Bool.not_true, Bool.false_eq_true, if_false, Bool.not_false, if_true]

/-- After the 64th pass reseeding goes on. -/
theorem exec_trngRetest_complete (hp : 64 ≤ s.ks.passes + 1) : ∃ u : State, exec (.trngRetest true) s = .next u.settle ∧
    u.ks.trngFailed = false ∧ u.active Src.KS_TRNG_FAIL = false ∧ u.trngState = 0 ∧ u.ctl = s.ctl := by
  have hag := (Agrees.refl ({ s with ks := { s.seeded.ks with trngFailed := false, passes := 0 } } : State)).cond
    Src.KS_TRNG_FAIL false
  have hok : (({ s with ks := { s.seeded.ks with trngFailed := false, passes := 0 } } : State).cond
      Src.KS_TRNG_FAIL false).ks.trngFailed = false := congrArg Keystone.trngFailed hag.ks
  refine ⟨_, ?_, hok, State.active_cond _ _ _, ?_, hag.ctl⟩
  · show execTrngRetest true s = _
    simp only [execTrngRetest, hf, Nat.not_lt.mpr hp, Bool.not_true, Bool.false_eq_true, if_false]
  · simp only [State.trngState, hok, Bool.not_false, if_true]

end

/-! The public-key unit and provisioning (R319, R320). -/

section
variable {s : State} (hfree : s.restoring 1 = false)
include hfree

theorem exec_idCsrSubjectWrite (v : List Octet) : exec (.idCsrSubjectWrite v) s = .next (s.writeSubject v).settle :=
  State.orHeld_of_not_restoring _ _ _ _ _ _ hfree
theorem exec_idChallengeWrite (v : List Octet) : exec (.idChallengeWrite v) s = .next (s.writeChallenge v).settle :=
  State.orHeld_of_not_restoring _ _ _ _ _ _ hfree
theorem exec_provInstall : exec .provInstall s = .next s.install.settle := State.orHeld_of_not_restoring _ _ _ _ _ _ hfree

end

section
variable {s : State}

theorem State.writeSubject_of_identity {v : List Octet} (hid : s.identity.isSome = true) (hv : v ≠ []) :
    s.writeSubject v = (s.wrBlob [] Obj.ID_CSR_SUBJECT (v.take 64)).pkuStart (.csr (v.take 64)) := by
  have hnone : s.identity.isNone = false := by simp [Option.isNone_eq_false_iff, hid]
  have hempty : (v.take 64).isEmpty = false := by simp [List.isEmpty_eq_false_iff, hv]
  simp only [State.writeSubject, hnone, hempty, Bool.false_eq_true, if_false]

/-- A value as long as the object replaces all of it. -/
theorem overlay_of_length_eq {old new : List Octet} (h : new.length = old.length) : overlay old 0 new = new := by
  simp [overlay, ← h]

theorem State.writeChallenge_of_identity {v : List Octet} (hid : s.identity.isSome = true) (hv : v.length = 32)
    (hold : s.blob (List.replicate 32 0) Obj.ID_CHALLENGE = List.replicate 32 0) :
    s.writeChallenge v = (s.wrBlob (List.replicate 32 0) Obj.ID_CHALLENGE v).pkuStart (.attest
      (v ++ [oct s.mode] ++ s.blob (List.replicate 16 0) Obj.KS_BOOT_NONCE ++ beBytes 4 (s.rdN Obj.FW_RUN))) := by
  have hnone : s.identity.isNone = false := by simp [Option.isNone_eq_false_iff, hid]
  have htaken : (overlay (List.replicate 32 0) 0 v).take 32 = v := by
    rw [overlay_of_length_eq (by simp [hv]), List.take_of_length_le (by omega)]
  simp only [State.writeChallenge, hnone, hold, htaken, Bool.false_eq_true, if_false]

theorem State.install_of_unprovisioned (hm : s.mode = Mode.UNPROVISIONED) (hu : s.unsafeBlock 14 = false) :
    s.install = s.pkuStart .install := by
  simp only [State.install, hm, hu, ne_eq, not_true_eq_false, Bool.false_eq_true, if_false]

section
variable {status : Nat} {rest : List Nat} {s1 : State} (hi : s.ks.installs = status :: rest)
  (h1 : s1 = ({ s with ks := { s.ks with installs := rest } } : State).wrN Obj.PROV_RESULT status)
include hi h1

theorem exec_provInstallComplete_failed (hs : status ≠ Ks.OK) : exec .provInstallComplete s = .next s1.releaseInstall.settle := by
  subst h1
  show execProvInstallComplete s = _
  simp only [execProvInstallComplete, hi, ne_eq, hs, not_false_eq_true, true_or, if_true]

theorem exec_provInstallComplete_ok (hs : status = Ks.OK) (hm : s.mode = Mode.UNPROVISIONED) :
    exec .provInstallComplete s = .next (s1.releaseInstall.afterInstall s.installLink).settle := by
  subst h1 hs
  show execProvInstallComplete s = _
  simp only [execProvInstallComplete, hi, ne_eq, hm, not_true_eq_false, or_self, if_false]

end

section
variable {status : Nat} {key : BitVec 256} (hc : s.ksClosed = false) (hm : s.mode = Mode.UNPROVISIONED)
  (hu : s.unsafeBlock 14 = false) (hk : s.installKey = (status, key))
include hc hm hu hk

/-- An exchange that fails completes the INSTALL with its status, and no record is written. -/
theorem State.installRecord_failed (hs : status ≠ Ks.OK) :
    s.installRecord.ks = { s.ks with installs := s.ks.installs ++ [status] } := by
  simp only [State.installRecord, hc, hm, hu, hk, hs, ne_eq, not_true_eq_false, not_false_eq_true, Bool.false_eq_true, or_self,
    if_false, if_true]
  have hjobs : ∀ (t : State) (st n : Nat), (t.jobsDone st n).ks = t.ks := fun t st n => by
    unfold State.jobsDone
    split <;> exact ((Agrees.refl t).count _ _).ks
  rw [State.when_keeps (·.ks) _ _ _ fun t => hjobs t _ _, State.when_keeps (·.ks) _ _ _ fun t => hjobs t _ _]

/-- One that succeeds hands in the record of the Custodian key under the next generation. -/
theorem State.installRecord_ok (hs : status = Ks.OK) (hi : s.inhibited = false) (hg : s.rdN Obj.KS_GEN_HIGH + 1 < 2 ^ 48) :
    s.installRecord.rdN Obj.KS_GEN_HIGH = s.rdN Obj.KS_GEN_HIGH + 1 ∧ s.installRecord.ks.slots = s.ks.slots ∧
      s.installRecord.ks.cells =
        s.ks.cells ++ [{ recordsLeft := 1, commit := .provision key (s.rdN Obj.KS_GEN_HIGH + 1) }] := by
  have hag : Agrees s (s.jobsDone Ks.OK 3) := (Agrees.refl s).count _ _
  have hinh : ((s.jobsDone Ks.OK 3).wrN Obj.KS_GEN_HIGH (s.rdN Obj.KS_GEN_HIGH + 1)).inhibited = false :=
    (congrArg (fun c : Ctl => c.supply.vddauxLow || (c.supply.vbatLow && !c.supply.vbatAbsent)) hag.ctl).trans hi
  have hrecord : s.installRecord = ((s.jobsDone Ks.OK 3).wrN Obj.KS_GEN_HIGH (s.rdN Obj.KS_GEN_HIGH + 1)).cellsAppend
      { recordsLeft := 1, commit := .provision key (s.rdN Obj.KS_GEN_HIGH + 1) } := by
    simp only [State.installRecord, hc, hm, hu, hk, hs, State.nextGen_zero hg, ne_eq, not_true_eq_false, Bool.false_eq_true,
      or_self, if_false]
  rw [hrecord, State.cellsAppend_of_not_inhibited _ hinh]
  exact ⟨State.rdN_wrN_same _ _ _, (congrArg Keystone.slots hag.ks :), (congrArg (·.cells ++ _) hag.ks :)⟩

end

/-- Over PCIe the reply is with the host already (R320). -/
theorem State.afterInstall_pcie (hm : s.mode = Mode.UNPROVISIONED) :
    s.afterInstall (some .pcie) = (s.close.runCycles 1).enterService 8 := if_pos hm

/-- Over a field port transition 8 waits for the reply's transmission. -/
theorem State.afterInstall_fp0 (h : (s.fp 0).tx ≠ []) : (s.afterInstall (some .fp0)).mode = s.mode := by
  simp only [State.afterInstall, h, if_false]
  rfl

end

/-! Zeroisation and tamper (R323 to R325). -/

/-- In service the line takes the mode to ZEROISED at once, by transition 21. -/
theorem State.zeroise_of_service {s : State} (cause : Nat) (hm : serviceMode s.mode = true) :
    (s.zeroise cause).mode = Mode.ZEROISED ∧ (s.zeroise cause).rdN Obj.MODE_REASON = 21 ∧
      (s.zeroise cause).rdN Obj.MODE_PREVIOUS = s.mode := by
  have hrange : 3 ≤ s.mode ∧ s.mode ≤ 7 := by simpa [serviceMode] using hm
  have hboot : s.mode ≠ Mode.BOOT := by simp only [Mode.BOOT]; omega
  have hstays : ¬ (s.mode = Mode.COLD ∨ s.mode = Mode.FACTORY ∨ s.mode = Mode.ZEROISED) := by
    simp only [Mode.COLD, Mode.FACTORY, Mode.ZEROISED]; omega
  simp only [State.zeroise, hboot, hstays, if_false]
  obtain ⟨hmode, hprevious, hreason, -⟩ := State.modeTo_record _ 21 Mode.ZEROISED
  exact ⟨hmode, hreason, hprevious⟩

theorem exec_ksZeroiseCmd (v : BitVec 32) {s : State} (h : s.restoring 14 = false) :
    exec (.ksZeroiseCmd v) s = .next (s.zeroiseCmd v.toNat).settle := State.orHeld_of_not_restoring _ _ _ _ _ _ h

theorem State.zeroiseCmd_of_ne (s : State) {v : BitVec 32} (h : v ≠ 0x5A170000) : s.zeroiseCmd v.toNat = s :=
  if_neg fun hv => h (BitVec.eq_of_toNat_eq hv)

theorem exec_zeroisationComplete {s : State} (h : s.ks.zeroising = true) :
    exec .zeroisationComplete s = .next (s.erased.resume .signing).settle := if_pos h

theorem State.rdN_erased_GEN_HIGH (s : State) : s.erased.rdN Obj.KS_GEN_HIGH = 0 :=
  (State.rdN_wrN_same s.keysAborted Obj.KS_GEN_HIGH 0 :)

theorem State.blob_erased_CSR (s : State) : s.erased.blob [] Obj.ID_CSR = [] := by
  refine (State.blob_wrBlob_ne ((s.keysAborted.wrN Obj.KS_GEN_HIGH 0).wrBlob [] Obj.ID_CSR []) (List.replicate 64 0) []
    (r := Obj.ID_ATTEST) (q := Obj.ID_CSR) (List.replicate 64 0) (by decide)).trans ?_
  exact State.blob_wrBlob_same _ _ _ _

/-- A slot that holds nothing is EMPTY. -/
theorem State.keyState_of_none {s : State} {k : Nat} (h : s.slotOf k = KeySlot.none) : s.keyState k = Key.EMPTY := by
  simp only [State.keyState, State.keyStateIn, h, KeySlot.none]
  rfl

section
variable {n : Fin 9} {s : State} (hm : s.mode ≠ Mode.COLD) (hv : n = 5 → s.ks.voltageArmed = true)
include hm hv

/-- Outside COLD a source with a policy shows, with TAMPER_SEEN where the policy is LOG (Table 13-10). -/
theorem exec_tamperEvent (hp : s.rdN (Obj.TAMP_POLICY n) ≠ 0) : exec (.tamperEvent n) s =
    .next ((s.when (s.rdN (Obj.TAMP_POLICY n) == 1) (·.stick Obj.KS_STATUS 4)).raise (Src.TAMPER n)).settle := by
  have hcold : (s.mode == Mode.COLD) = false := beq_false_of_ne hm
  have harmed : ¬ (n.val = 5 ∧ s.ks.voltageArmed = false) := fun ⟨h5, hno⟩ => by
    rw [hv (Fin.ext h5)] at hno
    exact Bool.noConfusion hno
  show execTamperEvent n s = _
  simp only [execTamperEvent, hcold, harmed, hp, Bool.false_eq_true, false_and, or_self, if_false]

end

/-- The reaction of a tamper source with policy ZEROISE (R328). -/
theorem State.reaction_TAMPER_of_zeroise {n : Nat} {s : State} (hn : n < 9) (hp : s.rdN (Obj.TAMP_POLICY n) = 2) :
    s.reaction (Src.TAMPER n) = 5 := by
  have htamper : tamperSource (Src.TAMPER n) = true := by simp only [tamperSource, Src.TAMPER, decide_eq_true_eq]; omega
  have hindex : Src.TAMPER n - 0x250 = n := Nat.add_sub_cancel_left ..
  simp only [State.reaction, State.srcCfg, State.byPolicy, htamper, hindex, hp, if_true, bitsAt_setBitsAt,
    Nat.reducePow, Nat.reduceMod]

/-- Settles O18: each request by its own lemma, and the zeroisation by what a mode change and the erasure leave. -/
theorem servicesAndZeroisationComplete : Obligations.ServicesAndZeroisationComplete := by
  refine ⟨⟨fun _ _ => rfl, fun n s _ => s.laneFails_shows n, ?health, fun s => exec_trngRetest_passed,
    fun s => exec_trngRetest_complete, fun s => exec_trngRetest_failed, ?reseed, ?subject, ?challenge, ?install, ?complete,
    ?record, fun s hm => ⟨State.afterInstall_pcie hm, State.afterInstall_fp0⟩⟩, ?command, ?other, ?erased, ?log, ?zeroise,
    fun n s => State.reaction_TAMPER_of_zeroise⟩
  case health =>
    intro s
    have hag := (Agrees.refl s.healthFailed).cond Src.KS_TRNG_FAIL true
    have hks : s.healthFailed.ks = { s.ks with trngFailed := true, passes := 0 } := by rw [State.healthFailed, State.stick_ks]
    have hctl : s.healthFailed.ctl = s.ctl := by rw [State.healthFailed, State.stick_ctl]
    refine ⟨_, exec_trngHealthFail s, ?_, ?_, State.active_cond _ _ _, ?_, hag.ctl.trans hctl⟩
    · rw [hag.ks, hks]
    · rw [State.rdN_cond _ _ _ (by decide : Obj.KS_STATUS.key < 0xD00000)]
      exact s.healthFailed_status
    · rw [hag.ks, hks]
  case reseed =>
    intro s hf
    show execDrbgReseed s = _
    simp only [execDrbgReseed, hf, Bool.false_eq_true, if_false, State.seeded]
  case subject =>
    intro v s hfree hid hv
    rw [exec_idCsrSubjectWrite hfree, State.writeSubject_of_identity hid hv]
  case challenge =>
    intro v s hfree hid hv hold
    rw [exec_idChallengeWrite hfree, State.writeChallenge_of_identity hid hv hold]
  case install =>
    intro s hfree hm hu
    rw [exec_provInstall hfree, State.install_of_unprovisioned hm hu]
  case complete =>
    exact fun status rest s s1 hi h1 => ⟨exec_provInstallComplete_failed hi h1, exec_provInstallComplete_ok hi h1⟩
  case record =>
    intro status key s hc hm hu hk
    refine ⟨fun hs => ?failed, fun hs hi hg => ⟨_, rfl, State.installRecord_ok hc hm hu hk hs hi hg⟩⟩
    rw [State.installRecord_failed hc hm hu hk hs]
    exact ⟨rfl, rfl, rfl⟩
  case command =>
    exact fun s hfree hm => ⟨_, exec_ksZeroiseCmd _ hfree, s.zeroise_of_service 9 hm⟩
  case other =>
    intro v s hfree hv
    rw [exec_ksZeroiseCmd v hfree, s.zeroiseCmd_of_ne hv]
  case erased =>
    intro s u hz hu
    subst hu
    exact ⟨exec_zeroisationComplete hz, rfl, rfl, rfl, rfl, rfl, rfl, rfl, rfl, rfl, rfl, s.rdN_erased_GEN_HIGH,
      s.blob_erased_CSR, fun k => State.keyState_of_none rfl⟩
  case log =>
    intro n s hm hv hp
    rw [exec_tamperEvent hm hv (by omega), hp, beq_self_eq_true, State.when_true]
  case zeroise =>
    intro n s hm hv hp
    rw [exec_tamperEvent hm hv (by omega), hp]
    rfl

end Sys2Proof.Machine
end

section
/-! PROOFS. What the twin's frames bring, and a frame of the unit's own (R330, R334 to R340, R144, R160). -/

namespace Sys2Proof.Machine

/-! A frame of the twin. -/

section
variable {e : Nat} {s : State}

theorem State.cwFrame_unheard (c : Bool) (f : State → State) (h : s.cwHears = false) : s.cwFrame e c f = s := by
  simp only [State.cwFrame, h, Bool.not_false, if_true]

theorem State.cwFrame_unverified (c : Bool) (f : State → State) (h : s.cwHears = true)
    (hj : s.jobStatus (s.rdN Obj.CW_KEY_SLOT) 4 true false ≠ Ks.OK) : s.cwFrame e c f = s.cwAuthFail := by
  simp only [State.cwFrame, h, Bool.not_true, Bool.false_eq_true, if_false, ne_eq, hj, not_false_eq_true, if_true]

/-- A verified frame of a higher epoch at a holder. -/
theorem State.cwFrame_superseded (c : Bool) (f : State → State) (h : s.cwHears = true)
    (hj : s.jobStatus (s.rdN Obj.CW_KEY_SLOT) 4 true false = Ks.OK) (hl : s.ctl.lease.current = true)
    (he : s.ctl.lease.epoch < e) : s.cwFrame e c f =
      if c then (((s.jobsDone Ks.OK 1).seeEpoch e).raise Src.BW_SUPERSEDED).dropLease 2 3 true
      else f (((s.jobsDone Ks.OK 1).seeEpoch e).setBw fun b => { b with releasing := true }) := by
  simp only [State.cwFrame, h, Bool.not_true, Bool.false_eq_true, if_false, ne_eq, hj, not_true_eq_false, hl, he, and_self,
    if_true]

/-- A frame that the unit takes has its effect, the epoch having been seen. -/
theorem State.cwFrame_taken (c : Bool) (f : State → State) (h : s.takesFrame e) :
    s.cwFrame e c f = f ((s.jobsDone Ks.OK 1).seeEpoch e) := by
  obtain ⟨hhears, hj, he⟩ := h
  have hno : ¬ (s.ctl.lease.current = true ∧ s.ctl.lease.epoch < e) := fun ⟨hl, hlt⟩ => Nat.not_le.mpr hlt (he hl)
  simp only [State.cwFrame, hhears, Bool.not_true, Bool.false_eq_true, if_false, ne_eq, hj, not_true_eq_false, hno]

end

/-! The highest epoch seen (R335). -/

theorem State.seeEpoch_of_le {s : State} {e : Nat} (h : e ≤ s.rdN Obj.BW_EPOCH) : s.seeEpoch e = s := if_pos h

theorem State.rdN_seeEpoch (s : State) (e : Nat) : (s.seeEpoch e).rdN Obj.BW_EPOCH = max e (s.rdN Obj.BW_EPOCH) := by
  by_cases h : e ≤ s.rdN Obj.BW_EPOCH
  · rw [State.seeEpoch_of_le h, Nat.max_eq_right h]
  · rw [Nat.max_eq_left (Nat.le_of_not_le h), State.seeEpoch, if_neg h]
    dsimp only
    split
    · exact s.rdN_wrN_same Obj.BW_EPOCH e
    · exact s.rdN_wrN_same Obj.BW_EPOCH e

theorem State.seeEpoch_of_higher {s : State} {e : Nat} (h : s.rdN Obj.BW_EPOCH < e) (hl : s.ctl.lease.current = false) :
    (s.seeEpoch e).bw.heldUntil48 = none ∧ (s.seeEpoch e).ctl.lease.epoch = e := by
  simp only [State.seeEpoch, Nat.not_le.mpr h, if_false, hl, Bool.false_eq_true]
  exact ⟨rfl, rfl⟩

theorem State.seeEpoch_lease_current (s : State) (e : Nat) : (s.seeEpoch e).ctl.lease.current = s.ctl.lease.current := by
  unfold State.seeEpoch
  split
  · rfl
  · dsimp only
    split <;> rfl

/-- The jobs of a frame are bookkeeping. -/
theorem Agrees.jobsDone (s : State) (status n : Nat) : Agrees s (s.jobsDone status n) := by
  unfold State.jobsDone
  split <;> exact (Agrees.refl s).count _ _

theorem State.rdN_jobsDone (s : State) (status n : Nat) {r : Reg} (h : r.key < 0xD00000) :
    (s.jobsDone status n).rdN r = s.rdN r := congrArg Int.toNat ((Agrees.jobsDone s status n).rd r h)

/-- At a unit without the lease nothing of a frame's checks gives it one. -/
theorem State.checked_lease_current (s : State) (e : Nat) :
    ((s.jobsDone Ks.OK 1).seeEpoch e).ctl.lease.current = s.ctl.lease.current :=
  (State.seeEpoch_lease_current _ e).trans (congrArg (·.lease.current) (Agrees.jobsDone s Ks.OK 1).ctl)

theorem State.checked_epoch (s : State) (e : Nat) :
    ((s.jobsDone Ks.OK 1).seeEpoch e).rdN Obj.BW_EPOCH = max e (s.rdN Obj.BW_EPOCH) := by
  rw [State.rdN_seeEpoch, State.rdN_jobsDone _ _ _ (by decide)]

/-! A frame of its own (R334). Counting puts nothing on a wire. -/

theorem State.wrN_out (s : State) (r : Reg) (v : Nat) : (s.wrN r v).book.out = s.book.out := rfl

theorem State.stick_out (s : State) (r : Reg) (b : Nat) : (s.stick r b).book.out = s.book.out := rfl

theorem State.raise_out (s : State) (n : Nat) : (s.raise n).book.out = s.book.out := rfl

theorem State.dropCarry_out (s : State) (n : Nat) : (s.dropCarry n).book.out = s.book.out := by
  rw [State.dropCarry, State.raise_out, State.stick_out, State.stick_out]

theorem State.addTo_out (f : Nat) (s : State) (n amt : Nat) : (State.addTo f s n amt).book.out = s.book.out := by
  induction f generalizing s n amt with
  | zero => rfl
  | succ f ih =>
    unfold State.addTo
    dsimp only
    split
    · exact s.wrN_out _ _
    · split
      · split
        · exact (ih _ _ _).trans (s.wrN_out _ _)
        · exact (State.dropCarry_out _ _).trans (s.wrN_out _ _)
      · exact (State.stick_out _ _ _).trans (s.wrN_out _ _)

theorem State.count_out (s : State) (ev amt : Nat) : (s.count ev amt).book.out = s.book.out := by
  unfold State.count
  split
  · rfl
  · refine State.forEach_keeps (·.book.out) _ _ _ fun t n => ?_
    split
    · exact t.addTo_out _ _ _
    · rfl

theorem State.causeway_out {s : State} {kind key : Nat} (seq : Nat) (payload : List Octet) (hp : s.paired = true)
    (hup : s.rdN Obj.CW_LANE_STATE ≠ 0) (hc : s.ksClosed = false) (hm : s.mode ≠ Mode.UNPROVISIONED)
    (hk : s.rdN Obj.KS_LANES ≠ 0) (hkey : key = s.rdN Obj.CW_KEY_SLOT) (hstate : s.keyState key = Key.ACTIVE)
    (husage : bitOn (s.slotOf key).usage 4 = true) (hkind : kind ≠ 0x10) :
    (s.causeway kind seq payload).book.out = s.book.out ++ [.causeway
      (if kind = 2 ∨ kind = 3 ∨ kind = 4 ∨ kind = 0x11 then s.rdN Obj.CW_LANE_STATE
        else if bitOn (s.rdN Obj.CW_LANE_STATE) 0 then 1 else s.rdN Obj.CW_LANE_STATE)
      (causewayFrame (s.slotOf key).value kind s.ctl.lease.epoch seq payload)] := by
  subst hkey
  simp only [State.causeway, hp, beq_false_of_ne hup, hc, beq_false_of_ne hm, beq_false_of_ne hk, hstate, bne_self_eq_false,
    husage, beq_false_of_ne hkind, Bool.not_true, Bool.or_self, Bool.false_eq_true, if_false, State.when_false]
  exact congrArg (· ++ _) (s.count_out 0x1E0 1)

theorem exec_causewayAuthFail {s : State} (h : s.cwHears = true) : exec .causewayAuthFail s = .next s.cwAuthFail.settle :=
  if_pos h

/-! What each frame brings at a unit that takes it (R144, R160, R335, R339, R340). -/

section
variable {s s1 : State}

theorem exec_helloRx {epoch : BitVec 32} {h : Hello} (ht : s.takesFrame (max epoch.toNat h.epochSeen.toNat))
    (h1 : s1 = (s.jobsDone Ks.OK 1).seeEpoch (max epoch.toNat h.epochSeen.toNat)) : exec (.helloRx epoch h) s =
      .next (({ s1 with bw := { s1.bw with twin := some h } } : State).when (h.role == 1 || h.role == 4)
        State.wantsResync).close := by
  show execHelloRx epoch h s = _
  rw [execHelloRx, State.cwFrame_taken _ _ ht, ← h1]
  rfl

/-- The later of two ends of a lease, one of which need not stand. -/
theorem max_heldUntil (o : Option Nat) (t : Nat) : (match o with | some x => max x t | none => t) = max (o.getD 0) t := by
  cases o with
  | none => exact (Nat.zero_max t).symm
  | some x => rfl

theorem exec_renewRx {epoch : BitVec 32} {sec : BitVec 48} {ns : Fin 1000000000} {e : Nat} {s2 : State}
    (ht : s.takesFrame epoch.toNat) (hl : s.ctl.lease.current = false) (he : s.rdN Obj.BW_EPOCH ≤ epoch.toNat)
    (h1 : s1 = (s.jobsDone Ks.OK 1).seeEpoch epoch.toNat)
    (hend : e = max (s1.bw.heldUntil48.getD 0) ((sec.toNat * giga + ns) * ns48))
    (h2 : s2 = ({ s1 with bw := { s1.bw with heldUntil48 := some e, readyAtRenew := s1.bw.ready } } : State).sawHolder) :
    exec (.renewRx epoch sec ns) s =
      .next (s2.lineFaults.cond Src.BW_LEASE_LINE (s2.rdN Obj.CW_LEASE_IN != 3)).close := by
  have hgo : ¬ (s1.ctl.lease.current = true ∨ epoch.toNat < s1.rdN Obj.BW_EPOCH) := by
    rw [h1, State.checked_lease_current, State.checked_epoch, hl, Nat.max_eq_left he]
    simp
  show execRenewRx epoch sec ns s = _
  rw [execRenewRx, State.cwFrame_taken _ _ ht, ← h1]
  simp only [if_neg hgo]
  rw [h2, hend, ← max_heldUntil]
  rfl

theorem exec_renewRx_older {epoch : BitVec 32} (sec : BitVec 48) (ns : Fin 1000000000) (ht : s.takesFrame epoch.toNat)
    (he : epoch.toNat < s.rdN Obj.BW_EPOCH) : exec (.renewRx epoch sec ns) s = .next (s.jobsDone Ks.OK 1).close := by
  have hjobs : (s.jobsDone Ks.OK 1).rdN Obj.BW_EPOCH = s.rdN Obj.BW_EPOCH := s.rdN_jobsDone _ _ (by decide)
  have hseen : (s.jobsDone Ks.OK 1).seeEpoch epoch.toNat = s.jobsDone Ks.OK 1 := State.seeEpoch_of_le (by omega)
  have hno : (s.jobsDone Ks.OK 1).ctl.lease.current = true ∨ epoch.toNat < (s.jobsDone Ks.OK 1).rdN Obj.BW_EPOCH :=
    .inr (by omega)
  show execRenewRx epoch sec ns s = _
  rw [execRenewRx, State.cwFrame_taken _ _ ht, hseen]
  simp only [if_pos hno]

theorem exec_releaseRx {epoch : BitVec 32} (ht : s.takesFrame epoch.toNat) :
    exec (.releaseRx epoch) s = .next ((s.jobsDone Ks.OK 1).seeEpoch epoch.toNat).close :=
  congrArg (fun t : State => Host.Outcome.next t.close) (State.cwFrame_taken _ _ ht)

theorem exec_takeRx {epoch : BitVec 32} (ht : s.takesFrame epoch.toNat) : exec (.takeRx epoch) s =
    .next (((s.jobsDone Ks.OK 1).seeEpoch epoch.toNat).setBw fun b => { b with holderSeen := true }).close :=
  congrArg (fun t : State => Host.Outcome.next t.close) (State.cwFrame_taken _ _ ht)

/-- STATE is known from now on; slot 22 takes what it says unless it is DISABLED. -/
theorem exec_stateRx {epoch : BitVec 32} {x : TwinState} (ht : s.takesFrame epoch.toNat)
    (h1 : s1 = ((s.jobsDone Ks.OK 1).seeEpoch epoch.toNat).setBw fun b => { b with twinState := some x }) :
    exec (.stateRx epoch x) s = .next (if s1.slotState 22 = Sl.DISABLED then s1 else
      (s1.setSlot 22 { s1.slot 22 with
        info := some { raw := x.cls.val, unc := x.bound.toNat,
                       cls := some (if 4 ≤ x.mode ∧ x.mode ≤ 7 then x.cls.val else 15), growth := 0, at48 := s1.up48 }
        utc := if x.utcValid then some (x.utcOffset, x.leap.val) else none }).utcHeard).close := by
  subst h1
  exact congrArg (fun t : State => Host.Outcome.next t.close) (State.cwFrame_taken _ _ ht)

end

/-- A holder has been seen, and CONTENDING is left (R340). -/
theorem State.sawHolder_shows (s : State) : s.sawHolder.bw.holderSeen = true ∧ s.sawHolder.rdN Obj.BW_ROLE ≠ 3 ∧
    (s.rdN Obj.BW_ROLE = 3 → s.sawHolder.rdN Obj.BW_ROLE = 2) := by
  by_cases h : s.rdN Obj.BW_ROLE = 3
  · have hrole : s.sawHolder.rdN Obj.BW_ROLE = 2 := by
      rw [State.sawHolder, h, beq_self_eq_true, State.when_true, State.rdN_wrN_same]
    refine ⟨?_, by rw [hrole]; decide, fun _ => hrole⟩
    rw [State.sawHolder, h]
    rfl
  · have hrole : s.sawHolder = s.setBw fun b => { b with holderSeen := true } := by
      rw [State.sawHolder, beq_false_of_ne h, State.when_false]
    rw [hrole]
    exact ⟨rfl, h, fun h3 => absurd h3 h⟩

/-- Settles O41: the four fates of a frame, and what each kind of frame brings. -/
theorem twinFramesComplete : Obligations.TwinFramesComplete := by
  refine ⟨⟨fun e c f s => State.cwFrame_unheard c f, fun e c f s => State.cwFrame_unverified c f, ?superseded,
    fun e c f s => State.cwFrame_taken c f, fun e s => s.rdN_seeEpoch e, fun e s => State.seeEpoch_of_higher, ?own,
    fun s => exec_causewayAuthFail⟩, ?hello, ?resync, fun epoch sec ns s s1 s2 e => exec_renewRx, State.sawHolder_shows,
    fun epoch sec ns s ht _ => exec_renewRx_older sec ns ht, fun epoch s => exec_releaseRx, ?take, ?disabled, ?state⟩
  case superseded =>
    intro e f s h hj hl he
    exact ⟨State.cwFrame_superseded true f h hj hl he, State.cwFrame_superseded false f h hj hl he⟩
  case own =>
    intro kind seq key lanes payload s hp hup hc hm hk hkey hstate husage hkind hlanes
    rw [hlanes]
    exact State.causeway_out seq payload hp hup hc hm hk hkey hstate husage hkind
  case hello =>
    intro epoch h s s1 ht hr1 hr4 h1
    rw [exec_helloRx ht h1, beq_false_of_ne hr1, beq_false_of_ne hr4, Bool.or_self, State.when_false]
  case resync =>
    intro epoch h s s1 ht hr h1
    have hrole : (h.role == 1 || h.role == 4) = true := by simpa using hr
    rw [exec_helloRx ht h1, hrole, State.when_true]
  case take =>
    intro epoch s s1 ht h1
    rw [exec_takeRx ht, ← h1]
    rfl
  case disabled =>
    intro epoch x s s1 ht h1 hd
    rw [exec_stateRx ht h1, if_pos hd]
  case state =>
    intro epoch x s s1 c ht h1 hd hc i v
    subst hc
    rw [exec_stateRx ht h1, if_neg hd]

end Sys2Proof.Machine
end

section
/-! PROOFS. The lease: its renewal and its ends at the holder, and its acquisition (R335 to R341). -/

namespace Sys2Proof.Machine

/-! The end of a lease (R337, R351). -/

/-- The lease has ended, and a RELEASE of BW_FORCE is complete; the frame, the pulses and the notice follow. -/
def State.leaseOver (s : State) : State :=
  let s1 := ({ s with
    ctl := { s.ctl with lease := { s.ctl.lease with current := false } }
    bw := { s.bw with releasing := false } } : State).wrN Obj.BW_ROLE 2
  s1.when (s1.rdN Obj.BW_FORCE == 1) (·.hw Obj.BW_FORCE 0)

/-- What sees neither the bookkeeping nor the generators sees of a lease's end that alone. -/
theorem State.dropLease_keeps {β : Sort _} (f : State → β) {s : State} (event cause : Nat) (early : Bool)
    (hagrees : ∀ {t u : State}, Agrees t u → f u = f t) (hevt : ∀ (t : State) (n : Nat) (x : Evt), f (t.setEvt n x) = f t)
    (h : (s.paired && s.ctl.lease.current) = true) : f (s.dropLease event cause early) = f s.leaseOver := by
  have hcut : ∀ t : State, f t.cutPulses = f t := fun t => State.forEach_keeps f _ _ _ fun u n => by
    dsimp only
    split
    · exact (hagrees ((Agrees.refl _).emit _)).trans (hevt _ _ _)
    · rfl
  rw [State.dropLease, if_pos h, State.leaseNotice, hagrees ((Agrees.refl _).notice _ _ _ _), hcut,
    State.when_keeps f _ _ _ fun t => hagrees ((Agrees.refl t).causeway _ _ _), hagrees ((Agrees.refl _).cond _ _)]
  rfl

section
variable {s : State} (event cause : Nat) (early : Bool)

theorem State.leaseOver_lease_current (s : State) : s.leaseOver.ctl.lease.current = false :=
  State.when_keeps (·.ctl.lease.current) _ _ _ fun t => by unfold State.hw; split <;> rfl

theorem State.leaseOver_releasing (s : State) : s.leaseOver.bw.releasing = false :=
  State.when_keeps (·.bw.releasing) _ _ _ fun t => by unfold State.hw; split <;> rfl

theorem State.leaseOver_BW_FORCE (hf : s.rdN Obj.BW_FORCE = 1) (hh : s.hostWrote Obj.BW_FORCE = false) :
    s.leaseOver.rdN Obj.BW_FORCE = 0 := by
  have hread : ∀ t : State, (t.wrN Obj.BW_ROLE 2).rdN Obj.BW_FORCE = t.rdN Obj.BW_FORCE := fun t =>
    t.rdN_wrN_ne 2 (by decide)
  have hwrote : ∀ t : State, t.hostWrote Obj.BW_FORCE = false → (t.wrN Obj.BW_ROLE 2).hostWrote Obj.BW_FORCE = false :=
    fun _ h => h
  have hforce : ∀ t : State, t.rdN Obj.BW_FORCE = 1 → t.hostWrote Obj.BW_FORCE = false →
      (t.when (t.rdN Obj.BW_FORCE == 1) (·.hw Obj.BW_FORCE 0)).rdN Obj.BW_FORCE = 0 := fun t h1 h2 => by
    rw [h1, beq_self_eq_true, State.when_true]
    exact State.rdN_hw_same 0 h2
  exact hforce _ ((hread _).trans hf) (hwrote _ hh)

theorem State.dropLease_completes_force (hp : s.paired = true) (hl : s.ctl.lease.current = true)
    (hf : s.rdN Obj.BW_FORCE = 1) (hh : s.hostWrote Obj.BW_FORCE = false) :
    (s.dropLease event cause early).rdN Obj.BW_FORCE = 0 ∧ (s.dropLease event cause early).bw.releasing = false := by
  have hgo : (s.paired && s.ctl.lease.current) = true := by simp [hp, hl]
  have hread := State.dropLease_keeps (·.rdN Obj.BW_FORCE) event cause early
    (fun h => congrArg Int.toNat (h.rd Obj.BW_FORCE (by decide : Obj.BW_FORCE.key < 0xD00000))) (fun _ _ _ => rfl) hgo
  have hbw := State.dropLease_keeps (·.bw.releasing) event cause early
    (fun h => congrArg Bellwether.releasing h.bw) (fun _ _ _ => rfl) hgo
  exact ⟨hread.trans (State.leaseOver_BW_FORCE hf hh), hbw.trans s.leaseOver_releasing⟩

theorem State.dropLease_lease_current (hp : s.paired = true) : (s.dropLease event cause early).ctl.lease.current = false := by
  cases hl : s.ctl.lease.current with
  | false =>
    rw [State.dropLease, hl, Bool.and_false]
    exact hl
  | true =>
    have hgo : (s.paired && s.ctl.lease.current) = true := by simp [hp, hl]
    exact (State.dropLease_keeps (·.ctl.lease.current) event cause early (fun h => congrArg (·.lease.current) h.ctl)
      (fun _ _ _ => rfl) hgo).trans s.leaseOver_lease_current

end

/-! The holder (R336, R337, R341). -/

section
variable {s s1 : State} (hp : s.paired = true)
include hp

section
variable (hl : s.ctl.lease.current = true)
include hl

section
variable {r48 : Nat} (hr : r48 = s.ctl.lease.acquired48 + (s.ctl.lease.renewals + 1) * (s.lease48 / 4))
  (hend : r48 ≤ s.ctl.lease.end48) (h1 : s.liveTo r48 = some s1)
include hr hend h1

/-- A renewal instant: the count goes on, and the lease is re-armed where every condition of R336 holds. -/
theorem exec_leaseRenewal (rb : Bool) : exec (.leaseRenewal rb) s =
    let s2 := s1.setLease fun l => { l with renewals := l.renewals + 1 }
    let arms := s1.mode != Mode.FAULTSAFE && rb && !(s1.unitB && s1.rdN Obj.CW_LEASE_IN == 3) && s1.rdB Obj.BW_ENABLE &&
      !s1.bw.releasing && decide (s1.rdN Obj.BW_EPOCH ≤ s.ctl.lease.epoch) && !s1.unsafeBlock 15
    if !arms then .next s2.settle
    else .next ((s2.setLease fun l => { l with end48 := r48 + s1.lease48 }).causeway 2 0
      (time80Net ((s1.now48 + s1.lease48) / ns48))).settle := by
  subst hr
  have hgo : (!s.paired || !s.ctl.lease.current || decide (s.ctl.lease.end48 <
      s.ctl.lease.acquired48 + (s.ctl.lease.renewals + 1) * (s.lease48 / 4))) = false := by
    simp [hp, hl, Nat.not_lt.mpr hend]
  show execLeaseRenewal rb s = _
  simp only [execLeaseRenewal, hgo, Bool.false_eq_true, if_false, h1]

theorem exec_leaseRenewal_counts {rb : Bool} (hno : s1.mode = Mode.FAULTSAFE ∨ rb = false ∨
    (s1.unitB = true ∧ s1.rdN Obj.CW_LEASE_IN = 3) ∨ s1.rdB Obj.BW_ENABLE = false ∨ s1.bw.releasing = true ∨
    s.ctl.lease.epoch < s1.rdN Obj.BW_EPOCH ∨ s1.unsafeBlock 15 = true) :
    exec (.leaseRenewal rb) s = .next (s1.setLease fun l => { l with renewals := l.renewals + 1 }).settle := by
  have harms : (s1.mode != Mode.FAULTSAFE && rb && !(s1.unitB && s1.rdN Obj.CW_LEASE_IN == 3) && s1.rdB Obj.BW_ENABLE &&
      !s1.bw.releasing && decide (s1.rdN Obj.BW_EPOCH ≤ s.ctl.lease.epoch) && !s1.unsafeBlock 15) = false := by
    rcases hno with h | h | ⟨hu, hi⟩ | h | h | h | h
    case inr.inr.inl => simp [hu, hi]
    case inr.inr.inr.inr.inr.inl => simp [Nat.not_le.mpr h]
    all_goals simp [h]
  simp only [exec_leaseRenewal hp hl hr hend h1, harms, Bool.not_false, if_true]

theorem exec_leaseRenewal_arms (hm : s1.mode ≠ Mode.FAULTSAFE) (hi : s1.unitB = true → s1.rdN Obj.CW_LEASE_IN ≠ 3)
    (hen : s1.rdB Obj.BW_ENABLE = true) (hrel : s1.bw.releasing = false) (he : s1.rdN Obj.BW_EPOCH ≤ s.ctl.lease.epoch)
    (hu : s1.unsafeBlock 15 = false) : exec (.leaseRenewal true) s = .next ((s1.setLease fun l => { l with
      renewals := l.renewals + 1, end48 := r48 + s1.lease48 }).causeway 2 0
        (time80Net ((s1.now48 + s1.lease48) / ns48))).settle := by
  have hline : (s1.unitB && s1.rdN Obj.CW_LEASE_IN == 3) = false := by
    cases hb : s1.unitB with
    | false => rfl
    | true => exact beq_false_of_ne (hi hb)
  have harms : (s1.mode != Mode.FAULTSAFE && true && !(s1.unitB && s1.rdN Obj.CW_LEASE_IN == 3) && s1.rdB Obj.BW_ENABLE &&
      !s1.bw.releasing && decide (s1.rdN Obj.BW_EPOCH ≤ s.ctl.lease.epoch) && !s1.unsafeBlock 15) = true := by
    simp [hline, hm, hen, hrel, he, hu]
  simp only [exec_leaseRenewal hp hl hr hend h1, harms, Bool.not_true, Bool.false_eq_true, if_false]
  rfl

end

theorem exec_leaseExpiry (h1 : s.liveTo s.ctl.lease.end48 = some s1) :
    exec .leaseExpiry s = .next (s1.dropLease 1 1 false).close := by
  show execLeaseExpiry s = _
  simp only [execLeaseExpiry, hp, hl, h1, Bool.not_true, Bool.or_self, Bool.false_eq_true, if_false]

theorem exec_leaseRelease (hr : s.bw.releasing = true) : exec .leaseRelease s = .next (s.dropLease 1 2 true).close := by
  show execLeaseRelease s = _
  simp only [execLeaseRelease, hp, hl, hr, Bool.not_true, Bool.or_self, Bool.false_eq_true, if_false]

theorem exec_splitDetect {h : Nat} (hh : s.bw.high48 = some h) (h1 : s.liveTo (h + s.guard48) = some s1) :
    exec .splitDetect s =
      if s1.unitB then .next (((s1.stick Obj.BW_STATUS 4).raise Src.BW_SPLIT).dropLease 1 4 true).close else .next s1.settle := by
  show execSplitDetect s = _
  simp only [execSplitDetect, hh, hp, hl, h1, Bool.not_true, Bool.or_self, Bool.false_eq_true, if_false]

end

theorem exec_helloSend (ho : s.open = true) (h1 : s.runTo (s.bw.hello48 + us48 1000) = some s1)
    (hk : s1.rdN Obj.CW_KEY_SLOT < 1024) : exec .helloSend s = .next ((s1.setBw fun b => { b with hello48 := s1.up48 }).causeway 1 0
      ([oct (s1.rdN Obj.BW_UNIT), oct (s1.rdN Obj.BW_ROLE), oct (if s1.bw.ready then 1 else 0)] ++
        beBytes 4 (s1.rdN Obj.BW_EPOCH) ++ beBytes 8 (s1.rdN Obj.TPE_CLOCK_ID) ++ beBytes 4 (s1.rdN Obj.BW_LEASE) ++
        beBytes 4 (s1.rdN Obj.BW_GUARD) ++ beBytes 6 (s1.slotOf (s1.rdN Obj.CW_KEY_SLOT)).gen)).settle := by
  show execHelloSend s = _
  simp only [execHelloSend, hp, ho, h1, hk, Bool.not_true, Bool.or_self, Bool.false_eq_true, if_false, if_true]

end

/-! Acquisition (R335, R339, R340). -/

section
variable {s s1 : State}

/-- At the instant of R339 a standby takes over, or what stands against it shows. -/
theorem exec_leaseAcquire {e q : Nat} {s2 : State} (he : s.bw.heldUntil48 = some e) (hl : s.ctl.lease.current = false)
    (h1 : s.reach (ceilDiv (e + s.guard48) ns48) = some s1) (hq : s1.bw.quiet48 = some q)
    (h2 : s1.liveTo (q + s1.guard48) = some s2) : exec .leaseAcquire s =
      if s2.mayAcquire && s2.rdN Obj.BW_ROLE == 2 && s2.bw.readyAtRenew then .next (s2.takeOver true)
      else .next s2.lineFaults.settle := by
  show execLeaseAcquire s = _
  simp only [execLeaseAcquire, he, hl, h1, hq, h2, Bool.false_eq_true, if_false]

/-- At the end of a contender's hold it takes over, or what stands against it shows. -/
theorem exec_contendHoldExpiry (hrole : s.rdN Obj.BW_ROLE = 3)
    (h1 : s.liveTo (s.bw.contending48 + s.lease48 + s.guard48 + if s.unitB then us48 1000 else 0) = some s1) :
    exec .contendHoldExpiry s = if s1.mayAcquire then .next (s1.takeOver false) else .next s1.lineFaults.settle := by
  show execContendHoldExpiry s = _
  simp only [execContendHoldExpiry, hrole, h1, ne_eq, not_true_eq_false, if_false]

theorem State.mayAcquire_of_obstacle (h : s.rdN Obj.BW_FORCE = 2 ∨ s.rdB Obj.BW_ENABLE = false ∨ s.mode ≠ Mode.STANDBY ∨
    s.rdN Obj.CW_LEASE_IN = 3 ∨ s.rdN Obj.CW_LEASE_IN = 0 ∨ s.ctl.lease.current = true) : s.mayAcquire = false := by
  unfold State.mayAcquire
  rcases h with h | h | h | h | h | h
  case inr.inr.inl => rw [beq_false_of_ne h]; simp
  all_goals simp [h]

end

/-- Settles O42: the holder's commands, then the two acquisitions and what stands against them. -/
theorem leaseCommandsComplete : Obligations.LeaseCommandsComplete := by
  refine ⟨⟨fun rb s s1 r48 hp hl hr hend h1 => exec_leaseRenewal_counts hp hl hr hend h1, ?arms,
    fun s s1 => exec_leaseExpiry, fun s => exec_leaseRelease,
    fun event cause early s => State.dropLease_completes_force event cause early, ?split,
    fun event cause early s => State.dropLease_lease_current event cause early, fun s s1 => exec_helloSend⟩,
    ?acquire, ?contend, ?contendB, fun s => State.mayAcquire_of_obstacle⟩
  case arms =>
    intro s s1 r48 t hp hl hr hend h1 hm hi hen hrel he hu ht
    subst ht
    exact exec_leaseRenewal_arms hp hl hr hend h1 hm hi hen hrel he hu
  case split =>
    intro h s s1 hh hp hl h1
    rw [exec_splitDetect hp hl hh h1]
    exact ⟨fun hb => if_pos hb, fun hb => if_neg (by simp [hb])⟩
  case acquire =>
    intro e q s s1 s2 he hl h1 hq h2
    rw [exec_leaseAcquire he hl h1 hq h2]
    refine ⟨fun ⟨hmay, hrole, hready⟩ => if_pos (by simp [hmay, hrole, hready]), fun h => if_neg ?_⟩
    rcases h with h | h | h <;> simp [h]
  case contend =>
    intro s s1 hrole hb h1
    rw [exec_contendHoldExpiry hrole (by simpa [hb] using h1)]
    exact ⟨fun h => if_pos h, fun h => if_neg (by simp [h])⟩
  case contendB =>
    intro s s1 hrole hb h1 hmay
    rw [exec_contendHoldExpiry hrole (by simpa [hb] using h1)]
    exact if_pos hmay

end Sys2Proof.Machine
end

section
/-! PROOFS. LEASE_IN and the lanes, BW_FORCE and BW_ENABLE, and the pair record (R330, R331, R337, R348, R349, R351). -/

namespace Sys2Proof.Machine

/-! The lines. -/

section
variable {s : State} (hp : s.paired = true)
include hp

/-- A state of LEASE_IN is declared; how long it has been quiet, or HIGH, counts from 2 µs before (R331). -/
theorem exec_leaseInChange (l : LeaseLine) : exec (.leaseInChange l) s =
    let n := lineCode l
    let s1 := (s.wrN Obj.CW_LEASE_IN n).setBw fun b => { b with
      quiet48 := if n == 1 || n == 2 then some (b.quiet48.getD (s.live48 - us48 2)) else none,
      high48 := if n = 3 then some (b.high48.getD (s.live48 - us48 2)) else none }
    .next ((s1.when (n == 3 && !s.ctl.lease.current) State.sawHolder).lineFaults).close := by
  show execLeaseInChange l s = _
  simp only [execLeaseInChange, hp, Bool.not_true, Bool.false_eq_true, if_false]

theorem exec_leaseInChange_quiet {l : LeaseLine} (hl : l = .off ∨ l = .low) : exec (.leaseInChange l) s =
    .next ((s.wrN Obj.CW_LEASE_IN (lineCode l)).setBw fun b => { b with
      quiet48 := some (b.quiet48.getD (s.live48 - us48 2)), high48 := none }).lineFaults.close := by
  rw [exec_leaseInChange hp]
  rcases hl with rfl | rfl <;> rfl

theorem exec_leaseInChange_high : exec (.leaseInChange .high) s =
    .next (((s.wrN Obj.CW_LEASE_IN 3).setBw fun b => { b with
      quiet48 := none, high48 := some (b.high48.getD (s.live48 - us48 2)) }).when (!s.ctl.lease.current)
        State.sawHolder).lineFaults.close := exec_leaseInChange hp .high

theorem exec_leaseInChange_open : exec (.leaseInChange .open) s =
    .next ((s.wrN Obj.CW_LEASE_IN 0).setBw fun b => { b with quiet48 := none, high48 := none }).lineFaults.close :=
  exec_leaseInChange hp .open

theorem exec_cwLaneChange (lane : Fin 2) (up : Bool) (hm : s.mode ≠ Mode.BOOT) : exec (.cwLaneChange lane up) s =
    .next (((s.wrN Obj.CW_LANE_STATE (putBit (s.rdN Obj.CW_LANE_STATE) lane.val up)).cond (Src.BW_LANE_DOWN lane) (!up)).when
      s.open State.lineFaults).settle := by
  show execCwLaneChange lane up s = _
  simp only [execCwLaneChange, hp, beq_false_of_ne hm, Bool.false_and, Bool.not_true, Bool.or_self, Bool.false_eq_true, if_false]

end

/-! BW_FORCE and BW_ENABLE (R337, R351). -/

section
variable {s : State} (hfree : s.restoring 15 = false)
include hfree

theorem exec_bwForceRelease : exec .bwForceRelease s = .next (s.writeForce 1).settle :=
  State.orHeld_of_not_restoring _ _ _ _ _ _ hfree
theorem exec_bwForceHoldOff : exec .bwForceHoldOff s = .next (s.writeForce 2).settle :=
  State.orHeld_of_not_restoring _ _ _ _ _ _ hfree
theorem exec_bwEnableWrite (v : Bool) : exec (.bwEnableWrite v) s = .next (s.setBwEnable v).settle :=
  State.orHeld_of_not_restoring _ _ _ _ _ _ hfree

end

section
variable {s : State}

theorem State.writeForce_of_locked (v : Nat) (h : s.locked 6 = true) : s.writeForce v = s := if_pos h

theorem State.writeForce_of_unlocked (v : Nat) (h : s.locked 6 = false) :
    s.writeForce v = (if v = 1 then s.forceRelease else s.wrN Obj.BW_FORCE v).byHost .pcie Obj.BW_FORCE := by
  simp only [State.writeForce, h, Bool.false_eq_true, if_false]

theorem State.forceRelease_of_ready {h : Hello} (hp : s.paired = true) (hl : s.ctl.lease.current = true)
    (ht : s.bw.twin = some h) (hr : h.ready = true) :
    s.forceRelease = (s.wrN Obj.BW_FORCE 1).setBw fun b => { b with releasing := true } := by
  simp only [State.forceRelease, hp, hl, ht, Option.map_some, hr, beq_self_eq_true, Bool.and_self, if_true]

theorem State.forceRelease_elsewhere (hl : s.ctl.lease.current = false) :
    s.forceRelease = (s.stick Obj.BW_STATUS 3).wrN Obj.BW_FORCE 0 := by
  simp only [State.forceRelease, hl, Bool.and_false, Bool.false_and, Bool.false_eq_true, if_false]

theorem State.setBwEnable_off (hp : s.paired = true) (hl : s.ctl.lease.current = true) :
    s.setBwEnable false = (s.wrN Obj.BW_ENABLE 0).setBw fun b => { b with releasing := true } := by
  simp only [State.setBwEnable, hp, hl, Bool.not_false, Bool.and_self, State.when_true, Bool.false_eq_true, if_false]

theorem State.setBwEnable_otherwise {v : Bool} (h : v = true ∨ s.paired = false ∨ s.ctl.lease.current = false) :
    s.setBwEnable v = s.wrN Obj.BW_ENABLE (if v then 1 else 0) := by
  have hno : (!v && s.paired && s.ctl.lease.current) = false := by
    rcases h with h | h | h <;> simp [h]
  rw [State.setBwEnable, hno, State.when_false]

/-! The pair record (R348, R349). -/

theorem exec_pairRecordPersist {s1 : State} (hp : s.paired = true) (ho : s.open = true)
    (h1 : s.runTo (s.bw.persist48 + 60 * sec48) = some s1) : exec .pairRecordPersist s = .next s1.persist.settle := by
  show execPairRecordPersist s = _
  simp only [execPairRecordPersist, hp, ho, h1, Bool.not_true, Bool.or_self, Bool.false_eq_true, if_false]

theorem exec_journalPersistRetry {s1 : State} (hd : s.bw.persistDue = true) (hi : s.inhibited = false)
    (h1 : s.runTo (s.ctl.supply.released48 + us48 10000) = some s1) :
    exec .journalPersistRetry s = .next s1.persist.settle := by
  show execJournalPersistRetry s = _
  simp only [execJournalPersistRetry, hd, hi, h1, Bool.not_true, Bool.or_self, Bool.false_eq_true, if_false]

theorem State.persist_of_root {r : RootRecord} (hi : s.inhibited = false) (hr : s.ks.root = some r) :
    s.persist.bw.persistDue = false ∧
      s.persist.bw.pairRecord = some { epoch := s.rdN Obj.BW_EPOCH, twin := if s.unitB then 0 else 1, under := r.number } := by
  simp only [State.persist, hi, hr, Bool.false_eq_true, if_false]
  exact ⟨rfl, rfl⟩

theorem State.persist_of_inhibited (hi : s.inhibited = true) :
    s.persist.bw.persistDue = true ∧ s.persist.bw.pairRecord = s.bw.pairRecord := by
  simp only [State.persist, hi, if_true]
  exact ⟨rfl, rfl⟩

end

/-- Settles O43: the lines by their states, the two registers by their cases, and the record. -/
theorem linesAndForcedRolesComplete : Obligations.LinesAndForcedRolesComplete := by
  refine ⟨?quiet, ?high, ?opened, ?lane, ?release, ?refused, ?locked, ?holdOff, ?disable, ?enable,
    fun s s1 => exec_pairRecordPersist, fun s s1 => exec_journalPersistRetry, fun r s => State.persist_of_root,
    fun s => State.persist_of_inhibited⟩
  case quiet =>
    intro s s1 l hp hl h1
    rw [exec_leaseInChange_quiet hp hl, h1]
  case high =>
    intro s s1 hp h1
    rw [exec_leaseInChange_high hp, ← h1]
    exact ⟨fun hl => by rw [hl]; rfl, fun hl => by rw [hl]; rfl⟩
  case opened =>
    intro s s1 hp h1
    rw [exec_leaseInChange_open hp, h1]
  case lane =>
    intro lane up s s1 hp hm h1
    rw [exec_cwLaneChange hp lane up hm, ← h1]
    exact ⟨fun ho => by rw [ho, State.when_true], fun ho => by rw [ho, State.when_false]⟩
  case release =>
    intro h s hfree hlock hp hl ht hr
    rw [exec_bwForceRelease hfree, State.writeForce_of_unlocked _ hlock, if_pos rfl, State.forceRelease_of_ready hp hl ht hr]
  case refused =>
    intro s hfree hlock hl
    rw [exec_bwForceRelease hfree, State.writeForce_of_unlocked _ hlock, if_pos rfl, State.forceRelease_elsewhere hl]
  case locked =>
    intro s hfree hlock
    rw [exec_bwForceRelease hfree, exec_bwForceHoldOff hfree, State.writeForce_of_locked _ hlock,
      State.writeForce_of_locked _ hlock]
    exact ⟨rfl, rfl⟩
  case holdOff =>
    intro s hfree hlock
    rw [exec_bwForceHoldOff hfree, State.writeForce_of_unlocked _ hlock, if_neg (by decide)]
  case disable =>
    intro s hfree hp hl
    rw [exec_bwEnableWrite hfree, State.setBwEnable_off hp hl]
  case enable =>
    intro v s hfree h
    rw [exec_bwEnableWrite hfree, State.setBwEnable_otherwise h]

end Sys2Proof.Machine
end

section
/-! PROOFS. The journal at the standby and at the holder (R345, R346). -/

namespace Sys2Proof.Machine

/-! The standby. -/

/-- What a JOURNAL frame does at the standby, from its first entry's number on (R345; log entry 33). -/
def State.journalTaken (s : State) (j : Nat) (es : List JEntry) : State :=
  if s.bw.nextJseq < j then
    if s.bw.gap then s.resyncRequest else (s.setBw fun b => { b with gap := true }).journalAck
  else
    ((State.applyEntries es j s).setBw fun b => { b with
      gap := if b.nextJseq < j + es.length then b.gap else false }).journalAck

section
variable {epoch : BitVec 32} {j : BitVec 64} {es : List JEntry} {s s1 : State} (ht : s.takesFrame epoch.toNat)
  (h1 : s1 = (s.jobsDone Ks.OK 1).seeEpoch epoch.toNat)
include ht h1

/-- The first frame of a standby that has applied none begins where its entries begin. -/
theorem exec_journalRx (hl : s1.ctl.lease.current = false) : exec (.journalRx epoch j es) s =
    .next ((s1.when (s1.bw.nextJseq == 0) fun s => s.setBw fun b => { b with nextJseq := j.toNat }).journalTaken j.toNat
      es).settle := by
  show execJournalRx epoch j es s = _
  rw [execJournalRx, State.cwFrame_taken _ _ ht, ← h1]
  simp only [hl, Bool.false_eq_true, if_false]
  rfl

theorem exec_journalRx_follows (hl : s1.ctl.lease.current = false) (hn : s1.bw.nextJseq ≠ 0) :
    exec (.journalRx epoch j es) s = .next (s1.journalTaken j.toNat es).settle := by
  rw [exec_journalRx ht h1 hl, beq_false_of_ne hn, State.when_false]

theorem exec_journalRx_first (hl : s1.ctl.lease.current = false) (hn : s1.bw.nextJseq = 0) :
    exec (.journalRx epoch j es) s =
      .next ((s1.setBw fun b => { b with nextJseq := j.toNat }).journalTaken j.toNat es).settle := by
  rw [exec_journalRx ht h1 hl, hn, beq_self_eq_true, State.when_true]

end

section
variable {s : State} {j : Nat} (es : List JEntry)

theorem State.journalTaken_in_order (h : j ≤ s.bw.nextJseq) : s.journalTaken j es =
    ((State.applyEntries es j s).setBw fun b => { b with
      gap := if b.nextJseq < j + es.length then b.gap else false }).journalAck := if_neg (Nat.not_lt.mpr h)

theorem State.journalTaken_beyond_gap (h : s.bw.nextJseq < j) :
    s.journalTaken j es = if s.bw.gap then s.resyncRequest else (s.setBw fun b => { b with gap := true }).journalAck := if_pos h

end

/-! The holder. -/

/-- The ACK's entries take effect, and the wait for the next one begins anew (R345, R346). -/
def State.ackTaken (s : State) (hi : Nat) : State :=
  let s1 := (s.wrN Obj.JR_ACKED (max (s.rdN Obj.JR_ACKED) hi)).acknowledged hi
  s1.setBw fun b => { b with
    ackSince48 := if s1.awaits && decide (s1.rdN Obj.JR_ACKED < s1.rdN Obj.JR_TX) then some s1.up48 else none }

section
variable {epoch : BitVec 32} {s s1 : State} (ht : s.takesFrame epoch.toNat)
  (h1 : s1 = (s.jobsDone Ks.OK 1).seeEpoch epoch.toNat) (hl : s1.ctl.lease.current = true)
include ht h1 hl

theorem exec_journalAckRx (j : BitVec 64) (nack : Bool) : exec (.journalAckRx epoch j nack) s =
    let hi := min j.toNat (s1.rdN Obj.JR_TX)
    .next (if nack then (s1.ackTaken hi).forEach (l := (s1.ackTaken hi).bw.journal.filter fun e => decide (hi < e.1))
      (p := fun s e => s.causeway 0x10 e.1 (Config.journalOctets e.2)) else s1.ackTaken hi).settle := by
  show execJournalAckRx epoch j nack s = _
  rw [execJournalAckRx, State.cwFrame_taken _ _ ht, ← h1]
  simp only [hl, Bool.not_true, Bool.false_eq_true, if_false]
  cases nack <;> rfl

end

theorem exec_resyncReqRx {epoch : BitVec 32} {s s1 s2 s3 : State} (ht : s.takesFrame epoch.toNat)
    (hl : ((s.jobsDone Ks.OK 1).seeEpoch epoch.toNat).ctl.lease.current = true)
    (h1 : s1 = ((s.jobsDone Ks.OK 1).seeEpoch epoch.toNat).wrN Obj.JR_RESYNC 1)
    (h2 : s2 = s1.forEach (l := s1.tpe.fold) (p := fun s e => s.journal (.record e.2 (s.dueOf e.1 false) (s.dueOf e.1 true))))
    (h3 : s3 = s2.forEach (l := s2.tpe.multicast) (p := fun s e =>
      s.journal (.mcRes (e.1 / 2 / 16) (e.1 / 2 % 16) (if e.1 % 2 = 1 then Ptp.ANNOUNCE else Ptp.SYNC) e.2.res))) :
    exec (.resyncReqRx epoch) s = .next (s3.forEach (l := List.range 17) (p := fun s e =>
      s.forEach (l := [0, 1, 2]) (p := fun s pos => s.journalKey e pos))).settle := by
  subst h1 h2 h3
  show execResyncReqRx epoch s = _
  rw [execResyncReqRx, State.cwFrame_taken _ _ ht]
  simp only [hl, Bool.not_true, Bool.false_eq_true, if_false]

/-- The stream has been applied (R345, R346). -/
theorem exec_resyncComplete {s : State} (hp : s.paired = true) (hr : s.rdN Obj.JR_RESYNC = 1) : exec .resyncComplete s =
    if s.ctl.lease.current = false then .next ((s.wrN Obj.JR_RESYNC 2).setBw fun b => { b with synced := true }).settle
    else if s.rdN Obj.BW_ROLE ≠ 4 then .next (s.wrN Obj.JR_RESYNC 2).settle
    else .next ((((s.wrN Obj.JR_RESYNC 2).wrN Obj.BW_ROLE 1).cond Src.BW_SOLO false).leaseNotice 4).settle := by
  show execResyncComplete s = _
  simp only [execResyncComplete, hp, hr, Bool.not_true, Bool.false_eq_true, ne_eq, not_true_eq_false, or_self, if_false,
    Bool.not_eq_true']

theorem exec_journalAckTimeout {t : Nat} {s s1 s2 : State} (ha : s.bw.ackSince48 = some t) (hw : s.awaits = true)
    (h1 : s.runTo (t + us48 (s.rdN Obj.BW_ACK_TIMEOUT)) = some s1)
    (h2 : s2 = ((s1.wrN Obj.BW_ROLE 4).setBw fun b => { b with ackSince48 := none }).cond Src.BW_SOLO true) :
    exec .journalAckTimeout s = .next ((s2.leaseNotice 3).acknowledged (s2.rdN Obj.JR_TX)).settle := by
  subst h2
  show execJournalAckTimeout s = _
  simp only [execJournalAckTimeout, ha, hw, h1, Bool.not_true, Bool.false_eq_true, if_false]

/-- Settles O44: the standby's three answers, and the holder's commands. -/
theorem journalCommandsComplete : Obligations.JournalCommandsComplete := by
  refine ⟨?follows, ?first, ?gap, ?ack, fun epoch s s1 s2 s3 => exec_resyncReqRx, ?synced, ?resynced,
    fun t s s1 s2 => exec_journalAckTimeout⟩
  case follows =>
    intro epoch j es s s1 s2 ht h1 hl hn hj h2
    rw [exec_journalRx_follows ht h1 hl hn, State.journalTaken_in_order es hj, h2]
  case first =>
    intro epoch j es s s1 s2 ht h1 hl hn h2
    rw [exec_journalRx_first ht h1 hl hn, State.journalTaken_in_order (j := j.toNat) es (Nat.le_refl j.toNat), h2]
  case gap =>
    intro epoch j es s s1 ht h1 hl hn hj
    rw [exec_journalRx_follows ht h1 hl hn, State.journalTaken_beyond_gap es hj]
    exact ⟨fun hg => by rw [hg]; rfl, fun hg => by rw [hg]; rfl⟩
  case ack =>
    intro epoch j nack s s1 s2 ht h1 hl h2 t s3
    have h3 : s3 = s1.ackTaken (min j.toNat (s1.rdN Obj.JR_TX)) := by
      simp only [s3, t, h2]
      rfl
    rw [exec_journalAckRx ht h1 hl j nack, h3]
  case synced =>
    intro s hp hr hl
    rw [exec_resyncComplete hp hr, if_pos hl]
  case resynced =>
    intro s hp hr hl
    rw [exec_resyncComplete hp hr, if_neg (by simp [hl])]
    exact ⟨fun h4 => if_neg (not_not_intro h4), fun h4 => if_pos h4⟩

end Sys2Proof.Machine
end

section
/-! PROOFS. The checks of a dictionary request (Table 15-7, R362 to R364). -/

namespace Sys2Proof.Machine

section
variable {op d : Nat} {q : GopRequest} {s s1 : State}

theorem gop_of_tagWaits (h : s.tagWaits op q = true) : gop op q s = .next s := if_pos h

theorem gop_of_testObject (hw : s.tagWaits op q = false) (ha : s.arrive q = some (s1, d)) (ht : s1.testObject op q = true) :
    gop op q s = .refused .undescribedTestObject := by
  simp only [gop, hw, ha, ht, Bool.false_eq_true, if_false, if_true]

theorem State.tagWaits_of_free (h : q.role = .anonymous ∨ (s.jobsFull = false ∧ s.unsafeBlock 14 = false)) :
    s.tagWaits op q = false := by
  rcases h with h | ⟨hj, hu⟩
  · exact s.tagWaits_anonymous op h
  · simp only [State.tagWaits, hj, hu, Bool.or_self, Bool.and_false]

theorem State.testObject_in_factory (h : s.testObject op q = true) : s.mode = Mode.FACTORY ∧ 0xF000 ≤ q.index.toNat := by
  simp only [State.testObject, Bool.and_eq_true, beq_iff_eq, decide_eq_true_eq] at h
  obtain ⟨⟨⟨⟨hm, hi, -⟩, -⟩, -⟩, -⟩ := h
  exact ⟨hm, hi⟩

theorem State.mayRead_in_factory (o : Target) (r : Role) (h : s.mode = Mode.FACTORY) : s.mayRead o r = s.reaches o.row.cls := by
  simp only [State.mayRead, State.factoryRight, h, beq_self_eq_true, Bool.or_true, Bool.and_true]

/-- A receive buffer of the field port is free again (R245). -/
theorem State.arrive_fieldPort (hl : q.link ≠ .pcie) (ho : s.open = true) (hu : s.linkUp q.link = true) :
    s.arrive q = some (s.setFp (linkCode q.link)
      { s.fp (linkCode q.link) with rx := (s.fp (linkCode q.link)).rx - 1 }, 0) := by
  simp only [State.arrive, ho, hu, hl, Bool.not_true, Bool.or_self, Bool.false_eq_true, if_false]

/-! The outcomes of steps 1 to 3. -/

theorem State.checked_unframed (d : Nat) (hf : framed op q = false) :
    s.checked op q d = (s.stick Obj.OD_STATUS 1).discardGop q d := by
  simp only [State.checked, hf, Bool.not_false, if_true]

section
variable (d : Nat) (hf : framed op q = true)
include hf

theorem State.checked_badTag (ht : s.tagGood op q = false) :
    s.checked op q d = (((s.tagChecked op q).stick Obj.OD_STATUS 2).raise Src.OD_TAG_FAIL).discardGop q d := by
  simp only [State.checked, hf, ht, Bool.not_true, Bool.false_eq_true, if_false, Bool.not_false, if_true]

variable (ht : s.tagGood op q = true)
include ht

theorem State.checked_stale (hv : s.seqVerdict q = .stale) :
    s.checked op q d = (((s.tagChecked op q).stick Obj.OD_STATUS 3).raise Src.OD_REPLAY).discardGop q d := by
  simp only [State.checked, hf, ht, hv, Bool.not_true, Bool.false_eq_true, if_false]

theorem State.checked_again {m : List Octet} (hv : s.seqVerdict q = .again m) :
    s.checked op q d = ((s.tagChecked op q).stick Obj.OD_STATUS 3).transmitAck q.link q.mac.toNat d m := by
  simp only [State.checked, hf, ht, hv, Bool.not_true, Bool.false_eq_true, if_false]

theorem State.checked_noRequest (hv : s.seqVerdict q = .fresh) (hop : 7 ≤ op) : s.checked op q d =
    (if q.role = .anonymous then s.tagChecked op q
      else (s.tagChecked op q).setSeqCell q.link q.role ⟨q.seq.toNat, none⟩).discardGop q d := by
  simp only [State.checked, hf, ht, hv, hop, Bool.not_true, Bool.false_eq_true, if_false, if_true]

end

/-! What each check asks (R362 to R364). -/

theorem framed_iff (op : Nat) (q : GopRequest) : framed op q = true ↔
    q.version = 1 ∧ 1 ≤ op ∧ op ≤ 8 ∧ q.roleOctet.toNat ≤ 4 ∧ q.length.toNat + 16 ≤ q.rest.length ∧
      q.length.toNat ≤ payloadMax q.link := decide_eq_true_iff

theorem State.tagGood_iff (op : Nat) (q : GopRequest) (s : State) : s.tagGood op q = true ↔
    (q.role = .anonymous ∨ (s.roleKey q.role).isSome = true) ∧ q.tag = s.tagOf q.role (q.header op ++ q.payload) := by
  simp only [State.tagGood, Bool.and_eq_true, Bool.or_eq_true, beq_iff_eq]

/-- A role's number is fresh within the half of the circle after the last one (R364). -/
theorem State.seqVerdict_fresh_iff {last : Nat} (hr : q.role ≠ .anonymous) (hl : (s.seqCell q.link q.role).last = last) :
    s.seqVerdict q = .fresh ↔
      1 ≤ (q.seq.toNat + 2 ^ 32 - last) % 2 ^ 32 ∧ (q.seq.toNat + 2 ^ 32 - last) % 2 ^ 32 < 2 ^ 31 := by
  subst hl
  unfold State.seqVerdict
  dsimp only
  split
  next h => exact iff_of_true rfl (h.resolve_left hr)
  next h =>
    refine iff_of_false ?_ fun hfresh => h (.inr hfresh)
    split
    · split <;> simp
    · simp

end

/-- Settles O45: what reaches the checks, the outcome of each, and what each asks. -/
theorem dictionaryRequestsAreChecked : Obligations.DictionaryRequestsAreChecked := by
  refine ⟨fun q s s1 d ha => ⟨fun hw => gop_of_arrive hw ha, fun hw => gop_of_arrive hw ha, fun hw => gop_of_arrive hw ha,
      fun hw => gop_of_arrive hw ha, fun op hw => gop_of_arrive hw ha, fun hw => gop_of_testObject hw ha⟩,
    fun op q s => gop_of_tagWaits, fun op q s => State.tagWaits_of_free, fun op q s => State.testObject_in_factory,
    fun o r s => State.mayRead_in_factory o r, fun q s => State.arrive_fieldPort, ?discarded, ?again, ?fresh, framed_iff,
    State.tagGood_iff, fun q s => s.seqVerdict_anonymous, fun q s last hr hl _ => State.seqVerdict_fresh_iff hr hl⟩
  case discarded =>
    intro op q s s0 d h0
    subst h0
    exact ⟨State.checked_unframed d, State.checked_badTag d, State.checked_stale d⟩
  case again =>
    intro op q s s0 d m h0 hf ht hv
    subst h0
    exact State.checked_again d hf ht hv
  case fresh =>
    intro op q s s0 s1 d h0 hf ht hv h1
    subst h0 h1
    refine ⟨State.checked_noRequest d hf ht hv, fun hop hw => ?_⟩
    rw [State.checked_fresh d hf ht hv hop]
    exact State.begin_of_waits_none hw

end Sys2Proof.Machine
end

section
/-! PROOFS. The dictionary's operations, from the rights on (Table 15-7, R356, R361, R366, R369). -/

namespace Sys2Proof.Machine

/-! Each operation is its own passage. -/

section
variable {h : Held} {s : State}

theorem State.perform_read (hop : h.op = 1) : s.perform h = s.performRead h := by simp only [State.perform, hop]
theorem State.perform_write (hop : h.op = 2) : s.perform h = s.performWrite h := by simp only [State.perform, hop]
theorem State.perform_readBlock (hop : h.op = 3) : s.perform h = s.performReadBlock h := by simp only [State.perform, hop]
theorem State.perform_writeBlock (hop : h.op = 4) : s.perform h = s.performWriteBlock h := by simp only [State.perform, hop]

end

/-! Reads (R356, R361). -/

theorem State.readOctets_of_none {i sub : Nat} (l : Link) (r : Role) (s : State) (hf : findObject i sub = none) :
    s.readOctets l r i sub = List.replicate 8 0 := by
  simp only [State.readOctets, hf]

theorem State.readOctets_of_some {i sub : Nat} {o : Target} (l : Link) (r : Role) (s : State) (hf : findObject i sub = some o) :
    s.readOctets l r i sub = if s.mayRead o r then s.octetsOf o.row l o.number else zeroOctets o.row := by
  simp only [State.readOctets, hf]

section
variable {h : Held} {o : Target} {s : State} (hf : findObject h.req.index.toNat h.req.sub.toNat = some o)
include hf

theorem State.performReadBlock_of_some (hp : h.req.payload.length = 2) (hn : ofLe h.req.payload ≠ 0) :
    s.performReadBlock h = s.answer h AckCode.OK
      (((s.readOctets h.req.link h.req.role h.req.index.toNat h.req.sub.toNat).drop h.req.offset.toNat).take
        (min (ofLe h.req.payload) (payloadMax h.req.link))) := by
  simp only [State.performReadBlock, hp, hn, hf, ne_eq, not_true_eq_false, or_self, if_false]

/-! WRITE (Table 15-5). -/

theorem State.performWrite_barred (hw : s.mayWrite o h.req.role h.req.payload = false) :
    s.performWrite h = s.answer h AckCode.OK [] := by
  simp only [State.performWrite, hf, hw, Bool.not_false, if_true]

/-- A scalar that is read-only ignores a write; another takes octets of its size alone. -/
theorem State.performWrite_scalar (hw : s.mayWrite o h.req.role h.req.payload = true) (hb : o.row.blob = false) :
    s.performWrite h = if o.row.access = .ro then s.answer h AckCode.OK []
      else if h.req.payload.length ≠ scalarSize o.row.type then s.answer h AckCode.LENGTH []
      else s.writeScalar h o (octetsValue o.row.type h.req.payload) AckCode.OK [] [] := by
  simp only [State.performWrite, hf, hw, hb, Bool.not_true, Bool.false_eq_true, if_false, Bool.not_false, if_true]

theorem State.performWrite_ro (hb : o.row.blob = false) (hro : o.row.access = .ro) :
    s.performWrite h = s.answer h AckCode.OK [] := by
  cases hw : s.mayWrite o h.req.role h.req.payload with
  | false => exact State.performWrite_barred hf hw
  | true => rw [State.performWrite_scalar hf hw hb, if_pos hro]

section
variable (hw : s.mayWrite o h.req.role h.req.payload = true) (hro : o.row.access ≠ .ro)
include hw hro

theorem State.performWrite_value (hb : o.row.blob = false) (hlen : h.req.payload.length = scalarSize o.row.type) :
    s.performWrite h = s.writeScalar h o (octetsValue o.row.type h.req.payload) AckCode.OK [] [] := by
  rw [State.performWrite_scalar hf hw hb, if_neg hro, if_neg (not_not_intro hlen)]

/-! WRITE_BLOCK (R361). -/

theorem State.performWriteBlock_blob (hb : o.row.blob = true) : s.performWriteBlock h =
    (s.writeContent h.source o h.req.offset.toNat h.req.payload).1.answer h
      (s.writeContent h.source o h.req.offset.toNat h.req.payload).2.1
      (leBytes 4 (s.writeContent h.source o h.req.offset.toNat h.req.payload).2.2) := by
  simp only [State.performWriteBlock, hf, hw, hb, beq_false_of_ne hro, Bool.not_true, Bool.or_self, Bool.false_eq_true, if_false,
    if_true]

theorem State.performWriteBlock_scalar {fit : List Octet} (hb : o.row.blob = false)
    (hfit : fit = h.req.payload.take (scalarSize o.row.type - h.req.offset.toNat)) (hne : fit ≠ []) :
    s.performWriteBlock h = s.writeScalar h o
      (octetsValue o.row.type (overlay (s.octetsOf o.row h.req.link o.number) h.req.offset.toNat fit))
      (if fit.length < h.req.payload.length then AckCode.TRUNCATED else AckCode.OK) (leBytes 4 fit.length) (leBytes 4 0) := by
  subst hfit
  simp only [State.performWriteBlock, hf, hw, hb, hne, beq_false_of_ne hro, Bool.not_true, Bool.or_self, Bool.false_eq_true,
    if_false]

end
end

/-! A value for a scalar. -/

section
variable {h : Held} {o : Target} {v : Option Int} {good : Nat} {payload failed : List Octet} {s t : State}

theorem State.writeScalar_done {code : Nat} (hj : s.judgeWrite o v = .done t code) : s.writeScalar h o v good payload failed =
    if code = AckCode.OK then t.answer h good payload else t.answer h code failed := by
  simp only [State.writeScalar, hj]

theorem State.writeScalar_runs {x : Int} (hj : s.judgeWrite o v = .run x) (hr : replyFirst h.source o x = false)
    (hb : s.refusedBy (s.put' h.source o x) h.source o x = false) :
    s.writeScalar h o v good payload failed = (s.put' h.source o x).ackWrite h o s good payload := by
  simp only [State.writeScalar, hj, hr, hb, Bool.false_eq_true, if_false]

end

section
variable {o : Target} {s : State} (v : Int)

theorem State.judgeWrite_ro (hro : o.row.access = .ro) : s.judgeWrite o (some v) = .done s AckCode.OK := if_pos hro

/-- A value for an object that holds no sticky bits: its range, then its owning ENABLE. -/
theorem State.judgeWrite_plain (hro : o.row.access ≠ .ro) (hs : ∀ m, o.row.range ≠ .sticky m) : s.judgeWrite o (some v) =
    if !s.inRange o.row o.number v then .done (s.reject o) AckCode.RANGE
    else if o.row.access = .rwd && s.enabled o then .done (s.cfgIgnored o.row.block o.key) AckCode.CFG_IGNORED
    else .run (s.kept o.row o.number v) := by
  unfold State.judgeWrite
  rw [if_neg hro]
  cases hr : o.row.range with
  | sticky m => exact absurd hr (hs m)
  | _ => rfl

end

/-! A value in its register, and the order of the links (R366). -/

section
variable {o : Target} {w : WriteFrom} {s : State} (v : Int) (hwo : o.row.access ≠ .wo)
include hwo

theorem State.put'_overtaken (h : s.overtaken w.link (o.at w.link) = true) : s.put' w o v = s := by
  have hne : (o.row.access != .wo) = true := by simp [hwo]
  simp only [State.put', hne, h, Bool.and_self, if_true]

theorem State.put'_register (h : s.overtaken w.link (o.at w.link) = false) (hn : o.row.write = none) :
    s.put' w o v = (s.wr (o.at w.link) v).byHost w.link (o.at w.link) := by
  simp only [State.put', h, hn, hwo, Bool.and_false, Bool.false_eq_true, if_false]

end

/-- After a write over a link, an earlier one of the order is overtaken where one was, or where this link is later. -/
theorem State.overtaken_byHost (s : State) (l l' : Link) (r : Reg) :
    (s.byHost l r).overtaken l' r = (s.overtaken l' r || decide (linkRank l' < linkRank l)) := by
  have hkept : ∀ m : List (Nat × Nat × Nat), (m.filter fun e => e.2.1 == s.cycle48).any
        (fun e => e.1 == r.key && e.2.1 == s.cycle48 && decide (linkRank l' < e.2.2)) =
      m.any fun e => e.1 == r.key && e.2.1 == s.cycle48 && decide (linkRank l' < e.2.2) := fun m => by
    rw [List.any_filter]
    congr 1
    funext e
    cases e.2.1 == s.cycle48 <;> simp
  have hcycle : (s.byHost l r).cycle48 = s.cycle48 := rfl
  rw [State.overtaken, hcycle]
  simp only [State.byHost, List.any_append, hkept, List.any_cons, List.any_nil, beq_self_eq_true, Bool.true_and, Bool.or_false]
  rfl

theorem State.hostWrote_byHost (s : State) (l : Link) (r : Reg) : (s.byHost l r).hostWrote r = true := by
  have hcycle : (s.byHost l r).cycle48 = s.cycle48 := rfl
  rw [State.hostWrote, hcycle]
  simp [State.byHost]

theorem State.hw_of_hostWrote {s : State} {r : Reg} (v : Int) (h : s.hostWrote r = true) : s.hw r v = s := if_pos h

/-- Settles O46: each operation by its own passage, and the order of the links by who has written. -/
theorem dictionaryOperationsComplete : Obligations.DictionaryOperationsComplete := by
  refine ⟨fun h s hop => State.perform_read hop, fun l r i sub s => s.readOctets_of_none l r, ?octets, ?readBlock, ?absent,
    ?ignored, ?length, ?done, ?runs, ?block, ?blockDone,
    fun o w v s hwo => ⟨State.put'_overtaken v hwo, State.put'_register v hwo⟩, ?order,
    fun l r v s => ⟨State.hw_of_not_hostWrote v, State.hw_of_hostWrote v, s.hostWrote_byHost l r, rfl⟩,
    fun o v s => State.judgeWrite_ro v, ?range, ?enabled⟩
  case octets =>
    intro l r i sub o s hf
    rw [s.readOctets_of_some l r hf]
    exact ⟨fun hr => by rw [hr]; rfl, fun hr => by rw [hr]; rfl⟩
  case readBlock =>
    intro h n o s hop hp hn h0 hf
    subst hn
    rw [State.perform_readBlock hop, State.performReadBlock_of_some hf hp h0]
  case absent =>
    intro h s hop hf
    rw [State.perform_write hop]
    simp only [State.performWrite, hf]
  case ignored =>
    intro h o s hop hf hno
    rw [State.perform_write hop]
    rcases hno with hw | ⟨hb, hro⟩
    · exact State.performWrite_barred hf hw
    · exact State.performWrite_ro hf hb hro
  case length =>
    intro h o s hop hf hw hb hro hlen
    rw [State.perform_write hop, State.performWrite_scalar hf hw hb, if_neg hro, if_pos hlen]
  case done =>
    intro h o s t code hop hf hw hb hro hlen hj
    rw [State.perform_write hop, State.performWrite_value hf hw hro hb hlen, State.writeScalar_done hj]
    split
    next hcode => rw [hcode]
    next => rfl
  case runs =>
    intro h o v s hop hf hw hb hro hlen hj hr hrefused
    rw [State.perform_write hop, State.performWrite_value hf hw hro hb hlen, State.writeScalar_runs hj hr hrefused]
  case block =>
    intro h o s hop hf hw hro hb
    rw [State.perform_writeBlock hop, State.performWriteBlock_blob hf hw hro hb]
  case blockDone =>
    intro h o fit s t code hop hf hw hro hb hfit hne hcode hj
    rw [State.perform_writeBlock hop, State.performWriteBlock_scalar hf hw hro hb hfit hne, State.writeScalar_done hj, if_neg hcode]
  case order =>
    intro r s
    refine ⟨?_, ?_, fun h => ?_⟩
    · rw [s.overtaken_byHost]; simp [linkRank]
    · rw [s.overtaken_byHost]; simp [linkRank]
    · rw [s.overtaken_byHost, h]; simp [linkRank]
  case range =>
    intro o v s hro hs hr
    rw [State.judgeWrite_plain v hro hs, hr]
    rfl
  case enabled =>
    intro o v s hrwd hs hr hen
    have hgo : (decide (o.row.access = .rwd) && s.enabled o) = true := by simp [hrwd, hen]
    rw [State.judgeWrite_plain v (by simp [hrwd]) hs, hr, hgo]
    rfl

end Sys2Proof.Machine
end

section
/-! PROOFS. Viaduct's wait edges and its data class, and the errors of the memories (R395, R397 to R399, R402). -/

namespace Sys2Proof.Machine

/-- A call that would close a cycle of wait edges is held, and HOLD_CYCLE_SEEN shows it (R395). -/
theorem holdCycleSeen_of_reaches (s : State) (t c : VdTarget) (h : reaches 5 s.waitEdges c t = true) :
    bitOn ((s.called t c).rdN Obj.VD_STATUS) 5 = true := by
  rw [State.called, if_pos h, State.rdN_stick_same, bitOn_sqSet _ _ _ (by decide), beq_self_eq_true, Bool.or_true]

/-- While VD_DATA_EN is 0 no ring takes a descriptor (R397). -/
theorem State.takes_of_not_dataEn (k : Nat) {s : State} (h : s.rdB Obj.VD_DATA_EN = false) : s.takes k = false := by
  simp [State.takes, State.ringStalled, h]

/-- The loss of a clean record's line takes the record out of its set of the cache, and nothing else of the book (R398). -/
theorem State.foldClean_sramLost (r : Nat) (s : State) :
    (s.sramLost (.foldClean r)).book = s.book ∧ r ∉ SMap.get [] (s.sramLost (.foldClean r)).tpe.cache (r % 16384) := by
  refine ⟨rfl, ?_⟩
  show r ∉ SMap.get [] (SMap.put [] s.tpe.cache _ _) _
  simp

/-- Settles O24, a clause for each event: the held call, the data class, the piers' bypass, the memories and the cores. -/
theorem viaductAndMemoryEventsComplete : Obligations.ViaductAndMemoryEventsComplete := by
  unfold Obligations.ViaductAndMemoryEventsComplete
  refine ⟨fun t c s => holdCycleSeen_of_reaches s t c, fun t c s => s.called_calls t c, fun v s h => ?dataEn,
    fun k s => State.takes_of_not_dataEn k, fun _ => rfl, fun _ => rfl, fun _ _ => rfl, fun _ => ⟨rfl, rfl, rfl, rfl⟩,
    fun r s => ⟨s.sramLost (.foldClean r), rfl, s.foldClean_sramLost r⟩, fun _ => ⟨rfl, rfl⟩, fun _ _ => rfl⟩
  case dataEn => exact State.orHeld_of_not_restoring _ _ _ _ _ _ h

end Sys2Proof.Machine
end

section
/-! PROOFS. The descriptor rings: enabling and disabling, the doorbell, and a descriptor that is not posted (R383, R387). -/

namespace Sys2Proof.Machine

/-! A trailer goes out, and changes its own ring's due alone. -/

theorem State.ring_trailer_ne (s : State) {k j : Nat} (h : j ≠ k) : (s.trailer k).ring j = s.ring j := by
  unfold State.trailer
  split
  · exact s.ring_setRing_ne _ h
  · rw [State.ring_emit, State.ring_setRing_ne _ _ h]

theorem State.ring_trailer_same (s : State) (k : Nat) :
    (s.trailer k).ring k = { s.ring k with trailerDue := s.dmaPaused } := by
  unfold State.trailer
  split
  case isTrue h => rw [State.ring_setRing_same, h]
  case isFalse h => rw [State.ring_emit, State.ring_setRing_same, Bool.eq_false_iff.mpr h]

theorem State.rd_trailer (s : State) (k : Nat) (r : Reg) : (s.trailer k).rd r = s.rd r := by unfold State.trailer; split <;> rfl
theorem State.clk_trailer (s : State) (k : Nat) : (s.trailer k).clk = s.clk := by unfold State.trailer; split <;> rfl
theorem State.ctl_trailer (s : State) (k : Nat) : (s.trailer k).ctl = s.ctl := by unfold State.trailer; split <;> rfl

/-! A ring is enabled (R387). -/

section
variable (s : State) (k : Nat)

/-- A ring that starts to run: enabled, in RUN, and empty, with both of its counts at 0. -/
theorem State.ringOn_runs : (s.ringOn k).rdB (Obj.RING_EN k) = true ∧ (s.ringOn k).rdN (Obj.RING_STATE k) = 1 ∧
    (s.ringOn k).rdN (Obj.RING_HEAD k) = 0 ∧ (s.ringOn k).rdN (Obj.RING_DONE k) = 0 := by
  refine ⟨?_, ?_, ?_, ?_⟩
  · rw [State.rdB, State.ringOn, State.rd_wrN_ne, State.rd_trailer, State.rd_setRing, State.rd_wrN_ne, State.rd_wrN_ne,
      State.rd_wrN_same] <;> simp [Obj.RING_EN, Obj.RING_STATE, Obj.RING_HEAD, Obj.RING_DONE, regKey]
  · rw [State.ringOn, State.rdN_wrN_same]
  · rw [State.ringOn, State.rdN_wrN_ne, State.rdN_trailer, State.rdN_setRing, State.rdN_wrN_ne,
      State.rdN_wrN_same] <;> simp [Obj.RING_STATE, Obj.RING_HEAD, Obj.RING_DONE, regKey]
  · rw [State.ringOn, State.rdN_wrN_ne, State.rdN_trailer, State.rdN_setRing, State.rdN_wrN_same]
    simp [Obj.RING_STATE, Obj.RING_DONE, regKey]

theorem State.ringOn_empty : ((s.ringOn k).ring k).posted = [] ∧ ((s.ringOn k).ring k).taken = [] := by
  rw [State.ringOn, State.ring_wrN, State.ring_trailer_same, State.ring_setRing_same]
  exact ⟨rfl, rfl⟩

theorem State.ringOn_ring_ne {j : Nat} (h : j ≠ k) : (s.ringOn k).ring j = s.ring j := by
  rw [State.ringOn, State.ring_wrN, State.ring_trailer_ne _ h, State.ring_setRing_ne _ _ h]
  rfl

theorem State.clk_ringOn : (s.ringOn k).clk = s.clk := by rw [State.ringOn, State.wrN_clk, State.clk_trailer]; rfl
theorem State.ctl_ringOn : (s.ringOn k).ctl = s.ctl := by rw [State.ringOn, State.wrN_ctl, State.ctl_trailer]; rfl

end

/-- A write of 1 to the RING_EN of a ring that is disabled (R387, log entry 107). -/
theorem State.setRingEn_true {s : State} {k : Nat} (hx : ringExists k = true) (he : s.rdB (Obj.RING_EN k) = false) :
    s.setRingEn k true = if s.rdN (Obj.RING_BASE k) % 4096 ≠ 0 then s.rangeReject 19 (Obj.RING_EN k).key
      else if (s.ring k).taken.isEmpty then s.ringOn k
      else (s.wrN (Obj.RING_EN k) 1).setRing k { s.ring k with restart := true } := by
  simp [State.setRingEn, hx, he]

/-- Where nothing is taken, nothing is flushed. -/
theorem State.flushTaken_of_empty {s : State} {k : Nat} (b : Bool) (h : (s.ring k).taken = []) :
    s.when b (·.flushTaken k) = s := by
  cases b
  · rfl
  · rw [State.when_true, State.flushTaken, h]
    rfl

/-- A ring without a descriptor to complete is drained at once (R387). -/
theorem State.ringOff_of_empty {s : State} {k : Nat} (h20 : k ≠ 20) (ht : (s.ring k).taken = [])
    (hs : s.rdN (Obj.RING_STATE k) ≠ 0) : s.ringOff k =
      (((s.wrN (Obj.RING_EN k) 0).setRing k { s.ring k with posted := [], restart := false }).trailer k).wrN
        (Obj.RING_STATE k) 0 := by
  have hw : (s.wrN (Obj.RING_EN k) 0).rdN (Obj.RING_STATE k) = s.rdN (Obj.RING_STATE k) :=
    State.rdN_wrN_ne _ _ (by simp [Obj.RING_EN, Obj.RING_STATE, regKey])
  rw [State.ringOff]
  generalize hv : (s.wrN (Obj.RING_EN k) 0).setRing k { s.ring k with posted := [], restart := false } = v
  have hx : v.ring k = { s.ring k with posted := [], restart := false } := by rw [← hv, State.ring_setRing_same]
  have hst : v.rdN (Obj.RING_STATE k) ≠ 0 := by rwa [← hv, State.rdN_setRing, hw]
  have hoff : v.when (k == 20 && !(s.dmaPaused && !s.tr.buffer.isEmpty)) State.recordsOff = v := by
    rw [beq_false_of_ne h20, Bool.false_and, State.when_false]
  have hdrain : v.ringDrained k = (v.trailer k).wrN (Obj.RING_STATE k) 0 := by
    rw [State.ringDrained, hx, State.when_false]
  have htaken : (v.ring k).taken = [] := by rw [hx, ← ht]
  simp only [hoff, State.flushTaken_of_empty _ htaken]
  rw [htaken, bne_iff_ne.mpr hst, List.isEmpty_nil, Bool.true_and, State.when_true, hdrain]

/-! The doorbell (R383). -/

/-- A doorbell on a ring that runs, with every descriptor found that it posts. -/
theorem State.doorbell_of_running {s : State} {k count size n : Nat} {ds : List Posted} (hx : ringExists k = true)
    (hst : s.rdN (Obj.RING_STATE k) = 1) (hen : s.rdB (Obj.RING_EN k) = true)
    (hsize : size = 2 ^ s.rdN (Obj.RING_LOG2 k))
    (hn : n = min size ((count + 2 ^ 32 - s.rdN (Obj.RING_DONE k)) % 2 ^ 32))
    (hds : ds.length = n - (s.rdN (Obj.RING_HEAD k) + 2 ^ 32 - s.rdN (Obj.RING_DONE k)) % 2 ^ 32) :
    s.doorbell k count ds = ((s.setRing k { s.ring k with posted := ds, doorbell := (s.rdN (Obj.RING_DONE k) + n) % 2 ^ 32 }).when
      (decide (size < (count + 2 ^ 32 - s.rdN (Obj.RING_DONE k)) % 2 ^ 32)) (·.stick Obj.HL_STATUS 5)).ringsGoOn k := by
  subst hsize hn
  rw [State.doorbell]
  simp [hx, hst, hen, hds, List.take_of_length_le, min_comm]

theorem State.doorbell_of_not_running {s : State} {k : Nat} (count : Nat) (ds : List Posted)
    (h : s.rdN (Obj.RING_STATE k) ≠ 1) : s.doorbell k count ds = s := by
  simp [State.doorbell, h]

/-- The engine stops at a descriptor that is not posted (R383). -/
theorem exec_ringOwnGap_of_not_owned {s : State} {k : Fin 64} {d : Posted} {rest : List Posted} (hp : (s.ring k).posted = d :: rest)
    (ho : d.own = false) (ht : s.takes k = true) : exec (.ringOwnGap k) s = .next (s.ownGap k).settle := by
  show execRingOwnGap k s = _
  simp [execRingOwnGap, hp, ho, ht]

section
variable {s : State} {k : Fin 64}

theorem exec_ringEnWrite (v : Bool) (h : s.restoring 19 = false) : exec (.ringEnWrite k v) s = .next (s.setRingEn k v).settle :=
  State.orHeld_of_not_restoring _ _ _ _ _ _ h

theorem exec_ringDb (count : BitVec 32) (ds : List Posted) (h : s.restoring 19 = false) :
    exec (.ringDb k count ds) s = .next (s.doorbell k count.toNat ds).settle :=
  State.orHeld_of_not_restoring _ _ _ _ _ _ h

end

/-- Settles O22: RING_EN by the state in which it finds its ring, and RING_DB by the count that it names. -/
theorem ringsAndDoorbellsComplete : Obligations.RingsAndDoorbellsComplete := by
  unfold Obligations.RingsAndDoorbellsComplete
  refine ⟨⟨fun k s h hx he hb ht => ?on, fun k s h hx he hb ht => ?later, fun k s h hx he hb => ?range,
    fun k s h hx he h20 ht hs => ?off, fun k s h => ?error⟩, fun k c ds s h hx hst hen => ?run, fun k c ds s h hst => ?idle,
    fun k d r s hp ho ht => exec_ringOwnGap_of_not_owned hp ho ht⟩
  case on =>
    obtain ⟨hen, hst, hhead, hdone⟩ := s.ringOn_runs k
    obtain ⟨hposted, htaken⟩ := s.ringOn_empty k
    refine ⟨s.ringOn k, ?_, hen, hst, hhead, hdone, hposted, htaken, fun j hj => s.ringOn_ring_ne k hj, s.clk_ringOn k,
      s.ctl_ringOn k⟩
    rw [exec_ringEnWrite _ h, State.setRingEn_true hx he, if_neg (not_not.mpr hb), if_pos (List.isEmpty_iff.mpr ht)]
  case later =>
    rw [exec_ringEnWrite _ h, State.setRingEn_true hx he, if_neg (not_not.mpr hb), if_neg (mt List.isEmpty_iff.mp ht)]
  case range =>
    rw [exec_ringEnWrite _ h, State.setRingEn_true hx he, if_pos hb]
  case off =>
    have h20' : k.val ≠ 20 := fun e => h20 (Fin.ext e)
    rw [exec_ringEnWrite _ h, ← State.ringOff_of_empty h20' ht hs]
    simp [State.setRingEn, hx, he]
  case error =>
    show execRingDmaError k s = _
    rw [execRingDmaError, h]
    rfl
  case run =>
    intro done ahead taken
    constructor
    · intro hle hlen
      have hn : ahead = min (2 ^ s.rdN (Obj.RING_LOG2 k)) ahead := (min_eq_right hle).symm
      rw [exec_ringDb c ds h, State.doorbell_of_running hx hst hen rfl hn hlen, decide_eq_false (not_lt.mpr hle), State.when_false]
    · intro hlt hlen
      have hn : 2 ^ s.rdN (Obj.RING_LOG2 k) = min (2 ^ s.rdN (Obj.RING_LOG2 k)) ahead := (min_eq_left hlt.le).symm
      rw [exec_ringDb c ds h, State.doorbell_of_running hx hst hen rfl hn hlen, decide_eq_true hlt, State.when_true]
  case idle => rw [exec_ringDb c ds h, State.doorbell_of_not_running _ _ hst]

end Sys2Proof.Machine
end

section
/-! PROOFS. What reaches the host over its link and its rings, and the link's loss and return (R379, R382, R384 to R386, R389). -/

namespace Sys2Proof.Machine

/-! What leaves the engine for a ring. -/

section
variable (s : State) (k : Nat)

theorem State.msixEntry_setRing (x : Ring) (v : Nat) : (s.setRing k x).msixEntry v = s.msixEntry v := rfl

/-- The message of a vector that is not masked goes out with the entry's address and data (R386). -/
theorem State.signal_out_of_unmasked {v : Nat} (hv : v = bitsAt (s.rdN (Obj.RING_IRQ k)) 0 6) (h : (s.msixEntry v).masked = false) :
    (s.signal k).book.out = s.book.out ++ [.msix v (s.msixEntry v).addr (s.msixEntry v).data] := by
  simp only [State.signal, ← hv, State.message, State.msixEntry_setRing, h, Bool.false_eq_true, if_false]
  rfl

/-- The message of a masked vector stays pending (R386). -/
theorem State.signal_of_masked {v : Nat} (hv : v = bitsAt (s.rdN (Obj.RING_IRQ k)) 0 6) (h : (s.msixEntry v).masked = true) :
    (s.signal k).book.out = s.book.out ∧ bitOn (s.signal k).book.msixPending v = true := by
  simp only [State.signal, ← hv, State.message, State.msixEntry_setRing, h, if_true]
  exact ⟨rfl, by rw [bitOn_setBit, beq_self_eq_true, Bool.or_true]⟩

theorem State.trailer_out_of_not_paused (h : s.dmaPaused = false) : (s.trailer k).book.out = s.book.out ++ [.trailer k
    ((s.rdN (Obj.RING_BASE k) + 32 * 2 ^ s.rdN (Obj.RING_LOG2 k)) % 2 ^ 64) (s.trailerOctets k)] := by
  rw [State.trailer, h]
  rfl

/-- A trailer that ring DMA holds up is due (R379, R385). -/
theorem State.trailer_of_paused (h : s.dmaPaused = true) :
    (s.trailer k).book.out = s.book.out ∧ ((s.trailer k).ring k).trailerDue = true := by
  refine ⟨?_, by rw [State.ring_trailer_same, h]⟩
  rw [State.trailer, if_pos h]
  rfl

/-- No descriptor is written back while ring DMA pauses (R379, R397). -/
theorem State.finishTaken_out_of_paused (count status aux ns : Nat) (h : s.dmaPaused = true) :
    (s.finishTaken k count status aux ns).book.out = s.book.out := by
  simp only [State.finishTaken, h, Bool.not_true, Bool.false_eq_true, if_false]
  split <;> rfl

end

/-! The command ring's write-backs, and HOLDOFF (R384, R386, R389). -/

/-- A command that is not executed is written back at once (Table 16-6). -/
theorem exec_ringDescriptorWriteback_commands {dma : Bool} {t : Taken} {s : State} (ht : (s.ahead 0).nextTaken 0 = some t)
    (h : t.desc.length = 0 ∨ 4140 < t.desc.length ∨ dma = true) : exec (.ringDescriptorWriteback 0 dma) s =
      .next (((s.ahead 0).takeStart 0 t).finishTaken 0 t.count
        (if t.desc.length = 0 then 2 else if 4140 < t.desc.length then 1 else 5) 0 ((s.ahead 0).takeStart 0 t).stampNs).settle := by
  have hearly : (s.ahead 0).earlyStatus 0 t.desc dma =
      some (if t.desc.length = 0 then 2 else if 4140 < t.desc.length then 1 else 5) := by
    rw [State.earlyStatus, if_pos rfl]
    split
    · rfl
    · split
      · rfl
      · rw [if_pos (by tauto)]
  show execRingDescriptorWriteback 0 dma s = _
  simp only [execRingDescriptorWriteback, Fin.val_zero, ht, hearly]
  rfl

theorem exec_ringDescriptorWriteback_of_none {k : Fin 64} (dma : Bool) {s : State} (hk : h2eRing k = true)
    (h : (s.ahead k).nextTaken k = none) : exec (.ringDescriptorWriteback k dma) s = .next (s.ahead k).settle := by
  show execRingDescriptorWriteback k dma s = _
  simp [execRingDescriptorWriteback, hk, h]

theorem exec_irqHoldoffExpiry {k : Fin 64} {t : Nat} {s s1 : State} (hw : (s.ring k).irqWaiting = true)
    (ht : (s.ring k).lastIrq48 = some t) (hp : s.dmaPaused = false)
    (hr : s.runTo (t + us48 (bitsAt (s.rdN (Obj.RING_IRQ k)) 16 16)) = some s1) :
    exec (.irqHoldoffExpiry k) s = .next (s1.signal k).settle := by
  show execIrqHoldoffExpiry k s = _
  simp [execIrqHoldoffExpiry, hw, ht, hp, hr]

/-! The loss of the link (R379). -/

/-- What the loss of the link makes of one ring. -/
def State.ringLost (s : State) (k : Nat) : State :=
  ((s.wrN (Obj.RING_EN k) 0).wrN (Obj.RING_STATE k) 0).setRing k { Ring.reset with lastIrq48 := (s.ring k).lastIrq48 }

/-- Ring `k` is disabled, in OFF, with nothing posted or taken. -/
def State.ringGone (s : State) (k : Nat) : Prop :=
  s.rdB (Obj.RING_EN k) = false ∧ s.rdN (Obj.RING_STATE k) = 0 ∧ (s.ring k).taken = [] ∧ (s.ring k).posted = []

theorem State.ringGone_ringLost_same (s : State) (k : Nat) : (s.ringLost k).ringGone k := by
  refine ⟨?_, ?_, ?_, ?_⟩
  · rw [State.ringLost, State.rdB_setRing, State.rdB, State.rd_wrN_ne, State.rd_wrN_same] <;>
      simp [Obj.RING_EN, Obj.RING_STATE, regKey]
  · rw [State.ringLost, State.rdN_setRing, State.rdN_wrN_same]
  · rw [State.ringLost, State.ring_setRing_same]; rfl
  · rw [State.ringLost, State.ring_setRing_same]; rfl

theorem State.ringGone_ringLost {s : State} {k j : Nat} (hk : k < 64) (hj64 : j < 64) (h : s.ringGone k) :
    (s.ringLost j).ringGone k := by
  by_cases hj : k = j
  · exact hj ▸ s.ringGone_ringLost_same k
  obtain ⟨hen, hst, ht, hp⟩ := h
  have hring : (s.ringLost j).ring k = s.ring k := by rw [State.ringLost, State.ring_setRing_ne _ _ hj]; rfl
  have hrd : (s.ringLost j).rd (Obj.RING_EN k) = s.rd (Obj.RING_EN k) ∧
      (s.ringLost j).rd (Obj.RING_STATE k) = s.rd (Obj.RING_STATE k) := by
    constructor <;> rw [State.ringLost, State.rd_setRing, State.rd_wrN_ne, State.rd_wrN_ne] <;>
      simp only [Obj.RING_EN, Obj.RING_STATE, regKey] <;> omega
  exact ⟨by rwa [State.rdB, hrd.1], by rwa [State.rdN, hrd.2], by rwa [hring], by rwa [hring]⟩

theorem State.ringsLost_book (s : State) : (s.ringsLost).book = (State.forEach State.ringLost (List.range 64) s).book :=
  State.forEach_keeps State.book _ _ _ fun t r => by unfold State.markLost; split <;> rfl

/-- Every ring is disabled, and what was taken is abandoned (R379). -/
theorem State.ringGone_ringsLost (s : State) {k : Nat} (h : k < 64) : s.ringsLost.ringGone k := by
  have hall : (State.forEach State.ringLost (List.range 64) s).ringGone k :=
    State.forEach_establishes (inv := fun _ => True) (post := (·.ringGone k)) (fun _ _ _ _ => trivial)
      (fun t _ => t.ringGone_ringLost_same k) (fun t j hj _ hg => State.ringGone_ringLost h (List.mem_range.mp hj) hg) trivial
      (.inl (List.mem_range.mpr h))
  have hb := s.ringsLost_book
  simp only [State.ringGone, State.rdB, State.rdN, State.rd, State.ring] at hall ⊢
  rwa [hb]

/-- The configuration space as the cause of a loss leaves it. -/
def State.lossReset (s : State) (c : LinkLossCause) : State :=
  (s.when (c == .flr || c == .perst) State.configReset).setD3hot (c == .d3hot)

theorem State.lossReset_keeps (s : State) (c : LinkLossCause) : (s.lossReset c).ctl = s.ctl ∧ (s.lossReset c).clk = s.clk ∧
    (s.lossReset c).tr = s.tr ∧ (s.lossReset c).book.rings = s.book.rings := by
  cases c <;> exact ⟨rfl, rfl, rfl, rfl⟩

/-- HL_LINK once the link is lost: LINK_UP is 0, and the width and speed too where the link itself is down. -/
def lostLink (c : LinkLossCause) (w : Nat) : Nat := clearBit (if c = .dlDown ∨ c = .perst then w / 256 * 256 else w) 8

theorem bitOn_lostLink (c : LinkLossCause) (w : Nat) : bitOn (lostLink c w) 8 = false := by
  rw [lostLink, bitOn_clearBit, bne_self_eq_false, Bool.and_false]

theorem exec_hostLinkLoss (c : LinkLossCause) {s u : State} (h : bitOn (s.rdN Obj.HL_LINK) 8 = true)
    (hu : u = (s.lossReset c).wrN Obj.HL_LINK (lostLink c ((s.lossReset c).rdN Obj.HL_LINK))) :
    exec (.hostLinkLoss c) s =
      .next ((((u.ringsLost.stick Obj.HL_STATUS 2).cond Src.HL_LINK_LOST true).loopCloses).endSession .pcie).settle := by
  subst hu
  show execHostLinkLoss c s = _
  simp only [execHostLinkLoss, h, Bool.not_true, Bool.false_eq_true, if_false]
  rfl

/-- Settles O23: the clauses on what is written to the host, and those on the link's loss and return. -/
theorem hostLinkEventsComplete : Obligations.HostLinkEventsComplete := by
  unfold Obligations.HostLinkEventsComplete
  refine ⟨⟨fun _ _ _ => exec_ringDescriptorWriteback_commands, fun _ dma _ => exec_ringDescriptorWriteback_of_none dma,
    fun _ _ _ _ => exec_irqHoldoffExpiry, fun k _ s => s.signal_out_of_unmasked k,
    fun k _ s => s.signal_of_masked k, fun _ _ _ _ _ _ _ _ => rfl, fun k s => s.trailer_out_of_not_paused k,
    fun k s => s.trailer_of_paused k, fun k n st aux ns s => s.finishTaken_out_of_paused k n st aux ns⟩,
    fun c s h => ?loss, fun k s => s.ringGone_ringsLost, fun g n s h => ?masterOn, fun g n s h => ?masterOff, fun _ _ => rfl⟩
  case loss =>
    obtain ⟨hctl, hclk, htr, hrings⟩ := s.lossReset_keeps c
    exact ⟨_, exec_hostLinkLoss c h rfl, by rw [State.rdN_wrN_same, bitOn_lostLink], hctl, hclk, htr, hrings⟩
  case masterOn =>
    show execHostLinkUp g n s = _
    simp only [execHostLinkUp, h, if_true]
  case masterOff =>
    show execHostLinkUp g n s = _
    simp only [execHostLinkUp, h, Bool.false_eq_true, if_false, Nat.add_zero]

end Sys2Proof.Machine
end
